-- ==== Sys2Proof/Word.lean ====
section
/-! DEFINITION. The word types of the VLE-1048 model: 32-bit registers (R4) and the bytes of
packets, eNVM records and the image store (R12). -/

namespace Sys2Proof

/-- A register word (R4: every register holds 32 bits). -/
abbrev Word := BitVec 32

/-- A byte of a packet, of the eNVM or of the image store. -/
abbrev Byte := BitVec 8

end Sys2Proof
end

