-- ==== Sys2Proof/Syntax.lean ====
section
/-! DEFINITION. The commands the block takes: one constructor per row of spec/opcode_table.json. The
command set's rows carry the request packet they came in (R329); the other rows are events of the ring,
of a pin, of a supply, of time or of a fault, and carry what the outside world supplies. -/

namespace Sys2Proof

/-- The port a packet uses (R329, R331). -/
inductive Port where
  | ring
  | spi
deriving DecidableEq, Repr

/-- A controller half (R265). -/
inductive Half where
  | a
  | b
deriving DecidableEq, Repr

/-- A request: the header fields of R329 that its execution uses, and the payload. `bcast` is DEST 31. -/
structure Req where
  port : Port
  bcast : Bool
  stream : Nat
  quiet : Bool
  tag : Nat
  alive : Nat
  arg : Nat
  payload : List Byte
deriving DecidableEq, Repr

/-- What the image store's ECC met: a single-bit error, corrected, or who met an uncorrectable one, and where (R36). -/
inductive EccReader where
  /-- A read of a half (its pipeline, its cores or its local RAM, R274). -/
  | half (h : Half)
  /-- DRV, reading the gain word that holds this pixel (R36). -/
  | gains (pixel : Nat)
  /-- DRV, reading the fallback copy at this byte (R26). -/
  | fallback (addr : Nat)
  /-- DIA, reading the failed-pixel map (R36). -/
  | map
  /-- A CHK engine, in its run's piece to come, at the 8-byte word that holds this byte of the store (R368). -/
  | chk (engine addr : Nat)
  /-- CMD or SNP, or CHK for a run that is not long, as it carries out the command at the head of the queue, at this byte
  of the store. -/
  | command (addr : Nat)
  /-- A single-bit error is corrected in this bank, in a read of a half or of another unit. -/
  | corrected (bank : Nat) (half : Option Half)
deriving DecidableEq, Repr

/-- The fault that a half's pipeline shows (R274): a parity error in the pipeline or its line buffers, an object sample not
finished within 150 µs (R178), a commit check not finished within 25 µs (R55). -/
inductive PipeFault where
  | parity
  | objectSample
  | commitCheck
deriving DecidableEq, Repr

/-- A pipeline fault of a half (R274). -/
structure PipeError where
  half : Half
  fault : PipeFault
deriving DecidableEq, Repr

/-- A half whose watchdog runs out, and TIME of its last service as far as the outside brings it (R265). -/
structure Expiry where
  half : Half
  served : Nat
deriving DecidableEq, Repr

/-- What the part senses at a tick: VSUP and VLED_SENSE in mV (R406, R89), and in HOLD which of the 16 rows read
back differs from its row CRC (R107). -/
structure TickEnv where
  vsupMv : Nat
  vledMv : Nat
  wordErr : Option Nat
deriving DecidableEq, Repr

/-- A copy or page of the eNVM that fails its check at a boot (R438, R442, R446). -/
inductive NvmCopy where
  | safety (copy : Nat)
  | map (copy : Nat)
  | bist (copy : Nat)
  | tile (copy : Nat)
  | factor (copy : Nat)
  | diode (copy : Nat)
  | gains (page : Nat)
  | fallback
  | life
  | slot (slot : Nat)
deriving DecidableEq, Repr

/-- What a receive lane shows at a marker: signal, CDR lock, block lock, EFOM, invalid headers since the marker
before (R309, R311, R323). -/
structure LaneIn where
  sig : Bool
  cdr : Bool
  lock : Bool
  efom : Nat
  invHdr : Nat
deriving DecidableEq, Repr

/-- A fault a self-test step found (R451): KIND, BIT, ADDRESS. -/
structure StepFault where
  kind : Nat
  bit : Nat
  addr : Nat
deriving DecidableEq, Repr

/-- What the pad test reads in one direction of a pair, in mV (R472): the driven and the sensed pad at the end of the high step,
and both at the end of the low step. -/
structure PadRead where
  drivenHigh : Nat
  sensedHigh : Nat
  drivenLow : Nat
  sensedLow : Nat
deriving DecidableEq, Repr

/-- What the part finds at a reset release and during the boot that follows (R432, R434): how long RESET_N was low
in ms (R410), the levels of its pins and supplies, the crystal, the readings of the pad test (R472) in the order of its table, of
a pair driven from both sides the first pad driven first, the TX_ID drawn (R302), the eNVM data that failed, and the readings of the
first temperature round (R419), as those of THERMAL_ROUND. -/
structure BootEnv where
  lowMs : Nat
  pinA : Bool
  pinB : Bool
  vsupMv : Nat
  vledMv : Nat
  wakeMv : Nat
  xtalOk : Bool
  pads : List PadRead
  txId : Nat
  bad : List NvmCopy
  die : List Int
  ts : List (Nat × Nat)
deriving DecidableEq, Repr


/-- The commands: one constructor per row of spec/opcode_table.json, in its order. -/
inductive Instr where
  /-- NOP (R360) -/
  | nop (rq : Req)
  /-- PING (R360) -/
  | ping (rq : Req)
  /-- ID_READ (R1) -/
  | idRead (rq : Req)
  /-- ENUM_PASS1 (R320) -/
  | enumPass1 (rq : Req) (crcOk : Bool)
  /-- ENUM_PASS2 (R321) -/
  | enumPass2 (rq : Req)
  /-- REG_RD (R361) -/
  | regRd (rq : Req)
  /-- REG_WR (R361) -/
  | regWr (rq : Req)
  /-- REG_RMW (R361) -/
  | regRmw (rq : Req)
  /-- REGISTER_WRITE (R6) -/
  | registerWrite (stream addr : Nat) (value : Word)
  /-- DRV_FLUX_RESTART (R100) -/
  | drvFluxRestart
  /-- LYR_SYM_WRITE (R127) -/
  | lyrSymWrite (value : Word)
  /-- BYPASS_HOLD_WRITE (R298) -/
  | bypassHoldWrite (value : Bool)
  /-- CMDBUF_APPLY (R336) -/
  | cmdbufApply
  /-- EVENT_CFG (R362) -/
  | eventCfg (rq : Req)
  /-- COMMIT (R53) -/
  | commit (rq : Req)
  /-- HERD (R61) -/
  | herd (rq : Req)
  /-- HERD_SET_FRAME (R63) -/
  | herdSetFrame (rq : Req)
  /-- FRAME_SET (R74) -/
  | frameSet (rq : Req)
  /-- TIME_READ (R75) -/
  | timeRead (rq : Req)
  /-- LAYER_CFG (R150) -/
  | layerCfg (rq : Req)
  /-- LAYER_CFG_READ (R150) -/
  | layerCfgRead (rq : Req)
  /-- LAYER_BUF (R151) -/
  | layerBuf (rq : Req)
  /-- BUF_WRITE (R141) -/
  | bufWrite (rq : Req)
  /-- BUF_RELEASE (R146) -/
  | bufRelease (rq : Req)
  /-- BUF_DEFINE (R140) -/
  | bufDefine (rq : Req)
  /-- VIDEO_PACKET (R340) -/
  | videoPacket (rq : Req)
  /-- OBJ_SET (R180) -/
  | objSet (rq : Req)
  /-- OBJ_SET_READ (R187) -/
  | objSetRead (rq : Req)
  /-- OBJ_MOVE (R180) -/
  | objMove (rq : Req)
  /-- OBJ_CLEAR (R180) -/
  | objClear (rq : Req)
  /-- OBJ_BULK (R181) -/
  | objBulk (rq : Req)
  /-- OBJ_BULK_END (R182) -/
  | objBulkEnd (rq : Req)
  /-- OBJ_BULK_ABORT (R181) -/
  | objBulkAbort (rq : Req)
  /-- GEOM_SET (R191) -/
  | geomSet (rq : Req)
  /-- OPTICS_MAP (R164) -/
  | opticsMap (rq : Req)
  /-- OPTICS_MAP_READ (R191) -/
  | opticsMapRead (rq : Req)
  /-- PATTERN_LOAD (R135) -/
  | patternLoad (rq : Req)
  /-- PATTERN_LOAD_COPY (R135) -/
  | patternLoadCopy (rq : Req)
  /-- PATTERN_COPY_DONE (R135) -/
  | patternCopyDone
  /-- TONE_MAP_LOAD (R139) -/
  | toneMapLoad (rq : Req)
  /-- SYMBOL_LOAD (R129) -/
  | symbolLoad (rq : Req)
  /-- SYMBOL_DELETE (R129) -/
  | symbolDelete (rq : Req)
  /-- ANIM_SET (R130) -/
  | animSet (rq : Req)
  /-- FLUX_CAL (R101) -/
  | fluxCal (rq : Req)
  /-- FLUX_CAL_SUPPLIED (R101) -/
  | fluxCalSupplied (rq : Req)
  /-- FLUX_CAL_TILE (R101) -/
  | fluxCalTile
  /-- DIAG_MAP_READ (R224) -/
  | diagMapRead (rq : Req)
  /-- DIAG_RUN_STATUS (R225) -/
  | diagRunStatus (rq : Req)
  /-- DIAG_RUN_SUSPEND (R225) -/
  | diagRunSuspend (rq : Req)
  /-- DIAG_RUN_RESUME (R225) -/
  | diagRunResume (rq : Req)
  /-- DIAG_RUN_RESTART (R225) -/
  | diagRunRestart (rq : Req)
  /-- DIAG_RUN_REPORT (R225) -/
  | diagRunReport (rq : Req)
  /-- DIAG_RUN_SAVE (R225) -/
  | diagRunSave (rq : Req)
  /-- PIXEL_ISOLATE (R226) -/
  | pixelIsolate (rq : Req)
  /-- DIAG_CLEAR (R227) -/
  | diagClear (rq : Req)
  /-- THERM_READ (R428) -/
  | thermRead (rq : Req)
  /-- SAFE_STOP (R259) -/
  | safeStop (rq : Req)
  /-- SAFE_RESTART (R233) -/
  | safeRestart (rq : Req)
  /-- SAFE_UNLOCK (R253) -/
  | safeUnlock (rq : Req)
  /-- SAFE_LOCK (R253) -/
  | safeLock (rq : Req)
  /-- SAFE_WRITE (R262) -/
  | safeWrite (rq : Req)
  /-- LOG_READ (R263) -/
  | logRead (rq : Req)
  /-- ENABLE (R232) -/
  | enable (rq : Req)
  /-- SWITCH_OFF (R240) -/
  | switchOff (rq : Req)
  /-- PWR_STATE_ACTIVE (R390) -/
  | pwrStateActive (rq : Req)
  /-- PWR_STATE_HOLD (R389) -/
  | pwrStateHold (rq : Req)
  /-- PWR_STATE_IDLE (R392) -/
  | pwrStateIdle (rq : Req)
  /-- PWR_STATE_SLEEP (R396) -/
  | pwrStateSleep (rq : Req)
  /-- CLK_SWITCH (R399) -/
  | clkSwitch (rq : Req)
  /-- CLK_SWITCH_FRC (R400) -/
  | clkSwitchFrc (rq : Req)
  /-- SNAP_ARM (R383) -/
  | snapArm (rq : Req)
  /-- SNAP_READ (R384) -/
  | snapRead (rq : Req)
  /-- CHK_RUN (R366) -/
  | chkRun (rq : Req)
  /-- CHK_RUN_PIECE (R367) -/
  | chkRunPiece
  /-- CHK_CTX_READ (R382) -/
  | chkCtxRead (rq : Req)
  /-- CHK_CTX_WRITE (R369) -/
  | chkCtxWrite (rq : Req)
  /-- CHK_CTX_ABORT (R368) -/
  | chkCtxAbort (rq : Req)
  /-- NVM_READ (R461) -/
  | nvmRead (rq : Req)
  /-- NVM_WRITE (R462) -/
  | nvmWrite (rq : Req)
  /-- NVM_ERASE (R462) -/
  | nvmErase (rq : Req)
  /-- FW_STAGE (R447) -/
  | fwStage (rq : Req)
  /-- FW_ACTIVATE (R448) -/
  | fwActivate (rq : Req)
  /-- BIST_RUN (R457) -/
  | bistRun (rq : Req)
  /-- BIST_RESULT (R466) -/
  | bistResult (rq : Req)
  /-- SHUTDOWN (R449) -/
  | shutdown (rq : Req)
  /-- LANE_CTL_RETRAIN (R324) -/
  | laneCtlRetrain (rq : Req)
  /-- LANE_CTL_SET_RATE (R324) -/
  | laneCtlSetRate (rq : Req)
  /-- SET_RATE_APPLY (R324) -/
  | setRateApply
  /-- LANE_CTL_DROP (R324) -/
  | laneCtlDrop (rq : Req)
  /-- LANE_CTL_ADD (R324) -/
  | laneCtlAdd (rq : Req)
  /-- LANE_CTL_POWER (R317) -/
  | laneCtlPower (rq : Req)
  /-- LANE_L2_ALL_OFF (R318) -/
  | laneL2AllOff
  /-- LANE_CTL_FFE (R324) -/
  | laneCtlFfe (rq : Req)
  /-- LANE_CTL_LOOP (R319) -/
  | laneCtlLoop (rq : Req)
  /-- LOOP_START (R319) -/
  | loopStart
  /-- LOOP_END (R319) -/
  | loopEnd (errors : Nat)
  /-- LANE_CTL_SLIP (R308) -/
  | laneCtlSlip (rq : Req)
  /-- LANE_CTL_EQ (R324) -/
  | laneCtlEq (rq : Req)
  /-- RING_STATUS (R325) -/
  | ringStatus (rq : Req)
  /-- HALF_STATUS (R292) -/
  | halfStatus (rq : Req)
  /-- HALF_SWITCH (R287) -/
  | halfSwitch (rq : Req)
  /-- HALF_EXCHANGE (R287) -/
  | halfExchange
  /-- HALF_RESET (R288) -/
  | halfReset (rq : Req)
  /-- RESET (R467) -/
  | reset (rq : Req)
  /-- SOFT_RESET (R430) -/
  | softReset
  /-- PACKET_RECEIVE (R335) -/
  | packetReceive (port : Port) (bytes : List Byte)
  /-- PACKET_PASS (R333) -/
  | packetPass (bytes : List Byte) (fits : Bool)
  /-- PACKET_INSERT (R334) -/
  | packetInsert (gap : Nat)
  /-- LANE_NOTICE (R312) -/
  | laneNotice (bytes : List Byte)
  /-- ALIGNMENT_MARKER (R301) -/
  | alignmentMarker (marker : List Byte) (lanes : List LaneIn) (transit : Nat)
  /-- MARKER_SEND (R301) -/
  | markerSend (ready : Bool)
  /-- SPI_PUT (R357) -/
  | spiPut (bytes : List Byte) (csEarly : Bool)
  /-- SPI_GET (R357) -/
  | spiGet (clocked : Nat)
  /-- SPI_STAT (R357) -/
  | spiStat
  /-- SPI_BAD_OP (R357) -/
  | spiBadOp (op : Nat)
  /-- TICK (R49) -/
  | tick (env : TickEnv)
  /-- LAYER_MISS_LIMIT (R145) -/
  | layerMissLimit
  /-- LAYER_DISABLED (R145) -/
  | layerDisabled
  /-- TAKEOVER (R276) -/
  | takeover (badCrc badPkt : List Nat)
  /-- HOLD_LIMIT (R277) -/
  | holdLimit
  /-- ALIGN_TIMEOUT (R66) -/
  | alignTimeout
  /-- TICK_IN_EDGE (R47) -/
  | tickInEdge
  /-- TICK_IN_TIMEOUT (R47) -/
  | tickInTimeout
  /-- COMPOSE_ROW (R18) -/
  | composeRow
  /-- OBJECT_SAMPLE (R178) -/
  | objectSample
  /-- IMAGE_WRITE_DONE (R22) -/
  | imageWriteDone (clampFault : Option Nat)
  /-- ROW_UNDERRUN (R28) -/
  | rowUnderrun
  /-- PHOTODIODE_READ (R98) -/
  | photodiodeRead (readings : List (Nat × Nat))
  /-- REFERENCE_REFRESH (R105) -/
  | referenceRefresh
  /-- SEGMENT_OFF_CURRENT_CHECK (R207) -/
  | segmentOffCurrentCheck (currents : List (Nat × List Nat))
  /-- DARK_TEST (R201) -/
  | darkTest (x y vRest vDark vRight vLower : Nat)
  /-- LIT_TEST (R200) -/
  | litTest (x y vLit pA : Nat)
  /-- ZONE_COUNT (R218) -/
  | zoneCount
  /-- MAP_SAVE (R220) -/
  | mapSave
  /-- CURRENT_REF_UPDATE (R23) -/
  | currentRefUpdate
  /-- ENVELOPE_CHECK (R237) -/
  | envelopeCheck (imeas : Nat)
  /-- CLASS1_FADE_END (R235) -/
  | class1FadeEnd
  /-- CLASS2_FADE_END (R236) -/
  | class2FadeEnd
  /-- SWITCH_OFF_END (R240) -/
  | switchOffEnd
  /-- FALLBACK_CRC_CHECK (R26) -/
  | fallbackCrcCheck (fbOk toneOk : Bool)
  /-- GRAZE (R271) -/
  | graze (errs : List Nat) (finished : Bool)
  /-- SELF_TEST_SLICE (R273) -/
  | selfTestSlice (pass : Bool)
  /-- QUICK_SELF_TEST (R279) -/
  | quickSelfTest (passA passB : Bool)
  /-- LOCKSTEP_MISCOMPARE (R274) -/
  | lockstepMiscompare (half : Half)
  /-- ECC_UNCORRECTABLE (R36) -/
  | eccUncorrectable (reader : EccReader)
  /-- WATCHDOG_EXPIRY (R265) -/
  | watchdogExpiry (expiry : Expiry)
  /-- HALF_BOOT_DONE (R270) -/
  | halfBootDone (half : Half) (crcOk : Bool)
  /-- SAFE_STOP_PIN (R241) -/
  | safeStopPin (a b : Bool)
  /-- PIN_DISC (R242) -/
  | pinDisc
  /-- MASTER_LOSS (R350) -/
  | masterLoss
  /-- UNLOCK_TIMEOUT (R253) -/
  | unlockTimeout
  /-- VLED_UV_ARM (R408) -/
  | vledUvArm (mv : Nat)
  /-- VLED_NO_RISE (R232) -/
  | vledNoRise
  /-- VLED_UV (R408) -/
  | vledUv (mv : Nat)
  /-- VLED_UV_RELEASE (R408) -/
  | vledUvRelease (mv : Nat)
  /-- VLED_OV (R409) -/
  | vledOv (mv : Nat)
  /-- VLED_OV_RELEASE (R409) -/
  | vledOvRelease (mv : Nat)
  /-- CORE_PLL_LOSS (R31) -/
  | corePllLoss
  /-- LANE_PLL_LOSS (R31) -/
  | lanePllLoss
  /-- THERMAL_ROUND (R418) -/
  | thermalRound (die : List Int) (ts : List (Nat × Nat))
  /-- FAST_CADENCE_END (R418) -/
  | fastCadenceEnd
  /-- THERMAL_TRIP (R426) -/
  | thermalTrip (sensor : Nat)
  /-- TRIP_HOLD_MONITOR (R426) -/
  | tripHoldMonitor (die : List Int)
  /-- HOLD_REQUEST (R388) -/
  | holdRequest
  /-- HOLD_ENTRY (R389) -/
  | holdEntry
  /-- HOLD_EXIT (R390) -/
  | holdExit
  /-- IDLE_TIMER (R391) -/
  | idleTimer
  /-- IDLE_ENTRY (R392) -/
  | idleEntry (during : Option (Port × List Byte))
  /-- IDLE_EXIT (R393) -/
  | idleExit (badBanks : Nat)
  /-- BANK_RELOAD (R402) -/
  | bankReload
  /-- SLEEP_TIMER (R391) -/
  | sleepTimer
  /-- SLEEP_ENTRY (R396) -/
  | sleepEntry (during : Option (Port × List Byte))
  /-- ROOSTER_EDGE (R397) -/
  | roosterEdge (mv : Nat)
  /-- LPO_MEASURE (R403) -/
  | lpoMeasure (period : Nat)
  /-- LAMP_MINUTE (R405) -/
  | lampMinute
  /-- VSUP_WARN (R407) -/
  | vsupWarn (mv : Nat)
  /-- DIP_END (R407) -/
  | dipEnd (minMv mv : Nat)
  /-- NVM_RESUME (R443) -/
  | nvmResume
  /-- NVM_OP_DONE (R441) -/
  | nvmOpDone (ok : Bool)
  /-- POR (R430) -/
  | por
  /-- BOR (R406) -/
  | bor (mv : Nat)
  /-- RESET_N_LOW (R410) -/
  | resetNLow
  /-- RESET_RELEASE (R432) -/
  | resetRelease (env : BootEnv)
  /-- SNAP_IO_EDGE (R374) -/
  | snapIoEdge
  /-- SIGNAL_DETECT (R307) -/
  | signalDetect (lanes : Nat)
  /-- SEEK_ATTEMPT (R307) -/
  | seekAttempt
  /-- SIGNAL_LOST (R307) -/
  | signalLost
  /-- CDR_LOCK (R306) -/
  | cdrLock (lanes : Nat)
  /-- TRAIN_DONE (R306) -/
  | trainDone (efom : List Nat)
  /-- BLOCK_LOCK (R308) -/
  | blockLock (lanes : Nat) (slips : List Nat)
  /-- RING_RUN (R306) -/
  | ringRun (marker : List Byte) (transit : Nat)
  /-- TRAIN_TIMEOUT (R306) -/
  | trainTimeout
  /-- AUTO_READD (R314) -/
  | autoReadd (lane : Nat)
  /-- UPSTREAM_SILENT (R315) -/
  | upstreamSilent
  /-- BREAK_BEACON_SEND (R315) -/
  | breakBeaconSend
  /-- STOP_PIN_RELEASE (R242) -/
  | stopPinRelease (a b : Bool)
  /-- HALF_BOOT_TIMEOUT (R269) -/
  | halfBootTimeout (half : Half)
  /-- PIPELINE_PARITY_ERROR (R274) -/
  | pipelineParityError (error : PipeError)
  /-- LANE_LOCK_LOSS (R311) -/
  | laneLockLoss (lane what : Nat)
  /-- PLL_LOCK_TIMEOUT (R399) -/
  | pllLockTimeout
  /-- SELF_TEST_STEP_DONE (R450) -/
  | selfTestStepDone (found : List StepFault)
  /-- LPO_STOP (R404) -/
  | lpoStop
  /-- BIST_RUN_WAIT_TIMEOUT (R458) -/
  | bistRunWaitTimeout
deriving DecidableEq, Repr

end Sys2Proof
end

