-- ==== Sys2Proof/Decode.lean ====
section
/-! DEFINITION. The decoder of the command table's bits. -/

namespace Sys2Proof

/-- The command a word spells by the table's bits: spec/opcode_table.json gives no row any bits, so none. -/
def decodeTableWord (_nbits _w : Nat) : Option Instr := none

end Sys2Proof
end

