-- ==== Sys2Proof/Machine/Bits.lean ====
section
/-! DEFINITION. Bit fields, byte order (R12), rounding (R19), saturating counters and the small
list operations the meanings share. Everything here is a plain function on `Nat`, `Int` or lists. -/

namespace Sys2Proof.Machine

/-- Bits `hi:lo` of a number. -/
def bitsOf (w hi lo : Nat) : Nat := (w >>> lo) % 2 ^ (hi + 1 - lo)

/-- Bit `i` of a number. -/
def bitOf (w i : Nat) : Bool := (w >>> i) % 2 == 1

/-- A Boolean as a one-bit number. -/
def b2n (b : Bool) : Nat := if b then 1 else 0

/-- Bits `hi:lo` of a register word. -/
def fieldOf (w : Word) (hi lo : Nat) : Nat := bitsOf w.toNat hi lo

/-- The mask of bits `hi:lo`. -/
def fieldMask (hi lo : Nat) : Word := BitVec.ofNat 32 ((2 ^ (hi + 1 - lo) - 1) <<< lo)

/-- A register word with bits `hi:lo` replaced by `v` (cut to the field). -/
def withField (w : Word) (hi lo v : Nat) : Word :=
  (w &&& ~~~ fieldMask hi lo) ||| BitVec.ofNat 32 ((v % 2 ^ (hi + 1 - lo)) <<< lo)

/-- `n` bytes of `v`, low byte first (R12). -/
def bytesLE : Nat → Nat → List Byte
  | 0, _ => []
  | n + 1, v => BitVec.ofNat 8 v :: bytesLE n (v / 256)

/-- The number a little-endian byte list holds (R12). -/
def leNat : List Byte → Nat
  | [] => 0
  | b :: bs => b.toNat + 256 * leNat bs

/-- `n` bytes at offset `i`; bytes beyond the end read as 0. -/
def slice (bs : List Byte) (i n : Nat) : List Byte := (bs.drop i).take n

/-- The unsigned byte, 16-bit, 32-bit and 64-bit fields of a payload (R12). -/
def u8 (bs : List Byte) (i : Nat) : Nat := leNat (slice bs i 1)
def u16 (bs : List Byte) (i : Nat) : Nat := leNat (slice bs i 2)
def u32 (bs : List Byte) (i : Nat) : Nat := leNat (slice bs i 4)
def u64 (bs : List Byte) (i : Nat) : Nat := leNat (slice bs i 8)

/-- Two's complement: the signed reading of the low `n` bits of `v`. -/
def signedOf (n v : Nat) : Int :=
  if v % 2 ^ n < 2 ^ (n - 1) then (v % 2 ^ n : Nat) else ((v % 2 ^ n : Nat) : Int) - (2 ^ n : Nat)

/-- The low `n` bits that encode a signed number in two's complement. -/
def encSigned (n : Nat) (v : Int) : Nat := (v % (2 ^ n : Nat)).toNat

def s8 (bs : List Byte) (i : Nat) : Int := signedOf 8 (u8 bs i)
def s16 (bs : List Byte) (i : Nat) : Int := signedOf 16 (u16 bs i)

/-- `n` zero bytes. -/
def zeros (n : Nat) : List Byte := List.replicate n 0

/-- A byte list cut or filled with zeros to `n` bytes. -/
def padTo (n : Nat) (bs : List Byte) : List Byte := bs.take n ++ zeros (n - bs.length)

/-- A byte list filled with zeros to a multiple of 4 bytes (R330). -/
def pad4 (bs : List Byte) : List Byte := bs ++ zeros ((4 - bs.length % 4) % 4)

/-- A saturating counter: `v + n`, at most `top`. -/
def satAdd (top v n : Nat) : Nat := min top (v + n)

/-- R19: the nearest step of a quotient of naturals, halves rounded up. -/
def roundDiv (a b : Nat) : Nat := (2 * a + b) / (2 * b)

/-- The same for a signed numerator: halves rounded up. -/
def roundDivInt (a : Int) (b : Nat) : Int := (2 * a + b).fdiv (2 * b)

/-- A value held between two bounds. -/
def clampInt (lo hi v : Int) : Int := max lo (min hi v)

/-- The numbers `a, a+1, …` (`n` of them). -/
def natsFrom (a n : Nat) : List Nat := (List.range n).map (a + ·)

/-- How many members of a list satisfy a test. -/
def countP (p : α → Bool) (l : List α) : Nat := (l.filter p).length

/-- Element `i` of a list, or a default. -/
def nth (d : α) (l : List α) (i : Nat) : α := (l[i]?).getD d

/-- Element `i` of a fixed number of like things; `d` beyond them. -/
def vnth (d : α) {n : Nat} (l : Vector α n) (i : Nat) : α := nth d l.toList i

/-- A fixed number of like things with element `i` replaced. -/
def vset {n : Nat} (l : Vector α n) (i : Nat) (v : α) : Vector α n := l.setIfInBounds i v

/-- Is `n` in the range `lo` to `hi`, both ends included? -/
def inRange (n lo hi : Nat) : Bool := lo ≤ n && n ≤ hi

/-- A strictly rising list with `n` put in (a set of numbers in canonical form). -/
def setInsert (n : Nat) : List Nat → List Nat
  | [] => [n]
  | m :: t => if n < m then n :: m :: t else if n = m then m :: t else m :: setInsert n t

/-- A set of numbers without `n`. -/
def setErase (n : Nat) (l : List Nat) : List Nat := l.filter (fun m => !(m == n))

/-- A set of numbers with all of a list put in. -/
def setInsertAll (ns l : List Nat) : List Nat := ns.foldr setInsert l

/-- Look a key up in a list of keyed entries. -/
def kvGet (l : List (Nat × α)) (k : Nat) : Option α :=
  match l.find? (fun e => e.1 == k) with
  | some e => some e.2
  | none => none

/-- Put an entry in a keyed list with rising keys. -/
def kvPut (k : Nat) (v : α) : List (Nat × α) → List (Nat × α)
  | [] => [(k, v)]
  | e :: t => if k < e.1 then (k, v) :: e :: t else if k = e.1 then (k, v) :: t else e :: kvPut k v t

/-- A keyed list without a key. -/
def kvErase (k : Nat) (l : List (Nat × α)) : List (Nat × α) := l.filter (fun e => !(e.1 == k))

/-- A list cut into pieces of `n` (`n` > 0), by fuel. -/
def chunksAux (n : Nat) : Nat → List α → List (List α)
  | 0, _ => []
  | _, [] => []
  | k + 1, l => l.take n :: chunksAux n k (l.drop n)

def chunks (n : Nat) (l : List α) : List (List α) := chunksAux n l.length l

/-- The integer square root by `k` halvings of the interval `[lo, hi)`. -/
def isqrtAux (n : Nat) : Nat → Nat → Nat → Nat
  | 0, lo, _ => lo
  | k + 1, lo, hi =>
    let mid := (lo + hi) / 2
    if mid * mid ≤ n then isqrtAux n k mid hi else isqrtAux n k lo mid

/-- The integer square root, rounded down. -/
def isqrt (n : Nat) : Nat := isqrtAux n (n.log2 / 2 + 2) 0 (2 ^ (n.log2 / 2 + 1))

end Sys2Proof.Machine
end

