-- ==== Sys2Proof/Machine/CoefTab.lean ====
section
/-! DEFINITION. The windowed-sinc default tables of R124, and the identity tone curve of R137. -/

namespace Sys2Proof.Machine

/-- The default horizontal table, phases 0 to 15. -/
def hCoef0 : List Int :=
  [0, 0, 0, 1023, 0, 0, 0, 0,
   -2, 5, -14, 1023, 15, -5, 2, 0,
   -3, 10, -28, 1021, 30, -10, 3, 0,
   -4, 15, -41, 1019, 46, -16, 5, 0,
   -6, 19, -53, 1016, 62, -22, 7, 0,
   -7, 23, -65, 1012, 79, -27, 9, 0,
   -8, 27, -76, 1007, 96, -33, 11, -1,
   -9, 31, -87, 1002, 113, -39, 13, -1,
   -10, 35, -97, 995, 131, -45, 15, -1,
   -11, 38, -106, 988, 150, -51, 17, -1,
   -12, 42, -115, 980, 169, -57, 19, -2,
   -13, 45, -124, 971, 188, -63, 21, -2,
   -14, 48, -131, 961, 208, -69, 23, -2,
   -14, 50, -138, 951, 228, -76, 26, -3,
   -15, 53, -145, 940, 248, -82, 28, -3,
   -15, 55, -151, 928, 269, -88, 30, -4]

/-- The default horizontal table, phases 16 to 31. -/
def hCoef1 : List Int :=
  [-15, 57, -156, 915, 290, -94, 32, -4,
   -16, 59, -161, 902, 311, -100, 34, -5,
   -16, 60, -165, 888, 332, -106, 37, -5,
   -16, 61, -169, 873, 353, -112, 39, -6,
   -16, 63, -172, 858, 375, -117, 41, -6,
   -16, 63, -174, 842, 397, -123, 43, -7,
   -16, 64, -176, 825, 418, -128, 45, -7,
   -16, 65, -178, 808, 440, -134, 47, -8,
   -16, 65, -179, 791, 462, -139, 49, -8,
   -16, 65, -179, 773, 484, -144, 51, -9,
   -15, 65, -179, 754, 506, -148, 53, -10,
   -15, 65, -179, 735, 528, -153, 54, -10,
   -15, 64, -178, 716, 549, -157, 56, -11,
   -14, 64, -177, 696, 571, -161, 57, -11,
   -14, 63, -175, 676, 592, -164, 59, -12,
   -13, 62, -173, 655, 614, -167, 60, -12]

/-- The default horizontal table, phases 32 to 47. -/
def hCoef2 : List Int :=
  [-13, 61, -170, 635, 635, -170, 61, -13,
   -12, 60, -167, 614, 655, -173, 62, -13,
   -12, 59, -164, 592, 676, -175, 63, -14,
   -11, 57, -161, 571, 696, -177, 64, -14,
   -11, 56, -157, 549, 716, -178, 64, -15,
   -10, 54, -153, 528, 735, -179, 65, -15,
   -10, 53, -148, 506, 754, -179, 65, -15,
   -9, 51, -144, 484, 773, -179, 65, -16,
   -8, 49, -139, 462, 791, -179, 65, -16,
   -8, 47, -134, 440, 808, -178, 65, -16,
   -7, 45, -128, 418, 825, -176, 64, -16,
   -7, 43, -123, 397, 842, -174, 63, -16,
   -6, 41, -117, 375, 858, -172, 63, -16,
   -6, 39, -112, 353, 873, -169, 61, -16,
   -5, 37, -106, 332, 888, -165, 60, -16,
   -5, 34, -100, 311, 902, -161, 59, -16]

/-- The default horizontal table, phases 48 to 63. -/
def hCoef3 : List Int :=
  [-4, 32, -94, 290, 915, -156, 57, -15,
   -4, 30, -88, 269, 928, -151, 55, -15,
   -3, 28, -82, 248, 940, -145, 53, -15,
   -3, 26, -76, 228, 951, -138, 50, -14,
   -2, 23, -69, 208, 961, -131, 48, -14,
   -2, 21, -63, 188, 971, -124, 45, -13,
   -2, 19, -57, 169, 980, -115, 42, -12,
   -1, 17, -51, 150, 988, -106, 38, -11,
   -1, 15, -45, 131, 995, -97, 35, -10,
   -1, 13, -39, 113, 1002, -87, 31, -9,
   -1, 11, -33, 96, 1007, -76, 27, -8,
   0, 9, -27, 79, 1012, -65, 23, -7,
   0, 7, -22, 62, 1016, -53, 19, -6,
   0, 5, -16, 46, 1019, -41, 15, -4,
   0, 3, -10, 30, 1021, -28, 10, -3,
   0, 2, -5, 15, 1023, -14, 5, -2]

/-- The default horizontal table, as 16-bit words. -/
def hCoef : List Nat := (hCoef0 ++ hCoef1 ++ hCoef2 ++ hCoef3).map (encSigned 16)

/-- The default vertical table, phases 0 to 15. -/
def vCoef0 : List Int :=
  [0, 1023, 0, 0,
   -10, 1022, 10, 0,
   -19, 1021, 22, 0,
   -28, 1018, 33, -1,
   -36, 1015, 46, -1,
   -43, 1010, 59, -2,
   -50, 1005, 72, -2,
   -56, 998, 87, -3,
   -61, 991, 102, -4,
   -66, 982, 117, -6,
   -71, 973, 133, -7,
   -75, 962, 150, -9,
   -78, 951, 167, -10,
   -81, 939, 185, -12,
   -83, 926, 203, -14,
   -85, 912, 222, -16]

/-- The default vertical table, phases 16 to 31. -/
def vCoef1 : List Int :=
  [-87, 898, 241, -18,
   -88, 882, 260, -21,
   -88, 866, 280, -23,
   -88, 849, 301, -26,
   -88, 832, 322, -29,
   -88, 814, 343, -31,
   -87, 795, 364, -34,
   -86, 776, 386, -37,
   -84, 757, 408, -40,
   -83, 737, 430, -43,
   -81, 716, 452, -47,
   -78, 695, 474, -50,
   -76, 674, 497, -53,
   -74, 652, 519, -56,
   -71, 631, 542, -59,
   -68, 609, 564, -62]

/-- The default vertical table, phases 32 to 47. -/
def vCoef2 : List Int :=
  [-65, 586, 586, -65,
   -62, 564, 609, -68,
   -59, 542, 631, -71,
   -56, 519, 652, -74,
   -53, 497, 674, -76,
   -50, 474, 695, -78,
   -47, 452, 716, -81,
   -43, 430, 737, -83,
   -40, 408, 757, -84,
   -37, 386, 776, -86,
   -34, 364, 795, -87,
   -31, 343, 814, -88,
   -29, 322, 832, -88,
   -26, 301, 849, -88,
   -23, 280, 866, -88,
   -21, 260, 882, -88]

/-- The default vertical table, phases 48 to 63. -/
def vCoef3 : List Int :=
  [-18, 241, 898, -87,
   -16, 222, 912, -85,
   -14, 203, 926, -83,
   -12, 185, 939, -81,
   -10, 167, 951, -78,
   -9, 150, 962, -75,
   -7, 133, 973, -71,
   -6, 117, 982, -66,
   -4, 102, 991, -61,
   -3, 87, 998, -56,
   -2, 72, 1005, -50,
   -2, 59, 1010, -43,
   -1, 46, 1015, -36,
   -1, 33, 1018, -28,
   0, 22, 1021, -19,
   0, 10, 1022, -10]

/-- The default vertical table, as 16-bit words. -/
def vCoef : List Nat := (vCoef0 ++ vCoef1 ++ vCoef2 ++ vCoef3).map (encSigned 16)

/-- The identity tone curve (R137). -/
def toneIdentity : List Nat := (natsFrom 0 256).map (fun i => 256 * i) ++ [65535]

end Sys2Proof.Machine
end

