-- ==== Sys2Proof/Machine/Crc.lean ====
section
/-! DEFINITION. The four CRCs of R364 as bit-serial registers over natural numbers, with the packet
HCRC (R330), the CRC-32 of R108 and the CRC-32C of the store and eNVM checks. -/

namespace Sys2Proof.Machine

/-- `n` steps of a reflected CRC register (low bit first). -/
def crcStepR (poly : Nat) : Nat → Nat → Nat
  | 0, c => c
  | n + 1, c => crcStepR poly n (if c % 2 = 1 then (c >>> 1) ^^^ poly else c >>> 1)

/-- `n` steps of a plain CRC register of width `w` (high bit first). -/
def crcStepN (w poly : Nat) : Nat → Nat → Nat
  | 0, c => c
  | n + 1, c =>
    crcStepN w poly n
      (if bitOf c (w - 1) then ((c <<< 1) ^^^ poly) % 2 ^ w else (c <<< 1) % 2 ^ w)

/-- The algorithms of R364, by POLY code. -/
structure CrcAlg where
  width : Nat
  reflected : Bool
  poly : Nat
  init : Nat
  xorOut : Nat
deriving DecidableEq, Repr

/-- R364: POLY 0 to 3 (reflected polynomials stand in reflected bit order). -/
def crcAlg (poly : Nat) : CrcAlg :=
  match poly with
  | 0 => ⟨32, true, 0xEDB88320, 0xFFFFFFFF, 0xFFFFFFFF⟩
  | 1 => ⟨32, true, 0x82F63B78, 0xFFFFFFFF, 0xFFFFFFFF⟩
  | 2 => ⟨16, false, 0x1021, 0xFFFF, 0⟩
  | _ => ⟨8, false, 0x1D, 0xFF, 0xFF⟩

/-- One byte into the running value (R365). -/
def crcByte (alg : CrcAlg) (c : Nat) (b : Byte) : Nat :=
  if alg.reflected then crcStepR alg.poly 8 (c ^^^ b.toNat)
  else crcStepN alg.width alg.poly 8 ((c ^^^ (b.toNat <<< (alg.width - 8))) % 2 ^ alg.width)

/-- Bytes into the running value, in order. -/
def crcFeed (alg : CrcAlg) (c : Nat) (bs : List Byte) : Nat := bs.foldl (crcByte alg) c

/-- The CRC of a byte list with the standard initial value and final XOR. -/
def crcOf (poly : Nat) (bs : List Byte) : Nat :=
  crcFeed (crcAlg poly) (crcAlg poly).init bs ^^^ (crcAlg poly).xorOut

/-- R108, R330: the CRC-32. -/
def crc32 (bs : List Byte) : Nat := crcOf 0 bs
/-- R364: the CRC-32C. -/
def crc32c (bs : List Byte) : Nat := crcOf 1 bs
/-- R364: CRC-16/CCITT-FALSE, used by the change-log entries (R255). -/
def crc16 (bs : List Byte) : Nat := crcOf 2 bs
/-- R330: HCRC, CRC-8/SAE J1850. -/
def hcrc (bs : List Byte) : Nat := crcOf 3 bs

end Sys2Proof.Machine
end

