-- ==== Sys2Proof/Config.lean ====
section
/-! DEFINITION. What one part or one build fixes, and the free values: OPAQUE constants with no body,
so that no proof can see what they are (notes/assumptions/6.md and 5.md name each of them). -/

namespace Sys2Proof.Config

/-- DESIGN CHOICE, safe: the unique die number, fixed at test (R361, R459). -/
opaque dieId : BitVec 64

/-- The free values: what the spec leaves open of a datum, one fresh number at each draw (the draw
counter is `State.fresh`). The first argument names the datum (notes/assumptions/5.md). -/
opaque freeValue : Nat → Nat → BitVec 64

/-- DESIGN CHOICE, safe: the factory gain of a pixel by y × 2,048 + x, u2.10 (R96, R440), in the calibration region. -/
opaque gainFact : Nat → BitVec 12

/-- DESIGN CHOICE, safe: a tile's factory median of normalised currents, u1.15 (R97). -/
opaque nFact : Nat → BitVec 16

/-- DESIGN CHOICE, safe: a tile's Vf bin (R97). -/
opaque tileBin : Nat → BitVec 4

/-- DESIGN CHOICE, safe: the factory reading of a reference photodiode, in ADC codes (R98). -/
opaque pdRef : Nat → BitVec 16

/-- The packet SRAM slots that a command's request and its reply take, by journal SEQ (R282): the spec fixes no
allocation (notes/assumptions/5.md). -/
opaque requestSlot : Nat → BitVec 4
opaque replySlot : Nat → BitVec 4

/-- Where in its page the password of a safety-record copy stands (R461): the layout is not given (notes/assumptions/5.md). -/
opaque passwordAt : BitVec 12

end Sys2Proof.Config
end

