-- ==== Sys2Proof/Machine/RegFields.lean ====
section
/-! DEFINITION. Names for the register fields the meanings use, from the register tables of the chapters
(file and rule of each in INVENTORY.md). A field of a numbered instance is given for instance 0; `Fld.at` moves it. -/

namespace Sys2Proof.Machine

/-- A field of a register: bits `hi:lo` of the word at `addr`. -/
structure Fld where
  addr : Nat
  hi : Nat
  lo : Nat
deriving DecidableEq, Repr

/-- The same field `off` bytes further on (another instance of the register). -/
def Fld.at (f : Fld) (off : Nat) : Fld := ⟨f.addr + off, f.hi, f.lo⟩

namespace F

abbrev SYS_ID_VENDOR : Fld := ⟨0, 31, 24⟩
abbrev SYS_ID_PART : Fld := ⟨0, 23, 8⟩
abbrev SYS_ID_STEPPING : Fld := ⟨0, 7, 0⟩
abbrev SYS_DIE_L_DIE_ID : Fld := ⟨4, 31, 0⟩
abbrev SYS_DIE_H_DIE_ID : Fld := ⟨8, 31, 0⟩
abbrev SYS_RSTCAUSE_HIST : Fld := ⟨0xC, 13, 8⟩
abbrev SYS_RSTCAUSE_FROM_SLEEP : Fld := ⟨0xC, 7, 7⟩
abbrev SYS_RSTCAUSE_BUCKET : Fld := ⟨0xC, 6, 5⟩
abbrev SYS_RSTCAUSE_KIND : Fld := ⟨0xC, 2, 0⟩
abbrev SYS_BOOT_LIGHT_READY : Fld := ⟨0x10, 31, 16⟩
abbrev SYS_BOOT_PAD_FAIL : Fld := ⟨0x10, 10, 10⟩
abbrev SYS_BOOT_QUICK_WHY : Fld := ⟨0x10, 9, 8⟩
abbrev SYS_BOOT_SLOT_FALLBACK : Fld := ⟨0x10, 7, 7⟩
abbrev SYS_BOOT_SLOT : Fld := ⟨0x10, 6, 6⟩
abbrev SYS_BOOT_REPAIR_SRC : Fld := ⟨0x10, 5, 4⟩
abbrev SYS_PAD_UNTESTED : Fld := ⟨0x14, 23, 16⟩
abbrev SYS_PAD_FAIL : Fld := ⟨0x14, 7, 0⟩
abbrev RNG_CTRL_LANE_EN : Fld := ⟨0x1000, 19, 16⟩
abbrev RNG_CTRL_AUTO_READD : Fld := ⟨0x1000, 12, 12⟩
abbrev RNG_CTRL_SLIP_MAN : Fld := ⟨0x1000, 11, 11⟩
abbrev RNG_CTRL_BYPASS_HOLD : Fld := ⟨0x1000, 10, 10⟩
abbrev RNG_CTRL_RATE : Fld := ⟨0x1000, 1, 0⟩
abbrev RNG_STATUS_ENUM_OVF : Fld := ⟨0x1004, 22, 22⟩
abbrev RNG_STATUS_NOTICE_RX : Fld := ⟨0x1004, 21, 21⟩
abbrev RNG_STATUS_BREAK_TX : Fld := ⟨0x1004, 20, 20⟩
abbrev RNG_STATUS_LANE_ADD : Fld := ⟨0x1004, 19, 19⟩
abbrev RNG_STATUS_LANE_DROP : Fld := ⟨0x1004, 18, 18⟩
abbrev RNG_STATUS_TRAIN_ABORT : Fld := ⟨0x1004, 17, 17⟩
abbrev RNG_STATUS_TRAIN_TO : Fld := ⟨0x1004, 16, 16⟩
abbrev RNG_STATUS_TX_MAP : Fld := ⟨0x1004, 15, 12⟩
abbrev RNG_STATUS_RX_MAP : Fld := ⟨0x1004, 11, 8⟩
abbrev RNG_STATUS_MULE : Fld := ⟨0x1004, 7, 7⟩
abbrev RNG_STATUS_SILENT : Fld := ⟨0x1004, 6, 6⟩
abbrev RNG_STATUS_TX_ON : Fld := ⟨0x1004, 5, 5⟩
abbrev RNG_STATUS_BYPASS : Fld := ⟨0x1004, 4, 4⟩
abbrev RNG_STATUS_STATE : Fld := ⟨0x1004, 2, 0⟩
abbrev RNG_ADDR_COUNT : Fld := ⟨0x1008, 20, 16⟩
abbrev RNG_ADDR_HOP : Fld := ⟨0x1008, 12, 8⟩
abbrev RNG_ADDR_VALID : Fld := ⟨0x1008, 5, 5⟩
abbrev RNG_ADDR_ADDR : Fld := ⟨0x1008, 4, 0⟩
abbrev RNG_POSDLY_VALID : Fld := ⟨0x100C, 31, 31⟩
abbrev RNG_POSDLY_POSDLY : Fld := ⟨0x100C, 23, 0⟩
abbrev RNG_TRANSIT_TRANSIT : Fld := ⟨0x1010, 15, 0⟩
abbrev RNG_SILENT_BEACONS : Fld := ⟨0x1014, 31, 16⟩
abbrev RNG_SILENT_SILENT_MS : Fld := ⟨0x1014, 15, 0⟩
abbrev RNG_TXID_UP_TXID : Fld := ⟨0x1018, 31, 16⟩
abbrev RNG_TXID_TXID : Fld := ⟨0x1018, 15, 0⟩
abbrev RNG_TXFFE_POST : Fld := ⟨0x101C, 12, 8⟩
abbrev RNG_TXFFE_PRE : Fld := ⟨0x101C, 3, 0⟩
abbrev RNG_LPWR_TX : Fld := ⟨0x1020, 15, 8⟩
abbrev RNG_LPWR_RX : Fld := ⟨0x1020, 7, 0⟩
abbrev RNG_LOOP_ERR_CNT : Fld := ⟨0x1024, 31, 16⟩
abbrev RNG_LOOP_REMAIN : Fld := ⟨0x1024, 15, 8⟩
abbrev RNG_LOOP_KIND : Fld := ⟨0x1024, 1, 0⟩
abbrev RNG_CNT_TRAIN_ABORT_CNT : Fld := ⟨0x1028, 31, 16⟩
abbrev RNG_CNT_TRAIN_TO_CNT : Fld := ⟨0x1028, 15, 0⟩
abbrev RNG_CNT2_DROP_CNT : Fld := ⟨0x102C, 31, 16⟩
abbrev RNG_CNT2_VID_SHED : Fld := ⟨0x102C, 15, 0⟩
abbrev RNG_RX0_STAT_EFOM : Fld := ⟨0x1040, 31, 24⟩
abbrev RNG_RX0_STAT_MARGINAL : Fld := ⟨0x1040, 23, 23⟩
abbrev RNG_RX0_STAT_SLIP : Fld := ⟨0x1040, 22, 16⟩
abbrev RNG_RX0_STAT_INV_HDR : Fld := ⟨0x1040, 15, 8⟩
abbrev RNG_RX0_STAT_DROPPED : Fld := ⟨0x1040, 3, 3⟩
abbrev RNG_RX0_STAT_BLOCK_LOCK : Fld := ⟨0x1040, 2, 2⟩
abbrev RNG_RX0_STAT_CDR_LOCK : Fld := ⟨0x1040, 1, 1⟩
abbrev RNG_RX0_STAT_SIGDET : Fld := ⟨0x1040, 0, 0⟩
abbrev RNG_RX0_EQ_FREEZE : Fld := ⟨0x1044, 31, 31⟩
abbrev RNG_RX0_EQ_DFE5 : Fld := ⟨0x1044, 28, 24⟩
abbrev RNG_RX0_EQ_DFE4 : Fld := ⟨0x1044, 23, 19⟩
abbrev RNG_RX0_EQ_DFE3 : Fld := ⟨0x1044, 18, 14⟩
abbrev RNG_RX0_EQ_DFE2 : Fld := ⟨0x1044, 13, 9⟩
abbrev RNG_RX0_EQ_DFE1 : Fld := ⟨0x1044, 8, 4⟩
abbrev RNG_RX0_EQ_CTLE : Fld := ⟨0x1044, 3, 0⟩
abbrev CMD_CTRL_CMDBUF_ACT : Fld := ⟨0x2000, 17, 16⟩
abbrev CMD_CTRL_CMDBUF : Fld := ⟨0x2000, 9, 8⟩
abbrev CMD_CTRL_SPI_EN : Fld := ⟨0x2000, 0, 0⟩
abbrev CMD_STATUS_MLOSS_RUN : Fld := ⟨0x2004, 16, 16⟩
abbrev CMD_STATUS_SPI_ABORT : Fld := ⟨0x2004, 14, 14⟩
abbrev CMD_STATUS_EVT_LOST : Fld := ⟨0x2004, 13, 13⟩
abbrev CMD_STATUS_TYPE_BAD : Fld := ⟨0x2004, 12, 12⟩
abbrev CMD_STATUS_BCAST_IGN : Fld := ⟨0x2004, 11, 11⟩
abbrev CMD_STATUS_REPEAT : Fld := ⟨0x2004, 10, 10⟩
abbrev CMD_STATUS_BUSY : Fld := ⟨0x2004, 9, 9⟩
abbrev CMD_STATUS_BAD_LENGTH : Fld := ⟨0x2004, 8, 8⟩
abbrev CMD_STATUS_BAD_CRC : Fld := ⟨0x2004, 7, 7⟩
abbrev CMD_STATUS_HCRC : Fld := ⟨0x2004, 6, 6⟩
abbrev CMD_QUEUE_QUEUED : Fld := ⟨0x2008, 30, 24⟩
abbrev CMD_QUEUE_LR : Fld := ⟨0x2008, 23, 20⟩
abbrev CMD_QUEUE_FREE : Fld := ⟨0x2008, 9, 0⟩
abbrev CMD_CNT_RX_CRC_CNT : Fld := ⟨0x200C, 31, 16⟩
abbrev CMD_CNT_RX_HCRC_CNT : Fld := ⟨0x200C, 15, 0⟩
abbrev CMD_CNT_REF_LEN_CNT : Fld := ⟨0x2010, 31, 16⟩
abbrev CMD_CNT_REF_BUSY_CNT : Fld := ⟨0x2010, 15, 0⟩
abbrev CMD_CNT_IGN_TYPE_CNT : Fld := ⟨0x2014, 31, 16⟩
abbrev CMD_CNT_IGN_BCAST_CNT : Fld := ⟨0x2014, 15, 0⟩
abbrev CMD_MLOSS_ELAPSED : Fld := ⟨0x2018, 15, 0⟩
abbrev CMD_EVT_CTRL_STREAM : Fld := ⟨0x201C, 10, 8⟩
abbrev CMD_EVT_CTRL_SPI : Fld := ⟨0x201C, 1, 1⟩
abbrev CMD_EVT_CTRL_RING : Fld := ⟨0x201C, 0, 0⟩
abbrev CMD_EVT_CNT_LOST : Fld := ⟨0x2020, 31, 16⟩
abbrev CMD_EVT_CNT_SENT : Fld := ⟨0x2020, 15, 0⟩
abbrev CMD_ALIVE0_REPEAT_CNT : Fld := ⟨0x2080, 31, 16⟩
abbrev CMD_ALIVE0_VALID : Fld := ⟨0x2080, 8, 8⟩
abbrev CMD_ALIVE0_LAST : Fld := ⟨0x2080, 7, 0⟩
abbrev CMD_GAP0_GAP_CNT : Fld := ⟨0x2084, 31, 0⟩
abbrev CMD_SPI_ABORT_CNT : Fld := ⟨0x20C0, 31, 16⟩
abbrev CMD_SPI_OUT_WAIT : Fld := ⟨0x20C0, 15, 8⟩
abbrev CMD_SPI_BAD_OP_CNT : Fld := ⟨0x20C0, 7, 0⟩
abbrev CMD_LASTREF_STATUS : Fld := ⟨0x20C4, 31, 24⟩
abbrev CMD_LASTREF_OPCODE : Fld := ⟨0x20C4, 23, 16⟩
abbrev CMD_LASTREF_TAG : Fld := ⟨0x20C4, 15, 8⟩
abbrev CMD_LASTREF_STREAM : Fld := ⟨0x20C4, 7, 5⟩
abbrev CMD_LASTREF_PORT : Fld := ⟨0x20C4, 4, 4⟩
abbrev TCK_CTRL_TICK_OUT_EN : Fld := ⟨0x3000, 8, 8⟩
abbrev TCK_CTRL_SRC : Fld := ⟨0x3000, 5, 4⟩
abbrev TCK_CTRL_RATE : Fld := ⟨0x3000, 2, 0⟩
abbrev TCK_CUTOFF_ROW : Fld := ⟨0x3004, 8, 0⟩
abbrev TCK_STATUS_ALIGN_IGNORED : Fld := ⟨0x3008, 28, 28⟩
abbrev TCK_STATUS_MOFS_STEP : Fld := ⟨0x3008, 27, 27⟩
abbrev TCK_STATUS_TICK_UNLOCK : Fld := ⟨0x3008, 26, 26⟩
abbrev TCK_STATUS_HERD_LATE : Fld := ⟨0x3008, 25, 25⟩
abbrev TCK_STATUS_COMMIT_LATE : Fld := ⟨0x3008, 24, 24⟩
abbrev TCK_STATUS_COMMIT_PENDING : Fld := ⟨0x3008, 17, 17⟩
abbrev TCK_STATUS_HERD_PENDING : Fld := ⟨0x3008, 16, 16⟩
abbrev TCK_STATUS_ALIGNED : Fld := ⟨0x3008, 15, 15⟩
abbrev TCK_STATUS_LOCKED : Fld := ⟨0x3008, 14, 14⟩
abbrev TCK_STATUS_SRC_ACT : Fld := ⟨0x3008, 13, 12⟩
abbrev TCK_STATUS_ROW : Fld := ⟨0x3008, 9, 0⟩
abbrev TCK_TIMING_RATE_ACT : Fld := ⟨0x300C, 26, 24⟩
abbrev TCK_TIMING_NREP : Fld := ⟨0x300C, 20, 16⟩
abbrev TCK_TIMING_SLOT_NS : Fld := ⟨0x300C, 15, 0⟩
abbrev TCK_FRAME_COUNT : Fld := ⟨0x3010, 31, 0⟩
abbrev TCK_LATE_CNT_HERD_LATE_CNT : Fld := ⟨0x3014, 31, 16⟩
abbrev TCK_LATE_CNT_COMMIT_LATE_CNT : Fld := ⟨0x3014, 15, 0⟩
abbrev TCK_TIME_L_TIME : Fld := ⟨0x3018, 31, 0⟩
abbrev TCK_TIME_H_TIME : Fld := ⟨0x301C, 31, 0⟩
abbrev TCK_TIME_Q_MOFS_VALID : Fld := ⟨0x3020, 8, 8⟩
abbrev TCK_TIME_Q_SRC : Fld := ⟨0x3020, 5, 4⟩
abbrev TCK_TIME_Q_Q : Fld := ⟨0x3020, 1, 0⟩
abbrev TCK_TICK_TIME_L_TIME : Fld := ⟨0x3024, 31, 0⟩
abbrev TCK_TICK_TIME_H_TIME : Fld := ⟨0x3028, 31, 0⟩
abbrev TCK_FLIP_TIME_L_TIME : Fld := ⟨0x302C, 31, 0⟩
abbrev TCK_FLIP_TIME_H_TIME : Fld := ⟨0x3030, 31, 0⟩
abbrev TCK_FLIP_FRAME_FRAME : Fld := ⟨0x3034, 31, 0⟩
abbrev TCK_FLIP_ID_SRC : Fld := ⟨0x3038, 16, 16⟩
abbrev TCK_FLIP_ID_ID : Fld := ⟨0x3038, 15, 0⟩
abbrev TCK_MOFS_L_MOFS : Fld := ⟨0x303C, 31, 0⟩
abbrev TCK_MOFS_H_MOFS : Fld := ⟨0x3040, 31, 0⟩
abbrev TCK_HERD_TARGET_F : Fld := ⟨0x3044, 31, 0⟩
abbrev TCK_HERD_INFO_RESULT : Fld := ⟨0x3048, 25, 24⟩
abbrev TCK_HERD_INFO_ARR_ROW : Fld := ⟨0x3048, 17, 8⟩
abbrev TCK_HERD_INFO_FLAGS : Fld := ⟨0x3048, 2, 0⟩
abbrev TCK_TRIM_TRIM : Fld := ⟨0x304C, 23, 0⟩
abbrev TCK_ALIGN_ERR_ERR : Fld := ⟨0x3050, 31, 0⟩
abbrev LYR_CTRL_G_EN : Fld := ⟨0x4000, 5, 2⟩
abbrev LYR_CTRL_V1_EN : Fld := ⟨0x4000, 1, 1⟩
abbrev LYR_CTRL_V0_EN : Fld := ⟨0x4000, 0, 0⟩
abbrev LYR_ZORDER_POS5 : Fld := ⟨0x4004, 17, 15⟩
abbrev LYR_ZORDER_POS4 : Fld := ⟨0x4004, 14, 12⟩
abbrev LYR_ZORDER_POS3 : Fld := ⟨0x4004, 11, 9⟩
abbrev LYR_ZORDER_POS2 : Fld := ⟨0x4004, 8, 6⟩
abbrev LYR_ZORDER_POS1 : Fld := ⟨0x4004, 5, 3⟩
abbrev LYR_ZORDER_POS0 : Fld := ⟨0x4004, 2, 0⟩
abbrev LYR_BASE_SHOWN : Fld := ⟨0x4008, 10, 8⟩
abbrev LYR_BASE_PATTERN : Fld := ⟨0x4008, 2, 0⟩
abbrev LYR_LBUF_V1_ALLOC : Fld := ⟨0x400C, 13, 8⟩
abbrev LYR_LBUF_V0_ALLOC : Fld := ⟨0x400C, 5, 0⟩
abbrev LYR_TEST_MODE : Fld := ⟨0x4010, 18, 16⟩
abbrev LYR_TEST_VALUE : Fld := ⟨0x4010, 15, 0⟩
abbrev LYR_SYM_BANKS : Fld := ⟨0x4014, 10, 8⟩
abbrev LYR_SYM_BASE_BANK : Fld := ⟨0x4014, 4, 0⟩
abbrev LYR_STATUS_BASE_WAIT : Fld := ⟨0x4018, 24, 24⟩
abbrev LYR_STATUS_TONE_USER : Fld := ⟨0x4018, 14, 14⟩
abbrev LYR_STATUS_TONE_RESET : Fld := ⟨0x4018, 13, 13⟩
abbrev LYR_STATUS_VID_DROP : Fld := ⟨0x4018, 12, 12⟩
abbrev LYR_STATUS_SYMBOL_MISSING : Fld := ⟨0x4018, 11, 11⟩
abbrev LYR_STATUS_BUF_INCOMPLETE : Fld := ⟨0x4018, 10, 10⟩
abbrev LYR_STATUS_LAYER_DISABLED : Fld := ⟨0x4018, 9, 8⟩
abbrev LYR_STATUS_NOT_READY : Fld := ⟨0x4018, 7, 0⟩
abbrev LYR_CNT_VID_DROP : Fld := ⟨0x401C, 31, 16⟩
abbrev LYR_CNT_IN_USE : Fld := ⟨0x401C, 15, 0⟩
abbrev LYR_TONE_CRC : Fld := ⟨0x4020, 31, 0⟩
abbrev LYR_BASE_INCRC_CRC : Fld := ⟨0x4024, 31, 0⟩
abbrev LYR_V0_CTRL_OPACITY : Fld := ⟨0x4100, 24, 16⟩
abbrev LYR_V0_CTRL_MISS_LIMIT : Fld := ⟨0x4100, 15, 12⟩
abbrev LYR_V0_CTRL_VTAPS : Fld := ⟨0x4100, 9, 8⟩
abbrev LYR_V0_CTRL_BLEND : Fld := ⟨0x4100, 1, 0⟩
abbrev LYR_V0_BUF_DESC : Fld := ⟨0x4104, 5, 0⟩
abbrev LYR_V0_DPOS_Y_DST : Fld := ⟨0x4108, 25, 16⟩
abbrev LYR_V0_DPOS_X_DST : Fld := ⟨0x4108, 11, 0⟩
abbrev LYR_V0_DSIZE_H_DST : Fld := ⟨0x410C, 25, 16⟩
abbrev LYR_V0_DSIZE_W_DST : Fld := ⟨0x410C, 11, 0⟩
abbrev LYR_V0_ROUTE_K2_DST : Fld := ⟨0x4110, 5, 4⟩
abbrev LYR_V0_ROUTE_K1_DST : Fld := ⟨0x4110, 3, 2⟩
abbrev LYR_V0_ROUTE_Y_DST : Fld := ⟨0x4110, 1, 0⟩
abbrev LYR_V0_M0_HI : Fld := ⟨0x4114, 31, 16⟩
abbrev LYR_V0_M0_LO : Fld := ⟨0x4114, 15, 0⟩
abbrev LYR_V0_M1_HI : Fld := ⟨0x4118, 31, 16⟩
abbrev LYR_V0_M1_LO : Fld := ⟨0x4118, 15, 0⟩
abbrev LYR_V0_M2_HI : Fld := ⟨0x411C, 31, 16⟩
abbrev LYR_V0_M2_LO : Fld := ⟨0x411C, 15, 0⟩
abbrev LYR_V0_M3_HI : Fld := ⟨0x4120, 31, 16⟩
abbrev LYR_V0_M3_LO : Fld := ⟨0x4120, 15, 0⟩
abbrev LYR_V0_M4_HI : Fld := ⟨0x4124, 31, 16⟩
abbrev LYR_V0_M4_LO : Fld := ⟨0x4124, 15, 0⟩
abbrev LYR_V0_PRE01_HI : Fld := ⟨0x4128, 27, 16⟩
abbrev LYR_V0_PRE01_LO : Fld := ⟨0x4128, 11, 0⟩
abbrev LYR_V0_OFS2_HI : Fld := ⟨0x412C, 27, 16⟩
abbrev LYR_V0_OFS2_LO : Fld := ⟨0x412C, 11, 0⟩
abbrev LYR_V0_POST12_HI : Fld := ⟨0x4130, 27, 16⟩
abbrev LYR_V0_POST12_LO : Fld := ⟨0x4130, 11, 0⟩
abbrev LYR_V0_STAT_STATE : Fld := ⟨0x4134, 31, 30⟩
abbrev LYR_V0_STAT_TAPS_EFF : Fld := ⟨0x4134, 29, 28⟩
abbrev LYR_V0_STAT_MISSES : Fld := ⟨0x4134, 27, 24⟩
abbrev LYR_V0_STAT_FADE_STEP : Fld := ⟨0x4134, 23, 22⟩
abbrev LYR_V0_STAT_DESC_SHOWN : Fld := ⟨0x4134, 21, 16⟩
abbrev LYR_V0_INCRC_CRC : Fld := ⟨0x4138, 31, 0⟩
abbrev LYR_V0_COEF_CRC_CRC : Fld := ⟨0x413C, 31, 0⟩
abbrev LYR_G0_CTRL_OPACITY : Fld := ⟨0x4200, 24, 16⟩
abbrev LYR_G0_CTRL_BLEND : Fld := ⟨0x4200, 1, 0⟩
abbrev LYR_G0_ANIM_F : Fld := ⟨0x4204, 31, 16⟩
abbrev LYR_G0_ANIM_DRAWN : Fld := ⟨0x4204, 12, 8⟩
abbrev LYR_G0_ANIM_MISSING : Fld := ⟨0x4204, 4, 0⟩
abbrev OBJ_CTRL_LEAD : Fld := ⟨0x5000, 31, 16⟩
abbrev OBJ_CTRL_STALE_DEF : Fld := ⟨0x5000, 15, 2⟩
abbrev OBJ_CTRL_EN : Fld := ⟨0x5000, 0, 0⟩
abbrev OBJ_GEOM_PITCH : Fld := ⟨0x5004, 31, 16⟩
abbrev OBJ_GEOM_BEND : Fld := ⟨0x5004, 15, 0⟩
abbrev OBJ_GEOM_ACT_PITCH : Fld := ⟨0x5008, 31, 16⟩
abbrev OBJ_GEOM_ACT_BEND : Fld := ⟨0x5008, 15, 0⟩
abbrev OBJ_MAP_AZ_STEP : Fld := ⟨0x500C, 31, 16⟩
abbrev OBJ_MAP_AZ_ORIGIN : Fld := ⟨0x500C, 15, 0⟩
abbrev OBJ_MAP_EL_STEP : Fld := ⟨0x5010, 31, 16⟩
abbrev OBJ_MAP_EL_ORIGIN : Fld := ⟨0x5010, 15, 0⟩
abbrev OBJ_MAP_CRC_CRC : Fld := ⟨0x5014, 31, 0⟩
abbrev OBJ_STATUS_MAP_VALID : Fld := ⟨0x5018, 9, 9⟩
abbrev OBJ_STATUS_MOFS_USED : Fld := ⟨0x5018, 8, 8⟩
abbrev OBJ_STATUS_BULK_DROP : Fld := ⟨0x5018, 7, 7⟩
abbrev OBJ_STATUS_OVERLOAD : Fld := ⟨0x5018, 6, 6⟩
abbrev OBJ_STATUS_FUTURE : Fld := ⟨0x5018, 5, 5⟩
abbrev OBJ_STATUS_REPEAT : Fld := ⟨0x5018, 4, 4⟩
abbrev OBJ_STATUS_OFFMAP : Fld := ⟨0x5018, 3, 3⟩
abbrev OBJ_STATUS_STALE : Fld := ⟨0x5018, 2, 2⟩
abbrev OBJ_STATUS_MAP_RELOAD : Fld := ⟨0x5018, 1, 1⟩
abbrev OBJ_COUNT_DRAWN : Fld := ⟨0x501C, 28, 20⟩
abbrev OBJ_COUNT_STALE_N : Fld := ⟨0x501C, 18, 10⟩
abbrev OBJ_COUNT_OCC : Fld := ⟨0x501C, 8, 0⟩
abbrev OBJ_CNT_REPEAT_CNT : Fld := ⟨0x5020, 31, 16⟩
abbrev OBJ_CNT_GAP_CNT : Fld := ⟨0x5020, 15, 0⟩
abbrev OBJ_OVL_OVL_IMAGES : Fld := ⟨0x5024, 31, 16⟩
abbrev OBJ_OVL_OVL_ROWS : Fld := ⟨0x5024, 9, 0⟩
abbrev OBJ_BULK_STAT_STATE : Fld := ⟨0x5028, 31, 30⟩
abbrev OBJ_BULK_STAT_ENTRIES : Fld := ⟨0x5028, 25, 16⟩
abbrev OBJ_BULK_STAT_BULK_ID : Fld := ⟨0x5028, 15, 0⟩
abbrev OBJ_RD_SEL_SLOT : Fld := ⟨0x502C, 7, 0⟩
abbrev OBJ_RD_POS_Y : Fld := ⟨0x5030, 31, 16⟩
abbrev OBJ_RD_POS_X : Fld := ⟨0x5030, 15, 0⟩
abbrev OBJ_RD_INFO_AGE : Fld := ⟨0x5034, 31, 16⟩
abbrev OBJ_RD_INFO_MARGIN : Fld := ⟨0x5034, 15, 0⟩
abbrev OBJ_RD_FLAGS_ALIVE : Fld := ⟨0x5038, 31, 28⟩
abbrev OBJ_RD_FLAGS_ROW_FILL : Fld := ⟨0x5038, 3, 3⟩
abbrev OBJ_RD_FLAGS_OFFMAP : Fld := ⟨0x5038, 2, 2⟩
abbrev OBJ_RD_FLAGS_STALE : Fld := ⟨0x5038, 1, 1⟩
abbrev OBJ_RD_FLAGS_OCC : Fld := ⟨0x5038, 0, 0⟩
abbrev OBJ_OCC0_SLOTS : Fld := ⟨0x5040, 31, 0⟩
abbrev OBJ_STALE0_SLOTS : Fld := ⟨0x5060, 31, 0⟩
abbrev OBJ_OFFMAP0_SLOTS : Fld := ⟨0x5080, 31, 0⟩
abbrev DRV_CTRL_COLD_MINW : Fld := ⟨0x6000, 15, 12⟩
abbrev DRV_CTRL_PHASE_DIS : Fld := ⟨0x6000, 8, 8⟩
abbrev DRV_BUDGET_BUDGET : Fld := ⟨0x6004, 9, 0⟩
abbrev DRV_GOV_HEADROOM : Fld := ⟨0x6008, 23, 16⟩
abbrev DRV_GOV_UV_BUDGET : Fld := ⟨0x6008, 9, 0⟩
abbrev DRV_GOV_STAT_GC : Fld := ⟨0x600C, 31, 16⟩
abbrev DRV_GOV_STAT_GP : Fld := ⟨0x600C, 15, 0⟩
abbrev DRV_IPRED_SHOWN : Fld := ⟨0x6010, 31, 16⟩
abbrev DRV_IPRED_LAST : Fld := ⟨0x6010, 15, 0⟩
abbrev DRV_IMEAS_IMEAS : Fld := ⟨0x6014, 15, 0⟩
abbrev DRV_DFACT_D : Fld := ⟨0x6018, 31, 16⟩
abbrev DRV_DFACT_THROT : Fld := ⟨0x6018, 15, 0⟩
abbrev DRV_SFACT_SV : Fld := ⟨0x601C, 31, 16⟩
abbrev DRV_SFACT_FADE : Fld := ⟨0x601C, 15, 0⟩
abbrev DRV_VSUPF_SLOPE : Fld := ⟨0x6020, 23, 16⟩
abbrev DRV_VSUPF_V_KNEE : Fld := ⟨0x6020, 8, 0⟩
abbrev DRV_VLED_VLED_MV : Fld := ⟨0x6024, 12, 0⟩
abbrev DRV_FLUX_CTRL_RESTART : Fld := ⟨0x6028, 1, 1⟩
abbrev DRV_FLUX_CTRL_EN : Fld := ⟨0x6028, 0, 0⟩
abbrev DRV_FLUX_LIMIT : Fld := ⟨0x602C, 31, 31⟩
abbrev DRV_FLUX_PD_VALID : Fld := ⟨0x602C, 27, 24⟩
abbrev DRV_FLUX_CORR : Fld := ⟨0x602C, 23, 0⟩
abbrev DRV_PD0_REF : Fld := ⟨0x6030, 31, 16⟩
abbrev DRV_PD0_READ : Fld := ⟨0x6030, 11, 0⟩
abbrev DRV_PHASE_OFS : Fld := ⟨0x6040, 21, 16⟩
abbrev DRV_PHASE_YMUL : Fld := ⟨0x6040, 13, 8⟩
abbrev DRV_PHASE_XMUL : Fld := ⟨0x6040, 5, 0⟩
abbrev DRV_REFRESH_LAST_FRAME : Fld := ⟨0x6044, 31, 16⟩
abbrev DRV_REFRESH_INTERVAL : Fld := ⟨0x6044, 4, 0⟩
abbrev DRV_SIG_SIG : Fld := ⟨0x6048, 31, 0⟩
abbrev DRV_SIG_FRAME_FRAME : Fld := ⟨0x604C, 31, 0⟩
abbrev DRV_STATUS_COLD_MINW_ACT : Fld := ⟨0x6050, 20, 20⟩
abbrev DRV_STATUS_UV_LIMIT : Fld := ⟨0x6050, 19, 19⟩
abbrev DRV_STATUS_SIG_SHOWN : Fld := ⟨0x6050, 18, 18⟩
abbrev DRV_STATUS_FALLBACK_SRC : Fld := ⟨0x6050, 17, 17⟩
abbrev DRV_STATUS_HOLD_ACT : Fld := ⟨0x6050, 16, 16⟩
abbrev DRV_STATUS_PIXWORD_ERR : Fld := ⟨0x6050, 8, 8⟩
abbrev DRV_STATUS_SUPPLY_DERATE : Fld := ⟨0x6050, 7, 7⟩
abbrev DRV_STATUS_PD_REJECT : Fld := ⟨0x6050, 6, 6⟩
abbrev DRV_STATUS_FLUX_LIMIT : Fld := ⟨0x6050, 5, 5⟩
abbrev DRV_STATUS_GOV_LIMIT : Fld := ⟨0x6050, 4, 4⟩
abbrev DRV_STATUS_CAL_ECC : Fld := ⟨0x6050, 3, 3⟩
abbrev DRV_STATUS_ROW_UNDERRUN : Fld := ⟨0x6050, 2, 2⟩
abbrev DRV_CNT_CAL_ECC_CNT : Fld := ⟨0x6054, 31, 16⟩
abbrev DRV_CNT_UNDERRUN_CNT : Fld := ⟨0x6054, 15, 0⟩
abbrev DRV_FCAL_STATE : Fld := ⟨0x6058, 31, 30⟩
abbrev DRV_FCAL_TILE : Fld := ⟨0x6058, 25, 16⟩
abbrev DRV_FCAL_REMAIN : Fld := ⟨0x6058, 10, 0⟩
abbrev DRV_SCALE_SCALE : Fld := ⟨0x605C, 15, 0⟩
abbrev DRV_BIN_BIN_MAX : Fld := ⟨0x6060, 7, 4⟩
abbrev DRV_BIN_BIN_MIN : Fld := ⟨0x6060, 3, 0⟩
abbrev DIA_CTRL_FILL_GAIN : Fld := ⟨0x7000, 14, 8⟩
abbrev DIA_CTRL_FILL_EN : Fld := ⟨0x7000, 4, 4⟩
abbrev DIA_CTRL_NB_EN : Fld := ⟨0x7000, 1, 1⟩
abbrev DIA_CTRL_PIX_EN : Fld := ⟨0x7000, 0, 0⟩
abbrev DIA_STATUS_SAVING : Fld := ⟨0x7004, 20, 20⟩
abbrev DIA_STATUS_CONFIRM_WAIT : Fld := ⟨0x7004, 19, 19⟩
abbrev DIA_STATUS_SUSP_CMD : Fld := ⟨0x7004, 18, 18⟩
abbrev DIA_STATUS_SUSP_PHASE : Fld := ⟨0x7004, 17, 17⟩
abbrev DIA_STATUS_SUSP_UV : Fld := ⟨0x7004, 16, 16⟩
abbrev DIA_STATUS_COPY_B_BAD : Fld := ⟨0x7004, 8, 8⟩
abbrev DIA_STATUS_COPY_A_BAD : Fld := ⟨0x7004, 7, 7⟩
abbrev DIA_STATUS_SAVE_FAIL : Fld := ⟨0x7004, 6, 6⟩
abbrev DIA_STATUS_ZONE : Fld := ⟨0x7004, 5, 5⟩
abbrev DIA_STATUS_ISO_FAIL : Fld := ⟨0x7004, 4, 4⟩
abbrev DIA_STATUS_SEG_ISO : Fld := ⟨0x7004, 3, 3⟩
abbrev DIA_STATUS_DRIFT : Fld := ⟨0x7004, 2, 2⟩
abbrev DIA_STATUS_FAULT : Fld := ⟨0x7004, 1, 1⟩
abbrev DIA_SWEEP_SWEEPS : Fld := ⟨0x7008, 31, 8⟩
abbrev DIA_SWEEP_FRAME : Fld := ⟨0x7008, 5, 0⟩
abbrev DIA_OFFC_REL : Fld := ⟨0x700C, 20, 16⟩
abbrev DIA_OFFC_I_TH : Fld := ⟨0x700C, 8, 0⟩
abbrev DIA_MAPCNT_MAPPED : Fld := ⟨0x7010, 20, 0⟩
abbrev DIA_SEGCNT_SUSPECTS : Fld := ⟨0x7014, 28, 16⟩
abbrev DIA_SEGCNT_ISO_SEG : Fld := ⟨0x7014, 15, 0⟩
abbrev DIA_NEWCNT_NEW : Fld := ⟨0x7018, 20, 0⟩
abbrev DIA_CNT_A_UNCONFIRMED : Fld := ⟨0x701C, 31, 16⟩
abbrev DIA_CNT_A_DEFERRED : Fld := ⟨0x701C, 15, 0⟩
abbrev DIA_CNT_B_SUSPECT_DROP : Fld := ⟨0x7020, 31, 24⟩
abbrev DIA_CNT_B_LOST : Fld := ⟨0x7020, 23, 16⟩
abbrev DIA_CNT_B_NB_SKIP : Fld := ⟨0x7020, 15, 0⟩
abbrev DIA_LAST_CLASS : Fld := ⟨0x7024, 31, 29⟩
abbrev DIA_LAST_Y : Fld := ⟨0x7024, 28, 20⟩
abbrev DIA_LAST_X : Fld := ⟨0x7024, 10, 0⟩
abbrev DIA_LAST_FRAME_FRAME : Fld := ⟨0x7028, 31, 0⟩
abbrev DIA_MAPSEQ_SEQ_B : Fld := ⟨0x702C, 31, 16⟩
abbrev DIA_MAPSEQ_SEQ_A : Fld := ⟨0x702C, 15, 0⟩
abbrev DIA_PROBE_SEL_Y : Fld := ⟨0x7030, 24, 16⟩
abbrev DIA_PROBE_SEL_X : Fld := ⟨0x7030, 10, 0⟩
abbrev DIA_PROBE_V_V_REST : Fld := ⟨0x7034, 27, 16⟩
abbrev DIA_PROBE_V_V_DARK : Fld := ⟨0x7034, 11, 0⟩
abbrev DIA_PROBE_I_I_LIT : Fld := ⟨0x7038, 31, 16⟩
abbrev DIA_PROBE_I_V_LIT : Fld := ⟨0x7038, 11, 0⟩
abbrev DIA_CZ0_A_EN : Fld := ⟨0x7080, 31, 31⟩
abbrev DIA_CZ0_A_J1 : Fld := ⟨0x7080, 27, 24⟩
abbrev DIA_CZ0_A_J0 : Fld := ⟨0x7080, 23, 20⟩
abbrev DIA_CZ0_A_I1 : Fld := ⟨0x7080, 13, 8⟩
abbrev DIA_CZ0_A_I0 : Fld := ⟨0x7080, 5, 0⟩
abbrev DIA_CZ0_B_COUNT : Fld := ⟨0x7084, 31, 16⟩
abbrev DIA_CZ0_B_LIMIT : Fld := ⟨0x7084, 15, 0⟩
abbrev SAF_STATE_SOURCE : Fld := ⟨0x8000, 23, 20⟩
abbrev SAF_STATE_LATCHED : Fld := ⟨0x8000, 19, 19⟩
abbrev SAF_STATE_FB_SRC : Fld := ⟨0x8000, 18, 18⟩
abbrev SAF_STATE_FAULT : Fld := ⟨0x8000, 17, 17⟩
abbrev SAF_STATE_VLED_EN : Fld := ⟨0x8000, 16, 16⟩
abbrev SAF_STATE_CLASS : Fld := ⟨0x8000, 9, 8⟩
abbrev SAF_STATE_LAMP : Fld := ⟨0x8000, 2, 0⟩
abbrev SAF_PINS_STOP_CNT : Fld := ⟨0x8004, 31, 16⟩
abbrev SAF_PINS_DISC_MS : Fld := ⟨0x8004, 15, 8⟩
abbrev SAF_PINS_B : Fld := ⟨0x8004, 1, 1⟩
abbrev SAF_PINS_A : Fld := ⟨0x8004, 0, 0⟩
abbrev SAF_LOCK_LOG_USED : Fld := ⟨0x8008, 31, 23⟩
abbrev SAF_LOCK_STREAM : Fld := ⟨0x8008, 18, 16⟩
abbrev SAF_LOCK_LOG_AHEAD : Fld := ⟨0x8008, 15, 15⟩
abbrev SAF_LOCK_LOG_FULL : Fld := ⟨0x8008, 14, 14⟩
abbrev SAF_LOCK_CFG_INVALID : Fld := ⟨0x8008, 13, 13⟩
abbrev SAF_LOCK_TEST_ACTIVE : Fld := ⟨0x8008, 12, 12⟩
abbrev SAF_LOCK_LOCKOUT : Fld := ⟨0x8008, 11, 11⟩
abbrev SAF_LOCK_FAILS : Fld := ⟨0x8008, 10, 8⟩
abbrev SAF_LOCK_UNLOCKED : Fld := ⟨0x8008, 0, 0⟩
abbrev SAF_FADE_T2 : Fld := ⟨0x800C, 25, 16⟩
abbrev SAF_FADE_T1 : Fld := ⟨0x800C, 9, 0⟩
abbrev SAF_ENV_TOL : Fld := ⟨0x8010, 20, 16⟩
abbrev SAF_ENV_OFS : Fld := ⟨0x8010, 9, 0⟩
abbrev SAF_CLASSMAP_THERM_SD : Fld := ⟨0x8014, 17, 16⟩
abbrev SAF_CLASSMAP_DIVERGE : Fld := ⟨0x8014, 15, 14⟩
abbrev SAF_CLASSMAP_CORE_PLL : Fld := ⟨0x8014, 13, 12⟩
abbrev SAF_CLASSMAP_DIAG_ZONE : Fld := ⟨0x8014, 11, 10⟩
abbrev SAF_CLASSMAP_MASTER_LOSS : Fld := ⟨0x8014, 9, 8⟩
abbrev SAF_CLASSMAP_HALVES : Fld := ⟨0x8014, 7, 6⟩
abbrev SAF_CLASSMAP_CEILING : Fld := ⟨0x8014, 5, 4⟩
abbrev SAF_CLASSMAP_PIN_DISC : Fld := ⟨0x8014, 3, 2⟩
abbrev SAF_CLASSMAP_PIN_STOP : Fld := ⟨0x8014, 1, 0⟩
abbrev SAF_LIMITS_AUTO_FALLBACK : Fld := ⟨0x8018, 31, 31⟩
abbrev SAF_LIMITS_MLOSS : Fld := ⟨0x8018, 24, 16⟩
abbrev SAF_LIMITS_BUDGET_MAX : Fld := ⟨0x8018, 9, 0⟩
abbrev SAF_CAUSE_COMMAND : Fld := ⟨0x801C, 15, 15⟩
abbrev SAF_CAUSE_SRC : Fld := ⟨0x801C, 12, 0⟩
abbrev SAF_ENV_STAT_ENV : Fld := ⟨0x8020, 31, 16⟩
abbrev SAF_ENV_STAT_I_START : Fld := ⟨0x8020, 15, 0⟩
abbrev SAF_STOP_FRAME_VALUE : Fld := ⟨0x8024, 31, 0⟩
abbrev SAF_STOP_TIME_L_VALUE : Fld := ⟨0x8028, 31, 0⟩
abbrev SAF_STOP_TIME_H_VALUE : Fld := ⟨0x802C, 31, 0⟩
abbrev SAF_CEIL_VIOL_CNT : Fld := ⟨0x8030, 31, 16⟩
abbrev SAF_CEIL_PIX_Y : Fld := ⟨0x8034, 24, 16⟩
abbrev SAF_CEIL_PIX_X : Fld := ⟨0x8034, 10, 0⟩
abbrev SAF_FB_VALID : Fld := ⟨0x8038, 31, 31⟩
abbrev SAF_FB_IPRED : Fld := ⟨0x8038, 15, 0⟩
abbrev SAF_CZ0_A_EN : Fld := ⟨0x8100, 31, 31⟩
abbrev SAF_CZ0_A_FOLLOW : Fld := ⟨0x8100, 30, 30⟩
abbrev SAF_CZ0_A_X1 : Fld := ⟨0x8100, 26, 16⟩
abbrev SAF_CZ0_A_X0 : Fld := ⟨0x8100, 10, 0⟩
abbrev SAF_CZ0_B_Y1 : Fld := ⟨0x8104, 24, 16⟩
abbrev SAF_CZ0_B_Y0 : Fld := ⟨0x8104, 8, 0⟩
abbrev SAF_CZ0_C_CEIL : Fld := ⟨0x8108, 15, 0⟩
abbrev HLV_CTRL_RESTART_MAX : Fld := ⟨0x9000, 6, 4⟩
abbrev HLV_CTRL_AUTO_RESTART : Fld := ⟨0x9000, 1, 1⟩
abbrev HLV_CTRL_PREF : Fld := ⟨0x9000, 0, 0⟩
abbrev HLV_ROLE_HELD : Fld := ⟨0x9004, 7, 5⟩
abbrev HLV_ROLE_DIVERGE : Fld := ⟨0x9004, 4, 4⟩
abbrev HLV_ROLE_REFUSER : Fld := ⟨0x9004, 3, 3⟩
abbrev HLV_ROLE_GRAZING : Fld := ⟨0x9004, 2, 2⟩
abbrev HLV_ROLE_PENDING : Fld := ⟨0x9004, 1, 1⟩
abbrev HLV_ROLE_ACTIVE : Fld := ⟨0x9004, 0, 0⟩
abbrev HLV_HEALTH_A_ECC_CORR : Fld := ⟨0x9008, 31, 17⟩
abbrev HLV_HEALTH_A_SLICE : Fld := ⟨0x9008, 16, 11⟩
abbrev HLV_HEALTH_A_RESTARTS : Fld := ⟨0x9008, 10, 8⟩
abbrev HLV_HEALTH_A_LAST_CAUSE : Fld := ⟨0x9008, 7, 4⟩
abbrev HLV_HEALTH_A_SLOT : Fld := ⟨0x9008, 3, 3⟩
abbrev HLV_HEALTH_A_HEALTH : Fld := ⟨0x9008, 2, 0⟩
abbrev HLV_HEALTH_B_ECC_CORR : Fld := ⟨0x900C, 31, 17⟩
abbrev HLV_HEALTH_B_SLICE : Fld := ⟨0x900C, 16, 11⟩
abbrev HLV_HEALTH_B_RESTARTS : Fld := ⟨0x900C, 10, 8⟩
abbrev HLV_HEALTH_B_LAST_CAUSE : Fld := ⟨0x900C, 7, 4⟩
abbrev HLV_HEALTH_B_SLOT : Fld := ⟨0x900C, 3, 3⟩
abbrev HLV_HEALTH_B_HEALTH : Fld := ⟨0x900C, 2, 0⟩
abbrev HLV_FWVER_A_MAJOR : Fld := ⟨0x9010, 31, 24⟩
abbrev HLV_FWVER_A_MINOR : Fld := ⟨0x9010, 23, 16⟩
abbrev HLV_FWVER_A_BUILD : Fld := ⟨0x9010, 15, 0⟩
abbrev HLV_FWVER_B_MAJOR : Fld := ⟨0x9014, 31, 24⟩
abbrev HLV_FWVER_B_MINOR : Fld := ⟨0x9014, 23, 16⟩
abbrev HLV_FWVER_B_BUILD : Fld := ⟨0x9014, 15, 0⟩
abbrev HLV_GRAZE_MISMATCH_RUN : Fld := ⟨0x9018, 17, 16⟩
abbrev HLV_GRAZE_MATCH_RUN : Fld := ⟨0x9018, 5, 0⟩
abbrev HLV_GRAZE_CNT_SKIP_CNT : Fld := ⟨0x901C, 31, 16⟩
abbrev HLV_GRAZE_CNT_MISMATCH_CNT : Fld := ⟨0x901C, 15, 0⟩
abbrev HLV_GRAZE_ROW_ROW : Fld := ⟨0x9020, 8, 0⟩
abbrev HLV_GRAZE_FRAME_FRAME : Fld := ⟨0x9024, 31, 0⟩
abbrev HLV_SW_CNT_ABDICATE_CNT : Fld := ⟨0x9028, 31, 16⟩
abbrev HLV_SW_CNT_SWITCH_CNT : Fld := ⟨0x9028, 15, 0⟩
abbrev HLV_SW_FRAME_FRAME : Fld := ⟨0x902C, 31, 0⟩
abbrev HLV_JOURNAL_BAD : Fld := ⟨0x9030, 31, 24⟩
abbrev HLV_JOURNAL_FAILED : Fld := ⟨0x9030, 23, 16⟩
abbrev HLV_JOURNAL_REPLAYED : Fld := ⟨0x9030, 15, 8⟩
abbrev HLV_JOURNAL_USED : Fld := ⟨0x9030, 7, 0⟩
abbrev HLV_STATUS_JOURNAL_BAD : Fld := ⟨0x9034, 7, 7⟩
abbrev HLV_STATUS_HOLD_LIMIT : Fld := ⟨0x9034, 6, 6⟩
abbrev HLV_STATUS_QT_FAIL_B : Fld := ⟨0x9034, 5, 5⟩
abbrev HLV_STATUS_QT_FAIL_A : Fld := ⟨0x9034, 4, 4⟩
abbrev HLV_STATUS_DIVERGE : Fld := ⟨0x9034, 3, 3⟩
abbrev HLV_STATUS_MISMATCH : Fld := ⟨0x9034, 2, 2⟩
abbrev HLV_STATUS_SWITCHED : Fld := ⟨0x9034, 1, 1⟩
abbrev HLV_STATUS_ABDICATED : Fld := ⟨0x9034, 0, 0⟩
abbrev CHK_0_CTRL_XOR_DIS : Fld := ⟨0xA000, 5, 5⟩
abbrev CHK_0_CTRL_INIT_SEL : Fld := ⟨0xA000, 4, 4⟩
abbrev CHK_0_CTRL_POLY : Fld := ⟨0xA000, 1, 0⟩
abbrev CHK_0_INIT_INIT : Fld := ⟨0xA004, 31, 0⟩
abbrev CHK_0_RUN_RUN : Fld := ⟨0xA008, 31, 0⟩
abbrev CHK_0_RESULT_RESULT : Fld := ⟨0xA00C, 31, 0⟩
abbrev CHK_0_COUNT_COUNT : Fld := ⟨0xA010, 31, 0⟩
abbrev CHK_0_STAT_LAST_STATUS : Fld := ⟨0xA014, 31, 24⟩
abbrev CHK_0_STAT_STREAM : Fld := ⟨0xA014, 18, 16⟩
abbrev CHK_0_STAT_SOURCE : Fld := ⟨0xA014, 9, 8⟩
abbrev CHK_0_STAT_BUSY : Fld := ⟨0xA014, 0, 0⟩
abbrev SNP_CTRL_DRIVE : Fld := ⟨0xB000, 16, 16⟩
abbrev SNP_CTRL_FAULTS : Fld := ⟨0xB000, 15, 8⟩
abbrev SNP_CTRL_TRIGGERS : Fld := ⟨0xB000, 2, 0⟩
abbrev SNP_ID_TAKEN_ID : Fld := ⟨0xB004, 31, 16⟩
abbrev SNP_ID_ARM_ID : Fld := ⟨0xB004, 15, 0⟩
abbrev SNP_INFO_STATE : Fld := ⟨0xB008, 31, 30⟩
abbrev SNP_INFO_SRC : Fld := ⟨0xB008, 29, 28⟩
abbrev SNP_INFO_ROW : Fld := ⟨0xB008, 25, 16⟩
abbrev SNP_INFO_SRC_ID : Fld := ⟨0xB008, 15, 0⟩
abbrev SNP_FRAME_VALUE : Fld := ⟨0xB00C, 31, 0⟩
abbrev SNP_TIME_L_VALUE : Fld := ⟨0xB010, 31, 0⟩
abbrev SNP_TIME_H_VALUE : Fld := ⟨0xB014, 31, 0⟩
abbrev SNP_CNT_MISSED_CNT : Fld := ⟨0xB018, 31, 16⟩
abbrev SNP_CNT_TAKEN_CNT : Fld := ⟨0xB018, 15, 0⟩
abbrev PWR_STATUS_UNCHANGED : Fld := ⟨0xC000, 31, 16⟩
abbrev PWR_STATUS_ENTERING : Fld := ⟨0xC000, 6, 6⟩
abbrev PWR_STATUS_PENDING : Fld := ⟨0xC000, 5, 4⟩
abbrev PWR_STATUS_STATE : Fld := ⟨0xC000, 1, 0⟩
abbrev PWR_FLAGS_ABANDONED : Fld := ⟨0xC004, 6, 6⟩
abbrev PWR_FLAGS_BUF_LOST : Fld := ⟨0xC004, 5, 5⟩
abbrev PWR_FLAGS_VLED_OV : Fld := ⟨0xC004, 4, 4⟩
abbrev PWR_FLAGS_VLED_UV : Fld := ⟨0xC004, 3, 3⟩
abbrev PWR_FLAGS_SUPPLY_WARN : Fld := ⟨0xC004, 2, 2⟩
abbrev PWR_FLAGS_ROOSTER : Fld := ⟨0xC004, 1, 1⟩
abbrev PWR_FLAGS_REFUSED : Fld := ⟨0xC004, 0, 0⟩
abbrev PWR_TMR_A_IDLE_T : Fld := ⟨0xC008, 31, 16⟩
abbrev PWR_TMR_A_HOLD_N : Fld := ⟨0xC008, 15, 0⟩
abbrev PWR_TMR_B_ELAPSED_S : Fld := ⟨0xC00C, 31, 16⟩
abbrev PWR_TMR_B_SLEEP_T : Fld := ⟨0xC00C, 15, 0⟩
abbrev PWR_REFUSE_LAST_TARGET : Fld := ⟨0xC010, 29, 28⟩
abbrev PWR_REFUSE_LAST_REFUSER : Fld := ⟨0xC010, 27, 24⟩
abbrev PWR_REFUSE_ASSERTED : Fld := ⟨0xC010, 11, 0⟩
abbrev PWR_ROOSTER_OUT : Fld := ⟨0xC020, 31, 31⟩
abbrev PWR_ROOSTER_EN : Fld := ⟨0xC020, 16, 16⟩
abbrev PWR_ROOSTER_POL : Fld := ⟨0xC020, 12, 12⟩
abbrev PWR_ROOSTER_HYST : Fld := ⟨0xC020, 9, 8⟩
abbrev PWR_ROOSTER_THR : Fld := ⟨0xC020, 7, 0⟩
abbrev PWR_RETAIN_MASK : Fld := ⟨0xC024, 31, 0⟩
abbrev PWR_LOST_MASK : Fld := ⟨0xC028, 31, 0⟩
abbrev PWR_VSUP_WARN : Fld := ⟨0xC02C, 16, 16⟩
abbrev PWR_VSUP_VSUP_MV : Fld := ⟨0xC02C, 15, 0⟩
abbrev PWR_DIP_DIP_CNT : Fld := ⟨0xC030, 31, 16⟩
abbrev PWR_DIP_MIN_MV : Fld := ⟨0xC030, 15, 0⟩
abbrev PWR_VLED_CFG_OV_MV : Fld := ⟨0xC034, 28, 16⟩
abbrev PWR_VLED_CFG_UV : Fld := ⟨0xC034, 8, 0⟩
abbrev PWR_VLED_STAT_OV_CNT : Fld := ⟨0xC038, 31, 24⟩
abbrev PWR_VLED_STAT_UV_CNT : Fld := ⟨0xC038, 23, 16⟩
abbrev PWR_VLED_STAT_OV : Fld := ⟨0xC038, 1, 1⟩
abbrev PWR_VLED_STAT_UV : Fld := ⟨0xC038, 0, 0⟩
abbrev PWR_RSTPIN_BUCKET : Fld := ⟨0xC03C, 1, 0⟩
abbrev PWR_SLEEP_L_TICKS : Fld := ⟨0xC040, 31, 0⟩
abbrev PWR_SLEEP_H_VALID : Fld := ⟨0xC044, 31, 31⟩
abbrev PWR_SLEEP_H_SAT : Fld := ⟨0xC044, 30, 30⟩
abbrev PWR_SLEEP_H_TICKS : Fld := ⟨0xC044, 7, 0⟩
abbrev PWR_LPO_PERIOD : Fld := ⟨0xC048, 31, 0⟩
abbrev PWR_HOURS_MINUTES : Fld := ⟨0xC04C, 31, 0⟩
abbrev PWR_CLK_XTAL_OK : Fld := ⟨0xC050, 8, 8⟩
abbrev PWR_CLK_PLL_LOCK : Fld := ⟨0xC050, 4, 4⟩
abbrev PWR_CLK_SEL : Fld := ⟨0xC050, 0, 0⟩
abbrev PWR_RCRC0_CRC : Fld := ⟨0xC080, 31, 0⟩
abbrev THM_CTRL_FAST_FORCE : Fld := ⟨0xD000, 0, 0⟩
abbrev THM_STATUS_SD_SEEN : Fld := ⟨0xD004, 11, 11⟩
abbrev THM_STATUS_FAULT_SEEN : Fld := ⟨0xD004, 10, 10⟩
abbrev THM_STATUS_THROT_SEEN : Fld := ⟨0xD004, 9, 9⟩
abbrev THM_STATUS_BAND_CHG : Fld := ⟨0xD004, 8, 8⟩
abbrev THM_STATUS_SD_ACT : Fld := ⟨0xD004, 7, 7⟩
abbrev THM_STATUS_THROTTLING : Fld := ⟨0xD004, 6, 6⟩
abbrev THM_STATUS_FAST : Fld := ⟨0xD004, 5, 5⟩
abbrev THM_STATUS_BAND : Fld := ⟨0xD004, 2, 0⟩
abbrev THM_TARRAY_VALID : Fld := ⟨0xD008, 23, 16⟩
abbrev THM_TARRAY_T : Fld := ⟨0xD008, 15, 0⟩
abbrev THM_THROT_LIMITER : Fld := ⟨0xD00C, 18, 16⟩
abbrev THM_THROT_THROT : Fld := ⟨0xD00C, 15, 0⟩
abbrev THM_KNEE_SLOPE : Fld := ⟨0xD010, 22, 16⟩
abbrev THM_KNEE_KNEE : Fld := ⟨0xD010, 7, 0⟩
abbrev THM_SD_FADE : Fld := ⟨0xD014, 23, 16⟩
abbrev THM_SD_SD_T : Fld := ⟨0xD014, 7, 0⟩
abbrev THM_RATE_T_PRED : Fld := ⟨0xD018, 31, 16⟩
abbrev THM_RATE_RATE : Fld := ⟨0xD018, 15, 0⟩
abbrev THM_DIE0_VALID : Fld := ⟨0xD020, 16, 16⟩
abbrev THM_DIE0_T : Fld := ⟨0xD020, 15, 0⟩
abbrev THM_TS0_CFG_MODE : Fld := ⟨0xD040, 31, 30⟩
abbrev THM_TS0_CFG_B : Fld := ⟨0xD040, 28, 16⟩
abbrev THM_TS0_CFG_IDEAL : Fld := ⟨0xD040, 15, 0⟩
abbrev THM_TS0_LIM_KEN : Fld := ⟨0xD044, 31, 31⟩
abbrev THM_TS0_LIM_FAULT_F : Fld := ⟨0xD044, 30, 24⟩
abbrev THM_TS0_LIM_RSLOPE : Fld := ⟨0xD044, 22, 16⟩
abbrev THM_TS0_LIM_RKNEE : Fld := ⟨0xD044, 7, 0⟩
abbrev THM_TS0_T_FAULT : Fld := ⟨0xD048, 19, 19⟩
abbrev THM_TS0_T_STAT : Fld := ⟨0xD048, 18, 16⟩
abbrev THM_TS0_T_T : Fld := ⟨0xD048, 15, 0⟩
abbrev THM_TS0_RAW_RAW : Fld := ⟨0xD04C, 15, 0⟩
abbrev THM_CNT_TRIP_CNT : Fld := ⟨0xD080, 31, 16⟩
abbrev THM_CNT_SD_CNT : Fld := ⟨0xD080, 15, 0⟩
abbrev THM_PEAK_PEAK : Fld := ⟨0xD084, 15, 0⟩
abbrev THM_TRIP_SENSOR : Fld := ⟨0xD088, 26, 24⟩
abbrev THM_TRIP_RELEASE : Fld := ⟨0xD088, 23, 16⟩
abbrev THM_TRIP_FRAME_LO : Fld := ⟨0xD088, 15, 0⟩
abbrev NVM_STATUS_LIFE_RESET : Fld := ⟨0xE000, 9, 9⟩
abbrev NVM_STATUS_COPY_BAD : Fld := ⟨0xE000, 8, 8⟩
abbrev NVM_STATUS_FAIL : Fld := ⟨0xE000, 7, 7⟩
abbrev NVM_STATUS_SUSPENDED : Fld := ⟨0xE000, 2, 2⟩
abbrev NVM_STATUS_QUEUED : Fld := ⟨0xE000, 1, 1⟩
abbrev NVM_STATUS_BUSY : Fld := ⟨0xE000, 0, 0⟩
abbrev NVM_OP_REGION : Fld := ⟨0xE004, 31, 28⟩
abbrev NVM_OP_ADDR : Fld := ⟨0xE004, 22, 0⟩
abbrev NVM_CNT_FAIL_CNT : Fld := ⟨0xE008, 31, 16⟩
abbrev NVM_CNT_PROG_CNT : Fld := ⟨0xE008, 15, 0⟩
abbrev NVM_SLOTA_VALID : Fld := ⟨0xE00C, 31, 31⟩
abbrev NVM_SLOTA_STAGING : Fld := ⟨0xE00C, 30, 30⟩
abbrev NVM_SLOTA_ACT : Fld := ⟨0xE00C, 23, 16⟩
abbrev NVM_SLOTA_MAJOR : Fld := ⟨0xE00C, 15, 8⟩
abbrev NVM_SLOTA_MINOR : Fld := ⟨0xE00C, 7, 0⟩
abbrev NVM_SLOTB_VALID : Fld := ⟨0xE010, 31, 31⟩
abbrev NVM_SLOTB_STAGING : Fld := ⟨0xE010, 30, 30⟩
abbrev NVM_SLOTB_ACT : Fld := ⟨0xE010, 23, 16⟩
abbrev NVM_SLOTB_MAJOR : Fld := ⟨0xE010, 15, 8⟩
abbrev NVM_SLOTB_MINOR : Fld := ⟨0xE010, 7, 0⟩
abbrev NVM_BIST_STATE : Fld := ⟨0xE014, 31, 30⟩
abbrev NVM_BIST_ORIGIN : Fld := ⟨0xE014, 29, 28⟩
abbrev NVM_BIST_STEP : Fld := ⟨0xE014, 23, 16⟩
abbrev NVM_BIST_FAULTS : Fld := ⟨0xE014, 15, 0⟩
abbrev NVM_REC_COMPLETE : Fld := ⟨0xE018, 31, 31⟩
abbrev NVM_REC_TYPE : Fld := ⟨0xE018, 30, 30⟩
abbrev NVM_REC_COPY : Fld := ⟨0xE018, 29, 29⟩
abbrev NVM_REC_STEP : Fld := ⟨0xE018, 23, 16⟩
abbrev NVM_REC_SEQ : Fld := ⟨0xE018, 15, 0⟩
abbrev NVM_REPAIR_FULL : Fld := ⟨0xE01C, 15, 8⟩
abbrev NVM_REPAIR_USED : Fld := ⟨0xE01C, 7, 0⟩
abbrev NVM_BANK_BAD_MASK : Fld := ⟨0xE020, 31, 0⟩
abbrev NVM_LIFE_SHUTDOWNS : Fld := ⟨0xE024, 31, 16⟩
abbrev NVM_LIFE_BOOTS : Fld := ⟨0xE024, 15, 0⟩

end F

end Sys2Proof.Machine
end

