-- ==== Sys2Proof/Machine/RegTable.lean ====
section
/-! DEFINITION. The register map of the part: one row per register word of the windows of R4, from the
register tables of the chapters (R71, R109, R149, R184, R223, R258, R291, R323, R363, R379, R380, R411,
R427, R459, R460, R473). A row holds the address, the reset value, the masks of the bits of each access code of R6,
what keeps it (R11, R433) and whether it is a set item (R51). -/

namespace Sys2Proof.Machine

/-- One register word. `keep`: 2 kept across every reset, 1 an AON register (kept by every device
reset but POR and BOR, R433), 0 set to its reset value by every device reset. -/
structure RegRow where
  addr : Nat
  reset : Nat
  rw : Nat
  w1c : Nat
  wo : Nat
  rwl : Nat
  keep : Nat
  item : Bool
deriving DecidableEq, Repr

/-- Registers of the SYS window (R459, R473). -/
def regRowsSys : List RegRow := [
  ⟨0, 0x5D104841, 0, 0, 0, 0, 2, false⟩,
  ⟨4, 0, 0, 0, 0, 0, 2, false⟩,
  ⟨8, 0, 0, 0, 0, 0, 2, false⟩,
  ⟨0xC, 0, 0, 0x3F00, 0, 0, 1, false⟩,
  ⟨0x10, 0, 0, 0, 0, 0, 0, false⟩,
  ⟨0x14, 0, 0, 0, 0, 0, 0, false⟩]

/-- Registers of the RNG window (R323). -/
def regRowsRng : List RegRow := [
  ⟨0x1000, 0xF1000, 0xF1C03, 0, 0, 0, 0, false⟩,
  ⟨0x1004, 0x10, 0, 0x7F0000, 0, 0, 0, false⟩,
  ⟨0x1008, 0x1F, 0, 0, 0, 0, 0, false⟩,
  ⟨0x100C, 0, 0, 0, 0, 0, 0, false⟩,
  ⟨0x1010, 0, 0, 0, 0, 0, 0, false⟩,
  ⟨0x1014, 0, 0, 0, 0, 0, 0, false⟩,
  ⟨0x1018, 0, 0, 0, 0, 0, 0, false⟩,
  ⟨0x101C, 0x800, 0x1F0F, 0, 0, 0, 0, false⟩,
  ⟨0x1020, 0, 0, 0, 0, 0, 0, false⟩,
  ⟨0x1024, 0, 0, 0, 0, 0, 0, false⟩,
  ⟨0x1028, 0, 0xFFFFFFFF, 0, 0, 0, 0, false⟩,
  ⟨0x102C, 0, 0xFFFFFFFF, 0, 0, 0, 0, false⟩,
  ⟨0x1040, 0, 0, 0, 0, 0, 0, false⟩,
  ⟨0x1044, 8, 0x8000000F, 0, 0, 0, 0, false⟩,
  ⟨0x1048, 0, 0, 0, 0, 0, 0, false⟩,
  ⟨0x104C, 8, 0x8000000F, 0, 0, 0, 0, false⟩,
  ⟨0x1050, 0, 0, 0, 0, 0, 0, false⟩,
  ⟨0x1054, 8, 0x8000000F, 0, 0, 0, 0, false⟩,
  ⟨0x1058, 0, 0, 0, 0, 0, 0, false⟩,
  ⟨0x105C, 8, 0x8000000F, 0, 0, 0, 0, false⟩]

/-- Registers of the CMD window (R363). -/
def regRowsCmd : List RegRow := [
  ⟨0x2000, 1, 0x301, 0, 0, 0, 0, false⟩,
  ⟨0x2004, 0, 0, 0x7FC0, 0, 0, 0, false⟩,
  ⟨0x2008, 0x80, 0, 0, 0, 0, 0, false⟩,
  ⟨0x200C, 0, 0xFFFFFFFF, 0, 0, 0, 0, false⟩,
  ⟨0x2010, 0, 0xFFFFFFFF, 0, 0, 0, 0, false⟩,
  ⟨0x2014, 0, 0xFFFFFFFF, 0, 0, 0, 0, false⟩,
  ⟨0x2018, 0, 0, 0, 0, 0, 0, false⟩,
  ⟨0x201C, 1, 0x703, 0, 0, 0, 0, false⟩,
  ⟨0x2020, 0, 0xFFFFFFFF, 0, 0, 0, 0, false⟩,
  ⟨0x2040, 0x7F0002, 0x7F0002, 0, 0, 0, 0, false⟩,
  ⟨0x2044, 0x1F0007, 0x1F0007, 0, 0, 0, 0, false⟩,
  ⟨0x2048, 0x1F003F, 0x1F003F, 0, 0, 0, 0, false⟩,
  ⟨0x204C, 0x3FF007F, 0x3FF007F, 0, 0, 0, 0, false⟩,
  ⟨0x2050, 0x3F03FF, 0x3F03FF, 0, 0, 0, 0, false⟩,
  ⟨0x2054, 0x10001, 0x10001, 0, 0, 0, 0, false⟩,
  ⟨0x2058, 0xF007F, 0xF007F, 0, 0, 0, 0, false⟩,
  ⟨0x205C, 7, 7, 0, 0, 0, 0, false⟩,
  ⟨0x2080, 0, 0xFFFF0000, 0, 0, 0, 0, false⟩,
  ⟨0x2084, 0, 0xFFFFFFFF, 0, 0, 0, 0, false⟩,
  ⟨0x2088, 0, 0xFFFF0000, 0, 0, 0, 0, false⟩,
  ⟨0x208C, 0, 0xFFFFFFFF, 0, 0, 0, 0, false⟩,
  ⟨0x2090, 0, 0xFFFF0000, 0, 0, 0, 0, false⟩,
  ⟨0x2094, 0, 0xFFFFFFFF, 0, 0, 0, 0, false⟩,
  ⟨0x2098, 0, 0xFFFF0000, 0, 0, 0, 0, false⟩,
  ⟨0x209C, 0, 0xFFFFFFFF, 0, 0, 0, 0, false⟩,
  ⟨0x20A0, 0, 0xFFFF0000, 0, 0, 0, 0, false⟩,
  ⟨0x20A4, 0, 0xFFFFFFFF, 0, 0, 0, 0, false⟩,
  ⟨0x20A8, 0, 0xFFFF0000, 0, 0, 0, 0, false⟩,
  ⟨0x20AC, 0, 0xFFFFFFFF, 0, 0, 0, 0, false⟩,
  ⟨0x20B0, 0, 0xFFFF0000, 0, 0, 0, 0, false⟩,
  ⟨0x20B4, 0, 0xFFFFFFFF, 0, 0, 0, 0, false⟩,
  ⟨0x20B8, 0, 0xFFFF0000, 0, 0, 0, 0, false⟩,
  ⟨0x20BC, 0, 0xFFFFFFFF, 0, 0, 0, 0, false⟩,
  ⟨0x20C0, 0, 0xFFFF00FF, 0, 0, 0, 0, false⟩,
  ⟨0x20C4, 0, 0, 0, 0, 0, 0, false⟩]

/-- Registers of the TCK window (R71). -/
def regRowsTck : List RegRow := [
  ⟨0x3000, 0, 0x137, 0, 0, 0, 0, true⟩,
  ⟨0x3004, 0x1E0, 0x1FF, 0, 0, 0, 0, true⟩,
  ⟨0x3008, 0x2000, 0, 0x1F000000, 0, 0, 0, false⟩,
  ⟨0x300C, 0x107530, 0, 0, 0, 0, 0, false⟩,
  ⟨0x3010, 0, 0, 0, 0, 0, 0, false⟩,
  ⟨0x3014, 0, 0xFFFFFFFF, 0, 0, 0, 0, false⟩,
  ⟨0x3018, 0, 0, 0, 0, 0, 0, false⟩,
  ⟨0x301C, 0, 0, 0, 0, 0, 0, false⟩,
  ⟨0x3020, 0x12, 0, 0, 0, 0, 0, false⟩,
  ⟨0x3024, 0, 0, 0, 0, 0, 0, false⟩,
  ⟨0x3028, 0, 0, 0, 0, 0, 0, false⟩,
  ⟨0x302C, 0, 0, 0, 0, 0, 0, false⟩,
  ⟨0x3030, 0, 0, 0, 0, 0, 0, false⟩,
  ⟨0x3034, 0, 0, 0, 0, 0, 0, false⟩,
  ⟨0x3038, 0, 0, 0, 0, 0, 0, false⟩,
  ⟨0x303C, 0, 0, 0, 0, 0, 0, false⟩,
  ⟨0x3040, 0, 0, 0, 0, 0, 0, false⟩,
  ⟨0x3044, 0, 0, 0, 0, 0, 0, false⟩,
  ⟨0x3048, 0, 0, 0, 0, 0, 0, false⟩,
  ⟨0x304C, 0, 0, 0, 0, 0, 0, false⟩,
  ⟨0x3050, 0, 0, 0, 0, 0, 0, false⟩]

/-- Registers of the LYR window (R149). -/
def regRowsLyr0 : List RegRow := [
  ⟨0x4000, 0, 0x3F, 0, 0, 0, 0, true⟩,
  ⟨0x4004, 0x2C688, 0x3FFFF, 0, 0, 0, 0, true⟩,
  ⟨0x4008, 0x707, 7, 0, 0, 0, 0, true⟩,
  ⟨0x400C, 0x1818, 0x3F3F, 0, 0, 0, 0, true⟩,
  ⟨0x4010, 0, 0, 0, 0, 0x7FFFF, 0, true⟩,
  ⟨0x4014, 0x41C, 0x71F, 0, 0, 0, 0, false⟩,
  ⟨0x4018, 0, 0, 0x3FFF, 0, 0, 0, false⟩,
  ⟨0x401C, 0, 0xFFFFFFFF, 0, 0, 0, 0, false⟩,
  ⟨0x4020, 0x582FCAA0, 0, 0, 0, 0, 0, false⟩,
  ⟨0x4024, 0, 0, 0, 0, 0, 0, false⟩,
  ⟨0x4040, 0x77777777, 0, 0, 0, 0, 0, false⟩,
  ⟨0x4044, 0x77777777, 0, 0, 0, 0, 0, false⟩,
  ⟨0x4048, 0x77777777, 0, 0, 0, 0, 0, false⟩,
  ⟨0x404C, 0x77777777, 0, 0, 0, 0, 0, false⟩,
  ⟨0x4050, 0x77777777, 0, 0, 0, 0, 0, false⟩,
  ⟨0x4054, 0x77777777, 0, 0, 0, 0, 0, false⟩,
  ⟨0x4058, 0x77777777, 0, 0, 0, 0, 0, false⟩,
  ⟨0x405C, 0x77777777, 0, 0, 0, 0, 0, false⟩,
  ⟨0x4100, 0x1003000, 0x1FFF303, 0, 0, 0, 0, true⟩,
  ⟨0x4104, 0, 0x3F, 0, 0, 0, 0, true⟩,
  ⟨0x4108, 0, 0x3FF0FFF, 0, 0, 0, 0, true⟩,
  ⟨0x410C, 0x2000800, 0x3FF0FFF, 0, 0, 0, 0, true⟩,
  ⟨0x4110, 1, 0x3F, 0, 0, 0, 0, true⟩,
  ⟨0x4114, 0x20000000, 0xFFFFFFFF, 0, 0, 0, 0, true⟩,
  ⟨0x4118, 0, 0xFFFFFFFF, 0, 0, 0, 0, true⟩,
  ⟨0x411C, 0, 0xFFFFFFFF, 0, 0, 0, 0, true⟩,
  ⟨0x4120, 0, 0xFFFFFFFF, 0, 0, 0, 0, true⟩,
  ⟨0x4124, 0, 0xFFFF0000, 0, 0, 0, 0, true⟩,
  ⟨0x4128, 0, 0xFFF0FFF, 0, 0, 0, 0, true⟩,
  ⟨0x412C, 0, 0xFFF0FFF, 0, 0, 0, 0, true⟩,
  ⟨0x4130, 0, 0xFFF0FFF, 0, 0, 0, 0, true⟩,
  ⟨0x4134, 0, 0, 0, 0, 0, 0, false⟩,
  ⟨0x4138, 0, 0, 0, 0, 0, 0, false⟩,
  ⟨0x413C, 0xCB188726, 0, 0, 0, 0, 0, false⟩,
  ⟨0x4180, 0x1003000, 0x1FFF303, 0, 0, 0, 0, true⟩,
  ⟨0x4184, 0, 0x3F, 0, 0, 0, 0, true⟩,
  ⟨0x4188, 0, 0x3FF0FFF, 0, 0, 0, 0, true⟩,
  ⟨0x418C, 0x2000800, 0x3FF0FFF, 0, 0, 0, 0, true⟩,
  ⟨0x4190, 1, 0x3F, 0, 0, 0, 0, true⟩,
  ⟨0x4194, 0x20000000, 0xFFFFFFFF, 0, 0, 0, 0, true⟩,
  ⟨0x4198, 0, 0xFFFFFFFF, 0, 0, 0, 0, true⟩,
  ⟨0x419C, 0, 0xFFFFFFFF, 0, 0, 0, 0, true⟩,
  ⟨0x41A0, 0, 0xFFFFFFFF, 0, 0, 0, 0, true⟩,
  ⟨0x41A4, 0, 0xFFFF0000, 0, 0, 0, 0, true⟩,
  ⟨0x41A8, 0, 0xFFF0FFF, 0, 0, 0, 0, true⟩,
  ⟨0x41AC, 0, 0xFFF0FFF, 0, 0, 0, 0, true⟩,
  ⟨0x41B0, 0, 0xFFF0FFF, 0, 0, 0, 0, true⟩,
  ⟨0x41B4, 0, 0, 0, 0, 0, 0, false⟩]

/-- Registers of the LYR window (R149). -/
def regRowsLyr1 : List RegRow := [
  ⟨0x41B8, 0, 0, 0, 0, 0, 0, false⟩,
  ⟨0x41BC, 0xCB188726, 0, 0, 0, 0, 0, false⟩,
  ⟨0x4200, 0x1000000, 0x1FF0003, 0, 0, 0, 0, true⟩,
  ⟨0x4204, 0, 0, 0, 0, 0, 0, false⟩,
  ⟨0x4210, 0x1000000, 0x1FF0003, 0, 0, 0, 0, true⟩,
  ⟨0x4214, 0, 0, 0, 0, 0, 0, false⟩,
  ⟨0x4220, 0x1000000, 0x1FF0003, 0, 0, 0, 0, true⟩,
  ⟨0x4224, 0, 0, 0, 0, 0, 0, false⟩,
  ⟨0x4230, 0x1000000, 0x1FF0003, 0, 0, 0, 0, true⟩,
  ⟨0x4234, 0, 0, 0, 0, 0, 0, false⟩]

/-- Registers of the OBJ window (R184). -/
def regRowsObj : List RegRow := [
  ⟨0x5000, 0x321, 0xFFFFFFFD, 0, 0, 0, 0, true⟩,
  ⟨0x5004, 0, 0xFFFFFFFF, 0, 0, 0, 0, true⟩,
  ⟨0x5008, 0, 0, 0, 0, 0, 0, false⟩,
  ⟨0x500C, 0, 0, 0, 0, 0, 0, false⟩,
  ⟨0x5010, 0, 0, 0, 0, 0, 0, false⟩,
  ⟨0x5014, 0, 0, 0, 0, 0, 0, false⟩,
  ⟨0x5018, 0, 0, 0xFE, 0, 0, 0, false⟩,
  ⟨0x501C, 0, 0, 0, 0, 0, 0, false⟩,
  ⟨0x5020, 0, 0xFFFFFFFF, 0, 0, 0, 0, false⟩,
  ⟨0x5024, 0, 0xFFFF0000, 0, 0, 0, 0, false⟩,
  ⟨0x5028, 0, 0, 0, 0, 0, 0, false⟩,
  ⟨0x502C, 0, 0xFF, 0, 0, 0, 0, false⟩,
  ⟨0x5030, 0x80008000, 0, 0, 0, 0, 0, false⟩,
  ⟨0x5034, 0, 0, 0, 0, 0, 0, false⟩,
  ⟨0x5038, 0, 0, 0, 0, 0, 0, false⟩,
  ⟨0x5040, 0, 0, 0, 0, 0, 0, false⟩,
  ⟨0x5044, 0, 0, 0, 0, 0, 0, false⟩,
  ⟨0x5048, 0, 0, 0, 0, 0, 0, false⟩,
  ⟨0x504C, 0, 0, 0, 0, 0, 0, false⟩,
  ⟨0x5050, 0, 0, 0, 0, 0, 0, false⟩,
  ⟨0x5054, 0, 0, 0, 0, 0, 0, false⟩,
  ⟨0x5058, 0, 0, 0, 0, 0, 0, false⟩,
  ⟨0x505C, 0, 0, 0, 0, 0, 0, false⟩,
  ⟨0x5060, 0, 0, 0, 0, 0, 0, false⟩,
  ⟨0x5064, 0, 0, 0, 0, 0, 0, false⟩,
  ⟨0x5068, 0, 0, 0, 0, 0, 0, false⟩,
  ⟨0x506C, 0, 0, 0, 0, 0, 0, false⟩,
  ⟨0x5070, 0, 0, 0, 0, 0, 0, false⟩,
  ⟨0x5074, 0, 0, 0, 0, 0, 0, false⟩,
  ⟨0x5078, 0, 0, 0, 0, 0, 0, false⟩,
  ⟨0x507C, 0, 0, 0, 0, 0, 0, false⟩,
  ⟨0x5080, 0, 0, 0, 0, 0, 0, false⟩,
  ⟨0x5084, 0, 0, 0, 0, 0, 0, false⟩,
  ⟨0x5088, 0, 0, 0, 0, 0, 0, false⟩,
  ⟨0x508C, 0, 0, 0, 0, 0, 0, false⟩,
  ⟨0x5090, 0, 0, 0, 0, 0, 0, false⟩,
  ⟨0x5094, 0, 0, 0, 0, 0, 0, false⟩,
  ⟨0x5098, 0, 0, 0, 0, 0, 0, false⟩,
  ⟨0x509C, 0, 0, 0, 0, 0, 0, false⟩]

/-- Registers of the DRV window (R109). -/
def regRowsDrv : List RegRow := [
  ⟨0x6000, 0x4000, 0xF000, 0, 0, 0x100, 0, true⟩,
  ⟨0x6004, 0x258, 0x3FF, 0, 0, 0, 0, true⟩,
  ⟨0x6008, 0x61012C, 0xFF03FF, 0, 0, 0, 0, true⟩,
  ⟨0x600C, 0x80008000, 0, 0, 0, 0, 0, false⟩,
  ⟨0x6010, 0, 0, 0, 0, 0, 0, false⟩,
  ⟨0x6014, 0, 0, 0, 0, 0, 0, false⟩,
  ⟨0x6018, 0x80008000, 0, 0, 0, 0, 0, false⟩,
  ⟨0x601C, 0x80008000, 0, 0, 0, 0, 0, false⟩,
  ⟨0x6020, 0x140145, 0xFF01FF, 0, 0, 0, 0, true⟩,
  ⟨0x6024, 0, 0, 0, 0, 0, 0, false⟩,
  ⟨0x6028, 1, 1, 0, 2, 0, 0, false⟩,
  ⟨0x602C, 0x800000, 0, 0x80000000, 0, 0, 0, false⟩,
  ⟨0x6030, 0, 0, 0, 0, 0, 0, false⟩,
  ⟨0x6034, 0, 0, 0, 0, 0, 0, false⟩,
  ⟨0x6038, 0, 0, 0, 0, 0, 0, false⟩,
  ⟨0x603C, 0, 0, 0, 0, 0, 0, false⟩,
  ⟨0x6040, 0x1101, 0x3F3F3F, 0, 0, 0, 0, true⟩,
  ⟨0x6044, 0x10, 0, 0, 0, 0, 0, false⟩,
  ⟨0x6048, 0, 0, 0, 0, 0, 0, false⟩,
  ⟨0x604C, 0, 0, 0, 0, 0, 0, false⟩,
  ⟨0x6050, 0, 0, 0x1FC, 0, 0, 0, false⟩,
  ⟨0x6054, 0, 0xFFFFFFFF, 0, 0, 0, 0, false⟩,
  ⟨0x6058, 0, 0, 0, 0, 0, 0, false⟩,
  ⟨0x605C, 0x8000, 0, 0, 0, 0, 0, false⟩,
  ⟨0x6060, 0, 0, 0, 0, 0, 0, false⟩]

/-- Registers of the DIA window (R223). -/
def regRowsDia : List RegRow := [
  ⟨0x7000, 0x4003, 0x7F10, 0, 0, 3, 0, false⟩,
  ⟨0x7004, 0, 0, 0x1FE, 0, 0, 0, false⟩,
  ⟨0x7008, 0, 0, 0, 0, 0, 0, false⟩,
  ⟨0x700C, 0x50028, 0, 0, 0, 0x1F01FF, 0, false⟩,
  ⟨0x7010, 0, 0, 0, 0, 0, 0, false⟩,
  ⟨0x7014, 0, 0, 0, 0, 0, 0, false⟩,
  ⟨0x7018, 0, 0, 0, 0, 0, 0, false⟩,
  ⟨0x701C, 0, 0xFFFFFFFF, 0, 0, 0, 0, false⟩,
  ⟨0x7020, 0, 0xFFFFFFFF, 0, 0, 0, 0, false⟩,
  ⟨0x7024, 0, 0, 0, 0, 0, 0, false⟩,
  ⟨0x7028, 0, 0, 0, 0, 0, 0, false⟩,
  ⟨0x702C, 0, 0, 0, 0, 0, 0, false⟩,
  ⟨0x7030, 0, 0x1FF07FF, 0, 0, 0, 0, false⟩,
  ⟨0x7034, 0, 0, 0, 0, 0, 0, false⟩,
  ⟨0x7038, 0, 0, 0, 0, 0, 0, false⟩,
  ⟨0x7080, 0, 0, 0, 0, 0x8FF03F3F, 2, false⟩,
  ⟨0x7084, 0, 0, 0, 0, 0xFFFF, 2, false⟩,
  ⟨0x7088, 0, 0, 0, 0, 0x8FF03F3F, 2, false⟩,
  ⟨0x708C, 0, 0, 0, 0, 0xFFFF, 2, false⟩,
  ⟨0x7090, 0, 0, 0, 0, 0x8FF03F3F, 2, false⟩,
  ⟨0x7094, 0, 0, 0, 0, 0xFFFF, 2, false⟩,
  ⟨0x7098, 0, 0, 0, 0, 0x8FF03F3F, 2, false⟩,
  ⟨0x709C, 0, 0, 0, 0, 0xFFFF, 2, false⟩,
  ⟨0x70A0, 0, 0, 0, 0, 0x8FF03F3F, 2, false⟩,
  ⟨0x70A4, 0, 0, 0, 0, 0xFFFF, 2, false⟩,
  ⟨0x70A8, 0, 0, 0, 0, 0x8FF03F3F, 2, false⟩,
  ⟨0x70AC, 0, 0, 0, 0, 0xFFFF, 2, false⟩,
  ⟨0x70B0, 0, 0, 0, 0, 0x8FF03F3F, 2, false⟩,
  ⟨0x70B4, 0, 0, 0, 0, 0xFFFF, 2, false⟩,
  ⟨0x70B8, 0, 0, 0, 0, 0x8FF03F3F, 2, false⟩,
  ⟨0x70BC, 0, 0, 0, 0, 0xFFFF, 2, false⟩]

/-- Registers of the SAF window (R258). -/
def regRowsSaf0 : List RegRow := [
  ⟨0x8000, 0x20300, 0, 0, 0, 0, 0, false⟩,
  ⟨0x8004, 0, 0xFFFF0000, 0, 0, 0, 0, false⟩,
  ⟨0x8008, 0, 0, 0, 0, 0, 0, false⟩,
  ⟨0x800C, 0xC800C8, 0, 0, 0, 0x3FF03FF, 2, false⟩,
  ⟨0x8010, 0x50032, 0, 0, 0, 0x1F03FF, 2, false⟩,
  ⟨0x8014, 0x16AA5, 0, 0, 0, 0x3FFFF, 2, false⟩,
  ⟨0x8018, 0x3203E8, 0, 0, 0, 0x81FF03FF, 2, false⟩,
  ⟨0x801C, 0, 0, 0x9FFF, 0, 0, 0, false⟩,
  ⟨0x8020, 0, 0, 0, 0, 0, 0, false⟩,
  ⟨0x8024, 0, 0, 0, 0, 0, 0, false⟩,
  ⟨0x8028, 0, 0, 0, 0, 0, 0, false⟩,
  ⟨0x802C, 0, 0, 0, 0, 0, 0, false⟩,
  ⟨0x8030, 0, 0xFFFF0000, 0, 0, 0, 0, false⟩,
  ⟨0x8034, 0, 0, 0, 0, 0, 0, false⟩,
  ⟨0x8038, 0, 0, 0, 0, 0, 0, false⟩,
  ⟨0x8100, 0x7FF0000, 0, 0, 0, 0xC7FF07FF, 2, true⟩,
  ⟨0x8104, 0x1FF0000, 0, 0, 0, 0x1FF01FF, 2, true⟩,
  ⟨0x8108, 0xFFFF, 0, 0, 0, 0xFFFF, 2, true⟩,
  ⟨0x8110, 0x7FF0000, 0, 0, 0, 0xC7FF07FF, 2, true⟩,
  ⟨0x8114, 0x1FF0000, 0, 0, 0, 0x1FF01FF, 2, true⟩,
  ⟨0x8118, 0xFFFF, 0, 0, 0, 0xFFFF, 2, true⟩,
  ⟨0x8120, 0x7FF0000, 0, 0, 0, 0xC7FF07FF, 2, true⟩,
  ⟨0x8124, 0x1FF0000, 0, 0, 0, 0x1FF01FF, 2, true⟩,
  ⟨0x8128, 0xFFFF, 0, 0, 0, 0xFFFF, 2, true⟩,
  ⟨0x8130, 0x7FF0000, 0, 0, 0, 0xC7FF07FF, 2, true⟩,
  ⟨0x8134, 0x1FF0000, 0, 0, 0, 0x1FF01FF, 2, true⟩,
  ⟨0x8138, 0xFFFF, 0, 0, 0, 0xFFFF, 2, true⟩,
  ⟨0x8140, 0x7FF0000, 0, 0, 0, 0xC7FF07FF, 2, true⟩,
  ⟨0x8144, 0x1FF0000, 0, 0, 0, 0x1FF01FF, 2, true⟩,
  ⟨0x8148, 0xFFFF, 0, 0, 0, 0xFFFF, 2, true⟩,
  ⟨0x8150, 0x7FF0000, 0, 0, 0, 0xC7FF07FF, 2, true⟩,
  ⟨0x8154, 0x1FF0000, 0, 0, 0, 0x1FF01FF, 2, true⟩,
  ⟨0x8158, 0xFFFF, 0, 0, 0, 0xFFFF, 2, true⟩,
  ⟨0x8160, 0x7FF0000, 0, 0, 0, 0xC7FF07FF, 2, true⟩,
  ⟨0x8164, 0x1FF0000, 0, 0, 0, 0x1FF01FF, 2, true⟩,
  ⟨0x8168, 0xFFFF, 0, 0, 0, 0xFFFF, 2, true⟩,
  ⟨0x8170, 0x7FF0000, 0, 0, 0, 0xC7FF07FF, 2, true⟩,
  ⟨0x8174, 0x1FF0000, 0, 0, 0, 0x1FF01FF, 2, true⟩,
  ⟨0x8178, 0xFFFF, 0, 0, 0, 0xFFFF, 2, true⟩,
  ⟨0x8180, 0x7FF0000, 0, 0, 0, 0xC7FF07FF, 2, true⟩,
  ⟨0x8184, 0x1FF0000, 0, 0, 0, 0x1FF01FF, 2, true⟩,
  ⟨0x8188, 0xFFFF, 0, 0, 0, 0xFFFF, 2, true⟩,
  ⟨0x8190, 0x7FF0000, 0, 0, 0, 0xC7FF07FF, 2, true⟩,
  ⟨0x8194, 0x1FF0000, 0, 0, 0, 0x1FF01FF, 2, true⟩,
  ⟨0x8198, 0xFFFF, 0, 0, 0, 0xFFFF, 2, true⟩,
  ⟨0x81A0, 0x7FF0000, 0, 0, 0, 0xC7FF07FF, 2, true⟩,
  ⟨0x81A4, 0x1FF0000, 0, 0, 0, 0x1FF01FF, 2, true⟩,
  ⟨0x81A8, 0xFFFF, 0, 0, 0, 0xFFFF, 2, true⟩]

/-- Registers of the SAF window (R258). -/
def regRowsSaf1 : List RegRow := [
  ⟨0x81B0, 0x7FF0000, 0, 0, 0, 0xC7FF07FF, 2, true⟩,
  ⟨0x81B4, 0x1FF0000, 0, 0, 0, 0x1FF01FF, 2, true⟩,
  ⟨0x81B8, 0xFFFF, 0, 0, 0, 0xFFFF, 2, true⟩,
  ⟨0x81C0, 0x7FF0000, 0, 0, 0, 0xC7FF07FF, 2, true⟩,
  ⟨0x81C4, 0x1FF0000, 0, 0, 0, 0x1FF01FF, 2, true⟩,
  ⟨0x81C8, 0xFFFF, 0, 0, 0, 0xFFFF, 2, true⟩,
  ⟨0x81D0, 0x7FF0000, 0, 0, 0, 0xC7FF07FF, 2, true⟩,
  ⟨0x81D4, 0x1FF0000, 0, 0, 0, 0x1FF01FF, 2, true⟩,
  ⟨0x81D8, 0xFFFF, 0, 0, 0, 0xFFFF, 2, true⟩,
  ⟨0x81E0, 0x7FF0000, 0, 0, 0, 0xC7FF07FF, 2, true⟩,
  ⟨0x81E4, 0x1FF0000, 0, 0, 0, 0x1FF01FF, 2, true⟩,
  ⟨0x81E8, 0xFFFF, 0, 0, 0, 0xFFFF, 2, true⟩,
  ⟨0x81F0, 0x7FF0000, 0, 0, 0, 0xC7FF07FF, 2, true⟩,
  ⟨0x81F4, 0x1FF0000, 0, 0, 0, 0x1FF01FF, 2, true⟩,
  ⟨0x81F8, 0xFFFF, 0, 0, 0, 0xFFFF, 2, true⟩]

/-- Registers of the HLV window (R291). -/
def regRowsHlv : List RegRow := [
  ⟨0x9000, 0x32, 0x73, 0, 0, 0, 0, false⟩,
  ⟨0x9004, 0, 0, 0, 0, 0, 0, false⟩,
  ⟨0x9008, 0, 0xFFFE0000, 0, 0, 0, 0, false⟩,
  ⟨0x900C, 0, 0xFFFE0000, 0, 0, 0, 0, false⟩,
  ⟨0x9010, 0, 0, 0, 0, 0, 0, false⟩,
  ⟨0x9014, 0, 0, 0, 0, 0, 0, false⟩,
  ⟨0x9018, 0, 0, 0, 0, 0, 0, false⟩,
  ⟨0x901C, 0, 0xFFFFFFFF, 0, 0, 0, 0, false⟩,
  ⟨0x9020, 0, 0, 0, 0, 0, 0, false⟩,
  ⟨0x9024, 0, 0, 0, 0, 0, 0, false⟩,
  ⟨0x9028, 0, 0xFFFFFFFF, 0, 0, 0, 0, false⟩,
  ⟨0x902C, 0, 0, 0, 0, 0, 0, false⟩,
  ⟨0x9030, 0, 0, 0, 0, 0, 0, false⟩,
  ⟨0x9034, 0, 0, 0xFF, 0, 0, 0, false⟩]

/-- Registers of the CHK window (R379). -/
def regRowsChk : List RegRow := [
  ⟨0xA000, 0, 0x33, 0, 0, 0, 0, false⟩,
  ⟨0xA004, 0xFFFFFFFF, 0xFFFFFFFF, 0, 0, 0, 0, false⟩,
  ⟨0xA008, 0xFFFFFFFF, 0xFFFFFFFF, 0, 0, 0, 0, false⟩,
  ⟨0xA00C, 0, 0, 0, 0, 0, 0, false⟩,
  ⟨0xA010, 0, 0xFFFFFFFF, 0, 0, 0, 0, false⟩,
  ⟨0xA014, 0, 0, 0, 0, 0, 0, false⟩,
  ⟨0xA020, 0, 0x33, 0, 0, 0, 0, false⟩,
  ⟨0xA024, 0xFFFFFFFF, 0xFFFFFFFF, 0, 0, 0, 0, false⟩,
  ⟨0xA028, 0xFFFFFFFF, 0xFFFFFFFF, 0, 0, 0, 0, false⟩,
  ⟨0xA02C, 0, 0, 0, 0, 0, 0, false⟩,
  ⟨0xA030, 0, 0xFFFFFFFF, 0, 0, 0, 0, false⟩,
  ⟨0xA034, 0, 0, 0, 0, 0, 0, false⟩,
  ⟨0xA040, 0, 0x33, 0, 0, 0, 0, false⟩,
  ⟨0xA044, 0xFFFFFFFF, 0xFFFFFFFF, 0, 0, 0, 0, false⟩,
  ⟨0xA048, 0xFFFFFFFF, 0xFFFFFFFF, 0, 0, 0, 0, false⟩,
  ⟨0xA04C, 0, 0, 0, 0, 0, 0, false⟩,
  ⟨0xA050, 0, 0xFFFFFFFF, 0, 0, 0, 0, false⟩,
  ⟨0xA054, 0, 0, 0, 0, 0, 0, false⟩,
  ⟨0xA060, 0, 0x33, 0, 0, 0, 0, false⟩,
  ⟨0xA064, 0xFFFFFFFF, 0xFFFFFFFF, 0, 0, 0, 0, false⟩,
  ⟨0xA068, 0xFFFFFFFF, 0xFFFFFFFF, 0, 0, 0, 0, false⟩,
  ⟨0xA06C, 0, 0, 0, 0, 0, 0, false⟩,
  ⟨0xA070, 0, 0xFFFFFFFF, 0, 0, 0, 0, false⟩,
  ⟨0xA074, 0, 0, 0, 0, 0, 0, false⟩]

/-- Registers of the SNP window (R380). -/
def regRowsSnp : List RegRow := [
  ⟨0xB000, 0, 0x1FF07, 0, 0, 0, 0, false⟩,
  ⟨0xB004, 0, 0xFFFF, 0, 0, 0, 0, false⟩,
  ⟨0xB008, 0, 0, 0, 0, 0, 0, false⟩,
  ⟨0xB00C, 0, 0, 0, 0, 0, 0, false⟩,
  ⟨0xB010, 0, 0, 0, 0, 0, 0, false⟩,
  ⟨0xB014, 0, 0, 0, 0, 0, 0, false⟩,
  ⟨0xB018, 0, 0xFFFFFFFF, 0, 0, 0, 0, false⟩]

/-- Registers of the PWR window (R411). -/
def regRowsPwr0 : List RegRow := [
  ⟨0xC000, 0, 0, 0, 0, 0, 0, false⟩,
  ⟨0xC004, 0, 0, 0x7F, 0, 0, 0, false⟩,
  ⟨0xC008, 0x3C0000, 0xFFFFFFFF, 0, 0, 0, 1, false⟩,
  ⟨0xC00C, 0x258, 0xFFFF, 0, 0, 0, 1, false⟩,
  ⟨0xC010, 0, 0, 0, 0, 0, 0, false⟩,
  ⟨0xC014, 0, 0xFFFFFFFF, 0, 0, 0, 0, false⟩,
  ⟨0xC018, 0, 0xFFFFFFFF, 0, 0, 0, 0, false⟩,
  ⟨0xC01C, 0, 0xFFFFFFFF, 0, 0, 0, 0, false⟩,
  ⟨0xC020, 0x174, 0x113FF, 0, 0, 0, 1, false⟩,
  ⟨0xC024, 0xFFFFFFFF, 0xFFFFFFFF, 0, 0, 0, 1, false⟩,
  ⟨0xC028, 0, 0, 0, 0, 0, 0, false⟩,
  ⟨0xC02C, 0, 0, 0, 0, 0, 0, false⟩,
  ⟨0xC030, 0xFFFF, 0xFFFFFFFF, 0, 0, 0, 1, false⟩,
  ⟨0xC034, 0x11940122, 0x1FF, 0, 0, 0, 0, false⟩,
  ⟨0xC038, 0, 0xFFFF0000, 0, 0, 0, 0, false⟩,
  ⟨0xC03C, 0, 0, 0, 0, 0, 1, false⟩,
  ⟨0xC040, 0, 0, 0, 0, 0, 1, false⟩,
  ⟨0xC044, 0, 0, 0, 0, 0, 1, false⟩,
  ⟨0xC048, 0, 0, 0, 0, 0, 0, false⟩,
  ⟨0xC04C, 0, 0, 0, 0, 0, 2, false⟩,
  ⟨0xC050, 1, 0, 0, 0, 0, 0, false⟩,
  ⟨0xC080, 0, 0, 0, 0, 0, 1, false⟩,
  ⟨0xC084, 0, 0, 0, 0, 0, 1, false⟩,
  ⟨0xC088, 0, 0, 0, 0, 0, 1, false⟩,
  ⟨0xC08C, 0, 0, 0, 0, 0, 1, false⟩,
  ⟨0xC090, 0, 0, 0, 0, 0, 1, false⟩,
  ⟨0xC094, 0, 0, 0, 0, 0, 1, false⟩,
  ⟨0xC098, 0, 0, 0, 0, 0, 1, false⟩,
  ⟨0xC09C, 0, 0, 0, 0, 0, 1, false⟩,
  ⟨0xC0A0, 0, 0, 0, 0, 0, 1, false⟩,
  ⟨0xC0A4, 0, 0, 0, 0, 0, 1, false⟩,
  ⟨0xC0A8, 0, 0, 0, 0, 0, 1, false⟩,
  ⟨0xC0AC, 0, 0, 0, 0, 0, 1, false⟩,
  ⟨0xC0B0, 0, 0, 0, 0, 0, 1, false⟩,
  ⟨0xC0B4, 0, 0, 0, 0, 0, 1, false⟩,
  ⟨0xC0B8, 0, 0, 0, 0, 0, 1, false⟩,
  ⟨0xC0BC, 0, 0, 0, 0, 0, 1, false⟩,
  ⟨0xC0C0, 0, 0, 0, 0, 0, 1, false⟩,
  ⟨0xC0C4, 0, 0, 0, 0, 0, 1, false⟩,
  ⟨0xC0C8, 0, 0, 0, 0, 0, 1, false⟩,
  ⟨0xC0CC, 0, 0, 0, 0, 0, 1, false⟩,
  ⟨0xC0D0, 0, 0, 0, 0, 0, 1, false⟩,
  ⟨0xC0D4, 0, 0, 0, 0, 0, 1, false⟩,
  ⟨0xC0D8, 0, 0, 0, 0, 0, 1, false⟩,
  ⟨0xC0DC, 0, 0, 0, 0, 0, 1, false⟩,
  ⟨0xC0E0, 0, 0, 0, 0, 0, 1, false⟩,
  ⟨0xC0E4, 0, 0, 0, 0, 0, 1, false⟩,
  ⟨0xC0E8, 0, 0, 0, 0, 0, 1, false⟩]

/-- Registers of the PWR window (R411). -/
def regRowsPwr1 : List RegRow := [
  ⟨0xC0EC, 0, 0, 0, 0, 0, 1, false⟩,
  ⟨0xC0F0, 0, 0, 0, 0, 0, 1, false⟩,
  ⟨0xC0F4, 0, 0, 0, 0, 0, 1, false⟩,
  ⟨0xC0F8, 0, 0, 0, 0, 0, 1, false⟩,
  ⟨0xC0FC, 0, 0, 0, 0, 0, 1, false⟩]

/-- Registers of the THM window (R427). -/
def regRowsThm : List RegRow := [
  ⟨0xD000, 0, 1, 0, 0, 0, 0, false⟩,
  ⟨0xD004, 2, 0, 0xF00, 0, 0, 0, false⟩,
  ⟨0xD008, 0xFF0000, 0, 0, 0, 0, 0, false⟩,
  ⟨0xD00C, 0x8000, 0, 0, 0, 0, 0, false⟩,
  ⟨0xD010, 0x190064, 0, 0, 0, 0x7F00FF, 2, false⟩,
  ⟨0xD014, 0x320091, 0, 0, 0, 0xFF00FF, 2, false⟩,
  ⟨0xD018, 0xFFFF0000, 0, 0, 0, 0, 0, false⟩,
  ⟨0xD020, 0x10000, 0, 0, 0, 0, 0, false⟩,
  ⟨0xD024, 0x10000, 0, 0, 0, 0, 0, false⟩,
  ⟨0xD028, 0x10000, 0, 0, 0, 0, 0, false⟩,
  ⟨0xD02C, 0x10000, 0, 0, 0, 0, 0, false⟩,
  ⟨0xD030, 0x10000, 0, 0, 0, 0, 0, false⟩,
  ⟨0xD034, 0x10000, 0, 0, 0, 0, 0, false⟩,
  ⟨0xD038, 0x10000, 0, 0, 0, 0, 0, false⟩,
  ⟨0xD03C, 0x10000, 0, 0, 0, 0, 0, false⟩,
  ⟨0xD040, 0xD6B4083, 0, 0, 0, 0xDFFFFFFF, 2, false⟩,
  ⟨0xD044, 0x32190064, 0, 0, 0, 0xFF7F00FF, 2, false⟩,
  ⟨0xD048, 0, 0, 0, 0, 0, 0, false⟩,
  ⟨0xD04C, 0, 0, 0, 0, 0, 0, false⟩,
  ⟨0xD050, 0xD6B4083, 0, 0, 0, 0xDFFFFFFF, 2, false⟩,
  ⟨0xD054, 0x32190064, 0, 0, 0, 0xFF7F00FF, 2, false⟩,
  ⟨0xD058, 0, 0, 0, 0, 0, 0, false⟩,
  ⟨0xD05C, 0, 0, 0, 0, 0, 0, false⟩,
  ⟨0xD060, 0xD6B4083, 0, 0, 0, 0xDFFFFFFF, 2, false⟩,
  ⟨0xD064, 0x32190064, 0, 0, 0, 0xFF7F00FF, 2, false⟩,
  ⟨0xD068, 0, 0, 0, 0, 0, 0, false⟩,
  ⟨0xD06C, 0, 0, 0, 0, 0, 0, false⟩,
  ⟨0xD070, 0xD6B4083, 0, 0, 0, 0xDFFFFFFF, 2, false⟩,
  ⟨0xD074, 0x32190064, 0, 0, 0, 0xFF7F00FF, 2, false⟩,
  ⟨0xD078, 0, 0, 0, 0, 0, 0, false⟩,
  ⟨0xD07C, 0, 0, 0, 0, 0, 0, false⟩,
  ⟨0xD080, 0, 0xFFFFFFFF, 0, 0, 0, 1, false⟩,
  ⟨0xD084, 0x8000, 0xFFFF, 0, 0, 0, 0, false⟩,
  ⟨0xD088, 0, 0, 0, 0, 0, 1, false⟩]

/-- Registers of the NVM window (R460). -/
def regRowsNvm : List RegRow := [
  ⟨0xE000, 0, 0, 0x380, 0, 0, 0, false⟩,
  ⟨0xE004, 0, 0, 0, 0, 0, 0, false⟩,
  ⟨0xE008, 0, 0xFFFFFFFF, 0, 0, 0, 0, false⟩,
  ⟨0xE00C, 0, 0, 0, 0, 0, 0, false⟩,
  ⟨0xE010, 0, 0, 0, 0, 0, 0, false⟩,
  ⟨0xE014, 0, 0, 0, 0, 0, 0, false⟩,
  ⟨0xE018, 0, 0, 0, 0, 0, 0, false⟩,
  ⟨0xE01C, 0, 0, 0, 0, 0, 0, false⟩,
  ⟨0xE020, 0, 0, 0, 0, 0, 0, false⟩,
  ⟨0xE024, 0, 0, 0, 0, 0, 2, false⟩]

/-- Every register word of the part. -/
def regRows : List RegRow :=
  regRowsSys ++ regRowsRng ++ regRowsCmd ++ regRowsTck ++ regRowsLyr0 ++
  regRowsLyr1 ++ regRowsObj ++ regRowsDrv ++ regRowsDia ++ regRowsSaf0 ++
  regRowsSaf1 ++ regRowsHlv ++ regRowsChk ++ regRowsSnp ++ regRowsPwr0 ++
  regRowsPwr1 ++ regRowsThm ++ regRowsNvm

end Sys2Proof.Machine
end

