-- ==== Sys2Proof/Machine/Sparse.lean ====
section
/-! DEFINITION. Sparse memories in ONE canonical form: a list of (key, value) pairs with strictly
rising keys and no entry equal to the default `d`, which is what an unlisted key reads as. The
register file, the image store, the eNVM and the in-pixel words are all held this way. -/

namespace Sys2Proof.Machine

/-- A sparse memory of `w`-bit cells. -/
abbrev Mem (w : Nat) := List (Nat × BitVec w)

/-- What a cell reads as; `d` where nothing is listed. -/
def Mem.read (d : BitVec w) : Mem w → Nat → BitVec w
  | [], _ => d
  | (b, v) :: t, a => if a = b then v else Mem.read d t a

/-- Put an entry in, keeping the keys rising. -/
def Mem.put (a : Nat) (v : BitVec w) : Mem w → Mem w
  | [] => [(a, v)]
  | (b, u) :: t =>
    if a < b then (a, v) :: (b, u) :: t
    else if a = b then (a, v) :: t
    else (b, u) :: Mem.put a v t

/-- Write a cell; writing the default removes the entry. -/
def Mem.write (d : BitVec w) (m : Mem w) (a : Nat) (v : BitVec w) : Mem w :=
  if v = d then m.filter (fun e => !(e.1 == a)) else Mem.put a v m

/-- The entries of a run of values from address `a`, defaults left out. -/
def Mem.entries (d : BitVec w) : Nat → List (BitVec w) → Mem w
  | _, [] => []
  | a, v :: t => if v = d then Mem.entries d (a + 1) t else (a, v) :: Mem.entries d (a + 1) t

/-- Write a run of cells from address `a`. -/
def Mem.writeRun (d : BitVec w) (m : Mem w) (a : Nat) (vs : List (BitVec w)) : Mem w :=
  m.filter (fun e => decide (e.1 < a)) ++ Mem.entries d a vs ++
    m.filter (fun e => decide (a + vs.length ≤ e.1))

/-- Erase a run of cells to the default. -/
def Mem.eraseRun (m : Mem w) (a n : Nat) : Mem w :=
  m.filter (fun e => !(decide (a ≤ e.1) && decide (e.1 < a + n)))

/-- Read a run of `n` cells from address `a`. -/
def Mem.readRun (d : BitVec w) (m : Mem w) (a n : Nat) : List (BitVec w) :=
  (natsFrom a n).map (Mem.read d m)

/-- The keys rise strictly and no entry is the default. -/
def Mem.wf (d : BitVec w) : Mem w → Bool
  | [] => true
  | [(_, v)] => !(v == d)
  | (a, v) :: (b, u) :: t => decide (a < b) && !(v == d) && Mem.wf d ((b, u) :: t)

end Sys2Proof.Machine
end

