-- ==== Sys2Proof/Machine/State.lean ====
section
/-! DEFINITION. The state of the block: plain data, everything the spec gives the part. Registers stand
in `regs`; what a register shows of a unit's own state is computed from the typed fields below
(`Machine/Live.lean`). -/

namespace Sys2Proof.Machine

/-- Why the block stops with a fault. No meaning answers one: every command of this part has an effect
or is answered with a status of R347 (safe: nothing is hidden behind it). -/
inductive Fault where
  /-- Raised by no command. It stands here because an outcome needs a fault type. Safe. -/
  | none
deriving DecidableEq, Repr

/-- Why the model has no meaning for a command. -/
inductive Refusal where
  /-- Raised by the dispatch alone, for a command whose meaning is not written yet. Safe. -/
  | notModelled (mnemonic : String)
deriving DecidableEq, Repr

/-! ### Command front end (CMD, R329 to R363) -/

/-- A packet accepted at reception and not yet executed (R335, R338); TIME, TCK_FRAME and ROW at its acceptance
(R61, R338). -/
structure QEntry where
  type : Nat
  op : Nat
  rq : Req
  time : Nat
  frame : Nat
  row : Nat
deriving DecidableEq, Repr

/-- A command in flight whose final reply is still to come (R337, R341). `long` marks a long-running
command. -/
structure Job where
  seq : Nat
  op : Nat
  rq : Req
  long : Bool
  key : Nat
  /-- The final reply's body as far as it is known at the start. -/
  fin : List Byte
  /-- Executed again after a switch-over: OK becomes DONE_REPLAYED (R284). -/
  replayed : Bool
deriving DecidableEq, Repr

/-- STATE of a journal entry (R282). -/
inductive JState where
  | queued
  | executing
  | done
deriving DecidableEq, Repr

/-- A journal entry (R282). `sent` is REPLY_SENT: the reply has been transmitted, or the command has none; `pkt` and
`reply` are the packet SRAM slots of the request and of the reply, 0xFFFF for none. -/
structure JEntry where
  seq : Nat
  state : JState
  op : Nat
  rq : Req
  idemp : Bool
  sent : Bool
  pkt : Nat
  progress : Nat
  frame : Nat
  row : Nat
  reply : Nat
  time : Nat
deriving DecidableEq, Repr

/-- Which of R334's classes an outgoing packet belongs to, in order of priority. -/
inductive OutKind where
  | beacon
  | stopReply
  | reply
  | event
deriving DecidableEq, Repr

/-- A packet of the engine that waits to be sent (R334, R341, R351). `seq` is the journal entry it answers. -/
structure OutPkt where
  port : Port
  kind : OutKind
  type : Nat
  stream : Nat
  final : Bool
  op : Nat
  tag : Nat
  alive : Nat
  payload : List Byte
  seq : Option Nat
deriving DecidableEq, Repr

structure CmdSt where
  /-- Packets accepted and not yet executed: the command queue (type 0) and what was handed on (R338). -/
  inbox : List QEntry := []
  /-- The opcode and the payload length of the command whose body runs: it holds its queue entry until its reply is
  built (R337), and its reply's space (R339). -/
  cur : Option (Nat × Nat) := none
  /-- Commands in flight that keep their queue entry until their final reply (R337). -/
  jobs : List Job := []
  /-- The journal, at most 128 entries; a DONE entry whose reply has been sent stays until its place is reused (R282). -/
  journal : List JEntry := []
  /-- The next journal SEQ. -/
  seq : Nat := 0
  /-- The reply and event buffer (R336). -/
  out : List OutPkt := []
  /-- Codes raised in this period (R352). -/
  raised : List Nat := []
  /-- Occurrences not sent, per code (R351). -/
  suppressed : List (Nat × Nat) := []
  /-- Start of the window that stands for a period while the tick is stopped (R352). -/
  window : Nat := 0
  /-- Event sequence numbers of the ring and of SPI (R352). -/
  evSeqRing : Nat := 0
  evSeqSpi : Nat := 0
  /-- Events lost since EVT_LOST was last raised: count and lowest code (R352). -/
  lost : Nat := 0
  lostCode : Nat := 0
  /-- TIME of the last valid master packet, and its stream (R350). -/
  masterTime : Nat := 0
  masterStream : Nat := 0
  /-- Port status bits of R356. -/
  lastPutOk : Bool := false
  resetSeen : Bool := true
deriving DecidableEq, Repr

/-! ### Frame tick and configuration sets (TCK, R40 to R76) -/

/-- The items of a configuration set: register items by address, and table items (coefficient tables
and animation tables) by their number. -/
structure CfgSet where
  regs : Mem 32 := []
  tabs : List (Nat × List Nat) := []
deriving DecidableEq, Repr

/-- A sampled set that waits for its tick (R53, R56, R61). -/
structure Sampled where
  applyAt : Nat
  items : List (Nat × Word)
  tabs : List (Nat × List Nat)
  id : Nat
  herd : Bool
deriving DecidableEq, Repr

/-- A pending HERD target (R61, R62). `late`: F was missed at the arrival. -/
structure HerdTarget where
  f : Nat
  applyAt : Nat
  id : Nat
  snap : Bool
  late : Bool
deriving DecidableEq, Repr

/-- A HERD with SET_FRAME that waits (R63): ticks left before the one numbered `f`. -/
structure SetFrame where
  ticks : Nat
  f : Nat
  id : Nat
  snap : Bool
deriving DecidableEq, Repr

/-- A flip whose stamps wait for the first image of a newly applied set (R69). -/
structure FlipWait where
  frame : Nat
  id : Nat
  herd : Bool
  /-- Its COMMIT came before IDLE was last left by a service request (R454). -/
  old : Bool
deriving DecidableEq, Repr

/-- What a sampling of the pending set in this period would have taken at the cut-off (R61). -/
structure CutSet where
  items : List (Nat × Word)
  tabs : List (Nat × List Nat)
deriving DecidableEq, Repr

structure TckSt where
  /-- The row slot in progress, 512 in blanking (R41). -/
  row : Nat := 0
  /-- A first tick was made since the device reset (R68). -/
  started : Bool := false
  frame : Nat := 0
  tickTime : Nat := 0
  flipTime : Nat := 0
  mofs : Int := 0
  mofsValid : Bool := false
  /-- Addresses and table numbers written since the pending set was last sampled (R51, R56). -/
  dirty : List Nat := []
  dirtyTabs : List Nat := []
  /-- Pending table items (R51). -/
  tabs : List (Nat × List Nat) := []
  sets : List Sampled := []
  herd : Option HerdTarget := none
  setFrame : Option SetFrame := none
  /-- The pending set as it stood at the cut-off of this period (R61). -/
  cut : Option CutSet := none
  flip : Option FlipWait := none
  /-- C(k), the set in force (R16, R51). -/
  act : CfgSet := {}
  /-- A phase correction to make at the next tick or the one after: ticks left, 10 ns units (R65). -/
  corr : Option (Nat × Rat) := none
  /-- The last ALIGN_TICK HERD (R65, R66): TIME of its arrival; the phase error as last known in 10 ns units, and the instant of
  the tick that had it. -/
  alignTime : Option Nat := none
  alignErr : Rat := 0
  alignAt : Rat := 0
  alignRun : Nat := 0
  /-- TICK_IN: last edge, edges in range in a row, last measured period (R47). -/
  tickInEdge : Option Nat := none
  tickInRun : Nat := 0
  tickInPeriod : Nat := 0
  /-- An edge pull of the phase (R47). -/
  pull : Rat := 0
  /-- The last tick applied a set holding an item (R388). -/
  itemsApplied : Bool := false
  /-- The tick runs (ACTIVE and HOLD, R45). -/
  running : Bool := false
  /-- The exact instant of the last tick in 10 ns units; one planned otherwise than by the period in force (R31, R45). -/
  exact : Rat := 0
  planned : Option Rat := none
  /-- The period in progress is the first on the core PLL: it runs at 60 Hz (R399). -/
  sixty : Bool := false
deriving DecidableEq, Repr

/-! ### Halves (HLV, R265 to R295) -/

/-- A source line of a video layer in a half's line-buffer pool (R125, R126, R265): its entries, one a pixel, each with its
parity in bit 48. -/
structure PoolLine where
  layer : Nat
  line : Nat
  entries : List Nat
deriving DecidableEq, Repr

structure HalfSt where
  /-- Self-test slices passed since PROVING was entered, and full rounds since the half's reset (R268, R292). -/
  slices : Nat := 0
  rounds : Nat := 0
  /-- TIME at which BOOT started (R267). -/
  bootTime : Nat := 0
  /-- TIME of the last service of its watchdog that is known (R265). -/
  served : Nat := 0
  /-- The firmware slot whose image its local RAM holds; none while it boots, and once a test has marched the RAM
  (R265, R453). -/
  ram : Option Nat := none
  /-- What its local RAM of 256 KiB holds of that image, by address; an unlisted byte is 0xFF (R265, R267). -/
  image : Mem 8 := []
  /-- Its line-buffer pool of 49,152 entries: the source lines that the row it composed or recomputed last reads (R265). -/
  pool : List PoolLine := []
  /-- 32 compared images in a row have matched since PROVING was entered (R268). -/
  matched : Bool := false
deriving DecidableEq, Repr

/-- An abdication whose takeover has not come (R275, R276): the half, its cause, its frame, the
takeover tick if the other half was GOOD. -/
structure Abdicated where
  half : Half
  cause : Nat
  frame : Nat
  tick : Option Nat
  sampled : Bool
deriving DecidableEq, Repr

/-- A planned exchange of the roles (R287, R288): its tick; the half to reset after it. -/
structure Exchange where
  tick : Nat
  resetHalf : Option Half
  slot : Nat
deriving DecidableEq, Repr

/-- The quick self-test of R279: due in the blanking of the named period; then what the halves A and B
showed, until the tick decides (R280). -/
structure QuickTest where
  frame : Nat
  result : Option (Bool × Bool)
deriving DecidableEq, Repr

structure HlvSt where
  halfA : HalfSt := {}
  halfB : HalfSt := {}
  /-- An active half exists (R270, R278). -/
  active : Bool := false
  /-- Halves that have left BOOT with their CRC passed while no half is active (R270, R278). -/
  ready : List Half := []
  /-- No half has become active since the device reset: PREF goes first (R270). -/
  firstBoot : Bool := true
  abdicated : Option Abdicated := none
  exchange : Option Exchange := none
  quick : Option QuickTest := none
  /-- The first image of a new active half has not been shown (R277, R295). -/
  showNew : Bool := false
  /-- An image was composed in the last period, and a half that has not abdicated since composed all of it:
  it is to be grazed (R271, R272). -/
  grazeDue : Bool := false
  /-- The row-CRC table of the image to be grazed (R271). -/
  rowCrcs : List Nat := []
  /-- The self-test slice of this period has run (R273). -/
  sliceRun : Bool := false
  /-- HOLD_LIMIT has acted in this switch-over (R277). -/
  limit : Bool := false
  /-- Single-bit errors corrected, per bank (R36). -/
  corrected : List (Nat × Nat) := []
deriving DecidableEq, Repr

/-! ### Check values and snapshots (CHK, SNP, R364 to R385) -/

/-- A CHK_RUN in progress (R367). -/
structure ChkRun where
  source : Nat
  addr : Nat
  length : Nat
  fed : Nat
deriving DecidableEq, Repr

structure ChkEng where
  run : Option ChkRun := none
  /-- The POLY that made the running value (R365). -/
  poly : Nat := 0
deriving DecidableEq, Repr

/-- The snapshot store (R373). -/
structure Snapshot where
  id : Nat
  src : Nat
  frame : Nat
  row : Nat
  time : Nat
  srcId : Nat
  words : Mem 32
deriving DecidableEq, Repr

structure SnpSt where
  store : Option Snapshot := none
  /-- TIME of the engine's last pull of SNAP_IO, low for 1.0 µs (R376). -/
  pull : Option Nat := none
deriving DecidableEq, Repr

/-! ### Layers (LYR), objects (OBJ), drive (DRV), diagnosis (DIA): see below -/

/-- The optics map (R162 to R165): the grid and its nodes in 1/16 pixel; X = −32,768 marks an invalid node. -/
structure OpticsMap where
  azMin : Int
  azStep : Nat
  elMax : Int
  elStep : Nat
  nodes : List (Int × Int)
  crc : Nat
deriving DecidableEq, Repr

/-! ### Safe stop and the safety configuration (SAF, R229 to R264) -/

/-- What a fade is (R235, R236, R240). -/
inductive FadeKind where
  | class1
  | class2
  | switchOff
deriving DecidableEq, Repr

/-- A fade in progress: the TIME of the reaction, its length, the TIME of its end (earlier than t0 + dur only
under R424), its currents in mA, and whether the fallback image is shown yet (R236). -/
structure Fade where
  kind : FadeKind
  t0 : Nat
  dur : Nat
  stop : Nat
  iStart : Nat
  iSafe : Nat
  fbShown : Bool
deriving DecidableEq, Repr

/-- A copy of the safety record (R252): its sequence number, the SEQ of the last stored change it
includes, the stored registers, the password and the optics map. -/
structure SafeRec where
  seq : Nat
  logSeq : Nat
  regs : List (Nat × Word)
  password : List Byte
  map : Option OpticsMap
deriving DecidableEq, Repr

/-- A record copy: what it holds and whether it is valid (R442). -/
structure SafeCopy where
  valid : Bool
  data : SafeRec
deriving DecidableEq, Repr

structure SafSt where
  /-- The fault sources that are active (R243). -/
  active : List Nat := []
  fade : Option Fade := none
  /-- SAFE_HOLD was entered by a stop: FAULT_N is low (R229). -/
  byStop : Bool := false
  /-- Filtered stop-pin levels: true is released (R241). -/
  pinA : Bool := true
  pinB : Bool := true
  /-- TIME at which a discrepancy of the pins began (R242). -/
  discStart : Option Nat := none
  /-- The array's segment switches stand closed (R229; isolated segments apart). -/
  switches : Bool := false
  /-- The switches wait for the undervoltage warning to arm (R232). -/
  awaitArm : Bool := false
  /-- The fallback source is to be selected, or released, at the next tick (R236, R232). -/
  fbSelect : Bool := false
  fbRelease : Bool := false
  /-- The fallback source stays selected until the flip of the next COMMIT (R454). -/
  fbUntilFlip : Bool := false
  /-- The tick of the exit that asked for it is still to come. -/
  fbExit : Bool := false
  /-- TIME of the last accepted unlock or safety change (R253). -/
  unlockTime : Nat := 0
  /-- A SAFE_LOCK waits for the storing of a change to end (R261). -/
  lockPending : Bool := false
  password : List Byte := List.replicate 8 0
  copyA : SafeCopy := ⟨true, ⟨1, 0, [], List.replicate 8 0, none⟩⟩
  copyB : SafeCopy := ⟨true, ⟨1, 0, [], List.replicate 8 0, none⟩⟩
  /-- The change-log entries, 32 bytes each, in order (R255). -/
  log : List (List Byte) := []
  /-- Entries asked for so far, those whose append is not done among them (R254, R441). -/
  logNext : Nat := 0
  /-- SEQ of the last entry of a change that writes a stored parameter (R254). -/
  logStored : Nat := 0
  /-- A ceiling violation was found in the image being written: its first pixel (R247). -/
  viol : Option (Nat × Nat) := none
deriving DecidableEq, Repr

/-! ### eNVM (NVM, R438 to R468) -/

/-- A copy of the self-test record (R451). -/
structure BistRec where
  valid : Bool
  seq : Nat
  type : Nat
  step : Nat
  stepsEnd : Nat
  origin : Nat
  minutes : Nat
  faults : List (List Byte)
  spares : Nat
  bankBad : Nat
  /-- Valid repair entries: bank, spare, row (R452). -/
  repair : List (Nat × Nat × Nat)
deriving DecidableEq, Repr

/-- A lifetime-counter record (R444). -/
structure LifeRec where
  seq : Nat
  minutes : Nat
  c : Nat
  boots : Nat
  shutdowns : Nat
deriving DecidableEq, Repr

/-- A firmware slot (R445 to R448). -/
structure FwSlot where
  valid : Bool
  act : Nat
  major : Nat
  minor : Nat
  build : Nat
  /-- A FW_STAGE fill is open: the highest offset written plus 1. -/
  staging : Option Nat
deriving DecidableEq, Repr

/-- A copy of the failed-pixel map in eNVM (R219, R221). -/
structure MapCopy where
  valid : Bool
  seq : Nat
  pixels : List Nat
  /-- The map as it stood when the marker page was programmed last: RCRC is of these bytes (R441, R442). -/
  marked : List Nat
deriving DecidableEq, Repr

/-- What an eNVM operation writes (R441). -/
inductive NvmKind where
  /-- Change-log entries, appended (R255). -/
  | append (entries : List (List Byte))
  /-- One copy of the safety record (R252). -/
  | record (copy : Nat) (data : SafeRec)
  /-- A page of a copy of the failed-pixel map; page 31 completes it (R219, R220). -/
  | map (copy page : Nat) (seq : Nat) (pixels : List Nat)
  /-- One copy of the factor table (R102, R440): its SEQ, f_opt and f_el by tile. -/
  | factor (copy seq : Nat) (fopt fel : Mem 16)
  /-- A page of the user area or of the fallback region (R462). -/
  | page (addr : Nat) (data : List Byte)
  /-- An erase of such a page. -/
  | erase (addr : Nat)
  /-- The marker of the fallback pattern (R462). -/
  | marker
  /-- A page of a firmware slot (R447). -/
  | fw (slot : Nat) (page : Nat) (data : List Byte)
  /-- The first page of a slot with an activation number; 0 marks it invalid (R447, R448). -/
  | fwAct (slot act : Nat)
  /-- A lifetime-counter record (R444). -/
  | life (data : LifeRec)
  /-- A page of a copy of the self-test record; page 3 completes it (R451). -/
  | bist (copy page : Nat) (data : BistRec)
deriving DecidableEq, Repr

/-- An eNVM operation, the journal SEQ of the command that asked for it (from 0x10000 on, a change that no command made), and whether its first attempt
has failed (R443). -/
structure NvmOp where
  kind : NvmKind
  owner : Option Nat
  retry : Bool
deriving DecidableEq, Repr

structure NvmSt where
  /-- The operation in progress and those that wait, in order of request (R441). -/
  ops : List NvmOp := []
  /-- The operation at the head runs (R441); THERM_SD holds back one that has not started (R425). -/
  started : Bool := false
  /-- Commands of which an operation has been completed (R425). -/
  touched : List Nat := []
  /-- The operation in progress is suspended since this TIME (R443). -/
  suspended : Option Nat := none
  /-- The cause that held operations or a self-test has cleared: they go on at this TIME (R407, R443). -/
  resumeAt : Option Nat := none
  /-- The record that a shut-down test had opened was torn as it was written (R455). -/
  recTorn : Bool := false
  /-- Owners whose operation failed (R443). -/
  failed : List Nat := []
  /-- Bytes of the firmware slots and the user area; an unlisted byte is erased (0xFF). -/
  bytes : Mem 8 := []
  /-- Firmware pages programmed since delivery. -/
  fwPages : List Nat := []
  /-- Bytes of the fallback-pattern region; an unlisted byte is 0x00. -/
  fb : Mem 8 := []
  /-- The fallback pattern's marker is valid (R442, R462). -/
  fbValid : Bool := true
  /-- The marker of the fallback pattern, if its last page carries one: its SEQ, and the data as of its program (R441). -/
  fbMark : Option (Nat × Mem 8) := some (1, [])
  /-- Pages that fail their PCRC: torn, or failed twice; each with the draw of its free bytes (R442, R443). -/
  badPages : List (Nat × Nat) := []
  slotA : FwSlot := ⟨true, 1, 0, 0, 0, none⟩
  slotB : FwSlot := ⟨true, 0, 0, 0, 0, none⟩
  mapA : MapCopy := ⟨true, 1, [], []⟩
  mapB : MapCopy := ⟨true, 0, [], []⟩
  /-- The factor table, f_opt and f_el by tile; an unlisted tile is 1.0 (R96). -/
  fopt : Mem 16 := []
  fel : Mem 16 := []
  /-- Which of the two factor-table copies is the newer, what the older one holds, and whether each is valid (R442). -/
  factorCopy : Nat := 0
  foptOld : Mem 16 := []
  felOld : Mem 16 := []
  factorOk : Bool := true
  factorOldOk : Bool := true
  /-- SEQ of the newer and of the older copy. -/
  factorSeq : Nat := 1
  factorOldSeq : Nat := 0
  life : LifeRec := ⟨0, 0, 0x800000, 0, 0⟩
  /-- Older lifetime-counter records whose pages still stand in the ring, the newest first (R444). -/
  lifeRing : List LifeRec := []
  /-- A valid record stands in the ring (R438, R444). -/
  lifeOk : Bool := true
  /-- Device resets and completed shut-down self-tests counted so far, as the next record takes them (R444). -/
  boots : Nat := 0
  shutdowns : Nat := 0
  /-- A record that is written after first light: its copy and the record (R454, R456). -/
  quickRec : Option (Nat × BistRec) := none
  /-- Bytes of a FW_STAGE fill that wait for their page to be covered, by address in the slots (R447). -/
  fwBuf : List (Nat × Byte) := []
  bistA : BistRec := ⟨true, 1, 0, 16, 16, 0, 0, [], 0, 0, []⟩
  bistB : BistRec := ⟨true, 0, 0, 16, 16, 0, 0, [], 0, 0, []⟩
  /-- The record each page of the copies was last programmed with, by 4 × copy + page; an unlisted page is that of its
  copy's record. -/
  bistPages : List (Nat × BistRec) := []
  /-- Faults found in this run (R460). -/
  testFound : Nat := 0
  /-- TIME at which the run was asked for (R458). -/
  testAsked : Nat := 0
  /-- The running test: its record as it grows, and the steps still to run (R450, R456, R457). -/
  test : Option BistRec := none
  /-- The spare rows in use: bank, spare, row (R452). -/
  repair : List (Nat × Nat × Nat) := []
  /-- The copy the run opened (R450). -/
  testCopy : Nat := 0
  /-- The step in progress; the run is to end after it (R454, R457). -/
  stepNow : Nat := 0
  testAbort : Bool := false
  /-- The run is over and its record is being written: the final status (R450, R454, R457). -/
  testEnd : Option Nat := none
deriving DecidableEq, Repr
/-! ### Layers (LYR, R113 to R158) -/

/-- A defined buffer descriptor (R140, R141). `st`: 0 FREE, 1 FILLING, 2 COMPLETE, 3 SCANNING, 4 RETIRING. -/
structure BufDesc where
  kind : Nat
  fmt : Nat
  addr : Nat
  w : Nat
  h : Nat
  stride : Nat
  st : Nat
  /-- The stream that sent START, and the data bytes counted in the fill. -/
  stream : Nat
  filled : Nat
  release : Bool
  /-- The lost mark of R402. -/
  lost : Bool
deriving DecidableEq, Repr

/-- An allocated symbol (R128, R129). `st`: 1 FILLING, 2 COMPLETE; `addr` in 64-byte units of the store. -/
structure SymDesc where
  st : Nat
  fmt : Nat
  w : Nat
  h : Nat
  addr : Nat
  stream : Nat
  filled : Nat
deriving DecidableEq, Repr

/-- A video layer in force (R144, R145): its set, whether that set shows a buffer, the wait and the fade. -/
structure VLayer where
  regs : Mem 32 := []
  tabs : List (Nat × List Nat) := []
  showing : Bool := false
  waiting : Bool := false
  misses : Nat := 0
  fade : Option Nat := none
deriving DecidableEq, Repr

/-- A graphic layer's animation (R130, R131, R132): ticks since its table was applied, the table in force
and the one active at the previous tick, empty where the layer was not enabled then; whether it was enabled at the last
tick; the entries whose SYMBOL_MISSING has been raised. -/
structure GLayer where
  n : Nat := 0
  table : List Nat := []
  prev : List Nat := []
  on : Bool := false
  missed : List Nat := []
deriving DecidableEq, Repr

structure LyrSt where
  /-- Bytes of banks 5 to 31 by address; an unlisted byte reads 0. -/
  store : Mem 8 := []
  bufs : List (Nat × BufDesc) := []
  syms : List (Nat × SymDesc) := []
  /-- The sample of the COMPLETE symbols for the image being composed (R132). -/
  symSample : List (Nat × SymDesc) := []
  v : Vector VLayer 2 := #v[{}, {}]
  g : Vector GLayer 4 := #v[{}, {}, {}, {}]
  /-- The tone curve in force, and one loaded that waits for the next tick (R139); `none` is the identity. -/
  tone : Option (List Nat) := none
  toneNext : Option (Option (List Nat)) := none
  /-- The pattern slots that copies of the fallback copy run into, in order of acceptance (R135). -/
  copies : List Nat := []
  /-- A HALF reset has come since the last tick: LYR_Vn_STAT reads its reset value (R11). -/
  statReset : Bool := false
deriving DecidableEq, Repr

/-! ### Drive (DRV, R77 to R112) -/

/-- What an image was composed and written with. -/
structure ImgInfo where
  /-- S, the sum of R91. -/
  s : Nat := 0
  gp : Nat := 0x8000
  /-- I_b of its set, in mA (R93). -/
  ib : Nat := 6000
  /-- D, c and F_img built into it (R88, R95, R23). -/
  d : Nat := 0x8000
  c : Nat := 0x800000
  f : Nat := 0x8000
  /-- The CRC-32 of each row (R107). -/
  rowCrc : List Nat := []
  /-- The CRC-32C of each row leaving stage 3 (R271). -/
  rowIn : List Nat := []
  /-- The entries its enabled graphic layers draw, by layer (R390). -/
  anim : List (List Nat) := []
deriving DecidableEq, Repr

/-- A FLUX_CAL in progress (R101): mode 0 when `sweeps` counts. -/
structure FluxCal where
  seq : Nat
  supplied : Bool
  store : Bool
  repeats : Nat
  first : Nat
  count : Nat
  done : Nat
  applied : Nat
  clipped : Nat
  unmeasured : Nat
deriving DecidableEq, Repr

structure DrvSt where
  /-- The pixel words by y × 2,048 + x; an unlisted word is 0x0000 (R81). -/
  front : Mem 16 := []
  back : Mem 16 := []
  /-- Rows of the image in progress that stand in the back words; its row 0 has entered (R80). -/
  rows : Nat := 0
  begun : Bool := false
  written : Bool := false
  /-- The image in composition, its running signature, and the image on show. -/
  comp : ImgInfo := {}
  sig : Nat := 0xFFFFFFFF
  shown : ImgInfo := {}
  /-- The row CRCs of R271 of the image composed before (R388). -/
  prevIn : List Nat := []
  /-- The swap at the end of this period is suppressed (R28, R31, R275). -/
  noSwap : Bool := false
  /-- Bytes of the SRAM fallback copy (banks 2 and 3), loaded from eNVM; an unlisted byte is 0. -/
  fb : Mem 8 := []
  /-- f_opt and f_el by tile in the SRAM, and those that take effect at the next tick (R96, R101). -/
  fopt : Mem 16 := []
  fel : Mem 16 := []
  foptNext : Option (Mem 16) := none
  felNext : Option (Mem 16) := none
  /-- The first pixels of the gain words driven dark in this image (R36). -/
  dark : List Nat := []
  /-- RESTART is due at the next tick (R100). -/
  restart : Bool := false
  /-- The cells charged in this period exchange at the tick (R105). -/
  cells : Bool := false
  /-- Frames since the last refresh (R104). -/
  sinceRefresh : Nat := 0
  /-- G_p and G_c were both 1.0 in the last image (R94); the last flux target was bounded (R100). -/
  govLow : Bool := false
  fluxLow : Bool := false
  cal : Option FluxCal := none
  /-- Normalised currents measured of the tile in progress: pixel, value (R101). -/
  calMeas : List (Nat × Nat) := []
  /-- Rows read back in HOLD so far, of 32 groups (R107). -/
  readback : Nat := 0
  /-- Both copies of the tile table failed at the boot, and the pages of g_fact that failed (R438). -/
  tileBad : Bool := false
  gainBad : List Nat := []
  /-- PHASE_DIS in force (R86, R109). -/
  phaseDis : Bool := false
deriving DecidableEq, Repr

/-! ### Objects (OBJ, R159 to R192) -/

/-- An occupied slot (R168): its body as stored (R185), the TIME at which its last update started to execute
(R161), and whether an update came since the last sample (R170). -/
structure ObjSlot where
  body : List Byte
  exec : Nat
  updated : Bool
deriving DecidableEq, Repr

/-- A slot as sampled and placed (R169 to R175). Lengths in angle are in 1/256 degree, `m` in 1/4,096
degree, the centre in 1/16 pixel; `inv` is J⁻¹ and `scale` s. `box` is the box of R175: x0, x1, y0, y1. -/
structure ObjPlaced where
  slot : Nat
  body : List Byte
  age : Nat
  stale : Bool
  updated : Bool
  offMap : Bool
  cx : Int
  cy : Int
  m : Nat
  inv : Rat × Rat × Rat × Rat
  scale : Rat
  box : Option (Nat × Nat × Nat × Nat)
deriving DecidableEq, Repr

/-- A sample of all slots, OBJ_CTRL and the geometry (R178). -/
structure ObjSample where
  objs : List ObjPlaced := []
  en : Bool := true
  bend : Int := 0
  pitch : Int := 0
deriving DecidableEq, Repr

/-- A staged entry of OBJ_BULK (R181): KIND, slot, its bytes, and T_MEAS for a MOVE. -/
structure BulkEntry where
  kind : Nat
  slot : Nat
  bytes : List Byte
  tMeas : Nat
deriving DecidableEq, Repr

/-- What the active half composed an image from: the set, the layers in force, the symbol sample, the tone curve, the slot BASE
showed and the object sample. Grazing recomputes the image from the same (R142, R178, R271). -/
structure ComposeInputs where
  act : CfgSet := {}
  v : Vector VLayer 2 := #v[{}, {}]
  g : Vector GLayer 4 := #v[{}, {}, {}, {}]
  sym : List (Nat × SymDesc) := []
  tone : Option (List Nat) := none
  base : Nat := 7
  objs : ObjSample := {}
deriving DecidableEq, Repr

structure ObjSt where
  slots : List (Nat × ObjSlot) := []
  /-- The staging: BULK_ID and the entries. -/
  bulk : Option (Nat × List BulkEntry) := none
  map : Option OpticsMap := none
  /-- The sample taken last, the one of the image being composed, and that of the last image composed. -/
  next : ObjSample := {}
  cur : ObjSample := {}
  last : ObjSample := {}
  /-- Slots and rows filled under R177 in the image being composed, and of the last image. -/
  fillRows : Nat := 0
  filled : List Nat := []
  lastFilled : List Nat := []
  /-- The inputs of the last image composed, and of the image to be grazed (R271). -/
  lastIn : ComposeInputs := {}
  grazeIn : ComposeInputs := {}
  /-- A HALF reset has come since the last image was composed, and since the last sample: what OBJ shows of them reads its reset
  value (R11). -/
  lastReset : Bool := false
  rdReset : Bool := false
  /-- A sample has been taken since the last tick (R178). -/
  taken : Bool := false
deriving DecidableEq, Repr

/-! ### Diagnosis (DIA, R193 to R228) -/

/-- An entry of the fault list (R222); `ord` is its order of entry. -/
structure FaultEntry where
  x : Nat
  y : Nat
  cls : Nat
  st : Nat
  test : Nat
  nb : Nat
  reading : Nat
  first : Nat
  conf : Nat
  ord : Nat
deriving DecidableEq, Repr

/-- A map save in progress (R220): the copy it writes, its sequence number, the map as it stood at the start,
the NEW count it took, the commands that asked for it; `own`: the engine asked for it too (R425). -/
structure MapSave where
  copy : Nat
  seq : Nat
  pixels : List Nat
  newBits : Nat
  owners : List Nat
  own : Bool
deriving DecidableEq, Repr

structure DiaSt where
  /-- The failed-pixel map (R219) as rising pixel indices y × 2,048 + x: as it stands, as the image being
  composed uses it (R210), and as the image on show used it. -/
  map : List Nat := []
  mapComp : List Nat := []
  mapShown : List Nat := []
  /-- The fault list by position (R222), and the order of the next entry. -/
  faults : List (Nat × FaultEntry) := []
  nextOrd : Nat := 0
  /-- Pixels with one DRIFT result and its frame, and pixels with two or more in a row (R209). -/
  drift1 : List (Nat × Nat) := []
  drift2 : List Nat := []
  /-- In this frame of the sweep: Pass and DRIFT results that wait for the pixel's other test (result, test, reading), pixels
  decided, pixels that had their dark test and their lit test, pixels whose dark test was deferred (R199, R201, R209). -/
  wait : List (Nat × Nat × Nat × Nat) := []
  decided : List Nat := []
  darkDone : List Nat := []
  litDone : List Nat := []
  deferred : List Nat := []
  /-- Last readings by pixel: V_rest and V_dark; V_lit and I_lit. -/
  readV : List (Nat × Nat × Nat) := []
  readI : List (Nat × Nat × Nat) := []
  /-- Segments x × 16 + s that failed the check of this period, and those that failed that of the period before and have not been
  judged again, with their frame (R207); the check of this period has run. -/
  segFail : List (Nat × Nat) := []
  segPrev : List (Nat × Nat) := []
  segDone : Bool := false
  /-- Segments: to open at the next tick, isolated, and those of which a
  DIAG_CLEAR removed a bit, to close with the first image of the cleared map (R211). -/
  openNext : List Nat := []
  isolated : List Nat := []
  closeSegs : List Nat := []
  /-- Zones over their limit (R218). -/
  zonesOver : List Nat := []
  /-- A DIAG_RUN suspension, one that acts from the next tick, and a RESTART (R225). -/
  susp : Bool := false
  suspNext : Option Bool := none
  restart : Bool := false
  /-- Pixel tests run in this period, and the last unmet condition of R213 (0 to 5). -/
  running : Bool := false
  cause : Nat := 0
  /-- The slice planned for the image being composed, and for the image on show (R199, R213). -/
  plan : Nat := 0
  planShown : Option Nat := none
  /-- Counts of the sweep in progress (R225). -/
  litRun : Nat := 0
  darkRun : Nat := 0
  testedN : Nat := 0
  newSusp : Nat := 0
  confN : Nat := 0
  /-- Confirmed faults (pixel, class), drifts and drops of this frame, for its events (R228). -/
  confNow : List (Nat × Nat) := []
  driftNow : List Nat := []
  dropNow : Nat := 0
  /-- The map has changed since the last save; a save is asked for, by the commands listed, and by the engine itself where
  `saveOwn` says so; a save runs. -/
  changed : Bool := false
  saveReq : Option (List Nat) := none
  saveOwn : Bool := false
  save : Option MapSave := none
deriving DecidableEq, Repr


/-! ### Ring lanes (RNG, R296 to R328) and temperature (THM, R415 to R429) -/

structure RngSt where
  /-- The lane rate in force and the lanes the last SEEK may use (R306, R323). -/
  rate : Nat := 0
  laneEn : Nat := 0xF
  /-- The lane PLL is locked (R29, R31). -/
  pll : Bool := true
  /-- Transmit map version; the map to announce at the next marker, and the lanes that change their power state
  then, by lane (R301, R312, R317). -/
  txVer : Nat := 0
  txNext : Option Nat := none
  lpNext : List (Nat × Nat) := []
  /-- Map version last received from upstream (R301). -/
  rxVer : Nat := 0
  /-- Receive lanes to drop at the next marker by LANE_CTL DROP, and those it has dropped (R314, R324). -/
  dropNext : Nat := 0
  cmdDrop : Nat := 0
  /-- The LANE_NOTICE of a drop that is repeated until its map comes: its REASON (R312); the dropped lanes asked back with
  reason ADD (R314). -/
  notice : Option Nat := none
  addAsk : Nat := 0
  /-- The rate, the receive map and the transmit map that RNG_TRANSIT was measured with (R304). -/
  transitFor : Option (Nat × Nat × Nat) := none
  /-- TIME of the last valid block while none is received (R315). -/
  lastBlock : Option Nat := some 0
  /-- BREAK beacons sent in this silence (R327). -/
  beacons : Nat := 0
  /-- TIME of the last valid block before this silence, and of the last BREAK beacon (R315). -/
  silentFrom : Nat := 0
  beaconAt : Option Nat := none
  /-- TIME at which RUN was left, and at which the present attempt started (R307, R328). -/
  leftRun : Nat := 0
  attempt : Nat := 0
  /-- TIME at which TRAIN, LOCK or ALIGN was entered (R306). -/
  stateAt : Nat := 0
  /-- Dropped receive lanes that have been good since a TIME, by lane (R314). -/
  goodSince : List (Nat × Nat) := []
  /-- A FFE setting, PRE and POST, that acts from the next marker (R324). -/
  ffeNext : Option (Nat × Nat) := none
  /-- A test loop that starts: KIND and DURATION; the TIME at which the running one ends (R319). -/
  loopAsk : Option (Nat × Nat) := none
  loopEnd : Nat := 0
  /-- The bypass stood closed when the far-end loop began (R298, R319). -/
  loopClosed : Bool := false
  /-- A rate change (R324) and the switching off of all lanes (R318) that wait for their 1.0 ms; the TIMEs at which these and
  a loop that starts (R319) act. -/
  rateNext : Option Nat := none
  l2Next : Bool := false
  rateAt : Nat := 0
  l2At : Nat := 0
  loopAt : Nat := 0
  /-- The transit buffer of 16 KiB: packets that wait for a narrower transmit map, the oldest first (R305). -/
  transit : List (List Byte) := []
  /-- A_k of the last ENUM pass 1 the engine took part in (R320, R321). -/
  acc : Option Nat := none
deriving DecidableEq, Repr

structure ThmSt where
  /-- The fast cadence runs (R418); TIME since which its end conditions have held. -/
  fast : Bool := false
  cool : Option Nat := none
  /-- The band the readings so far lead to; THM_STATUS.BAND follows it at the tick (R420). -/
  band : Nat := 2
  /-- The last eight T_array readings with their TIME, the newest first (R423). -/
  hist : List (Nat × Int) := []
  /-- Rounds in a row in which a DIE sensor differed from the median, or agreed with it while excluded (R417). -/
  dieRun : Vector Nat 8 := Vector.replicate 8 0
  /-- Readings in a row not OK, or OK while in FAULT, of a remote channel (R416). -/
  tsRun : Vector Nat 4 := Vector.replicate 4 0
  /-- The last OK value of a remote channel, if it has had one (R416). -/
  tsLast : Vector (Option Int) 4 := Vector.replicate 4 none
  /-- The THERMAL hold: the mask of the sensors latched as valid at the trip (R426). -/
  trip : Option Nat := none
deriving DecidableEq, Repr

/-! ### Power, reset and clocks (PWR, SYS) -/

/-- The power states of R386. -/
inductive PwrState where
  | active
  | hold
  | idle
  | sleep
deriving DecidableEq, Repr

/-- The device reset kinds, in the order of their KIND codes (R430). -/
inductive ResetKind where
  | por
  | bor
  | pin
  | soft
  | wake
  | thermal
deriving DecidableEq, Repr

/-- Where the part stands between a device reset and its first tick (R431, R434). -/
inductive Phase where
  | inReset
  | boot
  | run
deriving DecidableEq, Repr

structure SysSt where
  phase : Phase := .inReset
  /-- The reset kinds that have acted since the last release (R432). -/
  causes : List ResetKind := [.por]
  /-- The reset in force ended SLEEP (R432). -/
  fromSleep : Bool := false
  /-- The next boot runs the quick test because RESET asked for it (R456, R467). -/
  quickAsked : Bool := false
  /-- TIME at which RESET_N fell (R410). -/
  pinLow : Option Nat := none
  /-- A SOFT reset is scheduled (R467). -/
  softAsked : Bool := false
  /-- TIME at which that reset is asserted. -/
  softAt : Nat := 0
  /-- BOOT_DONE has been raised since the release (R468), and the TIME of tick 0. -/
  bootDone : Bool := false
  tick0 : Option Nat := none
  /-- The start-up path of R138 runs: no set has been composed on the core PLL since the boot. -/
  startUp : Bool := true
deriving DecidableEq, Repr

/-- Who asked for an entry: a timer, or a PWR_STATE or SHUTDOWN in flight (R391, R395, R412, R449). -/
inductive EntryBy where
  | timer
  | command
  | shutdown
deriving DecidableEq, Repr

/-- A pending entry request: who made it, in which frame, and whether it has been counted as refused (R389, R395). -/
structure EntryReq where
  by_ : EntryBy
  frame : Nat
  refused : Bool
deriving DecidableEq, Repr

/-- A change of the clock source in progress (R399, R400). -/
structure ClkReq where
  toPll : Bool
  start : Nat
  /-- The core PLL locks on this attempt: a free value (notes/assumptions/5.md). -/
  locks : Bool
deriving DecidableEq, Repr

structure PwrSt where
  state : PwrState := .active
  /-- Unchanged images in a row (R388). -/
  unchanged : Nat := 0
  /-- TIME from which ELAPSED_S counts (R391), and the whole seconds it stood at then: a device reset that AON survives
  keeps it (R11, R411). -/
  elapsed0 : Nat := 0
  elapsedKept : Nat := 0
  /-- TIME at which the lamp came on, and the part of a lamp-on minute that had passed before (R405). -/
  lampFrom : Nat := 0
  lampPart : Nat := 0
  holdReq : Option EntryReq := none
  idleReq : Option EntryReq := none
  sleepReq : Option EntryReq := none
  /-- A cause of R390 waits for the next tick: the frame in which it arose. -/
  holdExit : Option Nat := none
  /-- A PWR_STATE asked to leave HOLD (R414). -/
  holdCmd : Bool := false
  /-- A cause that ends IDLE has come (R393), and it is a service request (R454); outside IDLE `service` says that an
  ENABLE of a service request goes ahead of the queue. -/
  idleExit : Bool := false
  service : Bool := false
  /-- A completed SHUTDOWN test has run since IDLE was last left (R449). -/
  tested : Bool := false
  /-- RING_L2 of the PWR_STATE that asked for IDLE (R412). -/
  ringL2 : Bool := false
  clk : Option ClkReq := none
  /-- VSUP and VLED_SENSE in mV as last measured, and WAKE_IN (R406, R408, R397). -/
  vsupMv : Nat := 0
  vledMv : Nat := 0
  wakeMv : Nat := 0
  /-- TIME of that measurement of VSUP. -/
  vsupAt : Nat := 0
  /-- A dip in progress: its start and lowest VSUP (R407); how long it had lasted when a reset made TIME start again. -/
  dip : Option (Nat × Nat) := none
  dipBefore : Nat := 0
  /-- The undervoltage warning: armed, active (R408); the overvoltage (R409). -/
  uvArmed : Bool := false
  uvActive : Bool := false
  ovActive : Bool := false
  /-- TIME at which VLED_EN last rose, and whether VLED_NO_RISE has been raised since (R232). -/
  vledOn : Nat := 0
  noRise : Bool := false
  /-- AON periods in the SLEEP in progress start from this TIME (R404). -/
  sleep0 : Nat := 0
  /-- No AON edge for 1 ms was found in this SLEEP (R404). -/
  lpoStopped : Bool := false
  roosterOut : Bool := false
  /-- The entry tick of the HOLD or IDLE entered last (R412). -/
  entryTick : Nat := 0
  /-- SLEEP entry (R396): 0 its first step waits, 1 the test and the saves run, 2 the 1.0 ms since `sleepTime` run. -/
  sleepStage : Nat := 0
  sleepTime : Nat := 0
  /-- PWR_RCRC0 to PWR_RCRC31 (R401). -/
  rcrc : List Nat := []
  /-- Banks that a self-test has marched or that lie unretained: LOST at the next IDLE exit (R401, R453). -/
  marched : Nat := 0
  /-- Banks that are LOST and not yet reloaded (R402). -/
  reload : Nat := 0
deriving DecidableEq, Repr

/-- The state of the block. -/
structure State where
  /-- The commands that wait, first in, first out. -/
  pending : List Instr := []
  /-- The model's own draw counter of the free values. -/
  fresh : Nat := 0
  /-- TIME, in units of 10 ns (R15, R70). -/
  time : Nat := 0
  /-- The register words that are not 0. -/
  regs : Mem 32 := []
  /-- High words latched by a read of their low word (R10, R371). -/
  latch : List (Nat × Word) := []
  cmd : CmdSt := {}
  tck : TckSt := {}
  hlv : HlvSt := {}
  chk : Vector ChkEng 4 := Vector.replicate 4 {}
  /-- The engine fed last (R367). -/
  chkTurn : Nat := 3
  snp : SnpSt := {}
  saf : SafSt := {}
  lyr : LyrSt := {}
  obj : ObjSt := {}
  dia : DiaSt := {}
  drv : DrvSt := {}
  nvm : NvmSt := {}
  rng : RngSt := {}
  thm : ThmSt := {}
  sys : SysSt := {}
  pwr : PwrSt := {}
  /-- The bytes last sent on the DN lanes, and last shifted out on SPI_SDO. -/
  dn : List Byte := []
  spiOut : List Byte := []
deriving DecidableEq, Repr

/-- The register words with their reset values (R11, R433). -/
def resetRegs : List RegRow → Mem 32
  | [] => []
  | r :: t =>
    if r.reset = 0 then resetRegs t else (r.addr, BitVec.ofNat 32 r.reset) :: resetRegs t

/-- The set items with their reset values: what is in force before the first set (R51). -/
def resetItems : Mem 32 := resetRegs (regRows.filter RegRow.item)

/-- The part right after a device reset has been asserted by power-on (R430, R431). -/
def State.reset : State := { regs := resetRegs regRows, tck := { act := { regs := resetItems } } }

end Sys2Proof.Machine
end

