-- ==== Sys2Proof/Machine/RegOps.lean ====
section
/-! DEFINITION. Stored register words and fields: reading, writing and counting them, in one place; the
configuration set in force; the draw of a free value. -/

namespace Sys2Proof.Machine

/-- The stored word of a register. -/
def State.reg (s : State) (a : Nat) : Word := Mem.read 0 s.regs a

/-- Store a register word. -/
def State.setReg (s : State) (a : Nat) (v : Word) : State := { s with regs := Mem.write 0 s.regs a v }

/-- A stored field. -/
def State.f (s : State) (x : Fld) : Nat := fieldOf (s.reg x.addr) x.hi x.lo

/-- A stored one-bit field. -/
def State.fb (s : State) (x : Fld) : Bool := s.f x == 1

/-- Store a field (a value too wide is cut to it). -/
def State.setF (s : State) (x : Fld) (v : Nat) : State :=
  s.setReg x.addr (withField (s.reg x.addr) x.hi x.lo v)

/-- Store a one-bit field. -/
def State.setB (s : State) (x : Fld) (v : Bool) : State := s.setF x (b2n v)

/-- The largest value of a field. -/
def Fld.top (x : Fld) : Nat := 2 ^ (x.hi + 1 - x.lo) - 1

/-- Add to a saturating counter field. -/
def State.addF (s : State) (x : Fld) (n : Nat) : State := s.setF x (satAdd x.top (s.f x) n)

/-- Count one in a saturating counter field. -/
def State.bump (s : State) (x : Fld) : State := s.addF x 1

/-- A field of the configuration set in force (R51). -/
def State.a (s : State) (x : Fld) : Nat := fieldOf (Mem.read 0 s.tck.act.regs x.addr) x.hi x.lo

/-- A one-bit field of the set in force. -/
def State.ab (s : State) (x : Fld) : Bool := s.a x == 1

/-- A table item of a set; `d` where the set lists none. -/
def tabOf (d : List Nat) (tabs : List (Nat × List Nat)) (k : Nat) : List Nat :=
  match tabs.find? (fun e => e.1 == k) with
  | some e => e.2
  | none => d

/-- A list of table items with one put in. -/
def tabSet (tabs : List (Nat × List Nat)) (k : Nat) (v : List Nat) : List (Nat × List Nat) :=
  (k, v) :: tabs.filter (fun e => !(e.1 == k))

/-- Take the next free value of a datum: nothing constrains it (notes/assumptions/5.md). -/
def State.draw (s : State) (tag : Nat) : Nat × State :=
  ((Config.freeValue tag s.fresh).toNat, { s with fresh := s.fresh + 1 })

/-- Everything but AON is off or held: a device reset, the THERMAL hold, SLEEP (R396, R426, R431). -/
def State.off (s : State) : Bool := s.sys.phase == .inReset || s.pwr.state == .sleep

/-- PIX, DRV and CTL run on FRC (R32). -/
def State.onFrc (s : State) : Bool := s.fb F.PWR_CLK_SEL

/-- The rate code in force (R40, R43, R399). -/
def State.rate (s : State) : Nat := if s.onFrc || s.tck.sixty then 0 else s.a F.TCK_CTRL_RATE

/-- R40: the nominal row slot in ns, by rate code. -/
def slotNs : Nat → Nat
  | 0 => 30000
  | 1 => 18000
  | 2 => 15000
  | 3 => 9000
  | _ => 7500

/-- R40: N_rep by rate code. -/
def nRep : Nat → Nat
  | 0 => 16
  | 1 => 10
  | 2 => 8
  | 3 => 5
  | _ => 4

/-- R40: frames per second by rate code. -/
def rateHz : Nat → Nat
  | 0 => 60
  | 1 => 100
  | 2 => 120
  | 3 => 200
  | _ => 240

/-- The nominal period at a rate in 10 ns units, rounded (R40). -/
def periodOf (rate : Nat) : Nat := roundDiv 100000000 (rateHz rate)

/-- The cut-off row in force (R57). -/
def State.cutoff (s : State) : Nat := s.a F.TCK_CUTOFF_ROW

/-- Half A or Half B by its code (R291). -/
def halfOf : Nat → Half
  | 0 => .a
  | _ => .b

def halfCode : Half → Nat
  | .a => 0
  | .b => 1

def otherHalf : Half → Half
  | .a => .b
  | .b => .a

/-- The half HLV_ROLE.ACTIVE names. -/
def State.activeHalf (s : State) : Half := halfOf (s.f F.HLV_ROLE_ACTIVE)

/-- A field of HLV_HEALTH_A as it stands for a half (R291). -/
def ofHalf (x : Fld) (h : Half) : Fld := x.at (4 * halfCode h)

/-- HEALTH of a half (R267). -/
def State.health (s : State) (h : Half) : Nat := s.f (ofHalf F.HLV_HEALTH_A_HEALTH h)

/-- `State.time` in 32-bit words, and the tick's own 64-bit stamps. -/
def lo32 (n : Nat) : Nat := n % 2 ^ 32
def hi32 (n : Nat) : Nat := (n / 2 ^ 32) % 2 ^ 32

end Sys2Proof.Machine
end

