-- ==== Sys2Proof/Machine/Views.lean ====
section
/-! DEFINITION. What can be seen of the typed state without a register: queues and buffers, the lamp and its
fault sources (R243), the refusers of the power states (R394), the states of buffers (R149), the diagnosis
flags (R223), the eNVM operation in progress (R441). -/

namespace Sys2Proof.Machine

/-! ### The period and the next tick (R40, R46, R49) -/

/-- A nominal period in units of 0.1 ns is not whole at every rate: periods are kept as exact ratios of 10 ns
units (R40). -/
def periodR (rate : Nat) : Rat := 100000000 / (rateHz rate : Rat)

/-- TCK_TRIM in 0.001 ppm, signed. -/
def State.trim (s : State) : Int := signedOf 24 (s.f F.TCK_TRIM_TRIM)

/-- The tick period in force in 10 ns units, trim included; the measured one with TICK_IN (R66, R160). -/
def State.periodAct (s : State) : Rat :=
  if s.onFrc || s.tck.sixty then periodR 0
  else if s.a F.TCK_CTRL_SRC = 1 && decide (0 < s.tck.tickInPeriod) then (s.tck.tickInPeriod : Rat)
  else periodR s.rate * (1 + (s.trim : Rat) / 1000000000)

/-- The exact instant of the next tick, as planned (R49); a correction of R46 apart. -/
def State.nextExact (s : State) : Rat := s.tck.planned.getD (s.tck.exact + s.periodAct)

/-- The planned instant of the first tick: 20 ms after the release, 80 ms with the quick test (R434). -/
def firstTick (s : State) : Rat := if s.f F.SYS_BOOT_QUICK_WHY = 0 then 2000000 else 8000000

/-- The length of the period in progress as planned. -/
def State.periodLen (s : State) : Rat := s.nextExact - s.tck.exact

/-- TIME at the next tick. -/
def State.nextTick (s : State) : Nat := s.nextExact.floor.toNat

/-- The quick self-test runs: in the blanking of its period, from 250 µs to 50 µs before the next tick (R279). -/
def State.quickRuns (s : State) : Bool :=
  s.hlv.quick.any (fun q => q.frame == s.tck.frame) && s.tck.running &&
    decide (s.nextTick ≤ s.time + 25000) && decide (s.time + 5000 < s.nextTick)

/-! ### Sequence numbers of the eNVM (R442) -/

/-- SEQ values compare modulo 2^32: is `a` the newer one? -/
def seqNewer (a b : Nat) : Bool := inRange ((a + 2 ^ 32 - b % 2 ^ 32) % 2 ^ 32) 1 (2 ^ 31 - 1)

/-- The newest SEQ of two copies, of the valid ones; 0 with none valid. -/
def seqNewest (okA okB : Bool) (a b : Nat) : Nat :=
  if okA && !(okB && seqNewer b a) then a else if okB then b else 0

/-- The copy in force of two: `true` is the first. -/
def firstInForce (okA okB : Bool) (a b : Nat) : Bool := okA && !(okB && seqNewer b a)

/-! ### The command front end -/

/-- Command-buffer space in 64-byte units by CMDBUF code (R336). -/
def cmdBufUnits : Nat → Nat
  | 0 => 128
  | 1 => 256
  | _ => 512

/-- The space a packet with this payload length takes, in 64-byte units (R336). -/
def pktUnits (len : Nat) : Nat := (16 + len + 63) / 64

/-- The entries of the command queue proper: type 0, SAFE_STOP apart (R337, R338). -/
def QEntry.inQueue (e : QEntry) : Bool := e.type == 0 && !(e.op == 0x40)

/-- The command whose body runs, as a list of its payload length (R337). -/
def State.running (s : State) : List Nat := match s.cmd.cur with
  | some c => [c.2]
  | none => []

/-- Queue entries in use: commands that wait, the one whose body runs, and commands in flight (R337). -/
def State.queued (s : State) : Nat := countP QEntry.inQueue s.cmd.inbox + s.running.length + s.cmd.jobs.length

/-- Free command-buffer space in 64-byte units (R336). -/
def State.cmdFree (s : State) : Nat :=
  cmdBufUnits (s.f F.CMD_CTRL_CMDBUF_ACT)
    - ((s.cmd.inbox.filter QEntry.inQueue).map (fun e => pktUnits e.rq.payload.length)).sum
    - (s.running.map pktUnits).sum - (s.cmd.jobs.map (fun j => pktUnits j.rq.payload.length)).sum

/-- Long-running commands in flight (R337). -/
def State.longRunning (s : State) : Nat := countP Job.long s.cmd.jobs

/-- R339: the payload of the largest reply an opcode can produce (R150, R187, R191, R224, R263, R360, R361, R384, R461, R466); no other
reply is longer than the 48 bytes of THERM_READ and HALF_STATUS (R292, R428). -/
def maxReply (op : Nat) : Nat :=
  if [0x01, 0x08, 0x51].contains op then 4080
  else if [0x30, 0x69].contains op then 4076
  else if op = 0x60 then 4072
  else if op = 0x45 then 4068
  else if op = 0x25 then 2260
  else if op = 0x18 then 1028
  else if op = 0x20 then 84
  else 48

/-- The buffer space reserved for the reply of an opcode, in bytes (R336, R339); NOP gets none (R360). -/
def replySpace (op : Nat) : Nat := if op = 0x00 then 0 else 64 * pktUnits (maxReply op)

/-- The buffer space reserved for the replies still to come: of the commands in flight and of the one whose body runs
(R339). -/
def State.reserved (s : State) : Nat :=
  (s.cmd.jobs.map (fun j => replySpace j.op)).sum +
    (match s.cmd.cur with | some c => replySpace c.1 | none => 0)

/-- The journal entries in use: a DONE entry whose reply has been transmitted is free (R282). -/
def JEntry.inUse (e : JEntry) : Bool := !(e.state == .done && e.sent)

def State.journalUsed (s : State) : Nat := countP JEntry.inUse s.cmd.journal

/-- ms since the last valid master packet (R350). -/
def State.elapsedMs (s : State) : Nat := min 65535 ((s.time - s.cmd.masterTime) / 100000)

/-- Packets that wait for GET (R357). -/
def State.spiWaiting (s : State) : Nat := countP (fun p => p.port == .spi) s.cmd.out

/-! ### Check values and snapshots -/

/-- The typed state of a check-value engine. -/
def chkEng (s : State) (n : Nat) : ChkEng := vnth {} s.chk n

/-- The running value of an engine, in the width of its algorithm (R365). -/
def chkRunning (s : State) (n : Nat) : Nat := s.f (F.CHK_0_RUN_RUN.at (0x20 * n)) % 2 ^ (crcAlg (chkEng s n).poly).width

/-- CHK_n_RESULT (R365). -/
def chkResult (s : State) (n : Nat) : Nat :=
  let run := chkRunning s n
  if s.fb (F.CHK_0_CTRL_XOR_DIS.at (0x20 * n)) then run
  else run ^^^ (crcAlg (chkEng s n).poly).xorOut

/-- The level the engine gives SNAP_IO (R376): pulled low for 1.0 µs by a snapshot of another trigger; else released. -/
def State.snapIo (s : State) : Bool :=
  match s.snp.pull with
  | some t => decide (s.time < t) || decide (t + 100 ≤ s.time)
  | none => true

/-- SNP_INFO.STATE (R380). -/
def snpState (s : State) : Nat :=
  (if s.snp.store.isSome then 2 else 0) +
    (if s.f F.SNP_CTRL_TRIGGERS = 0 then 0 else 1)

/-! ### Fault sources and the lamp (R229, R243) -/

namespace Src
abbrev pinStop : Nat := 0
abbrev pinDisc : Nat := 1
abbrev ceiling : Nat := 2
abbrev halves : Nat := 3
abbrev mloss : Nat := 4
abbrev diagZone : Nat := 5
abbrev corePll : Nat := 6
abbrev diverge : Nat := 7
abbrev thermSd : Nat := 8
abbrev vledOv : Nat := 9
abbrev thermTrip : Nat := 10
abbrev segIso : Nat := 11
abbrev envelope : Nat := 12
abbrev command : Nat := 15
end Src

namespace Lamp
abbrev dark : Nat := 0
abbrev lit : Nat := 1
abbrev fading : Nat := 2
abbrev stopped : Nat := 3
abbrev safeHold : Nat := 4
end Lamp

/-- The lamp state (R229). -/
def State.lamp (s : State) : Nat := s.f F.SAF_STATE_LAMP

/-- Is a source active (R243)? -/
def State.isActive (s : State) (src : Nat) : Bool := s.saf.active.contains src

/-- The fallback source drives stage 4 (R25). -/
def State.fbDrives (s : State) : Bool := s.fb F.SAF_STATE_FB_SRC

/-- FAULT_N is low (R229): in every device reset and the THERMAL hold; in DARK only with CFG_INVALID; in
FADING but for a switch-off; in STOPPED; in SAFE_HOLD entered by a stop. -/
def State.faultLow (s : State) : Bool :=
  if s.sys.phase == .inReset then true
  else if s.pwr.state == .sleep then false
  else if s.lamp = Lamp.dark then s.fb F.SAF_LOCK_CFG_INVALID
  else if s.lamp = Lamp.fading then
    (match s.saf.fade with | some f => !(f.kind == .switchOff) | none => true)
  else if s.lamp = Lamp.stopped then true
  else if s.lamp = Lamp.safeHold then s.saf.byStop
  else false

/-- The present discrepancy of the stop pins in ms (R242, R258). -/
def State.discMs (s : State) : Nat :=
  match s.saf.discStart with
  | some t => min 255 ((s.time - t) / 100000)
  | none => 0

/-- Does a register's RWL part differ from its reset value? -/
def rwlMoved (s : State) (a : Nat) : Bool :=
  regRows.any (fun r => r.addr == a && !((s.reg a).toNat &&& r.rwl == r.reset &&& r.rwl))

/-- SAF_LOCK.TEST_ACTIVE (R251): a volatile control differs from its reset value. -/
def State.testActive (s : State) : Bool :=
  rwlMoved s 0x4010 || rwlMoved s 0x6000 || rwlMoved s 0x7000 || rwlMoved s 0x700C ||
    !((s.lyr.toneNext.getD s.lyr.tone).getD toneIdentity == toneIdentity) || !(s.drv.foptNext.getD s.drv.fopt == s.nvm.fopt) ||
    s.dia.suspNext.getD s.dia.susp

/-! ### Diagnosis (R216, R223) -/

/-- Suspects that wait for their confirming test (R216, R223). -/
def suspects (s : State) : Nat := countP (fun e => e.2.st == 1) s.dia.faults

/-- DIAG_CONFIRM (R216, R394): a suspect waits for its confirming test. -/
def State.diagConfirm (s : State) : Bool := decide (0 < suspects s) || !s.dia.segFail.isEmpty || !s.dia.segPrev.isEmpty

/-- A list of Booleans as a mask, bit 0 first. -/
def maskOf : List Bool → Nat
  | [] => 0
  | b :: t => b2n b + 2 * maskOf t

/-- VLED is not above its undervoltage warning level (R90, R213): the warning is active, or has not armed and VLED_SENSE is not
above UV. -/
def State.vledLow (s : State) : Bool :=
  s.pwr.uvActive || (!s.pwr.uvArmed && decide (s.pwr.vledMv ≤ 10 * s.f F.PWR_VLED_CFG_UV))

/-- Bits 20:16 of DIA_STATUS (R223). -/
def diaFlags (s : State) : Nat := maskOf
  [s.vledLow && s.fb F.SAF_STATE_VLED_EN, s.a F.DRV_PHASE_YMUL % 2 == 0 || s.drv.phaseDis, s.dia.susp || !s.fb F.DIA_CTRL_PIX_EN,
   s.diagConfirm, s.dia.save.isSome]

/-! ### eNVM operations (R441) -/

/-- NVM_BUSY: an operation runs or waits (R441). -/
def State.nvmBusy (s : State) : Bool := !s.nvm.ops.isEmpty

/-- The page address of an operation (R439, R440, R444). -/
def NvmKind.addr (logLen : Nat) : NvmKind → Nat
  | .append _ => 0x54A000 + 4096 * (logLen / 128)
  | .record c _ => 0x548000 + 4096 * c
  | .map c pg _ _ => 0x500000 + 0x20000 * c + 4096 * pg
  | .factor c _ _ _ => 0x282000 + 4096 * c
  | .page a _ => a / 4096 * 4096
  | .erase a => a
  | .marker => 0x4FF000
  | .fw slot pg _ => 0x80000 * slot + 4096 * pg
  | .fwAct slot _ => 0x80000 * slot
  | .life d => 0x54C000 + 4096 * (d.seq / 128 % 16)
  | .bist c pg _ => 0x540000 + 0x4000 * c + 4096 * pg

/-- The row of R439 that holds an address, counted from 0. -/
def nvmRegion (a : Nat) : Nat :=
  if a < 0x80000 then 0 else if a < 0x100000 then 1 else if a < 0x300000 then 2 else if a < 0x500000 then 3
  else if a < 0x540000 then 4 else if a < 0x548000 then 5 else if a < 0x54A000 then 6 else if a < 0x54C000 then 7
  else if a < 0x55C000 then 8 else if a < 0x65C000 then 9 else 10

/-- NVM_OP: region and page address of the operation in progress; 0 when none is (R460). -/
def nvmOpWord (s : State) : Nat :=
  match s.nvm.ops with
  | [] => 0
  | o :: _ => let a := o.kind.addr s.saf.log.length; nvmRegion a * 2 ^ 28 + a

/-- The newer valid copy of the self-test record: 0 A, 1 B (R442). -/
def bistNewest (s : State) : Option (Nat × BistRec) :=
  if firstInForce s.nvm.bistA.valid s.nvm.bistB.valid s.nvm.bistA.seq s.nvm.bistB.seq then some (0, s.nvm.bistA)
  else if s.nvm.bistB.valid then some (1, s.nvm.bistB) else none

/-- A record is complete (R451). -/
def BistRec.complete (r : BistRec) : Bool := r.step == r.stepsEnd

/-- A supply dip, or the 1.0 ms after it, holds the eNVM and the self-test back (R407, R443). -/
def State.dipHolds (s : State) : Bool := s.pwr.dip.isSome || s.nvm.resumeAt.isSome

/-- NVM_BIST.STATE (R460): 0 idle, 1 running, 2 paused by a dip, 3 writing the record. -/
def bistState (s : State) : Nat :=
  match s.nvm.test with
  | none => if s.nvm.ops.any (fun o => match o.kind with | .bist .. => true | _ => false) then 3 else 0
  | some _ => if s.nvm.testEnd.isSome then 3 else if s.dipHolds || s.fb F.THM_STATUS_SD_ACT then 2 else 1

/-- VSUP as last measured, every 100 µs (R406). In the 100 µs of a measurement whose result a row brought it is that; else a free
value (notes/assumptions/5.md, notes/assumptions/63.md). -/
def State.vsupShown (s : State) : Nat :=
  if s.time / 10000 = s.pwr.vsupAt / 10000 then s.pwr.vsupMv else (Config.freeValue 77 (s.time / 10000)).toNat % 65536

/-- A BIST_RUN runs its steps (R457). -/
def State.bistTests (s : State) : Bool :=
  s.nvm.test.any (fun t => t.origin == 2) && decide (0 < s.nvm.stepNow) && s.nvm.testEnd.isNone

/-! ### Power (R386 to R395) -/

/-- LANE_TRAIN (R310, R394). -/
def State.laneTrain (s : State) : Bool :=
  inRange (s.f F.RNG_STATUS_STATE) 1 3 || s.f F.RNG_STATUS_STATE == 5 || s.rng.notice.isSome || !(s.rng.addAsk == 0) ||
    s.rng.lpNext.any (fun e => e.2 == 0)

/-- The fast cadence is in force (R418). -/
def State.thmFast (s : State) : Bool := s.thm.fast || s.fb F.THM_CTRL_FAST_FORCE

/-- Does a waiting packet keep the engine from IDLE (R394, CMD_QUEUE)? -/
def sendable (s : State) (p : OutPkt) : Bool :=
  match p.port with
  | .ring => s.f F.RNG_STATUS_STATE == 4 && !(s.f F.RNG_STATUS_TX_MAP == 0)
  | .spi => !(p.kind == .event)

/-- The final reply of a PWR_STATE that waited for its entry to IDLE or SLEEP (R394). -/
def entryReply (s : State) (p : OutPkt) : Bool :=
  p.final && p.op == 0x48 && [0x00, 0x03, 0x1D].contains (u8 p.payload 0) &&
    s.cmd.journal.any (fun e => some e.seq == p.seq && decide (2 ≤ u8 e.rq.payload 0))

/-- R394: refuser 5. A PWR_STATE that waits for its entry, and its final reply, do not count; nor does a SHUTDOWN in
execution. -/
def cmdQueueBusy (s : State) : Bool :=
  s.cmd.inbox.any QEntry.inQueue || s.cmd.cur.any (fun c => !(c.1 == 0x48 || c.1 == 0x6A)) ||
    s.cmd.jobs.any (fun j => !(j.op == 0x48 || j.op == 0x6A)) || s.cmd.out.any (fun p => sendable s p && !entryReply s p)

/-- The refusers of R394 in order of ID: asserted or not. -/
def refuserList (s : State) : List Bool :=
  [s.lamp == Lamp.lit || s.lamp == Lamp.fading || s.lamp == Lamp.safeHold,
   s.lamp == Lamp.fading,
   s.fb F.HLV_ROLE_REFUSER,
   !s.tck.sets.isEmpty || s.tck.herd.isSome,
   s.diagConfirm,
   cmdQueueBusy s,
   s.nvmBusy,
   (match s.nvm.test with | some t => t.origin == 2 || t.origin == 3 | none => false),
   !(s.pwr.reload == 0),
   s.laneTrain,
   s.thmFast,
   !(s.f F.SNP_CTRL_TRIGGERS % 4 == 0)]

/-- The mask of refusers asserted (PWR_REFUSE.ASSERTED). -/
def refusers (s : State) : Nat := maskOf (refuserList s)

/-- TICK_OUT (R48): high from each tick for 1.0 µs while TICK_OUT_EN is in force; low otherwise. In a device reset the pad is
high-impedance (`State.tickOutZ`). -/
def State.tickOut (s : State) : Bool :=
  !s.off && s.tck.started && s.a F.TCK_CTRL_TICK_OUT_EN == 1 && decide (s.time < s.tck.tickTime + 100)

/-- TICK_OUT is high-impedance from the assertion of a reset until the pad test of the release has ended (R472). -/
def State.tickOutZ (s : State) : Bool := s.sys.phase == .inReset

/-- ELAPSED_S counts (R391). -/
def State.elapsedRuns (s : State) : Bool :=
  s.pwr.state == .idle ||
    ((s.pwr.state == .active || s.pwr.state == .hold) && (s.lamp == Lamp.dark || s.lamp == Lamp.stopped))

/-- ELAPSED_S (R391). -/
def State.elapsedS (s : State) : Nat :=
  if s.elapsedRuns then min 65535 (s.pwr.elapsedKept + (s.time - s.pwr.elapsed0) / 100000000) else 0

/-- A timer's request (R388, R391). -/
def EntryReq.timed (r : EntryReq) : Bool := r.by_ == .timer

/-- A request for HOLD that stays pending: a timer's, or a PWR_STATE's that was refused at its tick, which stays pending as a
timer request does (R389, R395). -/
def EntryReq.holdPends (r : EntryReq) : Bool := r.timed || (r.by_ == .command && r.refused)

/-- PWR_STATUS.PENDING (R411): the target of a pending timer request; a commanded entry into IDLE or SLEEP never shows. -/
def pendingTarget (s : State) : Nat :=
  if s.pwr.sleepReq.any EntryReq.timed then 3
  else if s.pwr.idleReq.any EntryReq.timed then 2
  else if s.pwr.holdReq.any EntryReq.holdPends then 1
  else 0

/-- The core PLL that a CLK_SWITCH started has locked: 200 µs after its start, if it locks (R399). -/
def ClkReq.locked (now : Nat) (c : ClkReq) : Bool := c.toPll && c.locks && decide (c.start + 20000 ≤ now)

/-- The code of PWR_STATUS.STATE. -/
def pwrCode : PwrState → Nat
  | .active => 0
  | .hold => 1
  | .idle => 2
  | .sleep => 3

/-- An entry sequence runs (R411): that of a SHUTDOWN (R449), or of a SLEEP entry past its wait for the refusers (R396). -/
def State.entering (s : State) : Bool :=
  s.cmd.jobs.any (fun j => j.op == 0x6A) || (s.pwr.state == .idle && s.pwr.sleepReq.isSome && decide (0 < s.pwr.sleepStage))

/-! ### Buffers and layers (R140, R149) -/

/-- A defined descriptor. -/
def State.buf? (s : State) (d : Nat) : Option BufDesc := kvGet s.lyr.bufs d

/-- The state code of LYR_BUF_STATE (R149). -/
def State.bufState (s : State) (d : Nat) : Nat :=
  match s.buf? d with
  | some b => b.st
  | none => 7

/-- LYR_BUF_STATEr (R149). -/
def bufStateWord (s : State) (r : Nat) : Nat :=
  (List.range 8).foldl (fun acc i =>
    acc + 16 ^ i * (s.bufState (8 * r + i) + 8 * (match s.buf? (8 * r + i) with | some b => b2n b.release | none => 0))) 0

/-- A video layer in force. -/
def State.vLayer (s : State) (n : Nat) : VLayer := vnth {} s.lyr.v n

/-- A field of a video layer's set in force, given for V0. -/
def VLayer.a (l : VLayer) (n : Nat) (x : Fld) : Nat :=
  fieldOf (Mem.read 0 l.regs (x.at (0x80 * n)).addr) x.hi x.lo

/-- LYR_Vn_STAT (R149). -/
def vStatWord (s : State) (n : Nat) : Nat :=
  let l := s.vLayer n
  let st := if l.fade.isSome then 3 else if l.waiting then 2 else if l.showing then 1 else 0
  st * 2 ^ 30 + (tabOf [0] l.tabs (8 + n)).headD 0 % 4 * 2 ^ 28 + l.misses % 16 * 2 ^ 24 +
    (l.fade.getD 0) % 4 * 2 ^ 22 + l.a n F.LYR_V0_BUF_DESC * 2 ^ 16

/-! ### The halves -/

/-- The typed state of a half. -/
def State.half (s : State) (h : Half) : HalfSt := match h with
  | .a => s.hlv.halfA
  | .b => s.hlv.halfB

def setHalf (h : Half) (x : HalfSt) (s : State) : State := match h with
  | .a => { s with hlv.halfA := x }
  | .b => { s with hlv.halfB := x }

/-! ### Frame numbers (R63, R68) -/

/-- The number of the next tick (`n` = 1) or of the one after it (`n` = 2): a HERD with SET_FRAME that waits
numbers one of them (R63). -/
def State.tickNo (s : State) (n : Nat) : Nat :=
  (match s.tck.setFrame with
   | some x => if x.ticks ≤ n then x.f + (n - x.ticks) else s.tck.frame + n
   | none => s.tck.frame + n) % 2 ^ 32

/-- The number of the tick that comes: 0 for the first after a device reset (R68), but for a HERD with SET_FRAME (R63). -/
def tickNumber (s : State) : Nat :=
  if s.tck.started || s.tck.setFrame.any (fun x => x.ticks == 1) then s.tickNo 1 else s.tck.frame

/-! ### Objects (R184) -/

/-- The slots of word `r` of a bitmap that satisfy a test. -/
def slotWord (l : List Nat) (r : Nat) : Nat :=
  ((l.filter (fun n => n / 32 == r)).map (fun n => 2 ^ (n % 32))).sum

/-- Is a slot drawn in an image whose OBJ_CTRL.EN is `en` (R175, R176)? -/
def ObjPlaced.drawn (en : Bool) (o : ObjPlaced) : Bool := en && !o.offMap && o.box.isSome

/-- The slot OBJ_RD_SEL names, in the last sample. -/
def rdPlaced (s : State) : Option ObjPlaced :=
  s.obj.next.objs.find? (fun o => o.slot == s.f F.OBJ_RD_SEL_SLOT)

/-- OBJ_BULK_STAT (R184). -/
def bulkWord (s : State) : Nat :=
  match s.obj.bulk with
  | some (id, es) => 2 ^ 30 + es.length * 65536 + id
  | none => 0

/-! ### The lanes (R323) -/

/-- Lanes of a 4-bit map. -/
def laneCount (m : Nat) : Nat := countP (fun n => bitOf m n) (List.range 4)

/-- Mule mode: data runs, on fewer than four lanes (R312). -/
def State.mule (s : State) : Bool :=
  inRange (laneCount (s.f F.RNG_STATUS_RX_MAP)) 1 3 || inRange (laneCount (s.f F.RNG_STATUS_TX_MAP)) 1 3

/-- ms since the last valid block (R323). -/
def State.silentMs (s : State) : Nat :=
  match s.rng.lastBlock with
  | some t => min 65535 ((s.time - t) / 100000)
  | none => 0

end Sys2Proof.Machine
end

