-- ==== Sys2Proof/Machine/Live.lean ====
section
/-! DEFINITION. What a register reads as: its stored word with the live fields of its unit laid over it
(R6: RO is the current value). -/

namespace Sys2Proof.Machine

/-- A live value: the mask of the bits it covers, and the bits. -/
abbrev LiveVal := Option (Nat × Nat)

/-- A live field as a masked value. -/
def liveF (x : Fld) (v : Nat) : Nat × Nat :=
  (((2 ^ (x.hi + 1 - x.lo) - 1) <<< x.lo), ((v % 2 ^ (x.hi + 1 - x.lo)) <<< x.lo))

/-- Several live fields of one register. -/
def liveFs (l : List (Fld × Nat)) : LiveVal :=
  some (l.foldl (fun acc e => let m := liveF e.1 e.2; (acc.1 ||| m.1, acc.2 ||| m.2)) (0, 0))

/-- A register that is live as a whole. -/
def liveAll (v : Nat) : LiveVal := some (0xFFFFFFFF, v % 2 ^ 32)

/-- The live fields of the SYS window (R459). -/
def liveSys : Nat → LiveVal
  | 0x0004 => liveAll (lo32 Config.dieId.toNat)
  | 0x0008 => liveAll (hi32 Config.dieId.toNat)
  | _ => none

/-- The live fields of the RNG window (R323). While a near-end loop runs, the bit errors its checker has found so far are a
free value (R319; notes/assumptions/5.md). -/
def liveRng (s : State) : Nat → LiveVal
  | 0x1004 => liveFs [(F.RNG_STATUS_MULE, b2n s.mule)]
  | 0x1014 => liveFs [(F.RNG_SILENT_SILENT_MS, s.silentMs)]
  | 0x1024 =>
    let remain := (F.RNG_LOOP_REMAIN, if s.f F.RNG_LOOP_KIND = 0 then 0 else (s.rng.loopEnd - s.time + 99999999) / 100000000)
    if inRange (s.f F.RNG_LOOP_KIND) 1 2 then
      liveFs [remain, (F.RNG_LOOP_ERR_CNT, (Config.freeValue 72 s.time).toNat)]
    else liveFs [remain]
  | _ => none

/-- The live fields of the CMD window (R363). -/
def liveCmd (s : State) : Nat → LiveVal
  | 0x2008 => liveFs [(F.CMD_QUEUE_QUEUED, s.queued), (F.CMD_QUEUE_LR, s.longRunning),
      (F.CMD_QUEUE_FREE, s.cmdFree)]
  | 0x2018 => liveFs [(F.CMD_MLOSS_ELAPSED, s.elapsedMs)]
  | 0x20C0 => liveFs [(F.CMD_SPI_OUT_WAIT, min 255 s.spiWaiting)]
  | _ => none

/-- The live fields of the TCK window (R71). DESIGN CHOICE (notes/assumptions/55.md): TCK_HERD_TARGET reads 0 while no target is
pending. -/
def liveTck (s : State) : Nat → LiveVal
  | 0x3008 => liveFs [(F.TCK_STATUS_ROW, s.tck.row), (F.TCK_STATUS_COMMIT_PENDING, b2n !s.tck.sets.isEmpty),
      (F.TCK_STATUS_HERD_PENDING, b2n s.tck.herd.isSome)]
  | 0x300C => liveFs [(F.TCK_TIMING_RATE_ACT, s.rate), (F.TCK_TIMING_NREP, nRep s.rate),
      (F.TCK_TIMING_SLOT_NS, slotNs s.rate)]
  | 0x3010 => liveAll s.tck.frame
  | 0x3018 => liveAll (lo32 s.time)
  | 0x301C => liveAll (hi32 s.time)
  | 0x3024 => liveAll (lo32 s.tck.tickTime)
  | 0x3028 => liveAll (hi32 s.tck.tickTime)
  | 0x302C => liveAll (lo32 s.tck.flipTime)
  | 0x3030 => liveAll (hi32 s.tck.flipTime)
  | 0x303C => liveAll (lo32 (encSigned 64 s.tck.mofs))
  | 0x3040 => liveAll (hi32 (encSigned 64 s.tck.mofs))
  | 0x3044 => liveAll (match s.tck.herd with | some t => t.f | none => 0)
  | _ => none

/-- The live fields of the LYR window (R149). -/
def liveLyr (s : State) (a : Nat) : LiveVal :=
  match a with
  | 0x4018 => liveFs [(F.LYR_STATUS_TONE_USER, b2n s.lyr.tone.isSome)]
  | 0x4134 => liveAll (if s.lyr.statReset then 0 else vStatWord s 0)
  | 0x41B4 => liveAll (if s.lyr.statReset then 0 else vStatWord s 1)
  | _ => if inRange a 0x4040 0x405F then liveAll (bufStateWord s ((a - 0x4040) / 4)) else none

/-- The objects of the last image composed; after a HALF reset none until the next one (R11, R184). -/
def shownObjs (s : State) : List ObjPlaced := if s.obj.lastReset then [] else s.obj.last.objs

/-- The live fields of the OBJ window (R184). -/
def liveObj (s : State) (a : Nat) : LiveVal :=
  match a with
  | 0x5008 => if s.fbDrives then liveAll 0 else liveAll (Mem.read 0 s.tck.act.regs 0x5004).toNat
  | 0x5018 => liveFs [(F.OBJ_STATUS_MOFS_USED, b2n s.tck.mofsValid)]
  | 0x501C => liveFs [(F.OBJ_COUNT_OCC, (shownObjs s).length), (F.OBJ_COUNT_STALE_N, countP ObjPlaced.stale (shownObjs s)),
      (F.OBJ_COUNT_DRAWN, countP (ObjPlaced.drawn s.obj.last.en) (shownObjs s))]
  | 0x5028 => liveAll (bulkWord s)
  | 0x5030 => match (shownObjs s).find? (fun o => o.slot == s.f F.OBJ_RD_SEL_SLOT) with
    | some o =>
      if o.drawn s.obj.last.en then liveAll (encSigned 16 o.cy * 65536 + encSigned 16 o.cx) else liveAll 0x80008000
    | none => liveAll 0x80008000
  | 0x5034 => match (if s.obj.rdReset then none else rdPlaced s) with
    | some o => liveAll (min 65535 (o.age / 100000) * 65536 + (o.m + 15) / 16)
    | none => liveAll 0
  | 0x5038 => if s.obj.rdReset then liveAll 0 else
    let slot := s.f F.OBJ_RD_SEL_SLOT
    let p := rdPlaced s
    liveFs [(F.OBJ_RD_FLAGS_OCC, b2n (kvGet s.obj.slots slot).isSome), (F.OBJ_RD_FLAGS_STALE, b2n (p.any ObjPlaced.stale)),
      (F.OBJ_RD_FLAGS_OFFMAP, b2n (p.any ObjPlaced.offMap)), (F.OBJ_RD_FLAGS_ROW_FILL, b2n (!s.obj.lastReset && s.obj.lastFilled.contains slot)),
      (F.OBJ_RD_FLAGS_ALIVE, match kvGet s.obj.slots slot with | some o => bitsOf (u8 o.body 2) 3 0 | none => 0)]
  | _ =>
    if inRange a 0x5040 0x505F then liveAll (slotWord (s.obj.next.objs.map ObjPlaced.slot) ((a - 0x5040) / 4))
    else if inRange a 0x5060 0x507F then
      liveAll (slotWord ((s.obj.next.objs.filter ObjPlaced.stale).map ObjPlaced.slot) ((a - 0x5060) / 4))
    else if inRange a 0x5080 0x509F then
      liveAll (slotWord ((s.obj.next.objs.filter ObjPlaced.offMap).map ObjPlaced.slot) ((a - 0x5080) / 4))
    else none

/-- The live fields of the DRV window (R109). DESIGN CHOICE (notes/assumptions/56.md): while the factor table is stored after
the last tile, DRV_FCAL.TILE is one past it. -/
def liveDrv (s : State) : Nat → LiveVal
  | 0x6050 => liveFs [(F.DRV_STATUS_COLD_MINW_ACT, b2n (s.f F.THM_STATUS_BAND == 0)),
      (F.DRV_STATUS_UV_LIMIT, b2n s.pwr.uvActive), (F.DRV_STATUS_FALLBACK_SRC, b2n s.fbDrives),
      (F.DRV_STATUS_HOLD_ACT, b2n (s.pwr.state == .hold))]
  | 0x6058 => match s.drv.cal with
    | some c => liveFs [(F.DRV_FCAL_STATE, if s.nvm.ops.any (fun o => o.owner == some c.seq) then 2 else 1),
        (F.DRV_FCAL_TILE, c.first + c.done), (F.DRV_FCAL_REMAIN, c.count - c.done)]
    | none => liveAll 0
  | _ => none

/-- The live fields of the DIA window (R223). -/
def liveDia (s : State) : Nat → LiveVal
  | 0x7004 => some (0x1F0000, diaFlags s * 65536)
  | 0x7010 => liveAll s.dia.map.length
  | 0x7014 => liveFs [(F.DIA_SEGCNT_SUSPECTS, suspects s), (F.DIA_SEGCNT_ISO_SEG, min 65535 s.dia.isolated.length)]
  | 0x7034 => match kvGet s.dia.readV (2048 * s.f F.DIA_PROBE_SEL_Y + s.f F.DIA_PROBE_SEL_X) with
    | some v => liveFs [(F.DIA_PROBE_V_V_REST, v.1), (F.DIA_PROBE_V_V_DARK, v.2)]
    | none => liveAll 0
  | 0x7038 => match kvGet s.dia.readI (2048 * s.f F.DIA_PROBE_SEL_Y + s.f F.DIA_PROBE_SEL_X) with
    | some v => liveFs [(F.DIA_PROBE_I_V_LIT, v.1), (F.DIA_PROBE_I_I_LIT, v.2)]
    | none => liveAll 0
  | _ => none

/-- The live fields of the SAF window (R258). -/
def liveSaf (s : State) : Nat → LiveVal
  | 0x8000 => liveFs [(F.SAF_STATE_FAULT, b2n s.faultLow)]
  | 0x8004 => liveFs [(F.SAF_PINS_DISC_MS, s.discMs), (F.SAF_PINS_A, b2n s.saf.pinA), (F.SAF_PINS_B, b2n s.saf.pinB)]
  | 0x8008 => liveFs [(F.SAF_LOCK_LOG_USED, s.saf.log.length), (F.SAF_LOCK_LOG_FULL, b2n (decide (256 ≤ s.saf.log.length))),
      (F.SAF_LOCK_TEST_ACTIVE, b2n s.testActive)]
  | _ => none

/-- Grazing runs: a half is active and the other is standby in PROVING or GOOD (R267, R271). -/
def State.grazing (s : State) : Bool :=
  s.hlv.active && (s.health (otherHalf s.activeHalf) == 2 || s.health (otherHalf s.activeHalf) == 3)

/-- The live fields of the HLV window (R291). -/
def liveHlv (s : State) : Nat → LiveVal
  | 0x9004 => liveFs [(F.HLV_ROLE_GRAZING, b2n s.grazing), (F.HLV_ROLE_PENDING, b2n s.hlv.exchange.isSome)]
  | 0x9030 => liveFs [(F.HLV_JOURNAL_USED, s.journalUsed)]
  | _ => none

/-- The live fields of the CHK window (R379). -/
def liveChk (s : State) (a : Nat) : LiveVal :=
  let n := (a - 0xA000) / 0x20
  if n < 4 && a % 0x20 == 8 then liveAll (chkRunning s n)
  else if n < 4 && a % 0x20 == 0xC then liveAll (chkResult s n)
  else if n < 4 && a % 0x20 == 0x14 then
    liveFs [(F.CHK_0_STAT_BUSY, b2n (chkEng s n).run.isSome)]
  else none

/-- The live fields of the SNP window (R380): the header of the store (R373, R378). -/
def liveSnp (s : State) (a : Nat) : LiveVal :=
  match a, s.snp.store with
  | 0xB004, some p => liveFs [(F.SNP_ID_TAKEN_ID, p.id)]
  | 0xB008, some p => liveFs [(F.SNP_INFO_STATE, snpState s), (F.SNP_INFO_SRC, p.src),
      (F.SNP_INFO_ROW, p.row), (F.SNP_INFO_SRC_ID, p.srcId)]
  | 0xB008, none => liveFs [(F.SNP_INFO_STATE, snpState s)]
  | 0xB00C, some p => liveAll p.frame
  | 0xB010, some p => liveAll (lo32 p.time)
  | 0xB014, some p => liveAll (hi32 p.time)
  | _, _ => none

/-- The live fields of the PWR window (R411). -/
def livePwr (s : State) (a : Nat) : LiveVal :=
  match a with
  | 0xC000 => liveFs [(F.PWR_STATUS_UNCHANGED, min 65535 s.pwr.unchanged), (F.PWR_STATUS_ENTERING, b2n s.entering),
      (F.PWR_STATUS_PENDING, pendingTarget s), (F.PWR_STATUS_STATE, pwrCode s.pwr.state)]
  | 0xC00C => liveFs [(F.PWR_TMR_B_ELAPSED_S, s.elapsedS)]
  | 0xC010 => liveFs [(F.PWR_REFUSE_ASSERTED, refusers s)]
  | 0xC020 => liveFs [(F.PWR_ROOSTER_OUT, b2n s.pwr.roosterOut)]
  | 0xC050 => liveFs [(F.PWR_CLK_PLL_LOCK, max (s.f F.PWR_CLK_PLL_LOCK) (b2n (s.pwr.clk.any (ClkReq.locked s.time))))]
  | 0xC02C => liveFs [(F.PWR_VSUP_WARN, b2n s.pwr.dip.isSome), (F.PWR_VSUP_VSUP_MV, s.vsupShown)]
  | 0xC038 => liveFs [(F.PWR_VLED_STAT_OV, b2n s.pwr.ovActive), (F.PWR_VLED_STAT_UV, b2n s.pwr.uvActive)]
  | _ => if inRange a 0xC080 0xC0FF then liveAll (nth 0 s.pwr.rcrc ((a - 0xC080) / 4)) else none

/-- The live fields of the THM window (R427). -/
def liveThm (s : State) : Nat → LiveVal
  | 0xD004 => liveFs [(F.THM_STATUS_FAST, b2n s.thmFast)]
  | _ => none

/-- A firmware slot as NVM_SLOTA and NVM_SLOTB show it (R460). -/
def slotWordOf (x : FwSlot) : Nat :=
  b2n x.valid * 2 ^ 31 + b2n x.staging.isSome * 2 ^ 30 + x.act % 256 * 65536 + x.major % 256 * 256 + x.minor % 256

/-- The live fields of the NVM window (R460). -/
def liveNvm (s : State) : Nat → LiveVal
  | 0xE000 => liveFs [(F.NVM_STATUS_SUSPENDED, b2n s.nvm.suspended.isSome),
      (F.NVM_STATUS_QUEUED, b2n (decide (1 < s.nvm.ops.length) || (!s.nvm.ops.isEmpty && !s.nvm.started))),
      (F.NVM_STATUS_BUSY, b2n (s.nvm.started && s.nvm.suspended.isNone))]
  | 0xE004 => liveAll (if s.nvm.started then nvmOpWord s else 0)
  | 0xE00C => liveAll (slotWordOf s.nvm.slotA)
  | 0xE010 => liveAll (slotWordOf s.nvm.slotB)
  | 0xE014 => liveFs [(F.NVM_BIST_STATE, bistState s)]
  | _ => none

/-- The live fields of the register at an address. -/
def live (s : State) (a : Nat) : LiveVal :=
  match a / 0x1000 with
  | 0 => liveSys a
  | 1 => liveRng s a
  | 2 => liveCmd s a
  | 3 => liveTck s a
  | 4 => liveLyr s a
  | 5 => liveObj s a
  | 6 => liveDrv s a
  | 7 => liveDia s a
  | 8 => liveSaf s a
  | 9 => liveHlv s a
  | 0xA => liveChk s a
  | 0xB => liveSnp s a
  | 0xC => livePwr s a
  | 0xD => liveThm s a
  | 0xE => liveNvm s a
  | _ => none

/-- What a register reads as, with no side effect (R6). -/
def State.peek (s : State) (a : Nat) : Word :=
  match live s a with
  | some (m, v) => (s.reg a &&& ~~~ BitVec.ofNat 32 m) ||| BitVec.ofNat 32 v
  | none => s.reg a

/-- A field as it reads. -/
def State.p (s : State) (x : Fld) : Nat := fieldOf (s.peek x.addr) x.hi x.lo

/-- Does an address hold a register (R5)? -/
def isReg (a : Nat) : Bool := regRows.any (fun r => r.addr == a)

/-- The table row of a register. -/
def regRow (a : Nat) : Option RegRow := regRows.find? (fun r => r.addr == a)

end Sys2Proof.Machine
end

