-- ==== Sys2Proof/Machine/Ops.lean ====
section
/-! DEFINITION. The named operations every family uses: snapshots (R373 to R377), events (R351 to R353),
replies (R341 to R343), the journal (R282) and the frame in which a command executes (R337 to R339, R348). -/

namespace Sys2Proof.Machine

/-! ### Snapshots -/

/-- The register ranges a snapshot copies, first and last address (R377). -/
def snapRanges : List (Nat × Nat) :=
  [(0x0000, 0x00FC), (0x1000, 0x105C), (0x2000, 0x20C4), (0x3000, 0x3050), (0x4000, 0x405C),
   (0x4100, 0x413C), (0x4180, 0x41BC), (0x4200, 0x423C), (0x5000, 0x509C), (0x6000, 0x6060),
   (0x7000, 0x70BC), (0x8000, 0x8038), (0x9000, 0x9034), (0xA000, 0xA07C), (0xC000, 0xC0FC),
   (0xD000, 0xD0FC), (0xE000, 0xE0FC)]

/-- Does a snapshot copy the word at this address? -/
def inSnap (a : Nat) : Bool := snapRanges.any (fun r => r.1 ≤ a && a ≤ r.2)

/-- The words a snapshot copies, those that read 0 left out. -/
def snapWords (s : State) : Mem 32 :=
  (regRows.map RegRow.addr).foldr
    (fun a acc => if inSnap a && !(s.peek a == 0) then (a, s.peek a) :: acc else acc) []

/-- Take a snapshot: source, SNAP_ID and SRC_ID; the unit disarms (R373), SNAP_IO is pulled under
R376. -/
def takeSnap (src id srcId : Nat) (s : State) : State :=
  let s1 := (s.setF F.SNP_CTRL_TRIGGERS 0).bump F.SNP_CNT_TAKEN_CNT
  { s1 with
    snp.store := some ⟨id, src, s.tck.frame, s.tck.row, s.time, srcId, snapWords s⟩
    snp.pull := if s.fb F.SNP_CTRL_DRIVE && !(src == 0) then some s.time else s.snp.pull }

/-- The event codes of the fault mask of R374, by mask bit. -/
def faultMaskCodes : List Nat := [0x90, 0x93, 0x80, 0x84, 0x60, 0x10, 0x70, 0xC2]

/-! ### Events -/

/-- The quantities of an event's DATA (R353). -/
def q4 (n : Nat) : List Byte := bytesLE 4 n
def q8 (n : Nat) : List Byte := bytesLE 8 n
def q4i (v : Int) : List Byte := bytesLE 4 (encSigned 32 v)
def q8i (v : Int) : List Byte := bytesLE 8 (encSigned 64 v)

/-- A pixel as one quantity: x in bits 10:0, y in bits 24:16 (R353). -/
def qPix (x y : Nat) : List Byte := q4 (x + y * 65536)

/-- The buffer space the waiting packets take, in bytes (R336). -/
def outBytes (l : List OutPkt) : Nat := (l.map (fun p => 64 * pktUnits p.payload.length)).sum

/-- Is an event code enabled (R352, R363)? -/
def evEnabled (s : State) (code : Nat) : Bool := bitOf (s.reg (0x2040 + 4 * (code / 32))).toNat (code % 32)

/-- The SUPPRESSED count of a code (R351). -/
def suppressedOf (s : State) (code : Nat) : Nat :=
  match s.cmd.suppressed.find? (fun e => e.1 == code) with
  | some e => e.2
  | none => 0

/-- Set the SUPPRESSED count of a code. -/
def setSuppressed (s : State) (code n : Nat) : State :=
  { s with cmd.suppressed := (code, min 65535 n) :: s.cmd.suppressed.filter (fun e => !(e.1 == code)) }

/-- The payload of an event (R351). -/
def eventPayload (s : State) (code : Nat) (data : List Byte) : List Byte :=
  bytesLE 4 s.tck.frame ++ bytesLE 8 s.time ++ bytesLE 1 (s.f F.TCK_TIME_Q_Q) ++ [0] ++
    bytesLE 2 (suppressedOf s code) ++ padTo 24 data

/-- Room for one more event at a port (R336, R339, R352, R358): 8 KiB for events, 4 KiB of it for SPI
events, and never the space of a reply. -/
def eventRoom (s : State) (port : Port) : Bool :=
  let ev := s.cmd.out.filter (fun p => p.kind == .event)
  decide (outBytes ev + 64 ≤ 8192) && decide (outBytes s.cmd.out + s.reserved + 64 ≤ 16320) &&
    (port == .ring || decide (outBytes (ev.filter (fun p => p.port == .spi)) + 64 ≤ 4096))

/-- Queue one event for one port, or lose it (R352). -/
def emitEvent (code : Nat) (payload : List Byte) (port : Port) (s : State) : State :=
  if eventRoom s port then
    let sq := if port == .ring then s.cmd.evSeqRing else s.cmd.evSeqSpi
    let p : OutPkt := ⟨port, .event, 2, s.f F.CMD_EVT_CTRL_STREAM, false, code, 0, sq, payload, none⟩
    let s1 := { s with cmd.out := s.cmd.out ++ [p] }
    let s2 := if port == .ring then { s1 with cmd.evSeqRing := (sq + 1) % 256 }
              else { s1 with cmd.evSeqSpi := (sq + 1) % 256 }
    s2.bump F.CMD_EVT_CNT_SENT
  else
    let s1 := { s with cmd.lostCode := if s.cmd.lost = 0 then code else min s.cmd.lostCode code
                       cmd.lost := s.cmd.lost + 1 }
    (s1.bump F.CMD_EVT_CNT_LOST).setB F.CMD_STATUS_EVT_LOST true

/-- While the tick is stopped, 16.667 ms on the AON clock take the place of the period (R352). -/
def renewWindow (s : State) : State :=
  if !s.tck.running && decide (s.cmd.window + 1666700 ≤ s.time) then
    { s with cmd.raised := [], cmd.window := s.time }
  else s

/-- Send an event to the ports of CMD_EVT_CTRL, once per period and code (R352). -/
def sendEvent (code : Nat) (data : List Byte) (s0 : State) : State :=
  let s := renewWindow s0
  if !evEnabled s code then s
  else if s.cmd.raised.contains code then setSuppressed s code (suppressedOf s code + 1)
  else
    let lostBefore := s.cmd.lost
    let pl := eventPayload s code data
    let s1 := { s with cmd.raised := code :: s.cmd.raised }
    let s2 := if s.fb F.CMD_EVT_CTRL_RING then emitEvent code pl .ring s1 else s1
    let s3 := if s.fb F.CMD_EVT_CTRL_SPI then emitEvent code pl .spi s2 else s2
    if s3.cmd.lost = lostBefore then setSuppressed s3 code 0 else s3

/-- The fault trigger of a snapshot (R374): an event of the mask takes it if the unit is armed for
faults, else it counts as missed (R373). -/
def faultTrigger (code : Nat) (s : State) : State :=
  match faultMaskCodes.findIdx? (· == code) with
  | none => s
  | some i =>
    if bitOf (s.f F.SNP_CTRL_FAULTS) i then
      if bitOf (s.f F.SNP_CTRL_TRIGGERS) 2 then
        let s1 := takeSnap 2 (s.f F.SNP_ID_ARM_ID) code s
        sendEvent 0xB0 (q4 (s.f F.SNP_ID_ARM_ID) ++ q4 2 ++ q4 code ++ q8 s.time) s1
      else s.bump F.SNP_CNT_MISSED_CNT
    else s

/-- Raise an event (R352), with its carried quantities in order (R353). -/
def State.raise (s : State) (code : Nat) (data : List Byte) : State :=
  faultTrigger code (sendEvent code data s)

/-- The event part has space again for every port events go to (R352). -/
def eventSpace (s : State) : Bool :=
  (!s.fb F.CMD_EVT_CTRL_RING || eventRoom s .ring) && (!s.fb F.CMD_EVT_CTRL_SPI || eventRoom s .spi)

/-- EVT_LOST, once space has returned: how many were lost, and the lowest code (R352). Space returns when a packet leaves the
buffer, and when the space reserved for a reply is given up (R339). -/
def lostReport (s : State) : State :=
  if s.cmd.lost = 0 || !eventSpace s then s
  else ({ s with cmd.lost := 0 } : State).raise 0x20 (q4 s.cmd.lost ++ q4 s.cmd.lostCode)

/-- A snapshot with its event (R373, R385). -/
def snapshot (src id srcId : Nat) (s : State) : State :=
  (takeSnap src id srcId s).raise 0xB0 (q4 id ++ q4 src ++ q4 srcId ++ q8 s.time)

/-! ### Status codes (R347) -/

namespace St
abbrev ok : Nat := 0x00
abbrev accepted : Nat := 0x01
abbrev progress : Nat := 0x02
abbrev doneReplayed : Nat := 0x03
abbrev badOpcode : Nat := 0x10
abbrev badLength : Nat := 0x11
abbrev badParam : Nat := 0x12
abbrev range : Nat := 0x13
abbrev badCrc : Nat := 0x14
abbrev repeatAlive : Nat := 0x15
abbrev busy : Nat := 0x16
abbrev locked : Nat := 0x17
abbrev badPassword : Nat := 0x18
abbrev late : Nat := 0x19
abbrev bufInUse : Nat := 0x1A
abbrev bufLost : Nat := 0x1B
abbrev failedSwitch : Nat := 0x1C
abbrev aborted : Nat := 0x1D
abbrev refusedState : Nat := 0x1E
abbrev nvmFail : Nat := 0x1F
end St

/-! ### Replies -/

/-- The sticky status bits that show a status given (R363). -/
def noteStatus (st : Nat) (s : State) : State :=
  if st = St.badLength then s.setB F.CMD_STATUS_BAD_LENGTH true
  else if st = St.badCrc then s.setB F.CMD_STATUS_BAD_CRC true
  else if st = St.repeatAlive then s.setB F.CMD_STATUS_REPEAT true
  else if st = St.busy then s.setB F.CMD_STATUS_BUSY true
  else s

/-- CMD_LASTREF (R363): the last command whose only or final reply is a refusal other than LATE. -/
def noteLastRef (op st : Nat) (rq : Req) (s : State) : State :=
  if decide (0x10 ≤ st) && !(st == St.late) then
    ((((s.setF F.CMD_LASTREF_STATUS st).setF F.CMD_LASTREF_OPCODE op).setF F.CMD_LASTREF_TAG rq.tag).setF
      F.CMD_LASTREF_STREAM rq.stream).setF F.CMD_LASTREF_PORT (b2n (rq.port == .spi))
  else s

/-- R343: QUIET suppresses OK, ACCEPTED and PROGRESS. -/
def quietDrops (rq : Req) (st : Nat) : Bool := rq.quiet && decide (st ≤ St.progress)

/-- Queue a reply packet (R341), unless QUIET drops it (R343). -/
def pushReply (op : Nat) (rq : Req) (final : Bool) (st : Nat) (body : List Byte) (seq : Option Nat)
    (s : State) : State :=
  if quietDrops rq st then s
  else { s with cmd.out := s.cmd.out ++
      [⟨rq.port, if op = 0x40 then .stopReply else .reply, 1, rq.stream, final, op, rq.tag, rq.alive,
        pad4 (BitVec.ofNat 8 st :: body), seq⟩] }

/-- Change the journal entry of a SEQ. -/
def State.onEntry (s : State) (seq : Nat) (f : JEntry → JEntry) : State :=
  { s with cmd.journal := s.cmd.journal.map (fun e => if e.seq = seq then f e else e) }

/-- The journal entry of a finished command is DONE, and names the reply's slot; with no reply to send it is free at
once (R282). -/
def journalDone (op : Nat) (rq : Req) (st seq : Nat) (s : State) : State :=
  if quietDrops rq st || op = 0x00 then s.onEntry seq (fun e => { e with state := .done, sent := true })
  else s.onEntry seq (fun e => { e with state := .done, reply := (Config.replySlot seq).toNat })

/-- The reply of a command has been transmitted: its entry is free (R282). -/
def journalSent (seq : Nat) (s : State) : State := s.onEntry seq (fun e => { e with sent := true })

/-- Give a command its final reply: the packet, the journal, the sticky bits, CMD_LASTREF. -/
def finalReply (op : Nat) (rq : Req) (seq st : Nat) (body : List Byte) (s : State) : State :=
  noteLastRef op st rq (noteStatus st (journalDone op rq st seq
    (pushReply op rq true st body (some seq) s)))

/-! ### Commands in flight -/

/-- The first command in flight of an opcode. -/
def State.job? (s : State) (op : Nat) : Option Job := s.cmd.jobs.find? (fun j => j.op == op)

/-- The command in flight of an opcode with a key. -/
def State.jobKey? (s : State) (op key : Nat) : Option Job :=
  s.cmd.jobs.find? (fun j => j.op == op && j.key == key)

/-- A PROGRESS reply of a command in flight (R341). -/
def progressReply (j : Job) (body : List Byte) (s : State) : State :=
  pushReply j.op j.rq false St.progress body (some j.seq) s

/-- Note the units done of a command in flight (R282, R285). -/
def noteProgress (seq n : Nat) (s : State) : State :=
  { s with cmd.journal := s.cmd.journal.map (fun e => if e.seq = seq then { e with progress := n } else e) }

/-- The status of a command executed again: DONE_REPLAYED in place of OK (R284). -/
def replayStatus (st : Nat) : Nat := if st = St.ok then St.doneReplayed else st

/-- HLV_JOURNAL.REPLAYED counts the entries answered DONE_REPLAYED (R291). -/
def countReplayed (st : Nat) (s : State) : State := if st = St.doneReplayed then s.bump F.HLV_JOURNAL_REPLAYED else s

/-- End a command in flight with its final reply. -/
def finishJob (j : Job) (st : Nat) (body : List Byte) (s : State) : State :=
  let st' := if j.replayed then replayStatus st else st
  lostReport (finalReply j.op j.rq j.seq st' body
    (countReplayed st' { s with cmd.jobs := s.cmd.jobs.filter (fun k => !(k.seq == j.seq)) }))

/-- End the command in flight of an opcode and key, if there is one. -/
def finishKey (op key st : Nat) (body : List Byte) (s : State) : State :=
  match s.jobKey? op key with
  | some j => finishJob j st body s
  | none => s

/-- End every command in flight of an opcode and key. -/
def finishAll (op key st : Nat) (body : List Byte) (s : State) : State :=
  (s.cmd.jobs.filter (fun j => j.op == op && j.key == key)).foldl (fun t j => finishJob j st body t) s

/-- End the first command in flight of an opcode, if there is one. -/
def finishOp (op st : Nat) (body : List Byte) (s : State) : State :=
  match s.job? op with
  | some j => finishJob j st body s
  | none => s

/-! ### What an accepted packet does (R345, R350, R390 to R393, R454) -/

/-- A source is no longer active. -/
def sourceOff (src : Nat) (s : State) : State := { s with saf.active := setErase src s.saf.active }

/-- A cause of R390 makes the engine leave HOLD at the next tick. -/
def leaveHold (s : State) : State :=
  if s.pwr.state = .hold then { s with pwr.holdExit := some (s.pwr.holdExit.getD s.tck.frame), pwr.holdReq := none }
  else { s with pwr.holdReq := none }

/-- ELAPSED_S returns to 0, and the pending request of its timer goes (R391, R395). -/
def clearElapsed (s : State) : State :=
  { s with pwr.elapsed0 := s.time, pwr.elapsedKept := 0
           pwr.idleReq := match s.pwr.idleReq with
             | some r => if r.by_ = .timer then none else some r
             | none => none }

/-- The opcodes of the first row of the class table of R285: they leave HOLD alone (R390). -/
def readOnlyOp (op : Nat) : Bool :=
  [0x00, 0x01, 0x02, 0x08, 0x0B, 0x13, 0x38, 0x30, 0x45, 0x51, 0x69, 0x71, 0x78, 0x60].contains op

/-- Bytes 1 to 11 of the final reply of a SHUTDOWN that ends before IDLE, no step run and no record written (R465): the
spare rows in use. -/
def noTestBody (refuser : Nat) (s : State) : List Byte :=
  [0] ++ bytesLE 1 refuser ++ zeros 3 ++ bytesLE 2 s.nvm.repair.length ++ zeros 4

/-- A service request ends a SHUTDOWN that saves or waits for its tick: it is answered ABORTED and its entry is given up;
an ENABLE goes ahead of the queue (R454). -/
def serviceShutdown (op : Nat) (s : State) : State :=
  let s1 : State := { s with pwr.idleReq := none, pwr.service := s.pwr.service || op == 0x46 }
  finishOp 0x6A St.aborted (noTestBody 0xFF s1) s1

/-- A command or video packet has been accepted (R335): the timers (R391), HOLD (R390), IDLE (R393), and a
running shut-down test or SHUTDOWN (R454). -/
def noteTraffic (type op : Nat) (payload : List Byte) (s : State) : State :=
  let counts := (type = 0 && !(op == 0x00)) || type = 3
  let s1 := if counts then clearElapsed s else s
  let s2 :=
    if type = 3 || (type = 0 && !readOnlyOp op && !(op == 0x48 && u8 payload 0 == 1)) then leaveHold s1 else s1
  if counts && (s2.pwr.state == .idle) then
    { s2 with pwr.idleExit := true, pwr.service := s2.pwr.service || s2.nvm.test.isSome || s2.pwr.sleepReq.isSome ||
      (s2.job? 0x6A).isSome }
  else if counts && (s2.job? 0x6A).isSome then serviceShutdown op s2
  else s2

/-- R350: every stream but 1 counts for master loss. -/
def masterStream (stream : Nat) : Bool := !(stream == 1)

/-- The alive registers of a stream (R345, R363). -/
def aliveLast (st : Nat) : Fld := F.CMD_ALIVE0_LAST.at (8 * st)
def aliveValid (st : Nat) : Fld := F.CMD_ALIVE0_VALID.at (8 * st)

/-- An accepted packet updates its stream's alive value and gap count (R345). -/
def noteAlive (stream alive : Nat) (s : State) : State :=
  let gap := if s.fb (aliveValid stream) then (alive + 255 - s.f (aliveLast stream)) % 256 else 0
  ((s.addF (F.CMD_GAP0_GAP_CNT.at (8 * stream)) gap).setF (aliveLast stream) alive).setB (aliveValid stream) true

/-- A valid master packet sets ELAPSED to 0 and clears MLOSS_RUN; the source MASTER_LOSS ends (R350). -/
def noteMaster (stream : Nat) (s : State) : State :=
  sourceOff Src.mloss
    (({ s with cmd.masterTime := s.time, cmd.masterStream := stream }).setB F.CMD_STATUS_MLOSS_RUN false)

/-- A packet joins what waits (R338), with TIME, TCK_FRAME and ROW at its acceptance (R61). -/
def queueEntry (type op : Nat) (rq : Req) (s : State) : State :=
  { s with cmd.inbox := s.cmd.inbox ++ [⟨type, op, rq, s.time, s.tck.frame, s.tck.row⟩] }

/-- A packet that passes every check of R335 is accepted: its alive value (R345), and what hears of it. -/
def takeIn (type op : Nat) (rq : Req) (s : State) : State :=
  noteTraffic type op rq.payload (queueEntry type op rq (noteAlive rq.stream rq.alive s))

/-- Is this the entry of the request? -/
def QEntry.matches (e : QEntry) (op : Nat) (rq : Req) : Bool := e.op == op && e.rq == rq

/-- The packet of a request stands among those accepted and not yet executed. -/
def State.holds (s : State) (type op : Nat) (rq : Req) : Bool := s.cmd.inbox.any (fun e => e.type == type && e.matches op rq)

/-- A command or packet that is given and that no PACKET_RECEIVE or SPI_PUT has brought is accepted now, as R335 would
accept it (notes/assumptions/13.md). In a device reset and in SLEEP nothing is (R431, R396). -/
def accept (type op : Nat) (rq : Req) (s : State) : State :=
  if s.off || s.holds type op rq then s
  else takeIn type op rq (if masterStream rq.stream then noteMaster rq.stream s else s)

/-! ### The frame in which a command executes -/

/-- How a command's execution ends. -/
inductive Reply where
  /-- One reply, final. -/
  | final (st : Nat) (body : List Byte)
  /-- Long-running: ACCEPTED now, the final reply later (R341). -/
  | accepted (body : List Byte) (key : Nat) (fin : List Byte)
  /-- Not long-running, but its one reply comes later. -/
  | later (key : Nat) (fin : List Byte)
  /-- ACCEPTED and the final reply at once: a command of two replies with nothing left to wait for. -/
  | both (body : List Byte) (st : Nat) (fin : List Byte)
  /-- No reply whatever QUIET holds (NOP, R360). -/
  | silent

/-- A refusal changes nothing: the state as it was, and the status (R342). -/
def refuse (st : Nat) (s : State) : State × Reply := (s, .final st [])

/-- Done, with a reply body. -/
def okReply (body : List Byte) (s : State) : State × Reply := (s, .final St.ok body)

/-- R285: the opcodes of class N; REG_WR and REG_RMW are judged by the registers they write. -/
def classN (op : Nat) : Bool := [0x44, 0x25, 0x58, 0x61, 0x62, 0x68, 0x6A].contains op

/-- Does a register hold a W1C, WO or RWL field (R285)? -/
def regClassN (a : Nat) : Bool :=
  match regRow a with
  | some r => !(r.w1c == 0 && r.wo == 0 && r.rwl == 0)
  | none => false

/-- The addresses a REG_WR writes (R361). -/
def wrAddrs (rq : Req) : List Nat := (List.range ((rq.payload.length - 4) / 4)).map (fun i => u32 rq.payload 0 + 4 * i)

/-- Is a command of class N (R285)? -/
def reqClassN (op : Nat) (rq : Req) : Bool :=
  classN op || (op == 0x09 && (wrAddrs rq).any regClassN) || (op == 0x0A && regClassN (u32 rq.payload 0))

/-- Room for the largest reply of an opcode, beside what is reserved (R336, R339); the safe-stop slot is held back. -/
def replyRoom (op : Nat) (s : State) : Bool :=
  decide (outBytes s.cmd.out + s.reserved + replySpace op ≤ 16320)

/-- The opcodes of R355. -/
def knownOp (op : Nat) : Bool :=
  inRange op 0x00 0x03 || inRange op 0x08 0x0B || inRange op 0x10 0x13 || inRange op 0x18 0x1C ||
  inRange op 0x20 0x25 || inRange op 0x28 0x2A || op == 0x2C || inRange op 0x30 0x33 || op == 0x38 ||
  inRange op 0x40 0x46 || op == 0x48 || op == 0x49 || op == 0x50 || op == 0x51 || op == 0x58 ||
  op == 0x59 || inRange op 0x60 0x63 || inRange op 0x68 0x6A || op == 0x70 || op == 0x71 ||
  inRange op 0x78 0x7A || op == 0x7F

/-- R355: a command that no row executes: an unknown opcode (BAD_OPCODE), HERD or ENUM as TYPE 0
(BAD_PARAM). Its refusal is given at execution, so the packet is accepted first (R347). -/
def noRow (op : Nat) : Option Nat :=
  if !knownOp op then some St.badOpcode
  else if op == 0x03 || op == 0x11 then some St.badParam
  else none

/-- The part executes commands: booted (R437), clocked (R386, R393), with an active half, no switch-over in progress
(R275, R348) and no quick self-test running (R279). -/
def State.executes (s : State) : Bool :=
  s.sys.phase == .run && (s.pwr.state == .active || s.pwr.state == .hold) && s.hlv.active &&
    s.hlv.abdicated.isNone && !s.quickRuns

/-- A command that is not long-running is still executing: the next waits (R59, R338). HALF_SWITCH, whose
reply comes after the exchange, holds nothing back (R287, R290). -/
def State.inExecution (s : State) : Bool := s.cmd.jobs.any (fun j => !j.long && !(j.op == 0x79))

/-- A command waits: the part executes none, another is executing or stands before it in the queue
(R338), its reply has no room (R339), or every journal entry is in use (R282; notes/assumptions/44.md). -/
def State.mustWait (s : State) (op : Nat) (rq : Req) : Bool :=
  !s.executes || s.inExecution || !replyRoom op s || decide (128 ≤ s.journalUsed) ||
    (match s.cmd.inbox.filter QEntry.inQueue with
     | [] => true
     | e :: _ => !e.matches op rq)

/-- Take the entry of a request out of the inbox. -/
def unpark (op : Nat) (rq : Req) (s : State) : State :=
  { s with cmd.inbox := s.cmd.inbox.eraseP (fun e => e.matches op rq) }

/-- The entry of a request as it was accepted. -/
def State.entryOf (s : State) (op : Nat) (rq : Req) : Option QEntry := s.cmd.inbox.find? (fun e => e.matches op rq)

/-- The TIME at which a request was accepted. -/
def acceptedAt (op : Nat) (rq : Req) (s : State) : Nat :=
  match s.entryOf op rq with
  | some e => e.time
  | none => s.time

/-- The journal with a new entry: of 128 entries the oldest DONE one whose reply has been sent is reused (R282). DESIGN CHOICE
(notes/assumptions/44.md): a command taken ahead of the queue while all 128 are in use gets none. -/
def journalAdd (e : JEntry) (l : List JEntry) : List JEntry :=
  if l.length < 128 then l ++ [e]
  else if l.any (fun x => !x.inUse) then l.eraseP (fun x => !x.inUse) ++ [e]
  else l

/-- The journal entry of a command that leaves the queue: QUEUED (R282). -/
def openEntry (op : Nat) (rq : Req) (idemp : Bool) (s : State) : State :=
  { s with
    cmd.journal := journalAdd
      ⟨s.cmd.seq, .queued, op, rq, idemp, false, (Config.requestSlot s.cmd.seq).toNat, 0, s.tck.frame, s.tck.row, 0xFFFF,
        acceptedAt op rq s⟩ s.cmd.journal
    cmd.seq := (s.cmd.seq + 1) % 65536 }

/-- The code of STATE (R282). -/
def JState.code : JState → Nat
  | .queued => 0
  | .executing => 1
  | .done => 2

/-- The 32 bytes of a journal entry, its CRC-32C last (R282). -/
def JEntry.bytes (e : JEntry) : List Byte :=
  let b := bytesLE 2 e.seq ++ bytesLE 1 (e.rq.stream % 8 + 8 * e.state.code + 32 * b2n e.sent + 64 * b2n e.idemp) ++
    bytesLE 1 e.op ++ bytesLE 1 e.rq.tag ++ bytesLE 1 e.rq.alive ++ bytesLE 2 e.pkt ++ bytesLE 4 e.progress ++
    bytesLE 4 e.frame ++ bytesLE 2 e.row ++ bytesLE 2 e.reply ++ bytesLE 8 e.time
  b ++ bytesLE 4 (crc32c b)

/-- A single-register REG_WR marks its entry DONE with its one write; its reply may follow later (R254, R283). -/
def markWritten (op : Nat) (rq : Req) (seq : Nat) (s : State) : State :=
  if op = 0x09 && rq.payload.length == 8 then s.onEntry seq (fun e => { e with state := .done }) else s

/-- Close a command's execution. A ninth long-running command is answered BUSY with nothing done
(R337): `s0` is the state its effect has not touched. -/
def closeCommand (op : Nat) (rq : Req) (seq : Nat) (s0 : State) : State × Reply → State
  | (s, .final st body) => finalReply op rq seq st body s
  | (s, .accepted body key fin) =>
    if s0.longRunning < 8 then
      pushReply op rq false St.accepted body (some seq)
        { s with cmd.jobs := s.cmd.jobs ++ [⟨seq, op, rq, true, key, fin, false⟩] }
    else (finalReply op rq seq St.busy [] s0).bump F.CMD_CNT_REF_BUSY_CNT
  | (s, .later key fin) => markWritten op rq seq { s with cmd.jobs := s.cmd.jobs ++ [⟨seq, op, rq, false, key, fin, false⟩] }
  | (s, .both body st fin) =>
    if s0.longRunning < 8 then finalReply op rq seq st fin (pushReply op rq false St.accepted body (some seq) s)
    else (finalReply op rq seq St.busy [] s0).bump F.CMD_CNT_REF_BUSY_CNT
  | (s, .silent) => journalDone 0x00 rq St.ok seq s

/-- The state in which a command's body runs: it no longer waits, has its journal entry (R282), and still holds its
queue entry (R337); SAFE_STOP holds none (R338). -/
def startCommand (op : Nat) (idemp : Bool) (rq : Req) (s : State) : State :=
  let s1 := (unpark op rq (openEntry op rq idemp s)).onEntry s.cmd.seq (fun e => { e with state := .executing })
  { s1 with cmd.cur := if op = 0x40 then none else some (op, rq.payload.length) }

/-- The body has run. -/
def endBody (r : State × Reply) : State × Reply := ({ r.1 with cmd.cur := none }, r.2)

/-- A command's execution in one step, its waiting aside; what its reply leaves of the space reserved for it is free again (R339). -/
def runBody (op : Nat) (idemp : Bool) (rq : Req) (body : State → State × Reply) (s : State) : State :=
  let s1 := startCommand op idemp rq s
  lostReport (closeCommand op rq s.cmd.seq { s1 with cmd.cur := none } (endBody (body s1)))

/-- A step repeated as long as it can be taken, at most so often. -/
def iterSome {α : Type} (f : α → Option α) : Nat → α → α
  | 0, a => a
  | n + 1, a =>
    match f a with
    | some b => iterSome f n b
    | none => a

/-- The command at the head of the queue is answered, if no row executes it and it need not wait (R338, R355). -/
def answerHead (s : State) : Option State :=
  match s.cmd.inbox.filter QEntry.inQueue with
  | [] => none
  | e :: _ =>
    match noRow e.op with
    | none => none
    | some st => if s.mustWait e.op e.rq then none else some (runBody e.op true e.rq (fun t => (t, .final st [])) s)

/-- The queue as it stands once those at its head that no row executes are answered, in order. -/
def serveQueue (s : State) : State := iterSome answerHead s.cmd.inbox.length s

/-- Execute a command: it is accepted if it was not yet; then it waits in the queue, or it leaves the queue and its body
runs in one step. -/
def runCommand (op : Nat) (idemp : Bool) (rq : Req) (body : State → State × Reply) (s0 : State) : State :=
  let s := serveQueue (accept 0 op rq s0)
  if s.mustWait op rq then s else runBody op idemp rq body s

/-- A command of an opcode, in its class of R285. -/
def command (op : Nat) (rq : Req) (body : State → State × Reply) (s : State) : State :=
  runCommand op (!reqClassN op rq) rq body s

/-- A body that first checks LEN (R355): any other length is refused with BAD_LENGTH. -/
def withLen (ok : Bool) (body : State → State × Reply) (s : State) : State × Reply :=
  if ok then body s else refuse St.badLength s

/-- A body that checks that LEN is `n`. -/
def len (rq : Req) (n : Nat) : Bool := rq.payload.length == n

/-- Check several conditions in order; the first that fails gives its status (R355, R361). -/
def checkAll : List (Bool × Nat) → Option Nat
  | [] => none
  | (ok, st) :: t => if ok then checkAll t else some st

/-- Run a body unless a check fails. -/
def guarded (checks : List (Bool × Nat)) (body : State → State × Reply) (s : State) : State × Reply :=
  match checkAll checks with
  | none => body s
  | some st => refuse st s

end Sys2Proof.Machine
end

