-- ==== Sys2Proof/Machine/Basic.lean ====
section
/-! DEFINITION. The plain commands of the front end: NOP, PING, ID_READ, EVENT_CFG, TIME_READ, and the
change of the command buffer (R336, R360, R362, R75). -/

namespace Sys2Proof.Machine

/-- NOP (R360): LEN 0; no effect and no reply. -/
def nopBody (rq : Req) : State → State × Reply := withLen (len rq 0) (fun s => (s, .silent))

def execNop (rq : Req) (s : State) : Host.Outcome State Fault Refusal := .next (command 0x00 rq (nopBody rq) s)

/-- PING (R360): the queue entries in use, the free command-buffer space, and the payload unchanged. -/
def pingBody (rq : Req) : State → State × Reply :=
  withLen (rq.payload.length ≤ 4076) (fun s =>
    okReply (bytesLE 1 s.queued ++ bytesLE 2 s.cmdFree ++ rq.payload) s)

def execPing (rq : Req) (s : State) : Host.Outcome State Fault Refusal := .next (command 0x01 rq (pingBody rq) s)

/-- The 20-byte identity reply of R360 (R1). -/
def idBody (s : State) : List Byte :=
  let ver (x : Fld) := s.f (ofHalf x s.activeHalf)
  bytesLE 1 0x5D ++ bytesLE 2 0x1048 ++ bytesLE 1 0x41 ++ bytesLE 1 (ver F.HLV_FWVER_A_MAJOR) ++
    bytesLE 1 (ver F.HLV_FWVER_A_MINOR) ++ [0] ++ bytesLE 2 (ver F.HLV_FWVER_A_BUILD) ++
    bytesLE 1 (s.f F.HLV_ROLE_ACTIVE) ++ bytesLE 1 (s.f F.RNG_ADDR_ADDR + 32 * s.f F.RNG_ADDR_VALID) ++
    bytesLE 8 Config.dieId.toNat

/-- ID_READ (R1, R360). -/
def idReadBody (rq : Req) : State → State × Reply := withLen (len rq 0) (fun s => okReply (idBody s) s)

def execIdRead (rq : Req) (s : State) : Host.Outcome State Fault Refusal :=
  .next (command 0x02 rq (idReadBody rq) s)

/-- The event codes of R354. -/
def eventCodes : List Nat :=
  [0x01] ++ natsFrom 0x10 7 ++ natsFrom 0x20 3 ++ natsFrom 0x30 5 ++ natsFrom 0x40 6 ++ natsFrom 0x50 5 ++
  natsFrom 0x60 7 ++ natsFrom 0x70 10 ++ natsFrom 0x80 10 ++ natsFrom 0x90 6 ++ [0xA0, 0xB0] ++
  natsFrom 0xC0 7 ++ natsFrom 0xD0 4 ++ natsFrom 0xE0 3

/-- All bits of ENABLE belong to codes of R354 (R362). -/
def enableLegal (pl : List Byte) : Bool :=
  (List.range 256).all (fun c => !bitOf (u8 pl (4 + c / 8)) (c % 8) || eventCodes.contains c)

/-- Is STREAM one that events may carry (R362, R363)? -/
def evtStreamOk (n : Nat) : Bool := n == 0 || (decide (4 ≤ n) && decide (n ≤ 7))

/-- Bytes 1 to 35 in force, as R362 places them from byte 4 of the reply. -/
def eventCfgReply (s : State) : List Byte :=
  zeros 3 ++ [0] ++ bytesLE 1 (s.f F.CMD_EVT_CTRL_STREAM) ++
    bytesLE 1 (s.f F.CMD_EVT_CTRL_RING + 2 * s.f F.CMD_EVT_CTRL_SPI) ++ [0] ++
    ((List.range 8).flatMap (fun r => bytesLE 4 (s.reg (0x2040 + 4 * r)).toNat))

/-- The write of R362. -/
def eventCfgWrite (pl : List Byte) (s : State) : State :=
  let s1 := ((s.setF F.CMD_EVT_CTRL_STREAM (u8 pl 1)).setF F.CMD_EVT_CTRL_RING (u8 pl 2 % 2)).setF
    F.CMD_EVT_CTRL_SPI (bitsOf (u8 pl 2) 1 1)
  (List.range 8).foldl (fun t r => t.setReg (0x2040 + 4 * r) (BitVec.ofNat 32 (u32 pl (4 + 4 * r)))) s1

/-- EVENT_CFG (R362). -/
def eventCfgBody (rq : Req) : State → State × Reply :=
  withLen (len rq 36) (fun s =>
    if bitOf (u8 rq.payload 0) 0 then
      guarded [(evtStreamOk (u8 rq.payload 1 % 8), St.range), (enableLegal rq.payload, St.range)]
        (fun s => let t := eventCfgWrite rq.payload s; okReply (eventCfgReply t) t) s
    else okReply (eventCfgReply s) s)

def execEventCfg (rq : Req) (s : State) : Host.Outcome State Fault Refusal :=
  .next (command 0x0B rq (eventCfgBody rq) s)

/-- CMDBUF_APPLY (R336): a pending change of CMDBUF applies once the command queue is empty. -/
def cmdbufApply (s : State) : State :=
  if s.queued = 0 then s.setF F.CMD_CTRL_CMDBUF_ACT (s.f F.CMD_CTRL_CMDBUF) else s

def execCmdbufApply (s : State) : Host.Outcome State Fault Refusal := .next (cmdbufApply s)

/-- The 44-byte reply of TIME_READ (R75), sampled in one CTL clock. -/
def timeBody (s : State) : List Byte :=
  bytesLE 1 (s.f F.TCK_TIME_Q_Q + 4 * s.f F.TCK_TIME_Q_MOFS_VALID) ++ bytesLE 2 s.tck.row ++
    bytesLE 8 s.time ++ bytesLE 4 s.tck.frame ++ bytesLE 8 s.tck.tickTime ++ bytesLE 8 s.tck.flipTime ++
    bytesLE 4 (s.f F.TCK_FLIP_FRAME_FRAME) ++ bytesLE 8 (encSigned 64 s.tck.mofs)

/-- TIME_READ (R75). -/
def timeReadBody (rq : Req) : State → State × Reply := withLen (len rq 0) (fun s => okReply (timeBody s) s)

def execTimeRead (rq : Req) (s : State) : Host.Outcome State Fault Refusal :=
  .next (command 0x13 rq (timeReadBody rq) s)

/-- MASTER_LOSS, what CMD does (R350): the flag and MASTER_SILENT, once. -/
def masterSilent (s : State) : State :=
  (s.setB F.CMD_STATUS_MLOSS_RUN true).raise 0x22 (q4 s.elapsedMs ++ q4 s.cmd.masterStream)

/-- The clock moves by one unit of TIME, 10 ns (R15, R70), and a command that no row executes is answered once it stands
at the head of the queue and need not wait (R338): what a step does while no command waits (notes/assumptions/1.md). -/
def idle (s : State) : State := serveQueue { s with time := s.time + 1 }

end Sys2Proof.Machine
end

