-- ==== Sys2Proof/Machine/Hooks.lean ====
section
/-! DEFINITION. What several families act on together: the fault sources and the stop requests (R229 to
R243), the lamp state, the eNVM operation queue (R441), and the refusers of the power states (R394, R395). -/

namespace Sys2Proof.Machine

/-! ### Fault sources (R243) -/

/-- The class of a source in the class map (R243, R244): sources 9 to 12 are fixed at class 0. -/
def classOf (s : State) (src : Nat) : Nat :=
  if inRange src 9 12 then 0 else fieldOf (s.reg 0x8014) (2 * src + 1) (2 * src)

/-- A source becomes active (R243). -/
def activate (src : Nat) (s : State) : State := { s with saf.active := setInsert src s.saf.active }

/-! ### The lamp state -/

/-- Bytes 1 to 11 of the reply of BIST_RUN and SHUTDOWN (R465). -/
def bistBody (t : BistRec) (refuser : Nat) : List Byte :=
  bytesLE 1 t.step ++ bytesLE 1 refuser ++ [0] ++ bytesLE 2 t.faults.length ++ bytesLE 2 t.spares ++ bytesLE 4 t.seq

/-- BIST_DONE (R468): origin, status, STEP, FAULTS, SPARES. -/
def bistDone (r : BistRec) (st : Nat) (s : State) : State :=
  s.raise 0xE0 (q4 r.origin ++ q4 st ++ q4 r.step ++ q4 r.faults.length ++ q4 r.spares)

/-- A BIST_RUN that has run no step ends: no record is written (R458). -/
def endWaiting (st : Nat) (t : BistRec) (s : State) : State :=
  finishOp 0x68 st (bistBody { t with seq := 0 } 0xFF) (bistDone t st { s with nvm.test := none, nvm.testAbort := false })

/-- A BIST_RUN ends after the step in progress (R457). -/
def abortBist (s : State) : State :=
  match s.nvm.test with
  | some t =>
    if !(t.origin == 2) || s.nvm.testEnd.isSome then s
    else if s.nvm.stepNow = 0 then endWaiting St.aborted t s
    else { s with nvm.testAbort := true }
  | none => s

/-- Bytes 1 to 15 of the final reply of a FLUX_CAL (R111). DESIGN CHOICE (notes/assumptions/56.md): with no tile processed
LAST_TILE is the one before the first, 0 for tile 0. -/
def calBody (s : State) (c : FluxCal) : List Byte :=
  [0] ++ bytesLE 2 c.applied ++ bytesLE 2 c.clipped ++ bytesLE 2 c.unmeasured ++ bytesLE 2 (c.first + c.done - 1) ++
    [0, 0] ++ bytesLE 4 s.tck.frame

/-- A FLUX_CAL in flight ends (R101 to R103). -/
def endCal (st : Nat) (s : State) : State :=
  match s.drv.cal with
  | none => s
  | some c =>
    let s1 := { s with drv.cal := none, drv.calMeas := [] }
    match s.cmd.jobs.find? (fun j => j.seq == c.seq) with
    | some j => finishJob j st (calBody s c) s1
    | none => s1

/-- R103: the lamp goes dark, the engine leaves ACTIVE, or a SAFE_STOP arrives. -/
def abortCal (s : State) : State := endCal St.aborted s

/-- A command in flight of an opcode moves from one key to another. -/
def Job.rekey (op old new : Nat) (j : Job) : Job := if j.op = op ∧ j.key = old then { j with key := new } else j

/-- The REPORTs in flight end (R225): with OK those of the sweep that ends (key 4), else all. One that a takeover restarts has
key 6 until the next sweep begins (R285). -/
def finishReport (st : Nat) (body : List Byte) (s : State) : State :=
  (s.cmd.jobs.filter (fun j => j.op == 0x31 && (j.key == 4 || (j.key == 6 && !(st == St.ok))))).foldl
    (fun t j => finishJob j st body t) s

/-- Pixel tests stop within a period, by the row of R213 that is no longer met: the period is not counted, and a result that
waits for the pixel's other test is dropped. A suspension and the end of ACTIVE end the REPORTs (R225). -/
def pauseTests (cause : Nat) (s : State) : State :=
  let s1 := if s.dia.running then
      ({ s with dia.running := false, dia.cause := cause, dia.wait := [] } : State).raise 0x75 (q4 cause ++ q4 1) else s
  if cause = 0 || cause = 2 then s1 else finishReport St.aborted (zeros 23) s1

/-- What a lamp state without light ends (R103, R213). -/
def lampEnds (new : Nat) (s : State) : State :=
  if new = Lamp.stopped || new = Lamp.dark then pauseTests 0 (abortCal s) else s

/-- A lamp state in which minutes count (R405). -/
def lampOn (l : Nat) : Bool := l == Lamp.lit || l == Lamp.fading || l == Lamp.safeHold

/-- The lamp-on time as the lamp comes on or goes off (R405). -/
def lampClock (new : Nat) (s : State) : State :=
  if lampOn s.lamp == lampOn new then s
  else if lampOn new then { s with pwr.lampFrom := s.time }
  else { s with pwr.lampPart := s.pwr.lampPart + (s.time - s.pwr.lampFrom) }

/-- The lamp state changes (R230): SAFE_STATE, and what R390, R391 and R457 tie to it. -/
def setLamp (new : Nat) (s0 : State) : State :=
  let s := lampClock new s0
  if s.lamp = new then s
  else abortBist (clearElapsed (leaveHold (lampEnds new
    ((s.setF F.SAF_STATE_LAMP new).raise 0x81 (q4 s.lamp ++ q4 new)))))

/-- VLED_EN goes low: the undervoltage warning disarms (R408). -/
def vledOff (s : State) : State :=
  { s.setB F.SAF_STATE_VLED_EN false with pwr.uvArmed := false, pwr.uvActive := false, saf.awaitArm := false }

/-- VLED_EN goes high (R232). -/
def vledOnNow (s : State) : State := { s.setB F.SAF_STATE_VLED_EN true with pwr.vledOn := s.time, pwr.noRise := false }

/-- The stamps and SAFE_STOP_EVT of a stop or escalation that begins (R258, R264). -/
def stampStop (cls src : Nat) (s : State) : State :=
  let s1 := (s.setF F.SAF_STATE_CLASS cls).setF F.SAF_STATE_SOURCE src
  let s2 := ((s1.setReg 0x8024 (BitVec.ofNat 32 s.tck.frame)).setReg 0x8028
    (BitVec.ofNat 32 (lo32 s.time))).setReg 0x802C (BitVec.ofNat 32 (hi32 s.time))
  s2.raise 0x80 (q4 cls ++ q4 src ++ q4 s2.lamp)

/-- The class-0 removal (R234): every segment switch opens, VLED_EN goes low, STOPPED latches. -/
def removeLight (s : State) : State :=
  let s1 := { vledOff s with saf.switches := false, saf.fade := none, saf.fbSelect := false }
  setLamp Lamp.stopped (s1.setB F.SAF_STATE_LATCHED true)

/-- The remaining fraction of a falling fade, over its length (R235). -/
def Fade.left (f : Fade) (now : Nat) : Nat := f.dur - (now - f.t0)

/-- The envelope E(t) in mA (R237). -/
def Fade.env (f : Fade) (now : Nat) : Nat :=
  let t := min f.dur (now - f.t0)
  match f.kind with
  | .class2 =>
    (((f.iStart : Int) + ((f.iSafe : Int) - f.iStart) * t / (max 1 f.dur : Nat))).toNat
  | _ => f.iStart * (f.dur - t) / max 1 f.dur

/-- I_start (R237): the larger of DRV_IMEAS and DRV_IPRED.SHOWN, and of the envelope of a fade in
progress. -/
def iStart (s : State) : Nat :=
  let m := max (s.f F.DRV_IMEAS_IMEAS) (s.f F.DRV_IPRED_SHOWN)
  match s.saf.fade with
  | some f => max m (f.env s.time)
  | none => m

/-- The current budget in force, in mA (R90, R93): the lower of BUDGET and BUDGET_MAX, and under the VLED
warning of UV_BUDGET. -/
def State.budgetMa (s : State) : Nat :=
  let b := min (s.a F.DRV_BUDGET_BUDGET) (s.f F.SAF_LIMITS_BUDGET_MAX)
  10 * (if s.pwr.uvActive then min b (s.a F.DRV_GOV_UV_BUDGET) else b)

/-- I_safe (R236): min(SAF_FB.IPRED × D, I_b). -/
def iSafe (s : State) : Nat :=
  min (s.f F.SAF_FB_IPRED * s.f F.DRV_DFACT_D / 0x8000) s.budgetMa

/-- ms in TIME units. -/
def msUnits (n : Nat) : Nat := 100000 * n

/-- A class-1 fade begins (R235), of the given length. -/
def beginClass1 (src : Nat) (dur : Nat) (s : State) : State :=
  let f : Fade := ⟨.class1, s.time, dur, s.time + dur, iStart s, 0, false⟩
  stampStop 1 src (setLamp Lamp.fading
    ({ s with saf.fade := some f }.setF F.SAF_ENV_STAT_I_START (min 65535 f.iStart)))

/-- A class-2 fade begins (R236): the fallback source is selected at the next tick. -/
def beginClass2 (src : Nat) (s : State) : State :=
  let f : Fade := ⟨.class2, s.time, msUnits (s.f F.SAF_FADE_T2), s.time + msUnits (s.f F.SAF_FADE_T2), iStart s, iSafe s, false⟩
  stampStop 2 src (setLamp Lamp.fading
    ({ s with saf.fade := some f, saf.fbSelect := true, saf.fbRelease := false, saf.byStop := true }.setF
      F.SAF_ENV_STAT_I_START (min 65535 f.iStart)))

/-- A class-0 stop (R234). -/
def class0 (src : Nat) (s : State) : State := stampStop 0 src (removeLight s)

/-- The class in force of a fade: 1, 2, or 3 for a switch-off. -/
def fadeClass (s : State) : Nat :=
  match s.saf.fade with
  | some f => match f.kind with
    | .class1 => 1
    | .class2 => 2
    | .switchOff => 3
  | none => 3

/-- A stop request of a class by a source, with the length a class-1 fade would take (R230, R239). Class 3
records and reports; a class-2 request with the fallback copy invalid is taken as class 1 (R26). -/
def requestStopDur (cls src dur : Nat) (s0 : State) : State :=
  let s := s0.setReg 0x801C (s0.reg 0x801C ||| BitVec.ofNat 32 (2 ^ src))
  if 3 ≤ cls then s.raise 0x82 (q4 src)
  else
    let s := leaveHold s
    let l := s.lamp
    if l = Lamp.lit then
      (match cls with
       | 0 => class0 src s
       | 1 => beginClass1 src dur s
       | _ => if s.fb F.SAF_FB_VALID then beginClass2 src s else beginClass1 src dur s)
    else if l = Lamp.fading then
      (match cls with
       | 0 => class0 src s
       | 1 => if fadeClass s = 1 then s else beginClass1 src dur s
       | _ => s)
    else if l = Lamp.safeHold then
      (match cls with
       | 0 => class0 src s
       | 1 => beginClass1 src dur s
       | _ => s)
    else s

/-- A stop request with the class-1 fade time T1 (R235). -/
def requestStop (cls src : Nat) (s : State) : State :=
  requestStopDur cls src (msUnits (s.f F.SAF_FADE_T1)) s

/-- A mapped source is raised: it is active, and its class is requested (R243). -/
def raiseSource (src : Nat) (s : State) : State := requestStop (classOf s src) src (activate src s)

/-- A source that is active only at its own instant (R243). -/
def raiseOnce (src : Nat) (s : State) : State := requestStop (classOf s src) src s

/-! ### eNVM operations (R441) -/

/-- Ask for operations, in order, for a command or for the engine itself. -/
def nvmPush (owner : Option Nat) (ks : List NvmKind) (s : State) : State :=
  { s with nvm.ops := s.nvm.ops ++ ks.map (fun k => ⟨k, owner, false⟩)
           nvm.started := s.nvm.started || (!ks.isEmpty && !s.fb F.THM_STATUS_SD_ACT && !s.dipHolds) }

/-- Has a command operations left? -/
def State.ownsOps (s : State) (seq : Nat) : Bool := s.nvm.ops.any (fun o => o.owner == some seq)

/-! ### Refusers of the power states (R394) -/

/-- R394: which refusers prevent which entry: 1 HOLD, 2 IDLE, 3 SLEEP. -/
def refuserMask (target : Nat) : Nat :=
  match target with
  | 1 => 0x1E
  | _ => 0xFEF

/-- The refusers that prevent an entry now. -/
def refusing (s : State) (target : Nat) : Nat := refusers s &&& refuserMask target

/-- The lowest set bit of a mask below `n`, counted from `i`; 0xFF when none. -/
def lowestBit : Nat → Nat → Nat → Nat
  | 0, _, _ => 0xFF
  | n + 1, i, m => if m % 2 = 1 then i else lowestBit n (i + 1) (m / 2)

/-- A refusal is counted, recorded and reported (R395). `mask` holds the refusers asserted. -/
def noteRefusal (target mask : Nat) (s : State) : State :=
  let low := lowestBit 12 0 mask
  let s1 := (List.range 12).foldl (fun t i =>
    if bitOf mask i then t.bump ⟨0xC014 + 4 * (i / 4), 8 * (i % 4) + 7, 8 * (i % 4)⟩ else t) s
  let s2 := ((s1.setF F.PWR_REFUSE_LAST_TARGET target).setF F.PWR_REFUSE_LAST_REFUSER low).setB
    F.PWR_FLAGS_REFUSED true
  s2.raise 0xC1 (q4 target ++ q4 low ++ q4 mask)

end Sys2Proof.Machine
end

