-- ==== Sys2Proof/Machine/RegCheck.lean ====
section
/-! DEFINITION. Which value a register takes: the field ranges and codes of the register tables (R5, R8,
R361), and which bits a write moves (R6, R9). -/

namespace Sys2Proof.Machine

/-- The address of instance 0 of a numbered register. -/
def baseAddr (a : Nat) : Nat :=
  if inRange a 0x4180 0x41BF then a - 0x80
  else if inRange a 0x4200 0x423F then 0x4200 + a % 0x10
  else if inRange a 0x7080 0x70BF then 0x7080 + a % 8
  else if inRange a 0x8100 0x81FF then 0x8100 + a % 0x10
  else if inRange a 0xA000 0xA07F then 0xA000 + a % 0x20
  else if inRange a 0xD040 0xD07F then 0xD040 + a % 0x10
  else if inRange a 0x1040 0x105F then 0x1040 + a % 8
  else a

/-- The unsigned fields with a range narrower than their width: bits, least and greatest value (R71,
R109, R149, R184, R223, R258, R291, R323, R363, R411, R427). -/
def fieldRanges (a : Nat) : List (Nat × Nat × Nat × Nat) :=
  match a with
  | 0x1000 => [(19, 16, 1, 15), (1, 0, 0, 2)]
  | 0x101C => [(12, 8, 0, 20), (3, 0, 0, 8)]
  | 0x2000 => [(9, 8, 0, 2)]
  | 0x3000 => [(5, 4, 0, 1), (2, 0, 0, 4)]
  | 0x3004 => [(8, 0, 256, 496)]
  | 0x400C => [(13, 8, 8, 40), (5, 0, 8, 40)]
  | 0x4010 => [(18, 16, 0, 5)]
  | 0x4014 => [(10, 8, 1, 4), (4, 0, 5, 31)]
  | 0x4100 => [(24, 16, 0, 256), (15, 12, 1, 15), (9, 8, 0, 2)]
  | 0x4104 => [(5, 0, 0, 59)]
  | 0x410C => [(25, 16, 1, 512), (11, 0, 1, 2048)]
  | 0x4200 => [(24, 16, 0, 256)]
  | 0x5000 => [(15, 2, 10, 10000)]
  | 0x6000 => [(15, 12, 1, 15)]
  | 0x6004 => [(9, 0, 50, 1000)]
  | 0x6008 => [(23, 16, 90, 100), (9, 0, 50, 1000)]
  | 0x6020 => [(23, 16, 5, 50), (8, 0, 300, 400)]
  | 0x7000 => [(14, 8, 0, 64)]
  | 0x700C => [(20, 16, 2, 20), (8, 0, 10, 500)]
  | 0x800C => [(25, 16, 20, 1000), (9, 0, 20, 1000)]
  | 0x8010 => [(20, 16, 1, 25), (9, 0, 10, 500)]
  | 0x8014 => [(17, 16, 0, 1), (15, 14, 0, 2), (13, 12, 0, 2), (7, 6, 0, 2), (5, 4, 0, 2), (3, 2, 0, 1), (1, 0, 0, 1)]
  | 0x8018 => [(24, 16, 5, 500), (9, 0, 50, 1000)]
  | 0xC020 => [(9, 8, 0, 2)]
  | 0xC034 => [(8, 0, 250, 340)]
  | 0xD010 => [(22, 16, 5, 100), (7, 0, 80, 120)]
  | 0xD014 => [(23, 16, 20, 200), (7, 0, 130, 150)]
  | 0xD044 => [(30, 24, 0, 100), (22, 16, 5, 100), (7, 0, 40, 150)]
  | _ => []

/-- The signed fields with a range: bits and bound (R149, R184). -/
def signedRanges (a : Nat) : List (Nat × Nat × Int) :=
  match a with
  | 0x5000 => [(31, 16, 8000)]
  | 0x5004 => [(31, 16, 1024), (15, 0, 4096)]
  | _ => []

/-- Is LYR_ZORDER a permutation of the six layers (R116)? -/
def zorderOk (v : Nat) : Bool :=
  (List.range 6).all (fun l => (List.range 6).any (fun p => bitsOf v (3 * p + 2) (3 * p) == l))

/-- The fields bound to each other (R71, R125, R245, R223, R109, R363). -/
def wordShape (a v : Nat) : Bool :=
  match a with
  | 0x201C => (bitsOf v 10 8 == 0 || decide (4 ≤ bitsOf v 10 8))
  | 0x4004 => zorderOk v
  | 0x4008 => decide (bitsOf v 2 0 < 4) || bitsOf v 2 0 == 7
  | 0x400C => decide (bitsOf v 13 8 + bitsOf v 5 0 ≤ 48)
  | 0x4014 => decide (bitsOf v 4 0 + bitsOf v 10 8 ≤ 32)
  | 0x6040 => bitOf v 0
  | 0x7080 => decide (bitsOf v 23 20 ≤ bitsOf v 27 24) && decide (bitsOf v 5 0 ≤ bitsOf v 13 8)
  | 0x8100 => decide (bitsOf v 10 0 ≤ bitsOf v 26 16)
  | 0x8104 => decide (bitsOf v 8 0 ≤ bitsOf v 24 16)
  | 0xD040 => inRange (bitsOf v 28 16) 3000 5000 && inRange (bitsOf v 15 0) 15565 18022
  | _ => true

/-- Every field of a word lies in its range (R361). -/
def rangesOk (a v : Nat) : Bool :=
  (fieldRanges (baseAddr a)).all (fun r => inRange (bitsOf v r.1 r.2.1) r.2.2.1 r.2.2.2) &&
    (signedRanges (baseAddr a)).all (fun r =>
      decide (-r.2.2 ≤ signedOf (r.1 + 1 - r.2.1) (bitsOf v r.1 r.2.1)) &&
        decide (signedOf (r.1 + 1 - r.2.1) (bitsOf v r.1 r.2.1) ≤ r.2.2)) &&
    wordShape (baseAddr a) v

/-- The configuration is unlocked for a stream (R8, R253). -/
def State.unlocked (s : State) (stream : Nat) : Bool :=
  s.fb F.SAF_LOCK_UNLOCKED && s.f F.SAF_LOCK_STREAM == stream

/-- Does an address hold a register with an RWL field? -/
def hasRwl (a : Nat) : Bool :=
  match regRow a with
  | some r => !(r.rwl == 0)
  | none => false

/-- The volatile controls of R251 that stand in registers. -/
def volatileRegs : List Nat := [0x4010, 0x6000, 0x7000, 0x700C]

/-- Is a register a stored safety parameter (R251)? -/
def isStored (a : Nat) : Bool := hasRwl a && !volatileRegs.contains a

/-- A write of a running value or COUNT while its engine runs is refused with BUSY (R379). -/
def chkBusyWrite (s : State) (a : Nat) : Bool :=
  inRange a 0xA000 0xA07F && (a % 0x20 == 8 || a % 0x20 == 0x10) && (chkEng s ((a - 0xA000) / 0x20)).run.isSome

/-- One word of a REG_WR (R361): R5, R8, then the field ranges and codes. `mask` covers the bits the access
writes (R8: a REG_RMW whose MASK covers no RWL field is no change). -/
def wordCheck (s : State) (stream a mask v : Nat) : Option Nat :=
  if !(a % 4 == 0) then some St.badParam
  else match regRow a with
    | none => some St.range
    | some r =>
      if !(r.rwl &&& mask == 0) && !s.unlocked stream then some St.locked
      else if chkBusyWrite s a then some St.busy
      else if !rangesOk a ((v &&& (r.rw ||| r.rwl)) ||| (((s.reg a).toNat) &&& (0xFFFFFFFF - (r.rw ||| r.rwl))))
      then some St.range
      else none

/-- The word a register holds after a write of `v` (R6, R9): RW and RWL bits take it, W1C bits clear where a 1
is written, the rest stays. -/
def writeValue (r : RegRow) (old v : Word) : Word :=
  let take := BitVec.ofNat 32 (r.rw ||| r.rwl)
  let w1c := BitVec.ofNat 32 r.w1c
  ((v &&& take) ||| (old &&& ~~~ take)) &&& ~~~ (v &&& w1c)

/-- A written set item joins the pending set (R51). -/
def markDirty (a : Nat) (s : State) : State := { s with tck.dirty := setInsert a s.tck.dirty }

end Sys2Proof.Machine
end

