-- ==== Sys2Proof/Machine/Change.lean ====
section
/-! DEFINITION. A change of the safety configuration (R254): room in the log, the log entries (R255), the
whole record to both copies (R252). Every command that changes it calls this. -/

namespace Sys2Proof.Machine

/-- One logged parameter: its address or ID (R251), and its old and new value (R255). -/
structure LogItem where
  param : Nat
  old : Nat
  new : Nat
deriving DecidableEq, Repr

/-- Lamp-on minutes (R405). -/
def State.minutes (s : State) : Nat := s.f F.PWR_HOURS_MINUTES

/-- A log entry of 32 bytes (R255). -/
def logEntry (s : State) (stream seq : Nat) (i : LogItem) : List Byte :=
  let b := bytesLE 2 seq ++ bytesLE 8 s.time ++ bytesLE 4 s.tck.frame ++ bytesLE 4 s.minutes ++
    bytesLE 2 i.param ++ bytesLE 4 i.old ++ bytesLE 4 i.new ++ bytesLE 1 stream ++
    bytesLE 1 (s.f F.TCK_TIME_Q_Q)
  b ++ bytesLE 2 (crc16 b)

/-- The entries of one change, numbered on from those already asked for. -/
def logEntries (s : State) (stream : Nat) : Nat → List LogItem → List (List Byte)
  | _, [] => []
  | q, i :: t => logEntry s stream q i :: logEntries s stream (q + 1) t

/-- Room in the log for `n` entries of 256 (R254, R256). -/
def logRoom (s : State) (n : Nat) : Bool := decide (s.saf.logNext + n ≤ 256)

/-- The append programs of a change: one for each page of 128 entries it reaches (R255). -/
def appendOps (first : Nat) (es : List (List Byte)) : List NvmKind :=
  let k := 128 - first % 128
  if es.isEmpty then []
  else if es.length ≤ k then [.append es] else [.append (es.take k), .append (es.drop k)]

/-- The stored registers of R251. -/
def storedAddrs : List Nat := (regRows.map RegRow.addr).filter isStored

/-- The map in force: OBJ_MAP (R165). -/
def mapInForce (s : State) : Option OpticsMap := s.obj.map

/-- The whole record as it is now (R252). -/
def currentRec (s : State) (seq : Nat) : SafeRec :=
  ⟨seq, s.saf.logStored, storedAddrs.map (fun a => (a, s.reg a)), s.saf.password, mapInForce s⟩

/-- The newest sequence number of the valid copies (R252, R442). -/
def recSeq (s : State) : Nat := seqNewest s.saf.copyA.valid s.saf.copyB.valid s.saf.copyA.data.seq s.saf.copyB.data.seq

/-- Is copy A the one in force (R252)? -/
def recA (s : State) : Bool := firstInForce s.saf.copyA.valid s.saf.copyB.valid s.saf.copyA.data.seq s.saf.copyB.data.seq

/-- The copy a record is written to: the failed or the older one (R254); of two failed copies A. Once that is written it is the
newer, so the next record goes to the other one. -/
def recTarget (s : State) : Nat := if !s.saf.copyA.valid then 0 else if recA s then 1 else 0

/-- The record twice, to the failed or older copy first, then to the other one (R254), each with SEQ one above the newest
(R442). With other changes waiting both are settled anew as each program starts (`aimHead`). -/
def recordOps (s : State) : List NvmKind :=
  let one := currentRec s ((recSeq s + 1) % 2 ^ 32)
  [.record (recTarget s) one, .record (1 - recTarget s) { one with seq := (recSeq s + 2) % 2 ^ 32 }]

/-- A record whose program starts takes its copy and its SEQ as the copies then stand (R254, R442). -/
def aimHead (s : State) : List NvmOp → List NvmOp
  | ⟨.record _ d, o, r⟩ :: t => ⟨.record (recTarget s) { d with seq := (recSeq s + 1) % 2 ^ 32 }, o, r⟩ :: t
  | l => l

/-- Appends that wait, cut where they would reach over a page of the log, from the number of entries before them on
(R255). -/
def splitAppends : Nat → List NvmOp → List NvmOp
  | _, [] => []
  | n, o :: t =>
    match o.kind with
    | .append es =>
      let k := 128 - n % 128
      (if es.length ≤ k then [o] else [{ o with kind := .append (es.take k) }, { o with kind := .append (es.drop k) }]) ++
        splitAppends (n + es.length) t
    | _ => o :: splitAppends n t

/-- The entries asked for whose append is not done. -/
def pendingEntries (s : State) : Nat :=
  (s.nvm.ops.map (fun o => match o.kind with | .append es => es.length | _ => 0)).sum

/-- Entries whose append failed or was dropped are not in the log: the next entry follows the last one that is, or will
be, written (R254, R255). -/
def syncLog (s : State) : State :=
  let n := s.saf.log.length + pendingEntries s
  { s with saf.logNext := n, saf.logStored := min s.saf.logStored n, nvm.ops := splitAppends s.saf.log.length s.nvm.ops }

/-- An entry with its SEQ as it is written (R255). -/
def renumberEntry (seq : Nat) (b : List Byte) : List Byte :=
  let c := bytesLE 2 seq ++ (b.drop 2).take 28
  c ++ bytesLE 2 (crc16 c)

/-- Entries in order of writing, from a SEQ on (R255). -/
def renumberEntries : Nat → List (List Byte) → List (List Byte)
  | _, [] => []
  | q, b :: t => renumberEntry q b :: renumberEntries (q + 1) t

/-- Steps 4 and 5 of R254 for values already applied: the log entries and, for a stored parameter, the
record. -/
def logChange (stream : Nat) (owner : Option Nat) (items : List LogItem) (stored : Bool) (s : State) : State :=
  let first := s.saf.logNext
  let es := logEntries s stream (first + 1) items
  let s1 := { s with saf.logNext := first + items.length
                     saf.logStored := if stored then first + items.length else s.saf.logStored
                     saf.unlockTime := s.time }
  let s2 := nvmPush owner (appendOps first es) s1
  if stored then nvmPush owner (recordOps s2) s2 else s2

/-- THERM_SD is active: no program starts, and a command that must program is refused (R425). -/
def State.sdActive (s : State) : Bool := s.fb F.THM_STATUS_SD_ACT

/-- Step 2 of R254. -/
def changeChecks (s : State) (n : Nat) : List (Bool × Nat) :=
  [(logRoom s n, St.refusedState), (!s.sdActive, St.refusedState)]

/-- The journal SEQ of the command whose body runs now: its entry was opened last (R282). -/
def State.curSeq (s : State) : Nat := (s.cmd.seq + 65535) % 65536

end Sys2Proof.Machine
end

