-- ==== Sys2Proof/Machine/Store.lean ====
section
/-! DEFINITION. The shared image store (R33): the gains of banks 0 and 1 (R96), the fallback copy of banks 2
and 3, the pool of banks 5 to 31, and the buffer descriptors over it (R140, R402); the tone map (R137). -/

namespace Sys2Proof.Machine

/-- The tile of a pixel by its index y × 2,048 + x: j × 64 + i, 32 × 32 pixels each (R13). -/
def tileOf (p : Nat) : Nat := p / 2048 / 32 * 64 + p % 2048 / 32

/-- g_fact of a pixel, u2.10; 1.0 where its page failed at the boot (R96, R438). A page holds the bits of the
pixels whose 12 bits fall into it (R440). -/
def State.gFact (s : State) (p : Nat) : Nat :=
  let b := 3 * p / 2
  if s.drv.gainBad.contains (b / 4096) || s.drv.gainBad.contains ((b + 1) / 4096) then 0x400 else (Config.gainFact p).toNat

/-- The effective gain of a pixel, u2.14 (R96): g_fact × f_opt × f_el. -/
def State.gain (s : State) (p : Nat) : Nat :=
  let t := tileOf p
  min 65535 (roundDiv (16 * s.gFact p * (Mem.read 0x8000 s.drv.fopt t).toNat
    * (Mem.read 0x8000 s.drv.fel t).toNat) (2 ^ 30))

/-- A tile's Vf bin and n_fact; 15 and 1.0 where both copies of the tile table failed (R97, R438). -/
def State.binOf (s : State) (t : Nat) : Nat := if s.drv.tileBad then 15 else (Config.tileBin t).toNat
def State.nFactOf (s : State) (t : Nat) : Nat := if s.drv.tileBad then 0x8000 else (Config.nFact t).toNat

/-- The code of the fallback copy at a pixel. -/
def State.fbCode (s : State) (p : Nat) : Nat :=
  (Mem.read 0 s.drv.fb (2 * p)).toNat + 256 * (Mem.read 0 s.drv.fb (2 * p + 1)).toNat

/-- A byte of the image store by address (R33). The layout of bank 4 is not given: its bytes are free
values (notes/assumptions/5.md). -/
def State.storeByte (s : State) (a : Nat) : Byte :=
  if a < 0x200000 then BitVec.ofNat 8 (s.gain (a / 2) / 256 ^ (a % 2))
  else if a < 0x400000 then Mem.read 0 s.drv.fb (a - 0x200000)
  else if a < 0x500000 then BitVec.ofNat 8 (Config.freeValue 4 (s.fresh * 0x2000000 + a)).toNat
  else Mem.read 0 s.lyr.store a

/-- A run of bytes of the image store. -/
def State.storeBytes (s : State) (a n : Nat) : List Byte := (natsFrom a n).map s.storeByte

/-! ### Buffers -/

/-- Size of a buffer in bytes (R140). -/
def BufDesc.size (b : BufDesc) : Nat := b.h * b.stride

/-- Change a descriptor. -/
def setBuf (d : Nat) (b : BufDesc) (s : State) : State := { s with lyr.bufs := kvPut d b s.lyr.bufs }

/-- Byte address and size of a defined buffer. -/
def State.bufExtent (s : State) (d : Nat) : Option (Nat × Nat) :=
  match s.buf? d with
  | some b => some (b.addr, b.size)
  | none => none

/-- Does a descriptor carry the lost mark (R402)? -/
def State.bufLost (s : State) (d : Nat) : Bool :=
  match s.buf? d with
  | some b => b.lost
  | none => false

/-- The lost mark clears (R402). -/
def clearLost (d : Nat) (s : State) : State :=
  match s.buf? d with
  | some b => setBuf d { b with lost := false } s
  | none => s

/-- The symbol store's region: first address and bytes (R127). -/
def symRegion (s : State) : Nat × Nat :=
  (0x100000 * s.f F.LYR_SYM_BASE_BANK, 0x100000 * s.f F.LYR_SYM_BANKS)

/-- Do two regions overlap? -/
def overlap (a n b m : Nat) : Bool := decide (a < b + m) && decide (b < a + n)

/-- Does a region overlap a defined buffer other than `d`? -/
def overlapsBuf (s : State) (d a n : Nat) : Bool :=
  s.lyr.bufs.any (fun e => !(e.1 == d) && overlap a n e.2.addr e.2.size)

/-! ### The tone map -/

/-- The curve in force (R137). -/
def State.tonePts (s : State) : List Nat := s.lyr.tone.getD toneIdentity

/-- A code through a curve (R137). -/
def toneMap (pts : List Nat) (c : Nat) : Nat :=
  let i := c / 256
  let f := c % 256
  let p0 := nth 0 pts i
  let p1 := nth 0 pts (i + 1)
  (clampInt 0 65535 ((p0 : Int) + roundDivInt (((p1 : Int) - p0) * f) 256)).toNat

/-- CRC-32C of a curve's 257 points (R139). -/
def toneCrc (pts : List Nat) : Nat := crc32c (pts.flatMap (bytesLE 2))

/-- The curve most recently loaded, whether or not it has taken effect (R139). DESIGN CHOICE (notes/assumptions/58.md): a
TONE_RESET and the loss of bank 4 put the identity in its place. -/
def State.toneLoaded (s : State) : List Nat := (s.lyr.toneNext.getD s.lyr.tone).getD toneIdentity

end Sys2Proof.Machine
end

