-- ==== Sys2Proof/Machine/Checks.lean ====
section
/-! DEFINITION. The check-value engines (R364 to R369, R381, R382) and the snapshot commands (R373 to
R376, R383, R384). -/

namespace Sys2Proof.Machine

/-! ### Check-value engines -/

/-- A field of engine `n`'s registers (R379). -/
def chkF (x : Fld) (n : Nat) : Fld := x.at (0x20 * n)

/-- Change the typed state of an engine. -/
def setChk (n : Nat) (e : ChkEng) (s : State) : State := { s with chk := vset s.chk n e }

/-- Feed bytes to an engine: its running value and COUNT move (R365). -/
def chkFeed (n : Nat) (bs : List Byte) (s : State) : State :=
  (s.setF (chkF F.CHK_0_RUN_RUN n) (crcFeed (crcAlg (chkEng s n).poly) (chkRunning s n) bs)).setF (chkF F.CHK_0_COUNT_COUNT n)
    (s.f (chkF F.CHK_0_COUNT_COUNT n) + bs.length)

/-- Start a run: with INIT the running value, COUNT and POLY are loaded afresh (R365). -/
def chkInit (n : Nat) (init : Bool) (s : State) : State :=
  if init then
    let poly := s.f (chkF F.CHK_0_CTRL_POLY n)
    let v := if s.fb (chkF F.CHK_0_CTRL_INIT_SEL n)
      then s.f (chkF F.CHK_0_INIT_INIT n) % 2 ^ (crcAlg poly).width else (crcAlg poly).init
    setChk n ⟨(chkEng s n).run, poly⟩
      ((s.setF (chkF F.CHK_0_RUN_RUN n) v).setF (chkF F.CHK_0_COUNT_COUNT n) 0)
  else s

/-- Word `i` of a run over registers from address `a` (R366). A high word that an earlier read of its low word has latched is
the latched one, unless the run reads that low word itself (R10). -/
def runWord (s : State) (a i : Nat) : Word :=
  if i = 0 then (kvGet s.latch a).getD (s.peek a) else s.peek (a + 4 * i)

/-- Registers as bytes, word by word, low byte first (R366). Reading so has no side effect: no latch is set and none is used up
(DEDUCED, notes/assumptions/61.md). -/
def regBytes (s : State) (a words : Nat) : List Byte :=
  (List.range words).flatMap (fun i => bytesLE 4 (runWord s a i).toNat)

/-- Bytes `fed` to `fed + n - 1` of a run (R366). -/
def chkBytes (s : State) (r : ChkRun) (n : Nat) : List Byte :=
  match r.source with
  | 2 => ((regBytes s r.addr (r.length / 4)).drop r.fed).take n
  | _ => s.storeBytes (r.addr + r.fed) n

/-- The body of the final or only reply (R381). -/
def chkReply (s : State) (n fed : Nat) : List Byte :=
  bytesLE 1 n ++ [0, 0] ++ bytesLE 4 (chkResult s n) ++ bytesLE 4 (chkRunning s n) ++
    bytesLE 4 (s.f (chkF F.CHK_0_COUNT_COUNT n)) ++ bytesLE 4 fed

/-- A run ends (R368): LAST_STATUS, the final reply, CHK_DONE. -/
def chkEnd (n st : Nat) (s : State) : State :=
  match (chkEng s n).run with
  | none => s
  | some r =>
    let s1 := (setChk n ⟨none, (chkEng s n).poly⟩ s).setF (chkF F.CHK_0_STAT_LAST_STATUS n) st
    (finishKey 0x58 n st (chkReply s1 n r.fed) s1).raise 0xA0
      (q4 n ++ q4 st ++ q4 (chkResult s1 n) ++ q4 (s1.f (chkF F.CHK_0_COUNT_COUNT n)))

/-- The registers of a source-2 run, under the address rules of REG_RD (R361, R5). -/
def regRangeCheck (a n : Nat) : Option Nat :=
  if !(a % 4 == 0) then some St.badParam
  else if (List.range n).all (fun i => isReg (a + 4 * i)) then none else some St.range

/-- Is a run long (R367)? -/
def chkLong (src a len : Nat) : Bool :=
  ((src == 0 || src == 1) && decide (65536 < len)) ||
    (src == 2 && decide (0xC000 < a + 4 * len) && decide (a < 0xD000))

/-- What a source names: its first byte and its length in bytes, or the refusal (R381, R402). A FREE descriptor is no source
(R366). -/
def chkSource (s : State) (src desc a len : Nat) : Except Nat (Nat × Nat) :=
  match src with
  | 0 => if len = 0 || decide (0x2000000 < a + len) then .error St.range else .ok (a, len)
  | 1 =>
    match s.bufExtent desc with
    | none => .error St.badParam
    | some (base, size) =>
      if s.bufLost desc then .error St.bufLost
      else if s.bufState desc = 0 then .error St.badParam
      else if len = 0 || decide (size < a + len) then .error St.range else .ok (base + a, len)
  | 2 =>
    if !inRange len 1 1024 then .error St.range
    else match regRangeCheck a len with
      | some st => .error st
      | none => .ok (a, 4 * len)
  | _ => if !inRange len 1 4064 then .error St.range else .ok (0, len)

/-- LEN of a CHK_RUN (R381). -/
def chkLenOk (pl : List Byte) : Bool :=
  decide (16 ≤ pl.length) &&
    (if bitsOf (u8 pl 1) 1 0 = 3 then pl.length == 16 + (u32 pl 8 + 3) / 4 * 4 else pl.length == 16)

/-- The bytes a run of a source feeds of a piece of `n` bytes from its byte `fed` on, before the 8-byte word of the store that
holds byte `ecc`; all of them where the piece does not reach that word, or reads no store (R368). -/
def eccStop (r : ChkRun) (n ecc : Nat) : Nat :=
  let a := r.addr + r.fed
  if r.source ≤ 1 && decide (a < ecc / 8 * 8 + 8) && decide (ecc / 8 * 8 < a + n) then ecc / 8 * 8 - a else n

/-- CHK_RUN (R366, R367, R381). `ecc`: an uncorrectable error stands at this byte of the store; a run that is not long and
meets it ends before that word (R368), with the 20-byte reply. -/
def chkRunWith (ecc : Option Nat) (rq : Req) : State → State × Reply :=
  withLen (chkLenOk rq.payload) (fun s =>
    let pl := rq.payload
    let n := bitsOf (u8 pl 0) 1 0
    let src := bitsOf (u8 pl 1) 1 0
    let desc := bitsOf (u8 pl 2) 5 0
    if (chkEng s n).run.isSome then refuse St.busy s
    else match chkSource s src desc (u32 pl 4) (u32 pl 8) with
      | .error st => (if st = St.bufLost then clearLost desc s else s, .final st [])
      | .ok (a, len) =>
        let s1 := ((chkInit n (bitOf (u8 pl 0) 4) s).setF (chkF F.CHK_0_STAT_SOURCE n) src).setF
          (chkF F.CHK_0_STAT_STREAM n) rq.stream
        let r : ChkRun := ⟨src, a, len, 0⟩
        if chkLong src (u32 pl 4) (u32 pl 8) then
          (setChk n ⟨some r, (chkEng s1 n).poly⟩ s1, .accepted [] n [])
        else
          let k := match ecc with | some e => eccStop r len e | none => len
          let st := if k < len then St.badCrc else St.ok
          let bs := if src = 3 then slice pl 16 len else chkBytes s r k
          let s2 := (chkFeed n bs { s1 with fresh := s1.fresh + 1 }).setF (chkF F.CHK_0_STAT_LAST_STATUS n) st
          (s2, .final st (chkReply s2 n k)))

/-- CHK_RUN with nothing in error. -/
def chkRunBody (rq : Req) : State → State × Reply := chkRunWith none rq

def execChkRun (rq : Req) (s : State) : Host.Outcome State Fault Refusal := .next (command 0x58 rq (chkRunBody rq) s)

/-- The next running engine after the one fed last (R367). -/
def chkNext (s : State) : Option Nat :=
  ((List.range 4).map (fun i => (s.chkTurn + 1 + i) % 4)).find? (fun n => (chkEng s n).run.isSome)

/-- A running engine is fed the next `k` bytes of its run. -/
def chkFeedPiece (n k : Nat) (r : ChkRun) (s : State) : State :=
  let s1 := chkFeed n (chkBytes s r k) { s with chkTurn := n, fresh := s.fresh + 1 }
  let s2 := setChk n ⟨some { r with fed := r.fed + k }, (chkEng s1 n).poly⟩ s1
  match s2.jobKey? 0x58 n with
  | some j => noteProgress j.seq (r.fed + k) s2
  | none => s2

/-- An uncorrectable error stops a running engine before the word it is found in (R368). -/
def chkEcc (n ecc : Nat) (s : State) : State :=
  match (chkEng s n).run with
  | none => s
  | some r => chkEnd n St.badCrc (chkFeedPiece n (eccStop r (min 4096 (r.length - r.fed)) ecc) r s)

/-- CHK_RUN_PIECE (R367): the next running engine is fed one piece of 4,096 bytes; a run whose last byte
has been fed ends. The part must execute (R279, R348). -/
def chkPiece (s : State) : State :=
  match (if s.executes then chkNext s else none) with
  | none => s
  | some n =>
    match (chkEng s n).run with
    | none => s
    | some r =>
      let k := min 4096 (r.length - r.fed)
      let s3 := chkFeedPiece n k r s
      if r.fed + k = r.length then chkEnd n St.ok s3 else s3

def execChkRunPiece (s : State) : Host.Outcome State Fault Refusal := .next (chkPiece s)

/-- The 20-byte context of an engine after the action (R382), from byte 1 on. -/
def chkCtx (s : State) (n action : Nat) : List Byte :=
  bytesLE 1 action ++ [0, 0] ++ bytesLE 4 (chkRunning s n) ++
    bytesLE 4 (s.f (chkF F.CHK_0_COUNT_COUNT n)) ++ bytesLE 1 ((s.reg (0xA000 + 0x20 * n)).toNat % 64) ++
    [0, 0, 0] ++ bytesLE 4 (s.f (chkF F.CHK_0_INIT_INIT n))

/-- The body of a CHK_CTX action (R369, R382); an ACTION that is not this row's is refused. -/
def chkCtxBody (action : Nat) (rq : Req) : State → State × Reply :=
  withLen (len rq 20) (fun s =>
    let pl := rq.payload
    let n := bitsOf (u8 pl 0) 1 0
    if !(bitsOf (u8 pl 1) 1 0 == action) then refuse St.badParam s
    else match action with
      | 0 => okReply (chkCtx s n 0) s
      | 1 =>
        if (chkEng s n).run.isSome then refuse St.busy s
        else
          let s1 := ((((s.setF (chkF F.CHK_0_RUN_RUN n) (u32 pl 4)).setF (chkF F.CHK_0_COUNT_COUNT n) (u32 pl 8)).setReg
            (0xA000 + 0x20 * n) (BitVec.ofNat 32 (u8 pl 12 &&& 0x33)))).setF (chkF F.CHK_0_INIT_INIT n) (u32 pl 16)
          let s2 := setChk n ⟨none, bitsOf (u8 pl 12) 1 0⟩ s1
          okReply (chkCtx s2 n 1) s2
      | _ => let s1 := chkEnd n St.aborted s; okReply (chkCtx s1 n 2) s1)

def execChkCtxRead (rq : Req) (s : State) : Host.Outcome State Fault Refusal :=
  .next (command 0x59 rq (chkCtxBody 0 rq) s)

def execChkCtxWrite (rq : Req) (s : State) : Host.Outcome State Fault Refusal :=
  .next (command 0x59 rq (chkCtxBody 1 rq) s)

def execChkCtxAbort (rq : Req) (s : State) : Host.Outcome State Fault Refusal :=
  .next (command 0x59 rq (chkCtxBody 2 rq) s)

/-! ### Snapshots -/

/-- SNAP_ARM (R373, R374, R383). With NOW a snapshot is taken at execution, and the unit is left armed with
TRIGGERS. -/
def snapArmBody (rq : Req) : State → State × Reply :=
  withLen (len rq 8) (fun s =>
    let pl := rq.payload
    let trig := bitsOf (u8 pl 2) 2 0
    let s1 := (((s.setF F.SNP_ID_ARM_ID (u16 pl 0)).setF F.SNP_CTRL_DRIVE (u8 pl 3 % 2)).setF
      F.SNP_CTRL_FAULTS (u8 pl 4)).setF F.SNP_CTRL_TRIGGERS trig
    let s2 := if bitOf (u8 pl 2) 3 then (snapshot 3 (u16 pl 0) 0 s1).setF F.SNP_CTRL_TRIGGERS trig else s1
    okReply (bytesLE 1 (snpState s2) ++ [0, 0] ++ bytesLE 4 (s2.peek 0xB00C).toNat) s2)

def execSnapArm (rq : Req) (s : State) : Host.Outcome State Fault Refusal := .next (command 0x50 rq (snapArmBody rq) s)

/-- SNAP_READ (R384). -/
def snapReadBody (rq : Req) : State → State × Reply :=
  withLen (len rq 8) (fun s =>
    let a := u32 rq.payload 0
    let n := u16 rq.payload 4
    if !(a % 4 == 0) then refuse St.badParam s
    else if 1014 < n then refuse St.range s
    else match s.snp.store with
      | none => refuse St.refusedState s
      | some p =>
        okReply (bytesLE 1 (snpState s) ++ [0, 0] ++ bytesLE 2 p.id ++ bytesLE 1 p.src ++ [0] ++
          bytesLE 4 p.frame ++ bytesLE 8 p.time ++ bytesLE 2 p.row ++ bytesLE 2 p.srcId ++
          (List.range n).flatMap (fun i => bytesLE 4 (Mem.read 0 p.words (a + 4 * i)).toNat)) s)

def execSnapRead (rq : Req) (s : State) : Host.Outcome State Fault Refusal := .next (command 0x51 rq (snapReadBody rq) s)

/-- SNAP_IO_EDGE (R374, R376): a falling edge takes a snapshot if the unit is armed for it, else it counts
as missed. In a device reset and in SLEEP it is not seen (R396, R431). -/
def snapIoEdge (s : State) : State :=
  if s.off then s
  else if bitOf (s.f F.SNP_CTRL_TRIGGERS) 0 then snapshot 0 (s.f F.SNP_ID_ARM_ID) 0 s
  else s.bump F.SNP_CNT_MISSED_CNT

def execSnapIoEdge (s : State) : Host.Outcome State Fault Refusal := .next (snapIoEdge s)

/-- The HERD trigger at its tick (R374). -/
def herdSnap (id : Nat) (s : State) : State :=
  if bitOf (s.f F.SNP_CTRL_TRIGGERS) 1 then snapshot 1 id id { s with time := s.time + 2 } else s.bump F.SNP_CNT_MISSED_CNT

end Sys2Proof.Machine
end

