-- ==== Sys2Proof/Machine/Layers.lean ====
section
/-! DEFINITION. The commands of the layer stack (R150 to R157): layer settings, buffers, video packets,
pattern slots, the tone map, symbols and animation tables. -/

namespace Sys2Proof.Machine

/-- A 4-byte reply: STATUS and three bytes of 0. -/
def plainOk (s : State) : State × Reply := okReply [] s

/-- Refused with BUF_IN_USE, which LYR_CNT counts (R149). -/
def inUse (s : State) : State × Reply := (s.bump F.LYR_CNT_IN_USE, .final St.bufInUse [])

/-! ### LAYER_CFG, LAYER_BUF -/

/-- LAYER and SECTION of ARG (R150). -/
def lcLayer (rq : Req) : Nat := bitsOf rq.arg 2 0
def lcSection (rq : Req) : Nat := bitsOf rq.arg 5 4
def lcRead (rq : Req) : Bool := bitOf rq.arg 8

/-- Does the section exist for the layer (R150)? -/
def lcValid (rq : Req) : Bool :=
  decide (lcLayer rq < 6) && decide (lcSection rq < 3) && (decide (lcLayer rq < 2) || lcSection rq == 0)

/-- The addresses of a layer's section 0, in offset order (R150). -/
def lcRegs (l : Nat) : List Nat :=
  if l < 2 then (List.range 13).map (fun i => 0x4100 + 0x80 * l + 4 * i) else [0x4200 + 0x10 * (l - 2)]

/-- Entries of a coefficient table by section. -/
def coefCount (sec : Nat) : Nat := if sec = 1 then 512 else 256

/-- The table number of a video layer's coefficient table. -/
def coefKey (l sec : Nat) : Nat := 2 * l + (sec - 1)

/-- The default of a coefficient table (R124). -/
def coefDefault (sec : Nat) : List Nat := if sec = 1 then hCoef else vCoef

/-- The payload length of a section (R150). -/
def lcLen (rq : Req) : Nat :=
  match lcSection rq with
  | 0 => if lcLayer rq < 2 then 52 else 4
  | 1 => 1024
  | _ => 512

/-- LEN of a write: the section's; where the section does not exist, any of the opcode's. -/
def lcLenOk (rq : Req) : Bool :=
  if lcValid rq then len rq (lcLen rq) else [52, 4, 1024, 512].contains rq.payload.length

/-- A 16-bit word that sign-extends an s1.10 coefficient (R150). -/
def coefOk (w : Nat) : Bool := bitsOf w 15 10 == 0 || bitsOf w 15 10 == 63

/-- The sums of the phases of a table lie in 512 to 2,047 (R124). -/
def phasesOk (taps : Nat) (ws : List Nat) : Bool :=
  (chunks taps ws).all (fun p =>
    let t := (p.map (signedOf 16)).sum
    decide (512 ≤ t) && decide (t ≤ 2047))

/-- A list of 16-bit words from bytes. -/
def words16 (bs : List Byte) : List Nat := (chunks 2 bs).map leNat

/-- A table written joins the pending set (R51). -/
def setTab (k : Nat) (v : List Nat) (s : State) : State :=
  { s with tck.tabs := tabSet s.tck.tabs k v, tck.dirtyTabs := setInsert k s.tck.dirtyTabs }

/-- The pending coefficient tables of a video layer. -/
def pendingCoef (s : State) (l sec : Nat) : List Nat := tabOf (coefDefault sec) s.tck.tabs (coefKey l sec)

/-- LYR_Vn_COEF_CRC (R124). -/
def coefCrc (s : State) (l : Nat) : Nat :=
  crc32c ((pendingCoef s l 1 ++ pendingCoef s l 2).flatMap (bytesLE 2))

/-- The words of a section 0 payload, with their addresses. -/
def lcPairs (rq : Req) : List (Nat × Nat) := (lcRegs (lcLayer rq)).zip ((chunks 4 rq.payload).map leNat)

/-- Write a pending register item (R51). -/
def writeItem (a v : Nat) (s : State) : State :=
  match regRow a with
  | some r => markDirty a (s.setReg a (writeValue r (s.reg a) (BitVec.ofNat 32 v)))
  | none => s

/-- LAYER_CFG, a write (R150). -/
def layerCfgBody (rq : Req) : State → State × Reply :=
  withLen (lcLenOk rq) (fun s =>
    if lcRead rq || !lcValid rq then refuse St.badParam s
    else if lcSection rq = 0 then
      if (lcPairs rq).all (fun e => rangesOk e.1 e.2) then
        plainOk ((lcPairs rq).foldl (fun t e => writeItem e.1 e.2 t) s)
      else refuse St.range s
    else
      let ws := words16 rq.payload
      let taps := if lcSection rq = 1 then 8 else 4
      if !ws.all coefOk then refuse St.range s
      else if !phasesOk taps ws then refuse St.badParam s
      else
        let s1 := setTab (coefKey (lcLayer rq) (lcSection rq)) ws s
        plainOk (s1.setReg (0x413C + 0x80 * lcLayer rq) (BitVec.ofNat 32 (coefCrc s1 (lcLayer rq))))) 

def execLayerCfg (rq : Req) (s : State) : Host.Outcome State Fault Refusal :=
  .next (command 0x18 rq (layerCfgBody rq) s)

/-- LAYER_CFG with READ (R150): the section of the pending set. -/
def layerCfgReadBody (rq : Req) : State → State × Reply :=
  withLen (len rq 0) (fun s =>
    if !lcRead rq || !lcValid rq then refuse St.badParam s
    else okReply (zeros 3 ++
      (if lcSection rq = 0 then (lcRegs (lcLayer rq)).flatMap (fun a => bytesLE 4 (s.reg a).toNat)
       else (pendingCoef s (lcLayer rq) (lcSection rq)).flatMap (bytesLE 2))) s)

def execLayerCfgRead (rq : Req) (s : State) : Host.Outcome State Fault Refusal :=
  .next (command 0x18 rq (layerCfgReadBody rq) s)

/-- LAYER_BUF (R151). -/
def layerBufBody (rq : Req) : State → State × Reply :=
  withLen (len rq 4) (fun s =>
    let l := u8 rq.payload 0
    let d := bitsOf (u8 rq.payload 1) 5 0
    if 1 < l then refuse St.badParam s
    else if 59 < d then refuse St.range s
    else okReply (bytesLE 1 (s.bufState d) ++ [0, 0]) (writeItem (0x4104 + 0x80 * l) d s))

def execLayerBuf (rq : Req) (s : State) : Host.Outcome State Fault Refusal :=
  .next (command 0x19 rq (layerBufBody rq) s)

/-! ### Buffers -/

/-- Does a copy run into a descriptor? -/
def copying (s : State) (d : Nat) : Bool := decide (60 ≤ d) && s.lyr.copies.contains (d - 60)

/-- A running copy into a slot stops (R135): its PATTERN_LOAD ends with BUF_IN_USE. -/
def stopCopy (d : Nat) (s : State) : State :=
  if copying s d then
    finishKey 0x28 (d - 60) St.bufInUse [] { s with lyr.copies := s.lyr.copies.filter (fun c => !(c == d - 60)) }
  else s

/-- Bytes of a line (R118). -/
def lineBytes (fmt w : Nat) : Nat :=
  match fmt with
  | 0 => 5 * w / 2
  | 1 => 3 * w
  | 2 => 3 * w
  | 3 => 4 * w
  | _ => 2 * w

/-- The fields and geometry of a BUF_DEFINE (R118, R121, R134, R140, R152). -/
def defineOk (d kind fmt w h stride : Nat) : Bool :=
  match kind with
  | 0 => decide (d < 60) && decide (fmt ≤ 4) && inRange w 16 2048 && inRange h 16 2048 && stride % 4 == 0 &&
      inRange stride 4 16384 && decide (lineBytes fmt w ≤ stride) && (!(fmt == 0) || w % 2 == 0)
  | 1 => decide (60 ≤ d) && fmt == 4 && w == 2048 && h == 512 && stride == 4096
  | 2 => decide (d < 60) && w == 0 && inRange h 1 4096 && stride % 4 == 0 && inRange stride 4 16384
  | _ => false

/-- Where a buffer may lie (R140). -/
def placeOk (s : State) (d addr size : Nat) : Bool :=
  addr % 4096 == 0 && decide (0x500000 ≤ addr) && decide (addr + size ≤ 0x2000000) && !overlapsBuf s d addr size &&
    !overlap addr size (symRegion s).1 (symRegion s).2

/-- Is a descriptor on show, retiring, or its release pending (R140)? -/
def bufBusy (s : State) (d : Nat) : Bool :=
  match s.buf? d with
  | some b => b.st == 3 || b.st == 4 || b.release
  | none => false

/-- BUF_DEFINE (R140, R152). DESIGN CHOICE (notes/assumptions/58.md): UNDEFINE of a descriptor that is not defined is
answered OK with size 0. -/
def bufDefineBody (rq : Req) : State → State × Reply :=
  withLen (len rq 16) (fun s =>
    let pl := rq.payload
    let d := bitsOf (u8 pl 0) 5 0
    let kind := bitsOf (u8 pl 1) 1 0
    let fmt := bitsOf (u8 pl 2) 2 0
    let addr := u32 pl 4
    let w := u16 pl 8
    let h := u16 pl 10
    let stride := u32 pl 12
    if bitOf (u8 pl 1) 7 then
      if bufBusy s d then inUse s
      else okReply (zeros 3 ++ bytesLE 4 0) { stopCopy d s with lyr.bufs := kvErase d s.lyr.bufs }
    else if !(defineOk d kind fmt w h stride && placeOk s d addr (h * stride)) then refuse St.badParam s
    else if bufBusy s d then inUse s
    else okReply (zeros 3 ++ bytesLE 4 (h * stride))
      (setBuf d ⟨kind, fmt, addr, w, h, stride, 0, 0, 0, false, false⟩ (stopCopy d s)))

def execBufDefine (rq : Req) (s : State) : Host.Outcome State Fault Refusal :=
  .next (command 0x1C rq (bufDefineBody rq) s)

/-- BUF_RELEASE (R146, R154). -/
def bufReleaseBody (rq : Req) : State → State × Reply :=
  withLen (len rq 4) (fun s =>
    let d := bitsOf (u8 rq.payload 0) 5 0
    match s.buf? d with
    | none => refuse St.badParam s
    | some b =>
      if b.st = 3 || b.st = 4 then
        okReply (bytesLE 1 1 ++ bytesLE 1 b.st ++ [0]) (setBuf d { b with release := true } s)
      else okReply (zeros 3) (setBuf d { b with st := 0, filled := 0 } (stopCopy d s)))

def execBufRelease (rq : Req) (s : State) : Host.Outcome State Fault Refusal :=
  .next (command 0x1B rq (bufReleaseBody rq) s)

/-- BUF_INCOMPLETE (R158). -/
def bufIncomplete (n counted size : Nat) (s : State) : State :=
  (s.setB F.LYR_STATUS_BUF_INCOMPLETE true).raise 0x43 (q4 n ++ q4 counted ++ q4 size)

/-- The refusal of a write under R141 (and R135, R402), if it is refused. -/
def writeRefusal (s : State) (d : Nat) (b : BufDesc) (start : Bool) (stream : Nat) : Option Nat :=
  if b.st = 3 || b.st = 4 then some St.bufInUse
  else if start then (if b.st = 1 && !(b.stream == stream) then some St.bufInUse else none)
  else if b.lost then some St.bufLost
  else if b.st = 1 then
    (if copying s d || !(b.stream == stream) then some St.bufInUse else none)
  else some St.badParam

/-- A write into a buffer that is not refused (R141): the data, the count, and at END the outcome. -/
def bufStore (d : Nat) (b : BufDesc) (start fin : Bool) (stream off : Nat) (data : List Byte) (s : State) : State :=
  let s0 := if start then stopCopy d s else s
  let filled := (if start then 0 else b.filled) + data.length
  let s1 := { s0 with lyr.store := Mem.writeRun 0 s0.lyr.store (b.addr + off) data }
  let b1 : BufDesc := { b with st := 1, stream := stream, filled := filled, lost := b.lost && !start }
  if !fin then setBuf d b1 s1
  else if filled = b.size then setBuf d { b1 with st := 2 } s1
  else bufIncomplete d filled b.size (setBuf d { b1 with st := 0 } s1)

/-- The checks of a write and the write (R141, R153): the status, and on success the state. DESIGN CHOICE
(notes/assumptions/58.md): OFFSET and the size are judged before the state of the buffer. -/
def bufWriteCore (d : Nat) (start fin : Bool) (stream off : Nat) (data : List Byte) (s : State) : State × Nat :=
  match s.buf? d with
  | none => (s, St.badParam)
  | some b =>
    if !(off % 4 == 0) then (s, St.badParam)
    else if b.size < off + data.length then (s, St.range)
    else match writeRefusal s d b start stream with
      | some st => (if st = St.bufLost then clearLost d s else s, st)
      | none => (bufStore d b start fin stream off data s, St.ok)

/-- The data bytes counted in the fill of a descriptor. -/
def bufFilled (s : State) (d : Nat) : Nat :=
  match s.buf? d with
  | some b => b.filled
  | none => 0

/-- The reply of a buffer write (R153). -/
def bufWriteReply (d : Nat) (r : State × Nat) : State × Reply :=
  if r.2 = St.ok then
    okReply (bytesLE 1 (r.1.bufState d) ++ [0, 0] ++ bytesLE 4 (bufFilled r.1 d)) r.1
  else if r.2 = St.bufInUse then inUse r.1
  else (r.1, .final r.2 [])

/-- BUF_WRITE (R141, R153). -/
def bufWriteBody (rq : Req) : State → State × Reply :=
  withLen (inRange rq.payload.length 12 4080) (fun s =>
    let pl := rq.payload
    let d := bitsOf (u8 pl 0) 5 0
    bufWriteReply d (bufWriteCore d (bitOf (u8 pl 1) 0) (bitOf (u8 pl 1) 1) rq.stream (u32 pl 4) (pl.drop 8) s))

def execBufWrite (rq : Req) (s : State) : Host.Outcome State Fault Refusal :=
  .next (command 0x1A rq (bufWriteBody rq) s)

/-- A video packet is refused: counted (R147). -/
def videoDrop (s : State) : State := (s.bump F.LYR_CNT_VID_DROP).setB F.LYR_STATUS_VID_DROP true

/-- A video packet writes as BUF_WRITE, with no reply (R147, R340). -/
def videoPacket (rq : Req) (s : State) : State :=
  let pl := rq.payload
  if !inRange pl.length 12 4080 then videoDrop s
  else
    let r := bufWriteCore (bitsOf (u8 pl 0) 5 0) (bitOf (u8 pl 1) 0) (bitOf (u8 pl 1) 1) rq.stream (u32 pl 4) (pl.drop 8) s
    if r.2 = St.ok then r.1 else videoDrop r.1

/-- Is the video packet the oldest one that waits? They are written in order of arrival (R338). -/
def videoFirst (rq : Req) (s : State) : Bool :=
  match s.cmd.inbox.find? (fun e => e.type == 3) with
  | some e => e.matches 0x1A rq
  | none => false

/-- VIDEO_PACKET (R340): an accepted packet of type 3 leaves the video buffer and is written; it waits
while the part executes nothing (R348), and while an older one waits (R338). -/
def execVideoPacket (rq : Req) (s0 : State) : Host.Outcome State Fault Refusal :=
  let s := accept 3 0x1A rq s0
  .next (if s.executes && videoFirst rq s then videoPacket rq (unpark 0x1A rq s) else s)

/-! ### Pattern slots and the tone map -/

/-- TARGET and SOURCE of a PATTERN_LOAD (R155). -/
def plTarget (rq : Req) : Nat := bitsOf (u8 rq.payload 0) 2 0
def plSource (rq : Req) : Nat := bitsOf (u8 rq.payload 1) 1 0

/-- LEN of a PATTERN_LOAD (R155). -/
def plLenOk (rq : Req) : Bool :=
  match plSource rq with
  | 0 => if plTarget rq = 4 then len rq 524 else inRange rq.payload.length 12 4080
  | _ => len rq 8

/-- PATTERN_LOAD of data into a slot (R135, R155): exactly a BUF_WRITE of descriptor 60 + slot. -/
def patternLoadBody (rq : Req) : State → State × Reply :=
  withLen (plLenOk rq) (fun s =>
    let pl := rq.payload
    let d := 60 + plTarget rq
    if 3 < plTarget rq || !(plSource rq == 0) then refuse St.badParam s
    else bufWriteReply d
      (bufWriteCore d (bitOf (u8 pl 2) 0) (bitOf (u8 pl 2) 1) rq.stream (u32 pl 4) (pl.drop 8) s))

def execPatternLoad (rq : Req) (s : State) : Host.Outcome State Fault Refusal :=
  .next (command 0x28 rq (patternLoadBody rq) s)

/-- PATTERN_LOAD of the fallback copy (R135): the slot is FILLING, and ACCEPTED is answered. -/
def patternCopyBody (rq : Req) : State → State × Reply :=
  withLen (plLenOk rq) (fun s =>
    let slot := plTarget rq
    let d := 60 + slot
    if 3 < slot || !(plSource rq == 1) then refuse St.badParam s
    else match s.buf? d with
      | none => refuse St.badParam s
      | some b =>
        match writeRefusal s d b true rq.stream with
        | some _ => inUse s
        | none =>
          let s1 := setBuf d { b with st := 1, stream := rq.stream, filled := 0, lost := false } (stopCopy d s)
          ({ s1 with lyr.copies := s1.lyr.copies ++ [slot] }, .accepted [] slot []))

def execPatternLoadCopy (rq : Req) (s : State) : Host.Outcome State Fault Refusal :=
  .next (command 0x28 rq (patternCopyBody rq) s)

/-- PATTERN_COPY_DONE (R135): the slot of the copy accepted first holds the fallback copy and is COMPLETE; a copy that
fails its CRC leaves it FREE. -/
def patternCopyDone (s : State) : State :=
  match s.lyr.copies with
  | [] => s
  | slot :: rest =>
    let s0 := { s with lyr.copies := rest }
    match s0.buf? (60 + slot) with
    | none => finishKey 0x28 slot St.bufInUse [] s0
    | some b =>
      if s0.fb F.SAF_FB_VALID then
        let s1 := { s0 with lyr.store := Mem.writeRun 0 s0.lyr.store b.addr (Mem.readRun 0 s0.drv.fb 0 b.size) }
        finishKey 0x28 slot St.ok [] (setBuf (60 + slot) { b with st := 2, filled := b.size } s1)
      else finishKey 0x28 slot St.badCrc [] (setBuf (60 + slot) { b with st := 0 } s0)

def execPatternCopyDone (s : State) : Host.Outcome State Fault Refusal := .next (patternCopyDone s)

/-- The curve a tone-map load carries; `none` where it is the identity (R139). -/
def toneCurve (rq : Req) : Option (List Nat) :=
  if plSource rq = 0 then some (words16 (slice rq.payload 8 514)) else none

/-- A load of the tone map is a logged change of the safety configuration (R139, R254), kept in no
record; the curve waits for the next tick. -/
def toneMapLoadBody (rq : Req) : State → State × Reply :=
  withLen (plLenOk rq) (fun s =>
    let pl := rq.payload
    let whole := bitOf (u8 pl 2) 0 && bitOf (u8 pl 2) 1 && u32 pl 4 == 0
    guarded ([(plTarget rq == 4, St.badParam), (plSource rq == 0 || plSource rq == 2, St.badParam),
        (plSource rq == 2 || whole, St.badParam), (s.unlocked rq.stream, St.locked)] ++ changeChecks s 1)
      (fun s =>
        let c := toneCurve rq
        let item : LogItem := ⟨0xF00C, toneCrc s.toneLoaded, toneCrc (c.getD toneIdentity)⟩
        (logChange rq.stream (some s.curSeq) [item] false { s with lyr.toneNext := some c }, .later 0 [])) s)

def execToneMapLoad (rq : Req) (s : State) : Host.Outcome State Fault Refusal :=
  .next (command 0x28 rq (toneMapLoadBody rq) s)

/-! ### Symbols -/

/-- Bytes a symbol occupies (R128). -/
def symBytes (fmt w h : Nat) : Nat :=
  let bpp := match fmt with
    | 0 => 16
    | 1 => 8
    | 2 => 8
    | _ => 1
  (h * ((w * bpp + 7) / 8) + 3) / 4 * 4

def SymDesc.bytes (d : SymDesc) : Nat := symBytes d.fmt d.w d.h

/-- 64-byte units a symbol takes (R129). -/
def SymDesc.units (d : SymDesc) : Nat := (d.bytes + 63) / 64

/-- The entries of an animation table that name a symbol with a duration above 0 (R130, R131). -/
def tableNames (t : List Nat) (sym : Nat) : Bool :=
  (chunks 6 (t.drop 2)).any (fun e => nth 0 e 0 == sym && !(nth 0 e 5 == 0))

/-- Is graphic layer `g` enabled in the set in force? -/
def gEnabled (s : State) (g : Nat) : Bool := bitOf (s.a F.LYR_CTRL_G_EN) g

/-- Is a symbol in use (R131)? -/
def symInUse (s : State) (sym : Nat) : Bool :=
  (List.range 4).any (fun g =>
    let l := vnth {} s.lyr.g g
    (gEnabled s g && tableNames l.table sym) || tableNames l.prev sym)

/-- Free units from address `a` up to the next symbol or the end of the store. -/
def freeFrom (syms : List (Nat × SymDesc)) (top a n : Nat) : Bool :=
  decide (a + n ≤ top) && !syms.any (fun e => overlap a n e.2.addr e.2.units)

/-- The lowest address with room for `n` units (R129): the start of the store or the end of a symbol. -/
def allocSym (syms : List (Nat × SymDesc)) (top n : Nat) : Option Nat :=
  let ends := syms.foldr (fun e acc => setInsert (e.2.addr + e.2.units) acc) [0]
  ends.find? (fun a => freeFrom syms top a n)

/-- State code of a symbol in a reply (R156). -/
def symState (s : State) (sym : Nat) : Nat :=
  match kvGet s.lyr.syms sym with
  | some d => d.st
  | none => 0

/-- The reply of a SYMBOL_LOAD (R156). -/
def symReply (s : State) (sym addr filled : Nat) : State × Reply :=
  okReply (bytesLE 1 (symState s sym) ++ bytesLE 2 addr ++ bytesLE 4 filled) s

/-- Data into a symbol, and at END its outcome (R129). DESIGN CHOICE (notes/assumptions/58.md): the reply to an END that frees the
symbol shows the address and the count it had. -/
def symStore (sym : Nat) (d : SymDesc) (fin : Bool) (off : Nat) (data : List Byte) (s : State) : State × Reply :=
  let s1 := { s with lyr.store := Mem.writeRun 0 s.lyr.store ((symRegion s).1 + 64 * d.addr + off) data }
  let d1 := { d with filled := d.filled + data.length }
  let put (e : SymDesc) (t : State) : State := { t with lyr.syms := kvPut sym e t.lyr.syms }
  if !fin then symReply (put d1 s1) sym d1.addr d1.filled
  else if d1.filled = d1.bytes then symReply (put { d1 with st := 2 } s1) sym d1.addr d1.filled
  else
    let s2 := { s1 with lyr.syms := kvErase sym s1.lyr.syms }
    symReply (bufIncomplete sym d1.filled d1.bytes s2) sym d1.addr d1.filled

/-- A START: the old space is released, the new one taken (R129). DESIGN CHOICE (notes/assumptions/58.md): where no run of
space is large enough and the START is refused with RANGE, the symbol and its space stay as they were; data beyond the symbol's size
is refused with RANGE, for which R129 and R156 name no status. -/
def symStart (rq : Req) (sym off : Nat) (fin : Bool) (data : List Byte) (s : State) : State × Reply :=
  let fmt := bitsOf (u8 rq.payload 3) 1 0
  let w := bitsOf (u16 rq.payload 4) 9 0
  let h := bitsOf (u16 rq.payload 6) 8 0
  if !(inRange w 1 512 && inRange h 1 256) then refuse St.range s
  else if (match kvGet s.lyr.syms sym with
      | some d => (d.st == 1 && !(d.stream == rq.stream)) || (d.st == 2 && symInUse s sym)
      | none => false) then inUse s
  else
    let rest := kvErase sym s.lyr.syms
    let d : SymDesc := ⟨1, fmt, w, h, 0, rq.stream, 0⟩
    match allocSym rest ((symRegion s).2 / 64) d.units with
    | none => refuse St.range s
    | some a =>
      if d.bytes < off + data.length then refuse St.range s
      else symStore sym { d with addr := a } fin off data { s with lyr.syms := rest }

/-- SYMBOL_LOAD (R129, R156). DESIGN CHOICE (notes/assumptions/58.md): a write without START is refused with BAD_PARAM on a
symbol that is FREE or COMPLETE, and with BUF_IN_USE from another stream than the fill's; data beyond the symbol's size is refused
with RANGE. -/
def symbolLoadBody (rq : Req) : State → State × Reply :=
  withLen (inRange rq.payload.length 12 4080) (fun s =>
    let pl := rq.payload
    let sym := bitsOf (u16 pl 0) 9 0
    let off := u32 pl 8
    let data := pl.drop 12
    let fin := bitOf (u8 pl 2) 1
    if bitOf (u8 pl 2) 2 || !(off % 4 == 0) then refuse St.badParam s
    else if bitOf (u8 pl 2) 0 then symStart rq sym off fin data s
    else match kvGet s.lyr.syms sym with
      | none => refuse St.badParam s
      | some d =>
        if !(d.st == 1) then refuse St.badParam s
        else if !(d.stream == rq.stream) then inUse s
        else if d.bytes < off + data.length then refuse St.range s
        else symStore sym d fin off data s)

def execSymbolLoad (rq : Req) (s : State) : Host.Outcome State Fault Refusal :=
  .next (command 0x29 rq (symbolLoadBody rq) s)

/-- SYMBOL_LOAD with DELETE (R129, R131, R156). DESIGN CHOICE (notes/assumptions/58.md): of a FREE symbol it is answered OK, with
address and count 0; else the reply shows the address and the count that the symbol had; one that carries data is refused with
BAD_LENGTH. -/
def symbolDeleteBody (rq : Req) : State → State × Reply :=
  withLen (len rq 12) (fun s =>
    let sym := bitsOf (u16 rq.payload 0) 9 0
    if !(bitsOf (u8 rq.payload 2) 2 0 == 4) then refuse St.badParam s
    else match kvGet s.lyr.syms sym with
      | none => symReply s sym 0 0
      | some d =>
        if d.st = 2 && symInUse s sym then inUse s
        else symReply { s with lyr.syms := kvErase sym s.lyr.syms } sym d.addr d.filled)

def execSymbolDelete (rq : Req) (s : State) : Host.Outcome State Fault Refusal :=
  .next (command 0x29 rq (symbolDeleteBody rq) s)

/-! ### Animation tables -/

/-- Entry `e` of an ANIM_SET payload: symbol, X, Y, LUM, START, DURATION (R157). -/
def animEntry (pl : List Byte) (e : Nat) : List Nat :=
  let o := 8 + 16 * e
  [u16 pl o, u16 pl (o + 2), u16 pl (o + 4), u16 pl (o + 6), u16 pl (o + 8), u16 pl (o + 10)]

/-- Is an entry in range (R157)? -/
def animEntryOk (length : Nat) (e : List Nat) : Bool :=
  let x := signedOf 16 (nth 0 e 1)
  let y := signedOf 16 (nth 0 e 2)
  decide (nth 0 e 0 < 1024) && decide (-512 ≤ x) && decide (x ≤ 2047) && decide (-256 ≤ y) && decide (y ≤ 511) &&
    decide (nth 0 e 4 < length)

/-- LEN of an ANIM_SET: 8 + 16 × COUNT (R157). -/
def animLenOk (rq : Req) : Bool := decide (8 ≤ rq.payload.length) && len rq (8 + 16 * bitsOf (u8 rq.payload 1) 4 0)

/-- ANIM_SET (R130, R157). -/
def animSetBody (rq : Req) : State → State × Reply :=
  withLen (animLenOk rq) (fun s =>
    let pl := rq.payload
    let length := u16 pl 4
    let es := (List.range (bitsOf (u8 pl 1) 4 0)).map (animEntry pl)
    if 16 < es.length || bitsOf (u8 pl 2) 1 0 = 3 || length = 0 || !es.all (animEntryOk length) then refuse St.range s
    else plainOk (setTab (4 + bitsOf (u8 pl 0) 1 0) (bitsOf (u8 pl 2) 1 0 :: length :: es.flatten) s))

def execAnimSet (rq : Req) (s : State) : Host.Outcome State Fault Refusal :=
  .next (command 0x2A rq (animSetBody rq) s)

end Sys2Proof.Machine
end

