-- ==== Sys2Proof/Machine/Objects.lean ====
section
/-! DEFINITION. The object slots' commands (R168, R173, R179 to R191): OBJ_SET, OBJ_MOVE, OBJ_CLEAR,
OBJ_BULK, GEOM_SET, OPTICS_MAP. -/

namespace Sys2Proof.Machine

/-! ### The slot body (R185) -/

/-- Fields of a slot body. -/
def obType (b : List Byte) : Nat := bitsOf (u8 b 1) 0 0
def obShape (b : List Byte) : Nat := bitsOf (u8 b 1) 3 1
def obNvert (b : List Byte) : Nat := bitsOf (u8 b 1) 7 4
def obAlive (b : List Byte) : Nat := bitsOf (u8 b 2) 3 0
def obSoft (b : List Byte) : Nat := bitsOf (u8 b 2) 7 4
def obPriority (b : List Byte) : Nat := u8 b 3
def obHx (b : List Byte) : Nat := u16 b 8
def obHy (b : List Byte) : Nat := u16 b 10
def obMargin0 (b : List Byte) : Nat := u16 b 28
def obGrow (b : List Byte) : Nat := u16 b 30
def obCap (b : List Byte) : Nat := u16 b 32
def obStale (b : List Byte) : Nat := u16 b 34
def obLum (b : List Byte) : Nat := u16 b 36
def obRadius (b : List Byte) : Nat := u16 b 38
def obFloor (b : List Byte) : Nat := u16 b 40

/-- Vertex `n` of the outline, offsets from the centre. -/
def obVert (b : List Byte) (n : Nat) : Int × Int := (s16 b (44 + 4 * n), s16 b (46 + 4 * n))

/-- The vertices in use. -/
def obVerts (b : List Byte) : List (Int × Int) := (List.range (obNvert b)).map (obVert b)

/-- Twice the signed area of a polygon. -/
def area2 (vs : List (Int × Int)) : Int :=
  ((vs.zip (vs.drop 1 ++ vs.take 1)).map (fun e => e.1.1 * e.2.2 - e.2.1 * e.1.2)).sum

/-- The cross product that tells on which side of the edge from `p` to `q` a vertex `v` lies. -/
def sideOf (p q v : Int × Int) : Int := (q.1 - p.1) * (v.2 - p.2) - (q.2 - p.2) * (v.1 - p.1)

/-- The outline checks of R173: every vertex on the inner side of every edge, for either winding, and an
area above 0. -/
def outlineOk (vs : List (Int × Int)) : Bool :=
  let a := area2 vs
  !(a == 0) &&
    (vs.zip (vs.drop 1 ++ vs.take 1)).all (fun e => vs.all (fun v => decide (0 ≤ sideOf e.1 e.2 v * a.sign)))

/-- Check 1 of R180: the codes. -/
def bodyCodesOk (b : List Byte) : Bool :=
  decide (obShape b ≤ 3) && (!(obShape b == 3) || inRange (obNvert b) 3 8)

/-- Check 2 of R180: the field ranges of R168; fields the shape does not use are not checked (R185). -/
def bodyRangesOk (b : List Byte) : Bool :=
  (obShape b == 3 || (decide (obHx b ≤ 16384) && decide (obHy b ≤ 16384))) &&
    decide (obMargin0 b ≤ 16384) && decide (obCap b ≤ 16384) && (obStale b == 0 || inRange (obStale b) 10 10000) &&
    (!(obShape b == 1) || decide (obRadius b ≤ min (obHx b) (obHy b)))

/-- The checks of a slot body, in the order of R180. -/
def bodyChecks (b : List Byte) : List (Bool × Nat) :=
  [(bodyCodesOk b, St.badParam), (bodyRangesOk b, St.range),
   (!(obShape b == 3) || outlineOk (obVerts b), St.badParam)]

/-! ### Alive values (R179) -/

/-- The alive check of an update: none for a repeat, else the gap. -/
def slotAlive (s : State) (slot new : Nat) : Option Nat :=
  match kvGet s.obj.slots slot with
  | none => some 0
  | some o => if obAlive o.body = new then none else some ((new + 15 - obAlive o.body) % 16)

/-- A repeat is flagged and counted (R184). -/
def noteRepeat (s : State) : State := (s.setB F.OBJ_STATUS_REPEAT true).bump F.OBJ_CNT_REPEAT_CNT

/-! ### Applying updates -/

/-- A slot takes a whole body (R180). -/
def slotSet (slot : Nat) (body : List Byte) (s : State) : State :=
  { s with obj.slots := kvPut slot ⟨body, s.time, true⟩ s.obj.slots }

/-- The body of a slot with the motion fields replaced: 12 bytes AZ to AEL, T_MEAS and ALIVE (R180). -/
def moveBody (b motion : List Byte) (tMeas alive : Nat) : List Byte :=
  b.take 2 ++ bytesLE 1 (alive + 16 * obSoft b) ++ slice b 3 1 ++ motion.take 4 ++ slice b 8 4 ++ slice motion 4 8 ++
    bytesLE 8 tMeas ++ b.drop 28

/-- An occupied slot takes new motion fields. -/
def slotMove (slot : Nat) (motion : List Byte) (tMeas alive : Nat) (s : State) : State :=
  match kvGet s.obj.slots slot with
  | some o => { s with obj.slots := kvPut slot ⟨moveBody o.body motion tMeas alive, s.time, true⟩ s.obj.slots }
  | none => s

/-- A run of slots becomes empty. -/
def slotClear (first n : Nat) (s : State) : State :=
  { s with obj.slots := s.obj.slots.filter (fun e => !(decide (first ≤ e.1) && decide (e.1 < first + n))) }

/-- The update reply of R186 from byte 1 on: LATE and the frames of R52. -/
def updateReply (s : State) (gap : Bool) : List Byte :=
  let late := !decide (s.tck.row < s.cutoff)
  let f := s.tickNo (if late then 2 else 1)
  bytesLE 1 (b2n late + 2 * b2n gap) ++ bytesLE 2 s.tck.row ++ bytesLE 4 f ++ bytesLE 4 (f + 1)

/-- A repeated update is refused with REPEAT (R179). -/
def repeatRefusal (s : State) : State × Reply := (noteRepeat s, .final St.repeatAlive [])

/-! ### OBJ_SET, OBJ_MOVE, OBJ_CLEAR -/

/-- OBJ_SET (R180, R185, R186). -/
def objSetBody (rq : Req) : State → State × Reply :=
  withLen (len rq 76) (fun s =>
    let b := rq.payload
    if bitOf rq.arg 8 then refuse St.badParam s
    else guarded (bodyChecks b) (fun s =>
      match slotAlive s (u8 b 0) (obAlive b) with
      | none => repeatRefusal s
      | some g => okReply (updateReply s (decide (0 < g))) (slotSet (u8 b 0) b (s.addF F.OBJ_CNT_GAP_CNT g))) s)

def execObjSet (rq : Req) (s : State) : Host.Outcome State Fault Refusal := .next (command 0x20 rq (objSetBody rq) s)

/-- A slot in the last sample. -/
def sampled (s : State) (slot : Nat) : Option ObjPlaced := s.obj.next.objs.find? (fun o => o.slot == slot)

/-- Age in µs in the last sample, saturating (R187). -/
def ageUs (p : Option ObjPlaced) : Nat :=
  match p with
  | some o => min 0xFFFFFFFF (o.age / 100)
  | none => 0

/-- OBJ_SET with READ (R187). -/
def objSetReadBody (rq : Req) : State → State × Reply :=
  withLen (len rq 4) (fun s =>
    let slot := u8 rq.payload 0
    if !bitOf rq.arg 8 then refuse St.badParam s
    else
      let p := sampled s slot
      let flags := b2n (kvGet s.obj.slots slot).isSome +
        2 * b2n (p.any ObjPlaced.stale) + 4 * b2n (p.any ObjPlaced.offMap)
      let body := match kvGet s.obj.slots slot with
        | some o => o.body
        | none => zeros 76
      okReply (bytesLE 1 flags ++ zeros 2 ++ body ++ bytesLE 4 (ageUs p)) s)

def execObjSetRead (rq : Req) (s : State) : Host.Outcome State Fault Refusal :=
  .next (command 0x20 rq (objSetReadBody rq) s)

/-- OBJ_MOVE (R180, R188). -/
def objMoveBody (rq : Req) : State → State × Reply :=
  withLen (len rq 24) (fun s =>
    let pl := rq.payload
    let slot := u8 pl 0
    let alive := bitsOf (u8 pl 1) 3 0
    if (kvGet s.obj.slots slot).isNone then refuse St.badParam s
    else match slotAlive s slot alive with
      | none => repeatRefusal s
      | some g => okReply (updateReply s (decide (0 < g)))
          (slotMove slot (slice pl 4 12) (u64 pl 16) alive (s.addF F.OBJ_CNT_GAP_CNT g)))

def execObjMove (rq : Req) (s : State) : Host.Outcome State Fault Refusal := .next (command 0x21 rq (objMoveBody rq) s)

/-- A staging is discarded, with OBJ_BULK_DROP (R181): the reason in the order of R192. -/
def dropBulk (reason : Nat) (s : State) : State :=
  match s.obj.bulk with
  | none => s
  | some (id, es) =>
    (({ s with obj.bulk := none }).setB F.OBJ_STATUS_BULK_DROP true).raise 0x53 (q4 id ++ q4 es.length ++ q4 reason)

/-- OBJ_CLEAR (R180, R181, R189). -/
def objClearBody (rq : Req) : State → State × Reply :=
  withLen (len rq 4) (fun s =>
    let pl := rq.payload
    let first := u8 pl 0
    let count := bitsOf (u16 pl 2) 8 0
    if bitOf (u8 pl 1) 0 then okReply (updateReply s false) (dropBulk 3 (slotClear 0 256 s))
    else if count = 0 || 256 < first + count then refuse St.range s
    else okReply (updateReply s false) (slotClear first count s))

def execObjClear (rq : Req) (s : State) : Host.Outcome State Fault Refusal := .next (command 0x22 rq (objClearBody rq) s)

/-! ### OBJ_BULK (R181, R182, R190) -/

/-- Size of an entry by KIND. -/
def entrySize (kind : Nat) : Nat :=
  match kind with
  | 0 => 80
  | 1 => 20
  | _ => 4

/-- Parse `n` entries: `error` at an entry of unknown KIND, else the entries and the bytes left over or
missing as `none`. -/
def parseEntries (base : Nat) : Nat → List Byte → Except Unit (Option (List BulkEntry))
  | 0, bs => .ok (if bs.isEmpty then some [] else none)
  | n + 1, bs =>
    match bs with
    | [] => .ok none
    | k :: _ =>
      if 2 < k.toNat then .error ()
      else if bs.length < entrySize k.toNat then .ok none
      else
        let e : BulkEntry := match k.toNat with
          | 0 => ⟨0, u8 bs 4, slice bs 4 76, 0⟩
          | 1 => ⟨1, u8 bs 1, slice bs 2 14, encSigned 64 ((base : Int) + signedOf 32 (u32 bs 16))⟩
          | _ => ⟨2, u8 bs 1, [], 0⟩
        match parseEntries base n (bs.drop (entrySize k.toNat)) with
        | .ok (some t) => .ok (some (e :: t))
        | r => r

/-- The checks of an entry on receipt (R181, step 4): those of R180 but for a MOVE's empty slot, which is
judged at END (R182). -/
def entryStatus (e : BulkEntry) : Option Nat := if e.kind = 0 then checkAll (bodyChecks e.bytes) else none

/-- The first status of a list of entries. -/
def entriesStatus (es : List BulkEntry) : Option Nat := es.findSome? entryStatus

/-- The packet's flags and header fields. -/
def bkStart (rq : Req) : Bool := bitOf (u8 rq.payload 0) 0
def bkEnd (rq : Req) : Bool := bitOf (u8 rq.payload 0) 1
def bkAbort (rq : Req) : Bool := bitOf (u8 rq.payload 0) 2
def bkId (rq : Req) : Nat := u16 rq.payload 2
def bkCount (rq : Req) : Nat := bitsOf (u16 rq.payload 4) 9 0

/-- The staging after a START (R181). -/
def bulkBegin (rq : Req) (s : State) : State :=
  if bkStart rq then
    let s1 := match s.obj.bulk with
      | some (_, []) => s
      | _ => dropBulk 0 s
    { s1 with obj.bulk := some (bkId rq, []) }
  else s

/-- Entries staged. -/
def staged (s : State) : List BulkEntry :=
  match s.obj.bulk with
  | some (_, es) => es
  | none => []

/-- The packet's entries added to the staging, or the status that refuses it (R181). -/
def bulkStage (rq : Req) (s : State) : State × Option Nat :=
  if !bkStart rq && !(match s.obj.bulk with | some (id, _) => id == bkId rq | none => false) then (s, some St.badParam)
  else
    let s1 := bulkBegin rq s
    let fail (st : Nat) : State × Option Nat := (dropBulk 1 s1, some st)
    match parseEntries (u64 rq.payload 8) (bkCount rq) (rq.payload.drop 16) with
    | .error _ => fail St.badParam
    | .ok none => fail St.badLength
    | .ok (some es) =>
      if 512 < (staged s1).length + es.length then fail St.range
      else match entriesStatus es with
        | some st => fail st
        | none => ({ s1 with obj.bulk := some (bkId rq, staged s1 ++ es) }, none)

/-- A packet of OBJ_BULK whose LEN cannot be right: it is refused with BAD_LENGTH, and the whole staging is discarded
(R181). DEDUCED (notes/assumptions/59.md): a packet too short for its own header is such a one too. -/
def bulkShort (s : State) : State × Reply := (dropBulk 1 s, .final St.badLength [])

/-- A body that first checks the LEN of an OBJ_BULK packet (R181). -/
def withBulkLen (ok : Bool) (body : State → State × Reply) (s : State) : State × Reply := if ok then body s else bulkShort s

/-- OBJ_BULK without END and ABORT (R181, R190). -/
def objBulkBody (rq : Req) : State → State × Reply :=
  withBulkLen (decide (16 ≤ rq.payload.length)) (fun s =>
    if bkEnd rq || bkAbort rq then refuse St.badParam s
    else match bulkStage rq s with
      | (t, some st) => (t, .final st [])
      | (t, none) => okReply ([0] ++ bytesLE 2 (staged t).length) t)

def execObjBulk (rq : Req) (s : State) : Host.Outcome State Fault Refusal := .next (command 0x23 rq (objBulkBody rq) s)

/-- The tally of an END (R190). -/
structure BulkTally where
  applied : Nat := 0
  repeated : Nat := 0
  empty : Nat := 0
  first : Option Nat := none
  gap : Bool := false

/-- Note a skipped entry. -/
def BulkTally.skip (t : BulkTally) (slot : Nat) : BulkTally :=
  { t with first := match t.first with
      | some f => some f
      | none => some slot }

/-- One entry at END (R182). -/
def applyEntry (r : State × BulkTally) (e : BulkEntry) : State × BulkTally :=
  let (s, t) := r
  match e.kind with
  | 2 => (slotClear e.slot 1 s, { t with applied := t.applied + 1 })
  | k =>
    if k = 1 && (kvGet s.obj.slots e.slot).isNone then (s, { t.skip e.slot with empty := t.empty + 1 })
    else
      let alive := if k = 0 then obAlive e.bytes else bitsOf (u8 e.bytes 0) 3 0
      match slotAlive s e.slot alive with
      | none => (noteRepeat s, { t.skip e.slot with repeated := t.repeated + 1 })
      | some g =>
        let s1 := s.addF F.OBJ_CNT_GAP_CNT g
        (if k = 0 then slotSet e.slot e.bytes s1 else slotMove e.slot (e.bytes.drop 2) e.tMeas alive s1,
          { t with applied := t.applied + 1, gap := t.gap || decide (0 < g) })

/-- OBJ_BULK with END (R182, R190). -/
def objBulkEndBody (rq : Req) : State → State × Reply :=
  withBulkLen (decide (16 ≤ rq.payload.length)) (fun s =>
    if !bkEnd rq || bkAbort rq then refuse St.badParam s
    else match bulkStage rq s with
      | (t, some st) => (t, .final st [])
      | (t, none) =>
        let r := (staged t).foldl applyEntry ({ t with obj.bulk := none }, ({} : BulkTally))
        okReply (updateReply t r.2.gap ++ bytesLE 2 r.2.applied ++ bytesLE 2 r.2.repeated ++ bytesLE 2 r.2.empty ++
          bytesLE 2 (r.2.first.getD 0xFFFF)) r.1)

def execObjBulkEnd (rq : Req) (s : State) : Host.Outcome State Fault Refusal :=
  .next (command 0x23 rq (objBulkEndBody rq) s)

/-- OBJ_BULK with ABORT (R181, R190). -/
def objBulkAbortBody (rq : Req) : State → State × Reply :=
  withBulkLen (decide (16 ≤ rq.payload.length)) (fun s =>
    let idOk := match s.obj.bulk with
      | some (id, _) => id == bkId rq
      | none => false
    if !bkAbort rq || bkStart rq || bkEnd rq || !(bkCount rq == 0) || !idOk then refuse St.badParam s
    else if !len rq 16 then bulkShort s
    else okReply ([0] ++ bytesLE 2 0) (dropBulk 2 s))

def execObjBulkAbort (rq : Req) (s : State) : Host.Outcome State Fault Refusal :=
  .next (command 0x23 rq (objBulkAbortBody rq) s)

/-! ### Geometry and the optics map -/

/-- GEOM_SET (R167, R191). -/
def geomSetBody (rq : Req) : State → State × Reply :=
  withLen (len rq 4) (fun s =>
    if rangesOk 0x5004 (u32 rq.payload 0) then plainOk (writeItem 0x5004 (u32 rq.payload 0) s) else refuse St.range s)

def execGeomSet (rq : Req) (s : State) : Host.Outcome State Fault Refusal := .next (command 0x24 rq (geomSetBody rq) s)

/-- A node of a payload. -/
def mapNode (pl : List Byte) (i : Nat) : Int × Int := (s16 pl (12 + 4 * i), s16 pl (14 + 4 * i))

/-- The map a payload carries (R191). -/
def mapOf (pl : List Byte) : OpticsMap :=
  ⟨s16 pl 0, u16 pl 2, s16 pl 4, u16 pl 6, (List.range 561).map (mapNode pl), u32 pl 8⟩

/-- The grid fields of R162. -/
def gridOk (m : OpticsMap) : Bool :=
  inRange m.azStep 16 4096 && inRange m.elStep 16 4096 && decide (m.azMin + 32 * m.azStep ≤ 32767) &&
    decide (m.elMax - 16 * m.elStep ≥ -32768)

/-- Node (i, j) of a map, if it is valid (R162). -/
def OpticsMap.node (m : OpticsMap) (i j : Nat) : Option (Int × Int) :=
  match m.nodes[33 * j + i]? with
  | some n => if n.1 = -32768 then none else some n
  | none => none

/-- The four nodes of a cell, when all are valid: N(i,j), N(i+1,j), N(i,j+1), N(i+1,j+1). -/
def OpticsMap.cell (m : OpticsMap) (i j : Nat) : Option ((Int × Int) × (Int × Int) × (Int × Int) × (Int × Int)) :=
  match m.node i j, m.node (i + 1) j, m.node i (j + 1), m.node (i + 1) (j + 1) with
  | some a, some b, some c, some d => some (a, b, c, d)
  | _, _, _, _ => none

/-- The signs of det J at the four corners of a cell (R164), up to the positive steps: the derivative by
elevation has the sign of −(derivative by j). -/
def cornerSigns (m : OpticsMap) (i j : Nat) : List Int :=
  match m.cell i j with
  | none => []
  | some (a, b, c, d) =>
    let det (u0 u1 v0 v1 : Int × Int) : Int :=
      (-((u1.1 - u0.1) * (v1.2 - v0.2) - (u1.2 - u0.2) * (v1.1 - v0.1))).sign
    [det a b a c, det a b b d, det c d a c, det c d b d]

/-- The fold check of R164. -/
def foldOk (m : OpticsMap) : Bool :=
  let signs := (List.range 16).flatMap (fun j => (List.range 32).flatMap (fun i => cornerSigns m i j))
  match signs with
  | [] => true
  | x :: _ => !(x == 0) && signs.all (fun y => y == x)

/-- The bytes of a map's nodes, in payload order. -/
def nodeBytes (m : OpticsMap) : List Byte :=
  m.nodes.flatMap (fun p => bytesLE 2 (encSigned 16 p.1) ++ bytesLE 2 (encSigned 16 p.2))

/-- The map in force in the layout of R191. -/
def mapBytes (m : OpticsMap) : List Byte :=
  bytesLE 2 (encSigned 16 m.azMin) ++ bytesLE 2 m.azStep ++ bytesLE 2 (encSigned 16 m.elMax) ++ bytesLE 2 m.elStep ++
    bytesLE 4 m.crc ++ nodeBytes m

/-- A map comes into force, or none is: OBJ_MAP_AZ, OBJ_MAP_EL, OBJ_MAP_CRC, MAP_VALID (R165, R184). -/
def setMap (m : Option OpticsMap) (s : State) : State :=
  let s1 := { s with obj.map := m }
  match m with
  | some o =>
    (((((s1.setF F.OBJ_MAP_AZ_STEP o.azStep).setF F.OBJ_MAP_AZ_ORIGIN (encSigned 16 o.azMin)).setF
      F.OBJ_MAP_EL_STEP o.elStep).setF F.OBJ_MAP_EL_ORIGIN (encSigned 16 o.elMax)).setF F.OBJ_MAP_CRC_CRC o.crc).setB
      F.OBJ_STATUS_MAP_VALID true
  | none =>
    (((s1.setReg 0x500C 0).setReg 0x5010 0).setReg 0x5014 0).setB F.OBJ_STATUS_MAP_VALID false

/-- CRC-32C of the map in force; 0 when there is none. -/
def mapCrc (s : State) : Nat :=
  match s.obj.map with
  | some m => m.crc
  | none => 0

/-- OPTICS_MAP (R164, R191): the checks in their order, then a stored change of the safety configuration. -/
def opticsMapBody (rq : Req) : State → State × Reply :=
  withLen (len rq 2256) (fun s =>
    let m := mapOf rq.payload
    guarded ([(!bitOf rq.arg 8, St.badParam), (!rq.bcast, St.badParam), (s.unlocked rq.stream, St.locked),
        ((s.job? 0x25).isNone, St.busy), (m.crc == crc32c (rq.payload.drop 12), St.badCrc), (gridOk m, St.range),
        (foldOk m, St.badParam)] ++ changeChecks s 1)
      (fun s =>
        let f := s.tickNo (if s.tck.row < s.cutoff then 1 else 2)
        let s1 := logChange rq.stream (some s.curSeq) [⟨0xF008, mapCrc s, m.crc⟩] true (setMap (some m) s)
        (s1, .accepted (zeros 3 ++ bytesLE 4 f) 0 [])) s)

def execOpticsMap (rq : Req) (s : State) : Host.Outcome State Fault Refusal :=
  .next (command 0x25 rq (opticsMapBody rq) s)

/-- OPTICS_MAP with READ (R191, R344). With no map in force the 2,256 bytes are 0. -/
def opticsMapReadBody (rq : Req) : State → State × Reply :=
  withLen (len rq 0) (fun s =>
    if !bitOf rq.arg 8 || rq.bcast then refuse St.badParam s
    else okReply (zeros 3 ++ (match s.obj.map with | some m => mapBytes m | none => zeros 2256)) s)

def execOpticsMapRead (rq : Req) (s : State) : Host.Outcome State Fault Refusal :=
  .next (command 0x25 rq (opticsMapReadBody rq) s)

end Sys2Proof.Machine
end

