-- ==== Sys2Proof/Machine/Diag.lean ====
section
/-! DEFINITION. Pixel diagnosis (R193 to R228): the pixel tests and their classification, the segment
off-current check, confirmation and the failed-pixel map, its saves, the critical zones, and the commands. -/

namespace Sys2Proof.Machine

/-! ### Pixels, segments and words -/

/-- Pixel index, and back (R13). -/
def pixIdx (x y : Nat) : Nat := 2048 * y + x
def pixX (p : Nat) : Nat := p % 2048
def pixY (p : Nat) : Nat := p / 2048

/-- The column segment of a pixel: x × 16 + y / 32 (R13). -/
def segOf (p : Nat) : Nat := 16 * pixX p + pixY p / 32

/-- The 32 pixels of a segment. -/
def segPixels (g : Nat) : List Nat := (List.range 32).map (fun i => pixIdx (g / 16) (32 * (g % 16) + i))

/-- Fields of a pixel word (R77). -/
def pwIsolate (w : Nat) : Bool := bitOf w 15
def pwRange (w : Nat) : Nat := bitsOf w 13 12
def pwWidth (w : Nat) : Nat := bitsOf w 11 0

/-- A front word. -/
def State.frontWord (s : State) (p : Nat) : Nat := (Mem.read 0 s.drv.front p).toNat

/-- The phase group of a pixel (R86). -/
def State.phaseGroup (s : State) (p : Nat) : Nat :=
  if s.drv.phaseDis then 0
  else (s.a F.DRV_PHASE_XMUL * pixX p + s.a F.DRV_PHASE_YMUL * pixY p + s.a F.DRV_PHASE_OFS) % 64

/-- Is a pixel of group `g` with width `w` on at a step of the PWM period (R85)? -/
def onAt (g w step : Nat) : Bool := decide ((step + 4096 - 64 * g) % 4096 < w)

/-- W_min: the smallest width with 1.0 µs unbroken (R84, R199). -/
def wMin (rate : Nat) : Nat := if rate = 1 || rate = 3 then 5 else 4

/-- The nominal current of a range in pA (R77). -/
def rangePA (r : Nat) : Nat :=
  match r with
  | 0 => 625000
  | 1 => 2500000
  | 2 => 10000000
  | _ => 40000000

/-- Is a pixel in the slice of frame `t` of a sweep (R196)? -/
def inSlice (t p : Nat) : Bool := pixX p % 32 == t / 2 && pixY p / 256 == t % 2

/-- The PWM period in which a pixel is tested (R197). -/
def testPeriod (rate p : Nat) : Nat := (pixY p / 64 % 4) * nRep rate / 4

/-! ### Windows and classes (R203 to R205) -/

/-- Result codes: the classes of R222, and 7 for Pass. -/
abbrev resPass : Nat := 7
abbrev resDrift : Nat := 5

/-- LO and HI of the band in mV (R203). -/
def bandLo (band : Nat) : Int :=
  match band with
  | 0 => -20
  | 1 => -100
  | 2 => -200
  | 3 => -260
  | _ => -360

def bandHi (band : Nat) : Int :=
  match band with
  | 0 => 220
  | 1 => 170
  | 2 => 80
  | 3 => -30
  | _ => -80

/-- The thermal band in force (R420). -/
def State.band (s : State) : Nat := s.f F.THM_STATUS_BAND

/-- V_nom,dark in mV. -/
def vNomDark (s : State) (p : Nat) : Int := 2150 + 20 * s.binOf (tileOf p)

/-- V_nom,lit in mV. -/
def vNomLit (s : State) (p range : Nat) : Int := 2600 + 20 * s.binOf (tileOf p) - 100 * (3 - range : Nat)

/-- The result of a dark test (R204). -/
def darkResult (s : State) (p vRest vDark : Nat) : Nat :=
  if 1000 < vRest then 4
  else if 2950 ≤ vDark then 0
  else if vDark < 800 then 1
  else if (vDark : Int) < vNomDark s p + bandLo s.band then 2
  else if vNomDark s p + bandHi s.band < vDark then resDrift
  else resPass

/-- I_lit normalised (R200): u1.15 of the nominal current of the range times the scale in force. -/
def normCurrent (s : State) (range pA : Nat) : Nat :=
  min 65535 (roundDiv (pA * 0x8000 * 0x8000) (max 1 (rangePA range * s.f F.DRV_SCALE_SCALE)))

/-- The result of a lit test (R205). -/
def litResult (s : State) (p range vLit iLit : Nat) : Nat :=
  let nf := s.nFactOf (tileOf p)
  if iLit < 0x2000 then 0
  else if vLit < 800 then 1
  else if s.f F.DRV_SCALE_SCALE < 0x6000 then resPass
  else if (vLit : Int) < vNomLit s p range + bandLo s.band then 2
  else if decide (vNomLit s p range + bandHi s.band < vLit) || decide (100 * iLit < 80 * nf) || decide (120 * nf < 100 * iLit)
  then resDrift
  else resPass

/-! ### The map (R210, R211, R219) -/

/-- Segments whose 32 bits are all set. -/
def fullSegs (map : List Nat) : List Nat :=
  (map.foldl (fun acc p => kvPut (segOf p) ((kvGet acc (segOf p)).getD 0 + 1) acc) ([] : List (Nat × Nat))).filterMap
    (fun e => if e.2 = 32 then some e.1 else none)

/-- Is a suspect entry of a pixel moot, now that the pixel is mapped? -/
def mootSuspect (ps : List Nat) (e : Nat × FaultEntry) : Bool := e.2.st == 1 && ps.contains (pixIdx e.2.x e.2.y)

/-- Ask for a save of the map (R220), for a command or not. -/
def askSave (owner : Option Nat) (s : State) : State :=
  { s with dia.saveReq := some ((s.dia.saveReq.getD []) ++ owner.toList), dia.saveOwn := s.dia.saveOwn || owner.isNone }

/-- Pixels join the map (R210): NEW counts them; more than 64 new bits or a completed segment ask for a
save (R220). -/
def mapAdd (ps : List Nat) (s : State) : State :=
  let fresh := ps.filter (fun p => !s.dia.map.contains p)
  if fresh.isEmpty then s
  else
    let map := setInsertAll fresh s.dia.map
    let full (m : List Nat) (g : Nat) : Bool := (segPixels g).all (fun p => m.contains p)
    let whole := (fresh.map segOf).any (full map)
    let s1 := { s with dia.map := map, dia.changed := true,
                       dia.closeSegs := s.dia.closeSegs.filter (fun g => !(full map g && full s.dia.mapComp g)),
                       dia.faults := s.dia.faults.filter (fun e => !mootSuspect fresh e) }
    let s2 := s1.setF F.DIA_NEWCNT_NEW (s.f F.DIA_NEWCNT_NEW + fresh.length)
    if whole || decide (64 < s2.f F.DIA_NEWCNT_NEW) then askSave none s2 else s2

/-! ### The fault list (R222) -/

/-- The entry with the lowest order among those of a state. -/
def oldestOf (st : Nat) (l : List (Nat × FaultEntry)) : Option Nat :=
  ((l.filter (fun e => e.2.st == st)).foldl (fun (acc : Option (Nat × Nat)) e =>
    match acc with
    | none => some (e.2.ord, e.1)
    | some a => if e.2.ord < a.1 then some (e.2.ord, e.1) else some a) none).map Prod.snd

/-- The position a new entry takes: the lowest free one, else that of the oldest DRIFT entry, else that of
the oldest confirmed one, else none. -/
def entryPos (l : List (Nat × FaultEntry)) : Option Nat :=
  if l.length < 4096 then (List.range 4096).find? (fun i => (kvGet l i).isNone)
  else match oldestOf 3 l with
    | some i => some i
    | none => oldestOf 2 l

/-- A new entry; a suspect with no place is dropped and counted. -/
def addEntry (e : FaultEntry) (s : State) : State :=
  match entryPos s.dia.faults with
  | some i => { s with dia.faults := kvPut i { e with ord := s.dia.nextOrd } s.dia.faults, dia.nextOrd := s.dia.nextOrd + 1 }
  | none =>
    if e.st = 1 then ({ s with dia.dropNow := s.dia.dropNow + 1 }).bump F.DIA_CNT_B_SUSPECT_DROP else s

/-- The suspect entry of a pixel, or of a pair (`nb` is its direction). -/
def suspectOf (s : State) (p : Nat) (pair : Option Nat) : Option (Nat × FaultEntry) :=
  s.dia.faults.find? (fun e => e.2.st == 1 && pixIdx e.2.x e.2.y == p &&
    (match pair with
     | none => !(e.2.cls == 3)
     | some d => e.2.cls == 3 && e.2.nb == d))

/-- A suspect is cleared (R209). -/
def clearSuspect (i : Nat) (s : State) : State :=
  ({ s with dia.faults := kvErase i s.dia.faults }).bump F.DIA_CNT_A_UNCONFIRMED

/-- The pixels a confirmed fault maps (R210). -/
def faultPixels (p cls nb : Nat) : List Nat :=
  match cls with
  | 3 => [p, if nb = 0 then p + 1 else p + 2048]
  | 4 => segPixels (segOf p)
  | _ => [p]

/-- A fault is confirmed (R209, R210): its entry at a position, if it has one, DIA_LAST, the map. -/
def confirmAt (pos : Option Nat) (e : FaultEntry) (s : State) : State :=
  let p := pixIdx e.x e.y
  let s1 := { s with dia.faults := match pos with
                       | some i => kvPut i { e with st := 2, conf := s.tck.frame } s.dia.faults
                       | none => s.dia.faults
                     dia.confNow := s.dia.confNow ++ [(p, e.cls)],
                     dia.confN := s.dia.confN + (if e.cls = 3 then 2 else 1) }
  let s2 := ((((s1.setF F.DIA_LAST_CLASS e.cls).setF F.DIA_LAST_Y e.y).setF F.DIA_LAST_X e.x).setReg 0x7028
    (BitVec.ofNat 32 s.tck.frame)).setB F.DIA_STATUS_FAULT true
  mapAdd (faultPixels p e.cls e.nb) s2

/-- A suspect's fault is confirmed. -/
def confirmFault (i : Nat) (e : FaultEntry) (s : State) : State := confirmAt (some i) e s

/-- A DRIFT result (R209): the second in a row takes an entry and raises DIAG_DRIFT. -/
def driftResult (p test reading : Nat) (s : State) : State :=
  if s.dia.drift2.contains p then s
  else match kvGet s.dia.drift1 p with
    | some first =>
      let s1 := { s with dia.drift1 := kvErase p s.dia.drift1, dia.drift2 := setInsert p s.dia.drift2,
                         dia.driftNow := s.dia.driftNow ++ [p] }
      addEntry ⟨pixX p, pixY p, 5, 3, test, 0, reading, first, s.tck.frame, 0⟩ (s1.setB F.DIA_STATUS_DRIFT true)
    | none => { s with dia.drift1 := kvPut p s.tck.frame s.dia.drift1 }

/-- A run of DRIFT results ends. -/
def driftEnds (p : Nat) (s : State) : State :=
  { s with dia.drift1 := kvErase p s.dia.drift1, dia.drift2 := setErase p s.dia.drift2 }

/-- A new suspect. -/
def newSuspect (p cls test nb reading : Nat) (s : State) : State :=
  addEntry ⟨pixX p, pixY p, cls, 1, test, nb, reading, s.tck.frame, 0, 0⟩ { s with dia.newSusp := s.dia.newSusp + 1 }

/-- The frame's result for a pixel (R209). -/
def decidePixel (p res test reading : Nat) (s0 : State) : State :=
  let s := { s0 with dia.decided := setInsert p s0.dia.decided }
  match suspectOf s p none with
  | some (i, e) =>
    if res = resPass then driftEnds p (clearSuspect i s)
    else if res = resDrift then driftResult p test reading (clearSuspect i s)
    else confirmFault i { e with cls := res, test := test, reading := reading } (driftEnds p s)
  | none =>
    if res = resPass then driftEnds p s
    else if res = resDrift then driftResult p test reading s
    else newSuspect p res test 0 reading (driftEnds p s)

/-- The result of a pair's read (R202, R209). -/
def decidePair (p nb v : Nat) (s : State) : State :=
  match suspectOf s p (some nb) with
  | some (i, e) => if 600 ≤ v then confirmFault i { e with reading := v } s else clearSuspect i s
  | none => if 600 ≤ v then newSuspect p 3 0 nb v s else s

/-! ### The pixel tests -/

/-- Does a pixel take tests in this frame (R196, R199, R213)? -/
def tests (s : State) (p : Nat) : Bool :=
  s.dia.running && decide (p < 1048576) && inSlice (s.f F.DIA_SWEEP_FRAME) p && !s.dia.map.contains p &&
    !pwIsolate (s.frontWord p)

/-- A pixel had a test in this frame of the sweep. -/
def State.hadTest (s : State) (p : Nat) : Bool := s.dia.darkDone.contains p || s.dia.litDone.contains p

/-- Note that a pixel has its dark test or its lit test (R225). -/
def noteTested (lit : Bool) (p : Nat) (s : State) : State :=
  let s1 : State := if s.hadTest p then s else { s with dia.testedN := s.dia.testedN + 1 }
  if lit then { s1 with dia.litRun := s.dia.litRun + 1, dia.litDone := setInsert p s.dia.litDone }
  else { s1 with dia.darkRun := s.dia.darkRun + 1, dia.darkDone := setInsert p s.dia.darkDone }

/-- The result of one of a pixel's tests (R209). `other`: the pixel's other test is still to come in this frame. A test that
fails decides; two that do not fail give DRIFT if either did. -/
def testResult (p res test reading : Nat) (other : Bool) (s : State) : State :=
  if s.dia.decided.contains p then s
  else if !(res = resPass || res = resDrift) then decidePixel p res test reading { s with dia.wait := kvErase p s.dia.wait }
  else match kvGet s.dia.wait p with
    | some (r, t, v) =>
      let s1 := { s with dia.wait := kvErase p s.dia.wait }
      if res = resPass && r == resDrift then decidePixel p r t v s1 else decidePixel p res test reading s1
    | none =>
      if other then { s with dia.wait := kvPut p (res, test, reading) s.dia.wait } else decidePixel p res test reading s

/-- Is the neighbour off through the dark slot of a pixel (R202)? -/
def nbOff (s : State) (p q : Nat) : Bool :=
  (List.range 10).all (fun d =>
    !onAt (s.phaseGroup q) (pwWidth (s.frontWord q)) ((64 * s.phaseGroup p + 4096 - 10 + d) % 4096))

/-- A neighbour read (R202): taken, or counted as skipped. -/
def nbRead (p q nb v : Nat) (s : State) : State :=
  if s.fb F.DIA_CTRL_NB_EN && !s.dia.map.contains q && nbOff s p q then decidePair p nb v s
  else s.bump F.DIA_CNT_B_NB_SKIP

/-- The pairs of a pixel whose dark test is deferred are left untested, and count so (R202, R223). -/
def nbDefer (x y : Nat) (s : State) : State :=
  (s.bump F.DIA_CNT_A_DEFERRED).addF F.DIA_CNT_B_NB_SKIP (b2n (decide (x < 2047)) + b2n (decide (y < 511)))

/-- DARK_TEST (R199, R201, R202, R204, R209): at most one of a pixel in a sweep. -/
def darkTest (x y vRest vDark vRight vLower : Nat) (s : State) : State :=
  let p := pixIdx x y
  let w := pwWidth (s.frontWord p)
  if 2047 < x || 511 < y || !tests s p || s.dia.darkDone.contains p || s.dia.deferred.contains p then s
  else if 4087 ≤ w then nbDefer x y { s with dia.deferred := setInsert p s.dia.deferred }
  else
    let s1 := noteTested false p { s with dia.readV := kvPut p (min 4095 vRest, min 4095 vDark) s.dia.readV }
    let res := darkResult s p vRest vDark
    let reading := if res = 4 then vRest else vDark
    let s2 := testResult p res 0 reading (decide (wMin s.rate ≤ w) && !s.dia.litDone.contains p) s1
    let s3 := if x < 2047 then nbRead p (p + 1) 0 vRight s2 else s2
    if y < 511 then nbRead p (p + 2048) 1 vLower s3 else s3

def execDarkTest (x y vRest vDark vRight vLower : Nat) (s : State) : Host.Outcome State Fault Refusal :=
  .next (darkTest x y vRest vDark vRight vLower s)

/-- FLUX_CAL in mode 0 takes the measurement of a pixel of its tile (R101). -/
def calTake (p iLit : Nat) (s : State) : State :=
  match s.drv.cal with
  | some c =>
    if !c.supplied && c.first + c.done == tileOf p then { s with drv.calMeas := s.drv.calMeas ++ [(p, iLit)] } else s
  | none => s

/-- LIT_TEST (R199, R200, R205, R209): one of a pixel in a frame; the current is given in pA. -/
def litTest (x y vLit pA : Nat) (s : State) : State :=
  let p := pixIdx x y
  let w := s.frontWord p
  if 2047 < x || 511 < y || !tests s p || pwWidth w < wMin s.rate || s.dia.litDone.contains p then s
  else
    let i := normCurrent s (pwRange w) pA
    let s1 := calTake p i (noteTested true p { s with dia.readI := kvPut p (min 4095 vLit, i) s.dia.readI })
    let res := litResult s p (pwRange w) vLit i
    let reading := if res = 0 then roundDiv (1000 * i) 0x8000 else vLit
    testResult p res 1 reading (decide (pwWidth w < 4087) && !s.dia.darkDone.contains p) s1

def execLitTest (x y vLit pA : Nat) (s : State) : Host.Outcome State Fault Refusal := .next (litTest x y vLit pA s)

/-! ### The segment off-current check (R206 to R208) -/

/-- The step of E_i in the last PWM period (R206). -/
def instantStep (rate i : Nat) : Nat :=
  let pwm := periodOf rate / nRep rate
  (pwm + 4000 * i - 28000) * 4096 / pwm

/-- I_exp of a segment at E_i, in pA at a scale of 1.0 (R206). -/
def segExpect (s : State) (g i : Nat) : Nat :=
  ((segPixels g).map (fun p =>
    let w := s.frontWord p
    if !pwIsolate w && onAt (s.phaseGroup p) (pwWidth w) (instantStep s.rate i) then rangePA (pwRange w) else 0)).sum

/-- The instant with the lowest expectation, the earliest on a tie. -/
def segInstant (s : State) (g : Nat) : Nat :=
  (List.range 4).foldl (fun b i => if segExpect s g i < segExpect s g b then i else b) 0

/-- Does a segment's current, in nA at the four instants, exceed the threshold (R207)? -/
def segFails (s : State) (g : Nat) (nA : List Nat) : Bool :=
  let i := segInstant s g
  let e := segExpect s g i * s.f F.DRV_SCALE_SCALE / 0x8000
  decide (e * (100 + s.f F.DIA_OFFC_REL) + 100 * 100000 * s.f F.DIA_OFFC_I_TH < 100 * 1000 * nth 0 nA i)

/-- A segment confirmed STUCK_ON by the check (R207): its pixels are mapped, its switch opens at the next
tick. -/
def segStuck (g nA : Nat) (s : State) : State :=
  let p := (segPixels g).headD 0
  let s1 := { s with dia.openNext := setInsert g s.dia.openNext, dia.segPrev := kvErase g s.dia.segPrev,
                     dia.nextOrd := s.dia.nextOrd + 1 }
  confirmAt (entryPos s1.dia.faults)
    ⟨pixX p, pixY p, 4, 2, 0, 0, min 65535 (nA / 100), (kvGet s.dia.segPrev g).getD s.tck.frame, s.tck.frame, s.dia.nextOrd⟩ s1

/-- One segment that is not isolated (R207): a failure in the period before and in this one confirms. -/
def segCheck (s : State) (g : Nat) (nA : List Nat) : State :=
  if segFails s g nA then
    (if (kvGet s.dia.segPrev g).isSome then segStuck g (nth 0 nA (segInstant s g)) s
     else { s with dia.segFail := kvPut g s.tck.frame s.dia.segFail })
  else s

/-- An isolated segment that still draws current above I_TH at one of the instants (R208). -/
def isoFails (s : State) (nA : List Nat) : Bool := nA.any (fun i => decide (100 * s.f F.DIA_OFFC_I_TH ≤ i))

/-- SEGMENT_OFF_CURRENT_CHECK (R207, R208): `currents` lists the segments that draw current, in nA at the four
instants; the others draw none. It runs once in a period. -/
def segmentCheck (currents : List (Nat × List Nat)) (s : State) : State :=
  if !s.saf.switches || s.dia.segDone then s
  else
    let passed := (s.dia.segPrev.map Prod.fst).filter (fun g =>
      !(match kvGet currents g with | some nA => segFails s g nA | none => false))
    let s0 := ({ s with dia.segDone := true, dia.segPrev := s.dia.segPrev.filter (fun e => !passed.contains e.1) }).addF
      F.DIA_CNT_A_UNCONFIRMED passed.length
    let s1 := currents.foldl (fun t e => if s.dia.isolated.contains e.1 then t else segCheck t e.1 e.2) s0
    match currents.find? (fun e => s.dia.isolated.contains e.1 && isoFails s e.2) with
    | none => s1
    | some (g, nA) =>
      raiseOnce Src.segIso ((s1.setB F.DIA_STATUS_ISO_FAIL true).raise 0x73
        (q4 (g / 16) ++ q4 (g % 16) ++ q4 (nA.foldl max 0 / 100)))

def execSegmentOffCurrentCheck (currents : List (Nat × List Nat)) (s : State) : Host.Outcome State Fault Refusal :=
  .next (segmentCheck currents s)

/-! ### At the tick -/

/-- The event of a list of pixels found in a frame: count and first pixel. -/
def frameEvents (s : State) : State :=
  let s1 := match s.dia.confNow with
    | [] => s
    | (p, c) :: _ => s.raise 0x70 (q4 s.dia.confNow.length ++ qPix (pixX p) (pixY p) ++ q4 c)
  let s2 := match s1.dia.driftNow with
    | [] => s1
    | p :: _ => s1.raise 0x71 (q4 s1.dia.driftNow.length ++ qPix (pixX p) (pixY p))
  let s3 := if s2.dia.dropNow = 0 then s2 else s2.raise 0x79 (q4 s2.dia.dropNow)
  { s3 with dia.confNow := [], dia.driftNow := [], dia.dropNow := 0 }

/-- Results that waited for a test that did not come decide at the end of the frame (R209). -/
def settleTests (s : State) : State :=
  s.dia.wait.foldl (fun t e => decidePixel e.1 e.2.1 e.2.2.1 e.2.2.2 t) { s with dia.wait := [] }

/-- A slot of a pixel that a period of `stop` steps cuts before its end, and whose test was due and has not run (R198, R199,
R214): the lit slot, or the dark slot, which for group 0 lies at the end of the PWM period. -/
def slotCut (s : State) (stop p : Nat) : Bool :=
  let r := testPeriod s.rate p * 4096
  let g := 64 * s.phaseGroup p
  let w := pwWidth (s.frontWord p)
  (decide (wMin s.rate ≤ w) && !s.dia.litDone.contains p && decide (stop < r + g + 44)) ||
    (decide (w < 4087) && !s.dia.darkDone.contains p && decide (stop < r + (if g = 0 then 4096 else g)))

/-- The pixels of which a shortening to `num`/`den` of the period cuts a slot (R214): those of the slice, not mapped and not
isolated. -/
def lostSlots (s : State) (num den : Nat) : Nat :=
  let t := s.f F.DIA_SWEEP_FRAME
  let stop := nRep s.rate * 4096 * num / max 1 den
  countP (fun p => !s.dia.map.contains p && !pwIsolate (s.frontWord p) && slotCut s stop p)
    ((List.range 64).flatMap (fun c => (List.range 256).map (fun r => pixIdx (32 * c + t / 2) (256 * (t % 2) + r))))

/-- The 24-byte reply of REPORT from byte 1 on (R225). -/
def reportBody (s : State) (sweep : Nat) : List Byte :=
  zeros 3 ++ bytesLE 4 sweep ++ bytesLE 4 s.dia.litRun ++ bytesLE 4 s.dia.darkRun ++
    bytesLE 4 (1048576 - s.dia.testedN) ++ bytesLE 2 s.dia.newSusp ++ bytesLE 2 s.dia.confN

/-- The counts of a sweep start again (R225). -/
def clearCounts (s : State) : State :=
  { s with cmd.jobs := s.cmd.jobs.map (Job.rekey 0x31 6 4), dia.litRun := 0, dia.darkRun := 0, dia.testedN := 0, dia.newSusp := 0, dia.confN := 0 }

/-- Another frame of the sweep begins: no pixel of it has had a test. -/
def newFrame (s : State) : State :=
  { s with dia.decided := [], dia.darkDone := [], dia.litDone := [], dia.deferred := [] }

/-- A counted frame ends: FRAME moves on, and a sweep that ends is reported (R196, R225). -/
def sweepAdvance (s : State) : State :=
  if !s.dia.running then s
  else
    let s0 := newFrame (settleTests s)
    let t := s0.f F.DIA_SWEEP_FRAME
    let s1 := s0.setF F.DIA_SWEEP_FRAME ((t + 1) % 64)
    if t = 63 then
      let n := s1.f F.DIA_SWEEP_SWEEPS
      clearCounts (finishReport St.ok (reportBody s1 n) (s1.setF F.DIA_SWEEP_SWEEPS (n + 1)))
    else s1

/-- The first condition of R213 that is not met at this tick, by its row. -/
def testBar (s : State) (swapped : Bool) : Option Nat :=
  if !(s.lamp == Lamp.lit || s.lamp == Lamp.fading || s.lamp == Lamp.safeHold) then some 0
  else if !(s.pwr.state == .active) then some 1
  else if !(swapped && s.dia.planShown == some (s.f F.DIA_SWEEP_FRAME)) then some 2
  else if s.vledLow then some 3
  else if s.a F.DRV_PHASE_YMUL % 2 == 0 || s.drv.phaseDis then some 4
  else if !s.fb F.DIA_CTRL_PIX_EN || s.dia.susp then some 5
  else none

/-- RESTART at the tick (R225): the sweep starts again at FRAME 0. -/
def restartSweep (s : State) : State :=
  clearCounts (newFrame { s.setF F.DIA_SWEEP_FRAME 0 with dia.restart := false })

/-- Pixel tests run, or pause, in the period that starts (R213, R225); DIAG_SUSPENDED tells a change. DEDUCED
(notes/assumptions/60.md): what suspends pixel tests and so ends a REPORT is what DIA_STATUS shows as SUSP_UV, SUSP_PHASE
and SUSP_CMD. -/
def testGate (swapped : Bool) (s0 : State) : State :=
  let s1 := if s0.dia.restart then restartSweep s0 else s0
  let s2 := { s1 with dia.susp := s1.dia.suspNext.getD s1.dia.susp, dia.suspNext := none }
  let bar := testBar s2 swapped
  let run := bar.isNone
  let s3 := { s2 with dia.running := run, dia.cause := bar.getD s2.dia.cause }
  let s4 := if run == s0.dia.running then s3 else s3.raise 0x75 (q4 s3.dia.cause ++ q4 (b2n !run))
  let s5 := if !(diaFlags s2 % 8 == 0) || !(s2.pwr.state == .active) then finishReport St.aborted (zeros 23) s4 else s4
  { s5 with dia.plan := (s5.f F.DIA_SWEEP_FRAME + b2n run) % 64 }

/-- The switches at a tick (R211): those of R207 open; at a swap, those of the image shown open, and those that a
DIAG_CLEAR is to reconnect close if the image shown uses the cleared map. -/
def switchesAtTick (swapped : Bool) (s : State) : State :=
  let imgFull := fullSegs s.dia.mapShown
  let close := if swapped then s.dia.closeSegs.filter (fun g => !imgFull.contains g && !s.dia.openNext.contains g) else []
  let opened := setInsertAll s.dia.openNext (if swapped then imgFull else [])
  let new := opened.filter (fun g => !s.dia.isolated.contains g)
  let s1 := { s with dia.isolated := setInsertAll opened (s.dia.isolated.filter (fun g => !close.contains g)),
                     dia.openNext := [], dia.segPrev := s.dia.segFail, dia.segFail := [], dia.segDone := false,
                     dia.closeSegs := s.dia.closeSegs.filter (fun g => !close.contains g) }
  match new with
  | [] => s1
  | g :: _ => (s1.setB F.DIA_STATUS_SEG_ISO true).raise 0x72 (q4 new.length ++ q4 (g / 16) ++ q4 (g % 16))

/-! ### Critical zones (R218) -/

/-- The mapped pixels of zone `n`. -/
def zoneMapped (s : State) (n : Nat) : Nat :=
  let fz (x : Fld) := s.f (x.at (8 * n))
  countP (fun p => inRange (pixX p / 32) (fz F.DIA_CZ0_A_I0) (fz F.DIA_CZ0_A_I1) &&
    inRange (pixY p / 32) (fz F.DIA_CZ0_A_J0) (fz F.DIA_CZ0_A_J1)) s.dia.map

/-- The count of one zone. -/
def zoneOne (s : State) (n : Nat) : State :=
  if !s.fb (F.DIA_CZ0_A_EN.at (8 * n)) then { s with dia.zonesOver := setErase n s.dia.zonesOver }
  else
    let c := zoneMapped s n
    let lim := s.f (F.DIA_CZ0_B_LIMIT.at (8 * n))
    let s1 := s.setF (F.DIA_CZ0_B_COUNT.at (8 * n)) (min 65535 c)
    if c ≤ lim then { s1 with dia.zonesOver := setErase n s1.dia.zonesOver }
    else if s1.dia.zonesOver.contains n then s1
    else raiseSource Src.diagZone ((({ s1 with dia.zonesOver := setInsert n s1.dia.zonesOver }).setB
      F.DIA_STATUS_ZONE true).raise 0x74 (q4 n ++ q4 (min 65535 c) ++ q4 lim))

/-- ZONE_COUNT (R218). -/
def zoneCount (s : State) : State :=
  let s1 := (List.range 8).foldl zoneOne s
  if s1.dia.zonesOver.isEmpty then sourceOff Src.diagZone s1 else s1

def execZoneCount (s : State) : Host.Outcome State Fault Refusal := .next (zoneCount s)

/-! ### Saves of the map (R220) -/

/-- MAP_SAVE (R220): a save that is asked for starts when none runs: 32 pages to the older copy. -/
def mapSave (s : State) : State :=
  match s.dia.saveReq, s.dia.save with
  | some owners, none =>
    let a := s.nvm.mapA
    let b := s.nvm.mapB
    let copy := if !a.valid || !firstInForce a.valid b.valid a.seq b.seq then 0 else 1
    let seq := (seqNewest a.valid b.valid a.seq b.seq + 1) % 2 ^ 32
    let sv : MapSave := ⟨copy, seq, s.dia.map, s.f F.DIA_NEWCNT_NEW, owners, s.dia.saveOwn⟩
    let s1 := { s with dia.saveReq := none, dia.saveOwn := false, dia.save := some sv, dia.changed := false }
    nvmPush none ((List.range 32).map (fun pg => .map copy pg seq s.dia.map)) (s1.setF F.DIA_NEWCNT_NEW 0)
  | _, _ => s

def execMapSave (s : State) : Host.Outcome State Fault Refusal := .next (mapSave s)

/-- The commands that wait for a save get their final replies. -/
def saveReplies (st : Nat) (owners : List Nat) (s : State) : State :=
  owners.foldl (fun t q =>
    match t.cmd.jobs.find? (fun j => j.seq == q) with
    | some j => finishJob j st [] t
    | none => t) s

/-- The last page of a save is done: the copy is valid, MAP_SAVED (R220, R228). -/
def saveDone (sv : MapSave) (s : State) : State :=
  let c : MapCopy := ⟨true, sv.seq, sv.pixels, sv.pixels⟩
  let s1 := { s with dia.save := none,
                     nvm.mapA := if sv.copy = 0 then c else s.nvm.mapA,
                     nvm.mapB := if sv.copy = 0 then s.nvm.mapB else c }
  let s2 := s1.setF (if sv.copy = 0 then F.DIA_MAPSEQ_SEQ_A else F.DIA_MAPSEQ_SEQ_B) sv.seq
  saveReplies St.ok sv.owners (s2.raise 0x76 (q4 sv.copy ++ q4 sv.seq))

/-- A page of a save failed (R220): the copy is no longer valid, the other one stays; what remains of the save
is dropped, and its new bits count again. -/
def saveFailed (sv : MapSave) (page : Nat) (s : State) : State :=
  let s1 := { s with dia.save := none, dia.changed := true,
                     nvm.mapA := if sv.copy = 0 then { s.nvm.mapA with valid := false } else s.nvm.mapA,
                     nvm.mapB := if sv.copy = 0 then s.nvm.mapB else { s.nvm.mapB with valid := false },
                     nvm.ops := s.nvm.ops.filter (fun o => match o.kind with | .map .. => false | _ => true) }
  let s2 := (s1.addF F.DIA_NEWCNT_NEW sv.newBits).setB F.DIA_STATUS_SAVE_FAIL true
  saveReplies St.nvmFail sv.owners (s2.raise 0x77 (q4 sv.copy ++ q4 page))

/-! ### Commands -/

/-- Byte `i` of a map as a bitmap (R219). -/
def mapByte (map : List Nat) (i : Nat) : Byte :=
  BitVec.ofNat 8 ((map.filter (fun p => p / 8 == i)).map (fun p => 2 ^ (p % 8))).sum

/-- `n` bytes of a bitmap from offset `o`, looked up among the bits that fall there. -/
def mapRun (map : List Nat) (o n : Nat) : List Byte :=
  let part := map.filter (fun p => decide (o ≤ p / 8) && decide (p / 8 < o + n))
  (natsFrom o n).map (mapByte part)

/-- The 16 bytes of a fault-list position (R222). -/
def faultBytes (e : Option FaultEntry) : List Byte :=
  match e with
  | none => zeros 16
  | some f => bytesLE 2 f.x ++ bytesLE 2 f.y ++ bytesLE 1 (f.cls + 8 * f.st + 64 * f.test + 128 * f.nb) ++ [0] ++
      bytesLE 2 f.reading ++ bytesLE 4 f.first ++ bytesLE 4 f.conf

/-- `n` bytes of the fault list from offset `o`. -/
def faultRun (l : List (Nat × FaultEntry)) (o n : Nat) : List Byte :=
  (((natsFrom (o / 16) ((n + 15) / 16 + 1)).flatMap (fun i => faultBytes (kvGet l i))).drop (o % 16)).take n

/-- The status reply of DIAG_RUN from byte 1 on (R225). -/
def diagStatus (s : State) : List Byte :=
  bytesLE 1 (diaFlags s) ++ bytesLE 1 (s.f F.DIA_SWEEP_FRAME) ++ [0] ++ bytesLE 4 (s.f F.DIA_SWEEP_SWEEPS) ++
    bytesLE 4 s.dia.map.length ++ bytesLE 2 (suspects s) ++ bytesLE 2 (min 65535 s.dia.isolated.length)

/-- The frame of a DIAG_RUN action: its own ACTION code, else BAD_PARAM (R225). -/
def diagRun (action : Nat) (rq : Req) (body : State → State × Reply) : State → State × Reply :=
  withLen (len rq 4) (fun s => if u8 rq.payload 0 = action then body s else refuse St.badParam s)

def diagRunStatusBody (rq : Req) : State → State × Reply := diagRun 0 rq (fun s => okReply (diagStatus s) s)

def execDiagRunStatus (rq : Req) (s : State) : Host.Outcome State Fault Refusal :=
  .next (command 0x31 rq (diagRunStatusBody rq) s)

/-- A suspension changes: logged under ID 0xF014 with 1 for suspended, in no record (R225, R251, R254). -/
def suspendChange (rq : Req) (on : Bool) (s : State) : State × Reply :=
  let old := s.dia.suspNext.getD s.dia.susp
  let s1 := { s with dia.suspNext := some on }
  (logChange rq.stream (some s.curSeq) [⟨0xF014, b2n old, b2n on⟩] false s1, .later (if on then 1 else 2) (diagStatus s1))

/-- A refusal of SUSPEND or RESUME is the STATUS of the status reply (R225). -/
def diagChecked (checks : State → List (Bool × Nat)) (body : State → State × Reply) (s : State) : State × Reply :=
  match checkAll (checks s) with
  | none => body s
  | some st => (s, .final st (diagStatus s))

/-- DIAG_RUN SUSPEND (R225). -/
def diagRunSuspendBody (rq : Req) : State → State × Reply :=
  diagRun 1 rq (diagChecked (fun s => (s.unlocked rq.stream, St.locked) :: changeChecks s 1) (suspendChange rq true))

def execDiagRunSuspend (rq : Req) (s : State) : Host.Outcome State Fault Refusal :=
  .next (command 0x31 rq (diagRunSuspendBody rq) s)

/-- DIAG_RUN RESUME (R225): accepted whether locked or not. -/
def diagRunResumeBody (rq : Req) : State → State × Reply :=
  diagRun 2 rq (diagChecked (fun s => changeChecks s 1) (suspendChange rq false))

def execDiagRunResume (rq : Req) (s : State) : Host.Outcome State Fault Refusal :=
  .next (command 0x31 rq (diagRunResumeBody rq) s)

/-- DIAG_RUN RESTART (R225). -/
def diagRunRestartBody (rq : Req) : State → State × Reply :=
  diagRun 3 rq (fun s => okReply (diagStatus s) { s with dia.restart := true })

def execDiagRunRestart (rq : Req) (s : State) : Host.Outcome State Fault Refusal :=
  .next (command 0x31 rq (diagRunRestartBody rq) s)

/-- DIAG_RUN REPORT (R225). -/
def diagRunReportBody (rq : Req) : State → State × Reply := diagRun 4 rq (fun s => (s, .accepted [] 4 []))

def execDiagRunReport (rq : Req) (s : State) : Host.Outcome State Fault Refusal :=
  .next (command 0x31 rq (diagRunReportBody rq) s)

/-- DIAG_RUN SAVE (R220, R225). A program is refused while THERM_SD is active (R425). -/
def diagRunSaveBody (rq : Req) : State → State × Reply :=
  diagRun 5 rq (fun s => guarded [(!s.sdActive, St.refusedState)]
    (fun s => (askSave (some s.curSeq) s, .accepted [] 5 [])) s)

def execDiagRunSave (rq : Req) (s : State) : Host.Outcome State Fault Refusal :=
  .next (command 0x31 rq (diagRunSaveBody rq) s)

/-- The rectangle of a request (R226). -/
def rectOf (pl : List Byte) : List Nat :=
  let x0 := bitsOf (u16 pl 0) 10 0
  let y0 := bitsOf (u16 pl 2) 8 0
  (natsFrom y0 (bitsOf (u16 pl 6) 8 0 + 1 - y0)).flatMap (fun y =>
    (natsFrom x0 (bitsOf (u16 pl 4) 10 0 + 1 - x0)).map (fun x => pixIdx x y))

/-- The rectangle's fields lie in their ranges (R226). -/
def rectOk (pl : List Byte) : Bool :=
  decide (u16 pl 0 ≤ u16 pl 4) && decide (u16 pl 4 ≤ 2047) && decide (u16 pl 2 ≤ u16 pl 6) && decide (u16 pl 6 ≤ 511)

/-- The reply of R226 from byte 1 on, with or without a save. -/
def rectReply (pl : List Byte) (n key : Nat) (s : State) : State × Reply :=
  let body := zeros 3 ++ bytesLE 4 n ++ bytesLE 4 (s.tickNo 2)
  if bitOf (u8 pl 8) 0 then (askSave (some s.curSeq) s, .accepted body key []) else okReply body s

/-- A MANUAL entry of the fault list (R222, R226). -/
def manualEntry (s : State) (p : Nat) : State :=
  addEntry ⟨pixX p, pixY p, 6, 2, 0, 0, 0, s.tck.frame, s.tck.frame, 0⟩ s

/-- PIXEL_ISOLATE (R226). -/
def pixelIsolateBody (rq : Req) : State → State × Reply :=
  withLen (len rq 12) (fun s =>
    let pl := rq.payload
    if !rectOk pl then refuse St.range s
    else if bitOf (u8 pl 8) 0 && s.sdActive then refuse St.refusedState s
    else
      let new := (rectOf pl).filter (fun p => !s.dia.map.contains p)
      rectReply pl new.length 0 (new.foldl manualEntry (mapAdd new s)))

def execPixelIsolate (rq : Req) (s : State) : Host.Outcome State Fault Refusal :=
  .next (command 0x32 rq (pixelIsolateBody rq) s)

/-- Pixels leave the map and the fault list (R227); a segment that loses a bit is to be reconnected (R211). -/
def mapRemove (drop : Nat → Bool) (s : State) : State :=
  let gone := s.dia.map.filter drop
  { s with dia.map := s.dia.map.filter (fun p => !drop p), dia.changed := s.dia.changed || !gone.isEmpty,
           dia.closeSegs := setInsertAll (gone.map segOf) s.dia.closeSegs,
           dia.drift1 := s.dia.drift1.filter (fun e => !drop e.1), dia.drift2 := s.dia.drift2.filter (fun p => !drop p),
           dia.faults := s.dia.faults.filter (fun e => !drop (pixIdx e.2.x e.2.y)) }

/-- DIAG_CLEAR (R227). -/
def diagClearBody (rq : Req) : State → State × Reply :=
  withLen (len rq 12) (fun s =>
    let pl := rq.payload
    let all := bitOf (u8 pl 8) 1
    if !s.unlocked rq.stream then refuse St.locked s
    else if !all && !rectOk pl then refuse St.range s
    else if bitOf (u8 pl 8) 0 && s.sdActive then refuse St.refusedState s
    else
      let drop (p : Nat) : Bool := all || (inRange (pixX p) (u16 pl 0) (u16 pl 4) && inRange (pixY p) (u16 pl 2) (u16 pl 6))
      rectReply pl (countP drop s.dia.map) 0 (mapRemove drop s))

def execDiagClear (rq : Req) (s : State) : Host.Outcome State Fault Refusal :=
  .next (command 0x33 rq (diagClearBody rq) s)

end Sys2Proof.Machine
end

