-- ==== Sys2Proof/Machine/Commit.lean ====
section
/-! DEFINITION. Configuration sets (R51 to R63): the commit checker (R126, R143), COMMIT, HERD, FRAME_SET. -/

namespace Sys2Proof.Machine

/-! ### Sets -/

/-- A set with items put in. -/
def CfgSet.put (c : CfgSet) (items : List (Nat × Word)) (tabs : List (Nat × List Nat)) : CfgSet :=
  ⟨items.foldl (fun m e => Mem.write 0 m e.1 e.2) c.regs, tabs.foldl (fun l e => tabSet l e.1 e.2) c.tabs⟩

/-- A set with the sampled sets of a tick put in, in order (R56). -/
def CfgSet.putAt (c : CfgSet) (sets : List Sampled) (tick : Nat) : CfgSet :=
  (sets.filter (fun x => x.applyAt == tick)).foldl (fun c x => c.put x.items x.tabs) c

/-- The set that the next tick (1) or the one after it (2) applies, as far as it is sampled (R53). -/
def setAt (s : State) (n : Nat) : CfgSet :=
  let c1 := s.tck.act.putAt s.tck.sets (s.tickNo 1)
  if n = 1 then c1 else c1.putAt s.tck.sets (s.tickNo 2)

/-- A field of a set. -/
def CfgSet.f (c : CfgSet) (x : Fld) : Nat := fieldOf (Mem.read 0 c.regs x.addr) x.hi x.lo

/-- The pending set as a whole: the register items as they stand, and the tables (R51). -/
def pendingSet (s : State) : CfgSet := ⟨s.regs, s.tck.tabs⟩

/-! ### The commit checker -/

/-- Is a video layer enabled in a set? -/
def CfgSet.vEn (c : CfgSet) (n : Nat) : Bool := bitOf (c.f ⟨0x4000, 1, 0⟩) n

/-- A field of a video layer in a set, given for V0. -/
def CfgSet.v (c : CfgSet) (n : Nat) (x : Fld) : Nat := c.f (x.at (0x80 * n))

/-- The video buffer a layer names in a set, if it is defined and of kind VIDEO (R143). -/
def CfgSet.vBuf (c : CfgSet) (s : State) (n : Nat) : Option BufDesc :=
  match s.buf? (c.v n F.LYR_V0_BUF_DESC) with
  | some b => if b.kind = 0 then some b else none
  | none => none

/-- The sizes and ratios of R121 for a source and a destination. -/
def ratioOk (wSrc hSrc wDst hDst : Nat) : Bool :=
  inRange wSrc 16 2048 && inRange hSrc 16 2048 && inRange wDst 1 2048 && inRange hDst 1 512 &&
    decide (wSrc ≤ 4 * wDst) && decide (wDst ≤ 8 * wSrc) && decide (hSrc ≤ 4 * hDst) && decide (hDst ≤ 8 * hSrc)

/-- No two outputs share a destination (R120). -/
def routesOk (a b c : Nat) : Bool :=
  (a == 0 || (!(a == b) && !(a == c))) && (b == 0 || !(b == c))

/-- A video layer passes the checker (R143). -/
def layerOk (s : State) (c : CfgSet) (n : Nat) : Bool :=
  routesOk (c.v n F.LYR_V0_ROUTE_Y_DST) (c.v n F.LYR_V0_ROUTE_K1_DST) (c.v n F.LYR_V0_ROUTE_K2_DST) &&
    (match c.vBuf s n with
     | some b => ratioOk b.w b.h (c.v n F.LYR_V0_DSIZE_W_DST) (c.v n F.LYR_V0_DSIZE_H_DST)
     | none => !c.vEn n)

/-- Line-buffer entries a layer needs with `t` taps (R126). -/
def needEntries (b : BufDesc) (hDst t : Nat) : Nat :=
  b.w * (t + (if b.h ≤ hDst then 1 else (b.h + hDst - 1) / max 1 hDst) - 1)

/-- Taps by code (R149). -/
def tapsOf : Nat → Nat
  | 0 => 4
  | 1 => 2
  | _ => 1

/-- Entries allocated to a layer in a set (R125). -/
def CfgSet.alloc (c : CfgSet) (n : Nat) : Nat :=
  1024 * (if n = 0 then c.f F.LYR_LBUF_V0_ALLOC else c.f F.LYR_LBUF_V1_ALLOC)

/-- The code of the taps in force of an enabled layer (R126): VTAPS, halved while the need exceeds the allocation. -/
def tapsCode (s : State) (c : CfgSet) (n : Nat) : Nat :=
  let k := c.v n F.LYR_V0_CTRL_VTAPS
  match c.vBuf s n with
  | none => k
  | some b =>
    let h := c.v n F.LYR_V0_DSIZE_H_DST
    if k ≤ 0 && decide (needEntries b h 4 ≤ c.alloc n) then 0
    else if k ≤ 1 && decide (needEntries b h 2 ≤ c.alloc n) then 1
    else 2

/-- The layer a set item belongs to: its registers of R149. -/
def layerOfItem (a : Nat) : Option Nat :=
  if inRange a 0x4100 0x4130 then some 0 else if inRange a 0x4180 0x41B0 then some 1 else none

/-- What the commit checker and the sampling give: the items, the tables, and the refused and reduced layers. -/
structure Checked where
  items : List (Nat × Word)
  tabs : List (Nat × List Nat)
  refused : List Nat
  reduced : List Nat

/-- The video layers refused now (R143). -/
def refusedLayers (s : State) : List Nat := (List.range 2).filter (fun n => !layerOk s (pendingSet s) n)

/-- LYR_CTRL as it is sampled: a refused layer keeps the enable of its previous set. -/
def ctrlSampled (s : State) (prev : CfgSet) (refused : List Nat) : Word :=
  refused.foldl (fun w n => withField w n n (b2n (prev.vEn n))) (s.reg 0x4000)

/-- Sample the pending set into the set of the next tick (1) or the one after it (2) (R55, R126, R143). -/
def checkSet (s : State) (n : Nat) : Checked :=
  let refused := refusedLayers s
  let prev := setAt s n
  let free (l : Option Nat) : Bool := match l with | some k => !refused.contains k | none => true
  let items := (s.tck.dirty.filter (fun a => free (layerOfItem a))).map (fun a =>
    (a, if a = 0x4000 then ctrlSampled s prev refused else s.reg a))
  let tabs := (s.tck.dirtyTabs.filter (fun k => decide (4 ≤ k) || free (some (k / 2)))).map (fun k =>
    (k, tabOf (if k < 4 then coefDefault (k % 2 + 1) else []) s.tck.tabs k))
  let result := prev.put items tabs
  let shown := (List.range 2).filter (fun k => result.vEn k)
  ⟨items, tabs ++ shown.map (fun k => (8 + k, [tapsCode s result k])), refused,
    shown.filter (fun k => !(tapsCode s result k == result.v k F.LYR_V0_CTRL_VTAPS))⟩

/-- The items that stay pending after a sampling: those of refused layers, and LYR_CTRL with them. -/
def keptDirty (refused : List Nat) (dirty : List Nat) : List Nat :=
  dirty.filter (fun a => match layerOfItem a with
    | some k => refused.contains k
    | none => a == 0x4000 && !refused.isEmpty)

/-- The pending set is sampled into the set of a tick (R53, R56). -/
def sampleSet (n : Nat) (id : Nat) (herd : Bool) (s : State) : State :=
  let c := checkSet s n
  { s with
    tck.sets := s.tck.sets ++ [⟨s.tickNo n, c.items, c.tabs, id, herd⟩]
    tck.dirty := keptDirty c.refused s.tck.dirty
    tck.dirtyTabs := s.tck.dirtyTabs.filter (fun k => decide (k < 4) && c.refused.contains (k / 2)) }

/-! ### COMMIT (R53 to R56, R62, R72) -/

/-- A list of layer numbers as a mask. -/
def layerMask (l : List Nat) : Nat := (l.map (fun n => 2 ^ n)).sum

/-- COMMIT (R53, R55, R62, R72). -/
def commitBody (rq : Req) : State → State × Reply :=
  withLen (len rq 0) (fun s =>
    if s.tck.herd.isSome then refuse St.busy s
    else
      let late := !decide (s.tck.row < s.cutoff)
      let n := if late then 2 else 1
      let c := checkSet s n
      let f := s.tickNo n
      let s1 := sampleSet n (bitsOf rq.arg 15 0) false s
      let s2 := if late then (s1.setB F.TCK_STATUS_COMMIT_LATE true).bump F.TCK_LATE_CNT_COMMIT_LATE_CNT else s1
      let st := if !c.refused.isEmpty then St.range else if late then St.late else St.ok
      (s2, .final st (bytesLE 1 (b2n late + 2 * b2n (!c.reduced.isEmpty) + 4 * b2n (!c.refused.isEmpty)) ++
        bytesLE 2 s.tck.row ++ bytesLE 4 f ++ bytesLE 4 (f + 1) ++ bytesLE 1 (layerMask c.refused) ++
        bytesLE 1 (layerMask c.reduced) ++ [0, 0])))

def execCommit (rq : Req) (s : State) : Host.Outcome State Fault Refusal := .next (command 0x10 rq (commitBody rq) s)

/-! ### HERD (R60 to R66) -/

/-- The nearest whole number, halves up (R19). -/
def ratRound (r : Rat) : Int := (r + 1 / 2).floor

/-- The residue of a rational by a positive one. -/
def ratMod (a p : Rat) : Rat := a - p * ((a / p).floor : Rat)

/-- The phase error of R65 in 10 ns units: the last tick against the nearest instant `grid` + n × P, from −P/2 to +P/2;
positive when the tick is late. DEDUCED (notes/assumptions/55.md): P is the nominal period of the lamp controller's clock, which in
TIME is the trimmed one. -/
def phaseError (s : State) (grid : Rat) : Rat :=
  let p := s.periodAct
  let r := ratMod (s.tck.exact - grid) p
  if p / 2 < r then r - p else r

/-- The position delay measured at ENUM, in 10 ns units (R64, R321). -/
def State.posDly (s : State) : Rat := (s.f F.RNG_POSDLY_POSDLY : Rat) / 100

/-- The correction of R65 in periods of P: late within 2 % shortens, late beyond it lengthens by P − e, early lengthens. -/
def correction (p e : Rat) : Rat := if 50 * e ≤ p then -e else p - e

/-- The trim after an ALIGN_TICK HERD (R66): the change of e since the HERD before over the time it took, held within 500 ppm.
DEDUCED (notes/assumptions/55.md): a correction that landed in between is no change of e, so e is compared with what that
correction left, from the tick it landed on. -/
def newTrim (s : State) (tArr : Nat) (e : Rat) : Int :=
  match s.tck.alignTime with
  | some t =>
    if t < tArr && decide (tArr ≤ t + 10000000) && decide (s.tck.alignAt < s.tck.exact) then
      clampInt (-500000) 500000 (s.trim - ratRound ((e - s.tck.alignErr) * 1000000000 / (s.tck.exact - s.tck.alignAt)))
    else s.trim
  | none => s.trim

/-- The period once the trim is `t` (R66). -/
def trimmedPeriod (s : State) (t : Int) : Rat :=
  if s.tck.sixty then periodR 0 else periodR s.rate * (1 + (t : Rat) / 1000000000)

/-- How many of the next two ticks from the arrival of a HERD on is meant, counted from now: `n` from the arrival, less the
ticks since (R61, R63, R65). -/
def ticksLeft (e : QEntry) (n : Nat) (s : State) : Nat := max 1 (n - (s.tck.frame + 2 ^ 32 - e.frame) % 2 ^ 32)

/-- The tick a HERD that arrived with the entry `e` can reach first: the next one before the cut-off row, else the one
after it (R61, R63). -/
def herdTicks (e : QEntry) (s : State) : Nat := ticksLeft e (if e.row < s.cutoff then 1 else 2) s

/-- ALIGN_TICK (R44, R65, R66): on TICK_IN and on FRC it is ignored. DESIGN CHOICE (notes/assumptions/55.md): on INTERNAL too
while the tick is stopped, in IDLE or before tick 0, with ALIGN_IGNORED set. -/
def herdAlign (x : QEntry) (ofs : Nat) (s : State) : State :=
  if s.onFrc || s.a F.TCK_CTRL_SRC = 1 || !s.tck.running then s.setB F.TCK_STATUS_ALIGN_IGNORED true
  else
    let grid : Rat := x.time - s.posDly + ofs
    let e := phaseError s grid
    let trim := newTrim s x.time e
    let s1 := (s.setF F.TCK_ALIGN_ERR_ERR (encSigned 32 (ratRound (e * 10)))).setF F.TCK_TRIM_TRIM (encSigned 24 trim)
    { s1 with tck.corr := some (herdTicks x s, correction (trimmedPeriod s trim) e), tck.alignTime := some x.time,
              tck.alignErr := e, tck.alignAt := s.tck.exact, tck.alignRun := s.tck.alignRun + 1 }

/-- The master time offset (R64), in whole 10 ns. DESIGN CHOICE (notes/assumptions/55.md): while RNG_POSDLY.VALID is 0
(before an ENUM, or between its passes) the position delay is what POSDLY holds. -/
def herdMofs (tArr : Nat) (master : Nat) (s : State) : State :=
  let new : Int := 100 * master - (tArr : Int) + s.posDly.floor
  let s1 := { s with tck.mofs := new, tck.mofsValid := true }.setB F.TCK_TIME_Q_MOFS_VALID true
  if s.tck.mofsValid && decide (100000 < (new - s.tck.mofs).natAbs) then
    (s1.setB F.TCK_STATUS_MOFS_STEP true).raise 0x34 (q8i s.tck.mofs ++ q8i new)
  else s1

/-- FLAGS and ARR_ROW of TCK_HERD_INFO (R61, R71). -/
def herdInfo (x : QEntry) (rq : Req) (s : State) : State :=
  (s.setF F.TCK_HERD_INFO_ARR_ROW x.row).setF F.TCK_HERD_INFO_FLAGS (bitsOf rq.arg 18 16)

/-- The hardware takes a HERD (R60): type 4 to address 31 with LEN 16, out of reset. It is no command: no queue,
no reply. -/
def takeHerd (rq : Req) (s : State) : Bool := rq.bcast && len rq 16 && !s.off

/-- A pending HERD target goes, replaced or cancelled (R62): RESULT reads 3, and a set already sampled for it is pending
again. -/
def dropTarget (s : State) : State :=
  match s.tck.herd with
  | none => s
  | some h =>
    let due (x : Sampled) : Bool := x.herd && x.applyAt == h.applyAt
    let back := s.tck.sets.filter due
    ({ s with
      tck.herd := none
      tck.sets := s.tck.sets.filter (fun x => !due x)
      tck.dirty := setInsertAll (back.flatMap (fun x => x.items.map Prod.fst)) s.tck.dirty
      tck.dirtyTabs := setInsertAll ((back.flatMap (fun x => x.tabs.map Prod.fst)).filter (fun k => decide (k < 8)))
        s.tck.dirtyTabs } : State).setF F.TCK_HERD_INFO_RESULT 3

/-- What the pending set held at the cut-off is sampled for the tick that comes; an item written again since stays pending
(R61). -/
def sampleCut (c : CutSet) (id : Nat) (s : State) : State :=
  { s with
    tck.sets := s.tck.sets ++ [⟨s.tickNo 1, c.items, c.tabs, id, true⟩]
    tck.dirty := s.tck.dirty.filter (fun a => !c.items.any (fun e => e.1 == a && e.2 == s.reg a))
    tck.dirtyTabs := s.tck.dirtyTabs.filter (fun k => !c.tabs.any (fun e => e.1 == k && e.2 == tabOf [] s.tck.tabs k)) }

/-- A target for the tick that comes, of a HERD that arrived before the cut-off and is taken after it (R61). -/
def herdCut (s : State) : State :=
  match s.tck.herd, s.tck.cut with
  | some h, some c => if h.applyAt = s.tickNo 1 then sampleCut c h.id s else s
  | _, _ => s

/-- A HERD target (R61, R62), with f and ROW as they stood at the arrival. -/
def herdTarget (x : QEntry) (id f : Nat) (snap : Bool) (s0 : State) : State :=
  let s := dropTarget s0
  let earliest := s.tickNo (herdTicks x s)
  let d := (f + 2 ^ 32 - earliest) % 2 ^ 32
  let late := decide (2 ^ 31 ≤ d)
  let at_ := if late then earliest else f
  let s2 := herdCut { s with tck.herd := some ⟨f, at_, id, snap, late⟩ }
  if late then
    ((s2.setB F.TCK_STATUS_HERD_LATE true).bump F.TCK_LATE_CNT_HERD_LATE_CNT).raise 0x30 (q4 id ++ q4 f ++ q4 at_)
  else s2

/-- The entry of a HERD as it arrived (R61). -/
def herdEntry (rq : Req) (s : State) : QEntry :=
  (s.entryOf 0x11 rq).getD ⟨4, 0x11, rq, s.time, s.tck.frame, s.tck.row⟩

/-- What every HERD does (R64, R65, R390): the offset, the phase, and HOLD is left. -/
def herdCommon (rq : Req) (s : State) : State :=
  let x := herdEntry rq s
  let s1 := herdMofs x.time (u64 rq.payload 4) (herdInfo x rq (leaveHold (unpark 0x11 rq s)))
  if bitOf rq.arg 16 then herdAlign x (u32 rq.payload 12) s1 else s1

/-- HERD without SET_FRAME (R61, R62). With SET_FRAME it is the row HERD_SET_FRAME. -/
def herdPlain (rq : Req) (s : State) : State :=
  if !takeHerd rq s || bitOf rq.arg 17 then s
  else
    let s1 := accept 4 0x11 rq s
    herdTarget (herdEntry rq s1) (bitsOf rq.arg 15 0) (u32 rq.payload 0) (bitOf rq.arg 18) (herdCommon rq s1)

def execHerd (rq : Req) (s : State) : Host.Outcome State Fault Refusal := .next (herdPlain rq s)

/-- A renumbering of the next ticks carries along what waits for one of them (R63): the sampled sets, a takeover, an
exchange, a quick self-test. -/
def renumber (x : SetFrame) (s : State) : State :=
  let t := { s with tck.setFrame := some x }
  let m (n : Nat) : Nat := if n = s.tickNo 1 then t.tickNo 1 else if n = s.tickNo 2 then t.tickNo 2 else n
  { t with
    tck.sets := s.tck.sets.map (fun y => { y with applyAt := m y.applyAt })
    hlv.abdicated := s.hlv.abdicated.map (fun y => { y with tick := y.tick.map m })
    hlv.exchange := s.hlv.exchange.map (fun y => { y with tick := m y.tick })
    hlv.quick := s.hlv.quick.map (fun y => if y.frame = s.tck.frame then y else { y with frame := m y.frame }) }

/-- HERD with SET_FRAME (R63): it applies no set and cancels a pending target (R62). -/
def herdSetFrame (rq : Req) (s : State) : State :=
  if !takeHerd rq s || !bitOf rq.arg 17 then s
  else
    let s1 := accept 4 0x11 rq s
    renumber ⟨herdTicks (herdEntry rq s1) s1, u32 rq.payload 0, bitsOf rq.arg 15 0, bitOf rq.arg 18⟩
      (dropTarget (herdCommon rq s1))

def execHerdSetFrame (rq : Req) (s : State) : Host.Outcome State Fault Refusal := .next (herdSetFrame rq s)

/-! ### FRAME_SET (R74), ALIGN_TIMEOUT (R66) -/

/-- TCK_CTRL as a FRAME_SET gives it. -/
def frameCtrl (pl : List Byte) : Nat :=
  bitsOf (u8 pl 0) 2 0 + 16 * bitsOf (u8 pl 1) 1 0 + 256 * bitsOf (u8 pl 4) 0 0

/-- FRAME_SET (R74). -/
def frameSetBody (rq : Req) : State → State × Reply :=
  withLen (len rq 8) (fun s =>
    let c := frameCtrl rq.payload
    let r := bitsOf (u16 rq.payload 2) 8 0
    if rangesOk 0x3000 c && rangesOk 0x3004 r then plainOk (writeItem 0x3004 r (writeItem 0x3000 c s))
    else refuse St.range s)

def execFrameSet (rq : Req) (s : State) : Host.Outcome State Fault Refusal :=
  .next (command 0x12 rq (frameSetBody rq) s)

/-- ALIGN_TIMEOUT (R66): more than 100 ms since the last ALIGN_TICK HERD. -/
def alignTimeout (s : State) : State :=
  match s.tck.alignTime with
  | none => s
  | some t => { s with time := max s.time (t + 10000001), tck.alignRun := 0 }.setB F.TCK_STATUS_ALIGNED false

def execAlignTimeout (s : State) : Host.Outcome State Fault Refusal := .next (alignTimeout s)

end Sys2Proof.Machine
end

