-- ==== Sys2Proof/Machine/ObjRender.lean ====
section
/-! DEFINITION. The object layer: the sample of all slots (R160, R161, R169 to R171, R178), the optics map
(R163), the shapes and the soft edge (R172, R174), the boxes (R175), stage 3 of one row (R176, R177). -/

namespace Sys2Proof.Machine

/-! ### Numbers -/

/-- The square root of a ratio, exact where it is rational with this scale, else cut below 2^−96 (notes/assumptions/12.md). -/
def sqrtR (r : Rat) : Rat :=
  if r ≤ 0 then 0
  else
    let k : Nat := 2 ^ 96
    ((isqrt (r.num.toNat * r.den * k * k) : Nat) : Rat) / ((r.den * k : Nat) : Rat)

/-- The square root of a ratio where it is itself a ratio. -/
def rootR (r : Rat) : Option Rat :=
  let a := isqrt r.num.toNat
  let b := isqrt r.den
  if 0 ≤ r ∧ a * a = r.num.toNat ∧ b * b = r.den then some ((a : Rat) / (b : Rat)) else none

/-- The absolute value, the larger and the smaller of two ratios. -/
def absR (r : Rat) : Rat := if r < 0 then -r else r
def maxR (a b : Rat) : Rat := if a < b then b else a
def minR (a b : Rat) : Rat := if b < a then b else a

/-! ### The display target and the motion model -/

/-- The staleness limit of a slot in 10 ns units (R168). -/
def staleLimit (c : CfgSet) (b : List Byte) : Nat :=
  msUnits (if obStale b = 0 then c.f F.OBJ_CTRL_STALE_DEF else obStale b)

/-- T_t in 10 ns units (R160): the last tick, two periods, LEAD. -/
def displayTarget (s : State) (c : CfgSet) : Rat :=
  (s.tck.tickTime : Rat) + 2 * s.periodAct + 100 * (signedOf 16 (c.f F.OBJ_CTRL_LEAD) : Rat)

/-- The age of a slot at the display target in 10 ns units, before R171 (R161, R169). -/
def rawAge (s : State) (c : CfgSet) (o : ObjSlot) : Rat :=
  if s.tck.mofsValid then displayTarget s c + (s.tck.mofs : Rat) - (100 * u64 o.body 20 : Nat)
  else displayTarget s c - (o.exec : Rat)

/-- One axis of the motion model (R169 steps 3 and 4): 1/4,096 degree. -/
def moveAxis (p0 v a : Int) (dt : Rat) : Int :=
  clampInt (-524288) 524287 (ratRound (16 * ((p0 : Rat) + v * dt + (a : Rat) * dt * dt / 2)))

/-- The margin M of R170, in 1/4,096 degree; `late` is the age beyond the limit in seconds. -/
def marginOf (b : List Byte) (stale : Bool) (late : Rat) : Nat :=
  let m0 : Rat := (obMargin0 b : Rat)
  if stale then
    (ratRound (16 * maxR m0 (minR (obCap b : Rat) (m0 + (obGrow b : Rat) * late)))).toNat
  else 16 * obMargin0 b

/-! ### The optics map -/

/-- A mapped point: P in 1/16 pixel, and J in pixels per 1/256 degree, by rows. -/
structure Mapped where
  px : Int
  py : Int
  xa : Rat
  xe : Rat
  ya : Rat
  ye : Rat

/-- R163, angles in 1/256 degree; `none` is off the map, det J = 0 among them. -/
def mapAngle (m : OpticsMap) (az el : Rat) : Option Mapped :=
  let u := (az - (m.azMin : Rat)) / (m.azStep : Rat)
  let v := ((m.elMax : Rat) - el) / (m.elStep : Rat)
  let i := (clampInt 0 31 u.floor).toNat
  let j := (clampInt 0 15 v.floor).toNat
  let fu := u - (i : Rat)
  let fv := v - (j : Rat)
  if fu < -1 ∨ 2 < fu ∨ fv < -1 ∨ 2 < fv then none
  else match m.cell i j with
    | none => none
    | some (a, b, c, d) =>
      let at_ (f : Int × Int → Int) : Rat :=
        (1 - fu) * (1 - fv) * (f a : Rat) + fu * (1 - fv) * (f b : Rat) + (1 - fu) * fv * (f c : Rat) + fu * fv * (f d : Rat)
      let du (f : Int × Int → Int) : Rat := (1 - fv) * ((f b - f a : Int) : Rat) + fv * ((f d - f c : Int) : Rat)
      let dv (f : Int × Int → Int) : Rat := (1 - fu) * ((f c - f a : Int) : Rat) + fu * ((f d - f b : Int) : Rat)
      let sa : Rat := (16 * m.azStep : Nat)
      let se : Rat := (16 * m.elStep : Nat)
      let r : Mapped := ⟨ratRound (at_ Prod.fst), ratRound (at_ Prod.snd),
        du Prod.fst / sa, -(dv Prod.fst / se), du Prod.snd / sa, -(dv Prod.snd / se)⟩
      if r.xa * r.ye - r.xe * r.ya = 0 then none else some r

/-! ### Shapes -/

/-- A distance in angle in exact form: the root of `q`, negated with `neg`, plus `c` (R172). -/
structure Dist where
  q : Rat
  neg : Bool
  c : Rat

/-- The exact signed distance to a rectangle of half-sizes `hx`, `hy` (R172). -/
def rectDist (hx hy : Rat) (p : Rat × Rat) : Dist :=
  let qx := absR p.1 - hx
  let qy := absR p.2 - hy
  let ox := maxR qx 0
  let oy := maxR qy 0
  ⟨ox * ox + oy * oy, false, minR (maxR qx qy) 0⟩

/-- The squared distance from a point to an edge. -/
def edgeDist2 (e : (Int × Int) × (Int × Int)) (p : Rat × Rat) : Rat :=
  let ax : Rat := e.1.1
  let ay : Rat := e.1.2
  let ex : Rat := (e.2.1 - e.1.1 : Int)
  let ey : Rat := (e.2.2 - e.1.2 : Int)
  let l2 := ex * ex + ey * ey
  let t := if l2 = 0 then 0 else maxR 0 (minR 1 (((p.1 - ax) * ex + (p.2 - ay) * ey) / l2))
  let dx := p.1 - ax - t * ex
  let dy := p.2 - ay - t * ey
  dx * dx + dy * dy

/-- The edges of a polygon. -/
def polyEdges (vs : List (Int × Int)) : List ((Int × Int) × (Int × Int)) := vs.zip (vs.drop 1 ++ vs.take 1)

/-- Is a point inside a convex polygon, for either winding? -/
def polyInside (vs : List (Int × Int)) (p : Rat × Rat) : Bool :=
  let sg : Rat := ((area2 vs).sign : Int)
  (polyEdges vs).all (fun e => decide (0 ≤
    sg * (((e.2.1 - e.1.1 : Int) : Rat) * (p.2 - (e.1.2 : Rat)) - ((e.2.2 - e.1.2 : Int) : Rat) * (p.1 - (e.1.1 : Rat)))))

/-- The exact signed distance to a convex polygon (R172). -/
def polyDist (vs : List (Int × Int)) (p : Rat × Rat) : Dist :=
  match (polyEdges vs).map (fun e => edgeDist2 e p) with
  | [] => ⟨0, false, 0⟩
  | d :: t => ⟨t.foldl minR d, polyInside vs p, 0⟩

/-- The distance of R172 to an ellipse, (g − 1) / |∇g|. At the centre, where ∇g does not exist, it is negative as
everywhere inside; the factor of R174 takes the same value for every distance that is not positive. -/
def ellipseDist (hx hy : Rat) (p : Rat × Rat) : Dist :=
  if hx = 0 ∨ hy = 0 then rectDist hx hy p
  else if p.1 = 0 ∧ p.2 = 0 then ⟨0, false, -minR hx hy⟩
  else
    let gx := p.1 / hx
    let gy := p.2 / hy
    let g2 := gx * gx + gy * gy
    let nx := gx / hx
    let ny := gy / hy
    let n2 := nx * nx + ny * ny
    match rootR g2 with
    | some g => ⟨(g - 1) * (g - 1) * g2 / n2, decide (g < 1), 0⟩
    | none => ⟨0, false, (g2 - sqrtR g2) / sqrtR n2⟩

/-- d_a of a slot's outline at an angle offset, in 1/256 degree (R172). -/
def shapeDist (b : List Byte) (p : Rat × Rat) : Dist :=
  let hx : Rat := (obHx b : Nat)
  let hy : Rat := (obHy b : Nat)
  let r : Rat := (obRadius b : Nat)
  match obShape b with
  | 0 => rectDist hx hy p
  | 1 => let d := rectDist (hx - r) (hy - r) p
    { d with c := d.c - r }
  | 2 => ellipseDist hx hy p
  | _ => polyDist (obVerts b) p

/-- The angle offset of pixel (x, y) from a placed centre (R172). -/
def angleOffset (o : ObjPlaced) (x y : Int) : Rat × Rat :=
  let dx : Rat := ((16 * x - o.cx : Int) : Rat) / 16
  let dy : Rat := ((16 * y - o.cy : Int) : Rat) / 16
  (o.inv.1 * dx + o.inv.2.1 * dy, o.inv.2.2.1 * dx + o.inv.2.2.2 * dy)

/-- s² of a placed slot, |det J|, from J⁻¹ (R163). -/
def ObjPlaced.scale2 (o : ObjPlaced) : Rat := 1 / absR (o.inv.1 * o.inv.2.2.2 - o.inv.2.1 * o.inv.2.2.1)

/-- A distance less the margin, times s: exact wherever it is a ratio, and of the right sign always; else the roots are
cut as `sqrtR` cuts them (R172; notes/assumptions/12.md). -/
def Dist.scaled (d : Dist) (m s s2 : Rat) : Rat :=
  let c := d.c - m
  match rootR d.q with
  | some r => ((if d.neg then -r else r) + c) * s
  | none =>
    let r := sqrtR (d.q * s2)
    let v := (if d.neg then -r else r) + c * s
    let pos := if d.neg then decide (0 < c) && decide (d.q < c * c) else decide (0 ≤ c) || decide (c * c < d.q)
    if pos then maxR v (1 / (2 ^ 200 : Nat)) else minR v 0

/-- The pixel distance d of R172. -/
def pixDist (o : ObjPlaced) (x y : Int) : Rat :=
  (shapeDist o.body (angleOffset o x y)).scaled ((o.m : Rat) / 16) o.scale o.scale2

/-- F of R174 at d / SOFT. -/
def softF (soft : Nat) (d : Rat) : Rat :=
  if soft = 0 then (if d ≤ 0 then 0 else 1)
  else maxR 0 (minR 1 (d / (soft : Rat)))

/-- The shadow factor f and the marker coverage q of R174. -/
def shadowF (o : ObjPlaced) (x y : Int) : Nat :=
  let fl := obFloor o.body
  (ratRound ((fl : Rat) + ((65535 - fl : Nat) : Rat) * softF (obSoft o.body) (pixDist o x y))).toNat

def markerQ (o : ObjPlaced) (x y : Int) : Nat :=
  (ratRound (65535 * (1 - softF (obSoft o.body) (pixDist o x y)))).toNat

/-! ### The box (R175) -/

/-- Half-extents, in angle, of a region that holds every offset with d_a below `t`. -/
def angleReach (b : List Byte) (t : Rat) : Rat × Rat :=
  let hx : Rat := (obHx b : Nat)
  let hy : Rat := (obHy b : Nat)
  match obShape b with
  | 2 =>
    let k := if hx = 0 ∨ hy = 0 then t else t * maxR hx hy / minR hx hy
    (hx + k, hy + k)
  | 3 =>
    ((obVerts b).foldl (fun m v => maxR m (absR (v.1 : Rat))) 0 + t, (obVerts b).foldl (fun m v => maxR m (absR (v.2 : Rat))) 0 + t)
  | _ => (hx + t, hy + t)

/-- The whole numbers from `lo` to `hi`. -/
def intsFrom (lo hi : Int) : List Int :=
  (List.range (hi + 1 - lo).toNat).map (fun (n : Nat) => lo + (n : Int))

/-- The first and last number of a list that satisfy a test. -/
def firstLast (l : List Int) (p : Int → Bool) : Option (Int × Int) :=
  match l.find? p, l.reverse.find? p with
  | some a, some b => some (a, b)
  | _, _ => none

/-- The box of a placed slot (R175): the pixels with d below SOFT, widened by 1 on each side, clipped to the field.
`j` holds J by rows. -/
def boxOf (o : ObjPlaced) (j : Rat × Rat × Rat × Rat) : Option (Nat × Nat × Nat × Nat) :=
  let soft : Rat := (obSoft o.body : Nat)
  let r := angleReach o.body ((o.m : Rat) / 16 + soft / o.scale)
  let rx := absR j.1 * r.1 + absR j.2.1 * r.2
  let ry := absR j.2.2.1 * r.1 + absR j.2.2.2 * r.2
  let c : Rat × Rat := ((o.cx : Rat) / 16, (o.cy : Rat) / 16)
  let xs := intsFrom (c.1 - rx).floor ((c.1 + rx).floor + 1)
  let ys := intsFrom (c.2 - ry).floor ((c.2 + ry).floor + 1)
  let hit (x y : Int) : Bool := decide (pixDist o x y < soft)
  match firstLast xs (fun x => ys.any (hit x)), firstLast ys (fun y => xs.any (fun x => hit x y)) with
  | some (x0, x1), some (y0, y1) =>
    let bx0 := max 0 (x0 - 1)
    let bx1 := min 2047 (x1 + 1)
    let by0 := max 0 (y0 - 1)
    let by1 := min 511 (y1 + 1)
    if bx0 ≤ bx1 ∧ by0 ≤ by1 then some (bx0.toNat, bx1.toNat, by0.toNat, by1.toNat) else none
  | _, _ => none

/-! ### The sample (R178) -/

/-- Place one slot (R169 to R175): `c` is C(k + 1). -/
def placeSlot (s : State) (c : CfgSet) (n : Nat) (o : ObjSlot) : ObjPlaced :=
  let b := o.body
  let raw := rawAge s c o
  let age := maxR 0 raw
  let lim := staleLimit c b
  let stale := decide ((lim : Rat) < age)
  let dt := minR age (lim : Rat) / 100000000
  let az := moveAxis (s16 b 4) (s16 b 12) (s16 b 16) dt
  let el := moveAxis (s16 b 6) (s16 b 14) (s16 b 18) dt
  let m := marginOf b stale ((age - (lim : Rat)) / 100000000)
  let off : ObjPlaced := ⟨n, b, age.floor.toNat, stale, o.updated, true, 0, 0, m, (0, 0, 0, 0), 0, none⟩
  match s.obj.map.bind (fun t => mapAngle t ((az : Rat) / 16) ((el : Rat) / 16)) with
  | none => off
  | some p =>
    let det := p.xa * p.ye - p.xe * p.ya
    let o1 : ObjPlaced := { off with
      offMap := false
      cx := p.px + signedOf 16 (c.f F.OBJ_GEOM_BEND)
      cy := p.py + signedOf 16 (c.f F.OBJ_GEOM_PITCH)
      inv := (p.ye / det, -(p.xe / det), -(p.ya / det), p.xa / det)
      scale := sqrtR (absR det) }
    { o1 with box := boxOf o1 (p.xa, p.xe, p.ya, p.ye) }

/-- The sample of all slots, OBJ_CTRL and the geometry of a set (R178), placed at the instant of `t`. -/
def takeSample (t : State) (c : CfgSet) : ObjSample :=
  ⟨t.obj.slots.map (fun e => placeSlot t c e.1 e.2), c.f F.OBJ_CTRL_EN == 1,
    signedOf 16 (c.f F.OBJ_GEOM_BEND), signedOf 16 (c.f F.OBJ_GEOM_PITCH)⟩

/-- Slots whose age came out negative (R171). -/
def anyFuture (t : State) (c : CfgSet) : Bool := t.obj.slots.any (fun e => decide (rawAge t c e.2 < 0))

/-- Slots of a sample that are off the map. -/
def offSlots (o : ObjSample) : List Nat := (o.objs.filter ObjPlaced.offMap).map ObjPlaced.slot

/-- OBJ_OFFMAP is raised where a slot's bit goes from 0 to 1 (R175, R192). -/
def offMapEvent (old new : List Nat) (s : State) : State :=
  match new.filter (fun n => !old.contains n) with
  | [] => s
  | n :: t => (s.setB F.OBJ_STATUS_OFFMAP true).raise 0x51 (q4 (t.length + 1) ++ q4 n)

/-- A sample is taken (R178): the updates since the last sample are in it. -/
def sampleWith (t : State) (c : CfgSet) (s : State) : State :=
  let o := takeSample t c
  let s1 := if anyFuture t c then s.setB F.OBJ_STATUS_FUTURE true else s
  offMapEvent (offSlots s.obj.next) (offSlots o) { s1 with
    obj.next := o
    obj.rdReset := false
    obj.taken := true
    obj.slots := s.obj.slots.map (fun e => (e.1, { e.2 with updated := false })) }

/-- The sample at row C (R178): with the geometry of C(k + 1). -/
def objSample (s : State) : State := sampleWith s (setAt s 1) s

/-- The set of a HERD whose tick ends this period is sampled at the cut-off (R61). -/
def herdSampleDue (s : State) : Bool :=
  match s.tck.herd with
  | some h => h.applyAt == s.tickNo 1 && !s.tck.sets.any (fun x => x.herd && x.applyAt == s.tickNo 1)
  | none => false

/-- Sample the set of a HERD target. -/
def herdSample (s : State) : State :=
  match s.tck.herd with
  | some h => sampleSet 1 h.id true s
  | none => s

/-- What of a placed slot keeps an image as it is (R390): its centre, its margin and its state. -/
def ObjPlaced.look (o : ObjPlaced) : Nat × Int × Int × Nat × Bool × Bool := (o.slot, o.cx, o.cy, o.m, o.stale, o.offMap)

/-- In HOLD a sample that differs from the held image's ends HOLD (R390). -/
def holdSample (s : State) : State :=
  if s.pwr.state = .hold && !(s.obj.next.objs.map ObjPlaced.look == s.obj.last.objs.map ObjPlaced.look) then leaveHold s else s

/-- The pending set at the cut-off, for a HERD that has arrived and is not taken yet (R61). -/
def cutSet (s : State) : CutSet :=
  let c := checkSet s 1
  ⟨c.items, c.tabs⟩

/-- OBJECT_SAMPLE (R178): ROW reaches C; HERD's set is sampled; in HOLD too (R386). No sample is taken while no half
is active (R276). -/
def objectSample (s0 : State) : State :=
  if !s0.tck.running then s0
  else
    let s := { s0 with tck.row := max s0.tck.row s0.cutoff, tck.cut := some (cutSet s0) }
    let s1 := if herdSampleDue s then herdSample s else s
    if s1.executes then holdSample (objSample s1) else s1

def execObjectSample (s : State) : Host.Outcome State Fault Refusal := .next (objectSample s)

/-- OBJ_STALE at the tick that applies a sample (R170): a slot that was not stale in the one before, or that an update
left stale. -/
def staleEvent (old new : ObjSample) (s : State) : State :=
  let was := (old.objs.filter ObjPlaced.stale).map ObjPlaced.slot
  let hits := new.objs.filter (fun o => o.stale && (!was.contains o.slot || o.updated))
  match hits.map ObjPlaced.slot with
  | [] => s
  | n :: t => (s.setB F.OBJ_STATUS_STALE true).raise 0x50 (q4 (t.length + 1) ++ q4 n)

/-! ### Stage 3 of one row (R176, R177) -/

/-- Pairs the renderer evaluates in a row slot: 32 per PIX clock of 2.5 ns (R177). -/
def pairCap (rate : Nat) : Nat := 32 * (slotNs rate * 10 / 25)

/-- Put an object into the order of R177: descending PRIORITY, ascending slot number. -/
def insertOrd (o : ObjPlaced) : List ObjPlaced → List ObjPlaced
  | [] => [o]
  | p :: t =>
    if obPriority p.body < obPriority o.body || (obPriority p.body == obPriority o.body && decide (o.slot < p.slot))
    then o :: p :: t else p :: insertOrd o t

/-- The objects that may touch a row, in the order of R177. -/
def rowObjs (sm : ObjSample) (y : Nat) : List ObjPlaced :=
  ((sm.objs.filter (fun o => o.drawn sm.en && (match o.box with
    | some (_, _, y0, y1) => inRange y y0 y1
    | none => false))).foldr insertOrd [])

/-- The width of an object's box. -/
def boxWidth (o : ObjPlaced) : Nat :=
  match o.box with
  | some (x0, x1, _, _) => x1 + 1 - x0
  | none => 0

/-- How many objects of the order are reached with the pairs left (R177). -/
def reached : Nat → List ObjPlaced → Nat
  | _, [] => 0
  | left, o :: t => if boxWidth o ≤ left then 1 + reached (left - boxWidth o) t else 0

/-- Does an object's box hold a column? -/
def inBoxX (o : ObjPlaced) (x : Nat) : Bool :=
  match o.box with
  | some (x0, x1, _, _) => inRange x x0 x1
  | none => false

/-- What stage 3 does in one row: the objects rendered exactly and the shadows filled (R177). -/
structure RowObjs where
  exact : List ObjPlaced
  fill : List ObjPlaced
  tooMany : Bool

/-- The objects of a row, split by the capacity (R177). -/
def splitRow (rate : Nat) (sm : ObjSample) (y : Nat) : RowObjs :=
  let l := rowObjs sm y
  let n := reached (pairCap rate) l
  ⟨l.take n, (l.drop n).filter (fun o => obType o.body == 0), decide (n < l.length)⟩

/-- The value leaving stage 3 at a pixel (R176). -/
def stage3 (r : RowObjs) (x y : Nat) (acc : Nat) : Nat :=
  let here := r.exact.filter (fun o => inBoxX o x)
  let add := ((here.filter (fun o => obType o.body == 1)).map (fun o =>
    roundDiv (obLum o.body * markerQ o x y) 65535)).sum
  let fs := (here.filter (fun o => obType o.body == 0)).map (fun o => shadowF o x y) ++
    (r.fill.filter (fun o => inBoxX o x)).map (fun o => obFloor o.body)
  roundDiv (min 65535 (acc + add) * fs.foldl min 65535) 65535

end Sys2Proof.Machine
end

