-- ==== Sys2Proof/Machine/Compose.lean ====
section
/-! DEFINITION. Stages 1 and 2 of an image row in the active half (R18): the video layers with their matrix and
scaler (R113 to R124), the graphic layers (R130 to R133), BASE (R134), the test source (R139), geometry (R166). -/

namespace Sys2Proof.Machine

/-- Element `i` of a row; 0 beyond it. -/
def at0 (a : Array Nat) (i : Nat) : Nat := a.getD i 0

/-! ### What a layer presents at a pixel (R114, R115) -/

/-- A layer at a covered pixel: P in units of 1 / `d`, a in units of 1 / `d` of 1.0, and m as a fraction. -/
structure Lay where
  p : Nat
  a : Nat
  d : Nat
  mN : Nat
  mD : Nat

/-- The blend modes of R115: the exact rational result, rounded once, at most 65,535. -/
def blend (mode acc : Nat) (l : Lay) : Nat :=
  min 65535 (match mode with
    | 0 => roundDiv (acc * l.mN * (l.d - l.a) + l.p * l.mD) (l.mD * l.d)
    | 1 => roundDiv (acc * l.mN * l.d + l.p * l.mD) (l.mD * l.d)
    | 2 => roundDiv (max (acc * l.mN * l.d) (l.p * l.mD)) (l.mD * l.d)
    | _ => roundDiv (acc * l.mN * ((l.d - l.a) * 65535 + l.p)) (l.mD * l.d * 65535))

/-! ### Video layers -/

/-- The components of source pixel `x` of a line, widened to 12 bits (R118, R119). -/
def srcPixel (fmt : Nat) (line : Array Nat) (x : Nat) : Nat × Nat × Nat :=
  match fmt with
  | 0 =>
    let o := 5 * (x / 2)
    let g := at0 line o + 256 * at0 line (o + 1) + 65536 * at0 line (o + 2) + 2 ^ 24 * at0 line (o + 3) +
      2 ^ 32 * at0 line (o + 4)
    (4 * (if x % 2 = 0 then bitsOf g 19 10 else bitsOf g 39 30), 4 * bitsOf g 9 0, 4 * bitsOf g 29 20)
  | 3 =>
    let o := 4 * x
    let g := at0 line o + 256 * at0 line (o + 1) + 65536 * at0 line (o + 2) + 2 ^ 24 * at0 line (o + 3)
    (4 * bitsOf g 9 0, 4 * bitsOf g 19 10, 4 * bitsOf g 29 20)
  | _ => (16 * at0 line (3 * x), 16 * at0 line (3 * x + 1), 16 * at0 line (3 * x + 2))

/-- A matrix coefficient c_ji, s2.13 (R119, R149). -/
def VLayer.coef (l : VLayer) (n j i : Nat) : Int :=
  let k := 3 * j + i
  signedOf 16 (l.a n ⟨0x4114 + 4 * (k / 2), if k % 2 = 0 then 31 else 15, if k % 2 = 0 then 16 else 0⟩)

/-- PRE_i and POST_j, signed 12 bits (R149). -/
def VLayer.pre (l : VLayer) (n i : Nat) : Int :=
  signedOf 12 (l.a n (match i with
    | 0 => F.LYR_V0_PRE01_LO
    | 1 => F.LYR_V0_PRE01_HI
    | _ => F.LYR_V0_OFS2_LO))

def VLayer.post (l : VLayer) (n j : Nat) : Int :=
  signedOf 12 (l.a n (match j with
    | 0 => F.LYR_V0_OFS2_HI
    | 1 => F.LYR_V0_POST12_LO
    | _ => F.LYR_V0_POST12_HI))

/-- Output j of the matrix, widened to 16 bits (R119). -/
def VLayer.output (l : VLayer) (n j : Nat) (x : Nat × Nat × Nat) : Nat :=
  let t (i v : Nat) : Int := l.coef n j i * ((v : Int) + l.pre n i)
  let o := (clampInt 0 4095 (roundDivInt (t 0 x.1 + t 1 x.2.1 + t 2 x.2.2) 8192 + l.post n j)).toNat
  16 * o + o / 256

/-- The route of output j (R120). -/
def VLayer.route (l : VLayer) (n j : Nat) : Nat :=
  l.a n (match j with
    | 0 => F.LYR_V0_ROUTE_Y_DST
    | 1 => F.LYR_V0_ROUTE_K1_DST
    | _ => F.LYR_V0_ROUTE_K2_DST)

/-- The output routed to a destination. -/
def VLayer.source (l : VLayer) (n dst : Nat) : Option Nat := (List.range 3).find? (fun j => l.route n j == dst)

/-- The bytes of source line `r` of a buffer, padding left out. -/
def lineOf (s : State) (b : BufDesc) (r : Nat) : Array Nat :=
  ((s.storeBytes (b.addr + r * b.stride) (lineBytes b.fmt b.w)).map BitVec.toNat).toArray

/-- A channel of a source line: 1 luminance, 2 alpha, 3 mask; none without a source. -/
def srcChannel (l : VLayer) (n : Nat) (b : BufDesc) (line : Array Nat) (dst : Nat) : Option (List Nat) :=
  if b.fmt = 4 then
    (if dst = 1 then some ((List.range b.w).map (fun x => at0 line (2 * x) + 256 * at0 line (2 * x + 1))) else none)
  else match l.source n dst with
    | some j => some ((List.range b.w).map (fun x => l.output n j (srcPixel b.fmt line x)))
    | none => none

/-- A position of R122: n and the phase p. -/
def scalePos (src dst j : Nat) : Int × Nat :=
  let step := src * 65536 / max 1 dst
  let p : Int := j * step + Int.tdiv ((step : Int) - 65536) 2
  (p.fdiv 65536, (p - p.fdiv 65536 * 65536).toNat / 1024)

/-- An edge-clamped index (R122). -/
def edge (top : Nat) (i : Int) : Nat := (clampInt 0 ((top : Int) - 1) i).toNat

/-- A filter with weights and values (R123). -/
def filterTaps (ws : List Int) (vs : List Nat) : Nat :=
  let t := ((ws.zip vs).map (fun e => e.1 * (e.2 : Int))).sum
  (clampInt 0 65535 (roundDivInt t (max 1 ws.sum.toNat))).toNat

/-- The rows and weights of the vertical filter (R122). -/
def vertTaps (l : VLayer) (n : Nat) (pos : Int × Nat) : List (Int × Int) :=
  match (tabOf [0] l.tabs (8 + n)).headD 0 with
  | 0 => (List.range 4).map (fun (i : Nat) => (pos.1 - 1 + (i : Int),
      signedOf 16 (nth 0 (tabOf vCoef l.tabs (coefKey n 2)) (4 * pos.2 + i))))
  | 1 => [(pos.1, 64 - (pos.2 : Int)), (pos.1 + 1, (pos.2 : Int))]
  | _ => [(if pos.2 < 32 then pos.1 else pos.1 + 1, 1)]

/-- A channel after the vertical filter at destination row `j` (R123). -/
def vertLine (s : State) (l : VLayer) (n : Nat) (b : BufDesc) (j dst : Nat) : Option (Array Nat) :=
  let taps := vertTaps l n (scalePos b.h (l.a n F.LYR_V0_DSIZE_H_DST) j)
  let lines := taps.map (fun t => srcChannel l n b (lineOf s b (edge b.h t.1)) dst)
  if lines.any Option.isNone then none
  else
    let arrs := lines.map (fun o => (o.getD []).toArray)
    some ((List.range b.w).map (fun x => filterTaps (taps.map Prod.snd) (arrs.map (fun a => at0 a x)))).toArray

/-- A channel after the horizontal filter at destination column `j` (R122, R123). -/
def horzTap (l : VLayer) (n w : Nat) (line : Array Nat) (j : Nat) : Nat :=
  let pos := scalePos w (l.a n F.LYR_V0_DSIZE_W_DST) j
  let tab := tabOf hCoef l.tabs (coefKey n 1)
  filterTaps ((List.range 8).map (fun i => signedOf 16 (nth 0 tab (8 * pos.2 + i))))
    ((List.range 8).map (fun (i : Nat) => at0 line (edge w (pos.1 - 3 + (i : Int)))))

/-- The row of a video layer (R113, R114, R117): nothing where it does not cover. -/
def vRow (s : State) (n y : Nat) : Nat → Option Lay :=
  let l := s.vLayer n
  let x0 := signedOf 12 (l.a n F.LYR_V0_DPOS_X_DST)
  let jy := (y : Int) - signedOf 10 (l.a n F.LYR_V0_DPOS_Y_DST)
  match s.buf? (l.a n F.LYR_V0_BUF_DESC) with
  | none => fun _ => none
  | some b =>
    if !l.showing || jy < 0 || decide ((l.a n F.LYR_V0_DSIZE_H_DST : Int) ≤ jy) then fun _ => none
    else
      let line (dst : Nat) := vertLine s l n b jy.toNat dst
      let lum := line 1
      let alp := line 2
      let msk := line 3
      let f4 := match l.fade with
        | some k => 3 - k
        | none => 4
      fun x =>
        let jx := (x : Int) - x0
        if jx < 0 || decide ((l.a n F.LYR_V0_DSIZE_W_DST : Int) ≤ jx) then none
        else
          let ch (o : Option (Array Nat)) (d : Nat) : Nat := match o with
            | some a => horzTap l n b.w a jx.toNat
            | none => d
          let a := ch alp 65535 * l.a n F.LYR_V0_CTRL_OPACITY * f4
          some ⟨ch lum 0 * a, a, 65535 * 1024, 4 * 65535 - (65535 - ch msk 65535) * f4, 4 * 65535⟩

/-! ### The line-buffer pool (R125, R126, R265) -/

/-- An entry of the pool. DESIGN CHOICE (notes/assumptions/64.md): luminance, alpha and mask of a source pixel, 16 bits each, and
in bit 48 their parity; the spec gives the number of the entries and that each has a parity. -/
def poolEntry (l a m : Nat) : Nat :=
  let v := l % 65536 + a % 65536 * 2 ^ 16 + m % 65536 * 2 ^ 32
  v + 2 ^ 48 * ((List.range 48).foldl (fun p i => p + b2n (bitOf v i)) 0 % 2)

/-- The source lines of a video layer that a row of the composed image reads. -/
def layerLines (s : State) (n : Nat) (y : Int) : List PoolLine :=
  let l := s.vLayer n
  let jy := y - signedOf 10 (l.a n F.LYR_V0_DPOS_Y_DST)
  match s.buf? (l.a n F.LYR_V0_BUF_DESC) with
  | none => []
  | some b =>
    if !l.showing || jy < 0 || decide ((l.a n F.LYR_V0_DSIZE_H_DST : Int) ≤ jy) then []
    else
      let rows := (vertTaps l n (scalePos b.h (l.a n F.LYR_V0_DSIZE_H_DST) jy.toNat)).foldl (fun r t => setInsert (edge b.h t.1) r) []
      rows.map (fun r =>
        let line := lineOf s b r
        let ch (dst d : Nat) : Array Nat := ((srcChannel l n b line dst).getD (List.replicate b.w d)).toArray
        let lum := ch 1 0
        let alp := ch 2 65535
        let msk := ch 3 65535
        ⟨n, r, (List.range b.w).map (fun x => poolEntry (at0 lum x) (at0 alp x) (at0 msk x))⟩)

/-! ### Graphic layers -/

/-- The animation frame f of a table at counter n; none once CLEAR is over (R130). -/
def animFrame (t : List Nat) (n : Nat) : Option Nat :=
  let len := nth 1 t 1
  match nth 0 t 0 with
  | 0 => some (n % max 1 len)
  | 1 => some (min n (len - 1))
  | _ => if n < len then some n else none

/-- The entries of a table: symbol, X, Y, LUM, START, DURATION. -/
def animEntries (t : List Nat) : List (List Nat) := chunks 6 (t.drop 2)

/-- The entries a table draws at counter n, by number; an entry whose symbol is missing among them (R130). -/
def animDue (t : List Nat) (n : Nat) : List (Nat × List Nat) :=
  match t, animFrame t n with
  | [], _ => []
  | _, none => []
  | _, some f => ((List.range (animEntries t).length).zip (animEntries t)).filter (fun e =>
      decide (nth 0 e.2 4 ≤ f) && decide (f < nth 0 e.2 4 + nth 0 e.2 5))

/-- A symbol as the image being composed sees it: COMPLETE in the sample, or nothing (R132). -/
def symSeen (s : State) (n : Nat) : Option SymDesc :=
  match kvGet s.lyr.symSample n with
  | some d => if d.st = 2 then some d else none
  | none => none

/-- Luminance numerator (over 65,535) and alpha of pixel (x, y) of a symbol (R128). -/
def symPixel (s : State) (d : SymDesc) (lum x y : Nat) : Nat × Nat :=
  let base := (symRegion s).1 + 64 * d.addr
  let byte (o : Nat) : Nat := (s.storeByte (base + o)).toNat
  match d.fmt with
  | 0 => let o := y * 2 * d.w + 2 * x; (byte o * 257 * lum, byte (o + 1) * 257)
  | 1 => let v := byte (y * d.w + x); (v % 16 * 4369 * lum, v / 16 * 4369)
  | 2 => (lum * 65535, byte (y * d.w + x) * 257)
  | _ => (lum * 65535, if bitOf (byte (y * ((d.w + 7) / 8) + x / 8)) (x % 8) then 65535 else 0)

/-- One entry put over P and A at a pixel (R133); none while nothing has covered the pixel. -/
def overEntry (s : State) (x y : Nat) (pa : Option (Nat × Nat)) (e : List Nat) : Option (Nat × Nat) :=
  match symSeen s (nth 0 e 0) with
  | none => pa
  | some d =>
    let sx := (x : Int) - signedOf 16 (nth 0 e 1)
    let sy := (y : Int) - signedOf 16 (nth 0 e 2)
    if sx < 0 || sy < 0 || decide ((d.w : Int) ≤ sx) || decide ((d.h : Int) ≤ sy) then pa
    else
      let (l, a) := symPixel s d (nth 0 e 3) sx.toNat sy.toNat
      let (p0, a0) := pa.getD (0, 0)
      some (min 65535 (roundDiv (p0 * (65535 - a) * 65535 + l * a) (65535 * 65535)),
        min 65535 (roundDiv (a0 * (65535 - a) + a * 65535) 65535))

/-- A graphic layer's typed state. -/
def State.gLayer (s : State) (g : Nat) : GLayer := vnth {} s.lyr.g g

/-- The row of a graphic layer (R114, R133). -/
def gRow (s : State) (g y : Nat) : Nat → Option Lay :=
  let l := s.gLayer g
  let es := (animDue l.table l.n).map Prod.snd
  let op := s.a (F.LYR_G0_CTRL_OPACITY.at (0x10 * g))
  if !gEnabled s g then fun _ => none
  else fun x =>
    match es.foldl (overEntry s x y) none with
    | some (p, a) => some ⟨p * op * 65535, a * op, 65535 * 256, 1, 1⟩
    | none => none

/-! ### Stage 1 and the test source -/

/-- The slot BASE shows; 7 is none (R134, R136). -/
def State.baseSlot (s : State) : Nat := s.f F.LYR_BASE_SHOWN

/-- The BASE codes of a row (R134). -/
def baseRow (s : State) (y : Nat) : Array Nat :=
  match s.buf? (60 + s.baseSlot) with
  | some b => if 3 < s.baseSlot then #[] else ((words16 (s.storeBytes (b.addr + 4096 * y) 4096))).toArray
  | none => #[]

/-- The layer at a position of LYR_ZORDER: its row and its blend mode (R113, R116). -/
def zLayer (s : State) (y pos : Nat) : (Nat → Option Lay) × Nat :=
  let z := s.a ⟨0x4004, 3 * pos + 2, 3 * pos⟩
  if z < 2 then (vRow s z y, (s.vLayer z).a z F.LYR_V0_CTRL_BLEND)
  else (gRow s (z - 2) y, s.a (F.LYR_G0_CTRL_BLEND.at (0x10 * (z - 2))))

/-- Stage 1 of a row: the values leaving composition (R113). -/
def stage1Row (s : State) (y : Nat) : Array Nat :=
  let base := baseRow s y
  let ls := (List.range 6).map (zLayer s y)
  ((List.range 2048).map (fun x => ls.foldl (fun acc l =>
    match l.1 x with
    | some lay => blend l.2 acc lay
    | none => acc) (at0 base x))).toArray

/-- A code of the fallback copy as a source: 0 while the copy is invalid (R139, R438). -/
def fbSource (s : State) (x y : Nat) : Nat := if s.fb F.SAF_FB_VALID then s.fbCode (2048 * y + x) else 0

/-- The test sources of R139. -/
def testSource (s : State) (x y : Nat) : Nat :=
  let v := s.a F.LYR_TEST_VALUE
  match s.a F.LYR_TEST_MODE with
  | 1 => v
  | 2 => x * 65535 / 2047
  | 3 => y * 65535 / 511
  | 4 => if (x / 32 + y / 32) % 2 = 0 then v else 0
  | 5 => fbSource s x y
  | _ => 0

/-- What enters stage 2 of a row (R138, R139); nothing outside the field. -/
def composedRow (s : State) (y : Int) : Array Nat :=
  if y < 0 || 511 < y then #[]
  else if s.a F.LYR_TEST_MODE = 0 then stage1Row s y.toNat
  else
    let pts := s.tonePts
    ((List.range 2048).map (fun x => toneMap pts (testSource s x y.toNat))).toArray

/-- A value of a composed row; 0 outside the field. -/
def atField (a : Array Nat) (x : Int) : Nat := if x < 0 || 2047 < x then 0 else at0 a x.toNat

/-- Stage 2 of a row (R166). -/
def stage2Row (s : State) (y : Nat) : Array Nat :=
  let bend := signedOf 16 (s.a F.OBJ_GEOM_BEND)
  let pitch := signedOf 16 (s.a F.OBJ_GEOM_PITCH)
  if bend = 0 ∧ pitch = 0 then composedRow s y
  else
    let sy := 16 * (y : Int) - pitch
    let y0 := sy.fdiv 16
    let fy := (sy - 16 * y0).toNat
    let r0 := composedRow s y0
    let r1 := if fy = 0 then #[] else composedRow s (y0 + 1)
    ((List.range 2048).map (fun (x : Nat) =>
      let sx := 16 * (x : Int) - bend
      let x0 := sx.fdiv 16
      let fx := (sx - 16 * x0).toNat
      roundDiv ((16 - fx) * (16 - fy) * atField r0 x0 + fx * (16 - fy) * atField r0 (x0 + 1) +
        (16 - fx) * fy * atField r1 x0 + fx * fy * atField r1 (x0 + 1)) 256)).toArray

/-- The rows of the composed image that stage 2 reads for a row (R166). -/
def stage2Src (s : State) (y : Nat) : List Int :=
  let bend := signedOf 16 (s.a F.OBJ_GEOM_BEND)
  let pitch := signedOf 16 (s.a F.OBJ_GEOM_PITCH)
  if bend = 0 ∧ pitch = 0 then [(y : Int)]
  else
    let y0 := (16 * (y : Int) - pitch).fdiv 16
    [y0, y0 + 1]

/-- What a half's line-buffer pool holds while it makes a row (R265): the lines of both video layers, with a test source none. -/
def linePool (s : State) (y : Nat) : List PoolLine :=
  if !(s.a F.LYR_TEST_MODE = 0) then []
  else ((stage2Src s y).filter (fun r => decide (0 ≤ r) && decide (r ≤ 511))).flatMap (fun r => layerLines s 0 r ++ layerLines s 1 r)

/-- The values leaving stage 3 of a row, and what the capacity of R177 did. -/
def halfRow (s : State) (y : Nat) : Array Nat × RowObjs :=
  let r := splitRow s.rate s.obj.cur y
  let v := stage2Row s y
  (if r.exact.isEmpty && r.fill.isEmpty then v
   else ((List.range 2048).map (fun x => stage3 r x y (at0 v x))).toArray, r)

end Sys2Proof.Machine
end

