-- ==== Sys2Proof/Machine/Writes.lean ====
section
/-! DEFINITION. Reading and writing registers: REG_RD, REG_WR, REG_RMW (R361), the latching of 64-bit pairs
(R10), and what a write does beside keeping its value (R51, R100, R127, R213, R298, R309, R397). -/

namespace Sys2Proof.Machine

/-! ### Reading -/

/-- The low words whose read latches the high word at the next address (R10). -/
def lowWords : List Nat := [0x0004, 0x3018, 0x3024, 0x302C, 0x303C, 0x8028, 0xB010, 0xC040]

/-- One register read (R6, R10). -/
def readReg (a : Nat) (s : State) : Nat × State :=
  if lowWords.contains a then
    ((s.peek a).toNat, { s with latch := kvPut (a + 4) (s.peek (a + 4)) s.latch })
  else match kvGet s.latch a with
    | some v => (v.toNat, { s with latch := kvErase a s.latch })
    | none => ((s.peek a).toNat, s)

/-- Read `n` registers from an address on. -/
def readRegs : Nat → Nat → State → List Nat × State
  | _, 0, s => ([], s)
  | a, n + 1, s =>
    let r := readReg a s
    let t := readRegs (a + 4) n r.2
    (r.1 :: t.1, t.2)

/-- The address rules of a run of registers (R5): the first word that breaks one decides. -/
def regRunCheck : Nat → Nat → Option Nat
  | _, 0 => none
  | a, n + 1 => if !(a % 4 == 0) then some St.badParam else if !isReg a then some St.range else regRunCheck (a + 4) n

/-- REG_RD (R361). -/
def regRdBody (rq : Req) : State → State × Reply :=
  withLen (len rq 8) (fun s =>
    let a := u16 rq.payload 0
    let n := u32 rq.payload 4
    if !inRange n 1 1019 then refuse St.range s
    else match regRunCheck a n with
      | some st => refuse st s
      | none =>
        let r := readRegs a n s
        okReply (zeros 3 ++ r.1.flatMap (bytesLE 4)) r.2)

def execRegRd (rq : Req) (s : State) : Host.Outcome State Fault Refusal := .next (command 0x08 rq (regRdBody rq) s)

/-! ### Side effects of a write -/

/-- Closing the bypass takes the transmitter off DN (R298); upstream-silent is only an engine whose bypass is open (R315). -/
def closeBypass (s : State) : State :=
  ((s.setB F.RNG_STATUS_BYPASS true).setB F.RNG_STATUS_TX_ON false).setB F.RNG_STATUS_SILENT false

/-- RNG_CTRL.BYPASS_HOLD (R298): set, it closes the bypass; cleared, the bypass opens at the next entry to RUN. -/
def bypassHold (v : Bool) (s : State) : State :=
  let s1 := s.setB F.RNG_CTRL_BYPASS_HOLD v
  if v then closeBypass s1 else s1

/-- DRV_FLUX_CTRL.RESTART: c becomes 1.0 at the next tick (R100). -/
def fluxRestart (s : State) : State := { s with drv.restart := true }

/-- V_thr in µV (R397): 0.20 V + THR × 2.20 V / 255. -/
def roosterThr (s : State) : Nat := 200000 + s.f F.PWR_ROOSTER_THR * 2200000 / 255

/-- HYST in µV. -/
def roosterHyst (s : State) : Nat :=
  match s.f F.PWR_ROOSTER_HYST with
  | 0 => 10000
  | 1 => 50000
  | _ => 100000

/-- The comparator's output at a WAKE_IN voltage in mV (R397). -/
def roosterLevel (s : State) (mv : Nat) : Bool :=
  let v := 1000 * mv
  let t := roosterThr s
  if s.fb F.PWR_ROOSTER_POL then
    (if s.pwr.roosterOut then decide (v ≤ t + roosterHyst s) else decide (v < t))
  else (if s.pwr.roosterOut then decide (t - roosterHyst s ≤ v) else decide (t < v))

/-- The comparator's output turns, or stays (R397): a rising edge with EN sets ROOSTER in ACTIVE and HOLD, out of reset. -/
def roosterTurn (out : Bool) (s : State) : State :=
  let s1 : State := { s with pwr.roosterOut := out }
  if out && !s.pwr.roosterOut && s.fb F.PWR_ROOSTER_EN && !s.off && (s.pwr.state == .active || s.pwr.state == .hold) then
    s1.setB F.PWR_FLAGS_ROOSTER true
  else s1

/-- What a write of a register does beside keeping its bits. -/
def writeEffect (a : Nat) (v : Word) (s : State) : State :=
  match a with
  | 0x1000 => if s.fb F.RNG_CTRL_BYPASS_HOLD then closeBypass s else s
  | 0x4014 => { s with lyr.syms := [] }
  | 0x6028 => if bitOf v.toNat 1 then fluxRestart s else s
  | 0x7000 => if s.fb F.DIA_CTRL_PIX_EN then s else pauseTests 5 s
  | 0xC020 => roosterTurn (roosterLevel s s.pwr.wakeMv) s
  | _ => s

/-- The value that reaches an equaliser register: CTLE is taken only while FREEZE is 1 (R323). Of CHK_n_RUN the bits beyond
the width of the running value are ignored by what reads it (`chkRunning`, R365). -/
def eqValue (a : Nat) (old v : Word) : Word :=
  if inRange a 0x1040 0x105F && a % 8 == 4 && !bitOf v.toNat 31 then withField v 3 0 (fieldOf old 3 0) else v

/-- One word, checked before: the kept bits (R6, R9), the pending set (R51), the side effects. -/
def writeOne (a : Nat) (v : Word) (s : State) : State :=
  match regRow a with
  | none => s
  | some r =>
    let s1 := s.setReg a (writeValue r (s.reg a) (eqValue a (s.reg a) v))
    writeEffect a v (if r.item then markDirty a s1 else s1)

/-! ### Checks -/

/-- Does an animation table draw any symbol, whatever its state (R131)? -/
def tableDraws (t : List Nat) : Bool := (chunks 6 (t.drop 2)).any (fun e => !(nth 0 e 5 == 0))

/-- Is any symbol in use (R131)? -/
def anyInUse (s : State) : Bool :=
  (List.range 4).any (fun g =>
    let l := vnth {} s.lyr.g g
    (gEnabled s g && tableDraws l.table) || tableDraws l.prev)

/-- A write of LYR_SYM beyond its ranges (R127): no overlap with a defined buffer, no symbol in use. -/
def symCheck (s : State) (v : Nat) : Option Nat :=
  if s.lyr.bufs.any (fun e => overlap (0x100000 * bitsOf v 4 0) (0x100000 * bitsOf v 10 8) e.2.addr e.2.size) then
    some St.badParam
  else if anyInUse s then some St.bufInUse
  else none

/-- The check of one word, with the checks of its owning chapter (R93, R127). -/
def wordStatus (s : State) (stream a mask v : Nat) : Option Nat :=
  match wordCheck s stream a mask v with
  | some st => some st
  | none =>
    if a = 0x4014 then symCheck s v
    else if a = 0x6004 && decide (s.f F.SAF_LIMITS_BUDGET_MAX < bitsOf v 9 0) then some St.range
    else none

/-- Does a write of these bits count as a change of the safety configuration (R8)? -/
def rwlWrite (a mask : Nat) : Bool :=
  match regRow a with
  | some r => !(r.rwl &&& mask == 0)
  | none => false

/-- The log entry of a register write (R255): the whole register before and after. -/
def regItem (s : State) (a : Nat) (v : Word) : LogItem :=
  ⟨a, (s.reg a).toNat, (match regRow a with
    | some r => writeValue r (s.reg a) v
    | none => v).toNat⟩

/-! ### REG_WR -/

/-- The words of a REG_WR with their addresses (R361). -/
def wrWords (rq : Req) : List (Nat × Word) :=
  let ws := chunks 4 (rq.payload.drop 4)
  ((List.range ws.length).map (fun i => u32 rq.payload 0 + 4 * i)).zip (ws.map (fun w => BitVec.ofNat 32 (leNat w)))

/-- The first word that is refused, with its status. -/
def wrRefused (s : State) (stream : Nat) : List (Nat × Word) → Option (Nat × Nat)
  | [] => none
  | (a, v) :: t =>
    match wordStatus s stream a 0xFFFFFFFF v.toNat with
    | some st => some (a, st)
    | none => wrRefused s stream t

/-- The reply of a REG_WR from byte 1 on. -/
def wrReply (a : Nat) : List Byte := zeros 3 ++ bytesLE 4 a

/-- REG_WR (R254, R361). -/
def regWrBody (rq : Req) : State → State × Reply :=
  withLen (inRange rq.payload.length 8 4080) (fun s =>
    let ws := wrWords rq
    match wrRefused s rq.stream ws with
    | some (a, st) => (if st = St.bufInUse then s.bump F.LYR_CNT_IN_USE else s, .final st (wrReply a))
    | none =>
      let safe := ws.filter (fun w => rwlWrite w.1 0xFFFFFFFF)
      let put (t : State) : State := ws.foldl (fun t w => writeOne w.1 w.2 t) t
      if safe.isEmpty then okReply (wrReply 0xFFFFFFFF) (put s)
      else match checkAll (changeChecks s safe.length) with
        | some st => (s, .final st (wrReply 0xFFFFFFFF))
        | none =>
          (logChange rq.stream (some s.curSeq) (safe.map (fun w => regItem s w.1 w.2)) (safe.any (fun w => isStored w.1))
            (put s), .later 0 (wrReply 0xFFFFFFFF)))

def execRegWr (rq : Req) (s : State) : Host.Outcome State Fault Refusal := .next (command 0x09 rq (regWrBody rq) s)

/-! ### REG_RMW -/

/-- What a REG_RMW writes (R361): W1C and WO bits outside MASK are written as 0. -/
def rmwValue (s : State) (a : Nat) (mask v : Word) : Word :=
  match regRow a with
  | some r => (s.reg a &&& ~~~ mask &&& BitVec.ofNat 32 (r.rw ||| r.rwl)) ||| (v &&& mask)
  | none => v &&& mask

/-- REG_RMW (R254, R361). -/
def regRmwBody (rq : Req) : State → State × Reply :=
  withLen (len rq 12) (fun s =>
    let a := u32 rq.payload 0
    let mask := u32 rq.payload 4
    let w := rmwValue s a (BitVec.ofNat 32 mask) (BitVec.ofNat 32 (u32 rq.payload 8))
    match wordStatus s rq.stream a mask w.toNat with
    | some st => (if st = St.bufInUse then s.bump F.LYR_CNT_IN_USE else s, .final st [])
    | none =>
      let t := writeOne a w s
      let body := zeros 3 ++ bytesLE 4 (s.peek a).toNat ++ bytesLE 4 (t.peek a).toNat
      if !rwlWrite a mask then okReply body t
      else match checkAll (changeChecks s 1) with
        | some st => refuse st s
        | none => (logChange rq.stream (some s.curSeq) [regItem s a w] (isStored a) t, .later 0 body))

def execRegRmw (rq : Req) (s : State) : Host.Outcome State Fault Refusal := .next (command 0x0A rq (regRmwBody rq) s)

/-! ### Single register writes -/

/-- What owns the operations of a change that no command made: a number beyond every journal SEQ. -/
def changeOwner (s : State) : Nat := 0x10000 + s.saf.logNext

/-- REGISTER_WRITE (R6, R8): one word by a stream; refused, it changes nothing; of an RWL field, it is a logged
change (R254). -/
def registerWrite (stream a : Nat) (v : Word) (s : State) : State :=
  match wordStatus s stream a 0xFFFFFFFF v.toNat with
  | some _ => s
  | none =>
    if rwlWrite a 0xFFFFFFFF then
      match checkAll (changeChecks s 1) with
      | some _ => s
      | none => logChange stream (some (changeOwner s)) [regItem s a v] (isStored a) (writeOne a v s)
    else writeOne a v s

def execRegisterWrite (stream addr : Nat) (value : Word) (s : State) : Host.Outcome State Fault Refusal :=
  .next (registerWrite stream addr value s)

/-- DRV_FLUX_RESTART (R100). -/
def execDrvFluxRestart (s : State) : Host.Outcome State Fault Refusal := .next (fluxRestart s)

/-- LYR_SYM_WRITE (R127). -/
def lyrSymWrite (v : Word) (s : State) : State :=
  match wordStatus s 0 0x4014 0xFFFFFFFF v.toNat with
  | some st => if st = St.bufInUse then s.bump F.LYR_CNT_IN_USE else s
  | none => writeOne 0x4014 v s

def execLyrSymWrite (value : Word) (s : State) : Host.Outcome State Fault Refusal := .next (lyrSymWrite value s)

/-- BYPASS_HOLD_WRITE (R298). -/
def execBypassHoldWrite (value : Bool) (s : State) : Host.Outcome State Fault Refusal := .next (bypassHold value s)

end Sys2Proof.Machine
end

