-- ==== Sys2Proof/Machine/SafeStop.lean ====
section
/-! DEFINITION. Safe stop and the safety configuration: the commands of R259 to R263, the stop pins (R241,
R242), the fades and their ends (R235 to R240), the fallback copy (R26), master loss (R248), the unlock
time (R253). -/

namespace Sys2Proof.Machine

/-! ### SAFE_STOP, SAFE_RESTART, ENABLE -/

/-- A command the hardware takes ahead of the queue (R259, R338): its journal entry and reply as for any
other, without the queue's waiting. -/
def hwCommand (op : Nat) (rq : Req) (body : State → State × Reply) (s : State) : State :=
  runBody op true rq body (accept 0 op rq s)

/-- The reply of SAFE_STOP from byte 1 on (R259). -/
def stopReply (s : State) : List Byte :=
  bytesLE 1 s.lamp ++ bytesLE 1 (s.f F.SAF_STATE_CLASS) ++ [0] ++ bytesLE 4 (s.reg 0x8024).toNat

/-- SAFE_STOP (R259). -/
def safeStopBody (rq : Req) : State → State × Reply :=
  withLen (len rq 4) (fun s =>
    let cls := u8 rq.payload 0
    if 2 < cls then (s, .final St.badParam (stopReply s))
    else
      let t := abortBist (abortCal (requestStop cls Src.command s))
      okReply (stopReply t) t)

/-- SAFE_STOP is taken by the sequencer in every state out of reset, ahead of the queue (R259, R437). -/
def execSafeStop (rq : Req) (s : State) : Host.Outcome State Fault Refusal :=
  .next (if s.off then s else hwCommand 0x40 rq (safeStopBody rq) s)

/-- Both stop pins read released (R231 to R233). -/
def State.pinsReleased (s : State) : Bool := s.saf.pinA && s.saf.pinB

/-- The lowest active source whose class is at most `c` (R232, R233). -/
def blockingSource (s : State) (c : Nat) : Option Nat :=
  (List.range 13).find? (fun i => s.isActive i && decide (classOf s i ≤ c))

/-- The 4-byte reply of R260, from byte 1 on. -/
def lampReply (s : State) (blocker : Nat) : List Byte := bytesLE 1 s.lamp ++ bytesLE 1 blocker ++ [0]

/-- Refused with REFUSED_STATE, naming the blocker (R260). -/
def blocked (s : State) (b : Nat) : State × Reply := (s, .final St.refusedState (lampReply s b))

/-- R231: the lamp state after a device reset or an accepted SAFE_RESTART is SAFE_HOLD with AUTO_FALLBACK, a
valid configuration and both pins released; else DARK. -/
def autoFallback (s : State) : Bool :=
  s.fb F.SAF_LIMITS_AUTO_FALLBACK && !s.fb F.SAF_LOCK_CFG_INVALID && s.pinsReleased

/-- Enter the lamp state of R231: in SAFE_HOLD VLED_EN rises and the fallback source is selected at the next
tick; no stop is in force. -/
def enterR231 (s : State) : State :=
  let s1 := ({ s with saf.fade := none, saf.byStop := false, saf.fbRelease := false }.setB F.SAF_STATE_LATCHED false).setF
    F.SAF_STATE_CLASS 3
  if autoFallback s then
    setLamp Lamp.safeHold (vledOnNow { s1 with saf.fbSelect := true, saf.awaitArm := true })
  else setLamp Lamp.dark { s1 with saf.fbRelease := !s1.saf.fbUntilFlip }

/-- SAFE_RESTART (R233, R260). -/
def safeRestartBody (rq : Req) : State → State × Reply :=
  withLen (len rq 0) (fun s =>
    if !(s.lamp == Lamp.stopped) then blocked s 0xFB
    else if !s.pinsReleased then blocked s 0xFD
    else match blockingSource s 1 with
      | some b => blocked s b
      | none => let t := enterR231 s; okReply (lampReply t 0xFF) t)

def execSafeRestart (rq : Req) (s : State) : Host.Outcome State Fault Refusal :=
  .next (command 0x41 rq (safeRestartBody rq) s)

/-- What blocks ENABLE with LIGHT = 1 from DARK or SAFE_HOLD (R232). -/
def enableBlocker (s : State) : Option Nat :=
  if s.fb F.SAF_STATE_LATCHED then some 0xFE
  else if !s.pinsReleased then some 0xFD
  else if s.fb F.SAF_LOCK_CFG_INVALID then some 0xFC
  else blockingSource s 2

/-- Light the lamp (R232): from DARK VLED_EN rises and the switches close once the warning has armed; from
SAFE_HOLD the fallback source is released at the next tick. -/
def lightUp (s : State) : State :=
  let s1 := { s with saf.byStop := false }.setF F.SAF_STATE_CLASS 3
  if s.lamp = Lamp.dark then
    setLamp Lamp.lit (vledOnNow { s1 with saf.awaitArm := true })
  else setLamp Lamp.lit { s1 with saf.fbRelease := !s1.saf.fbUntilFlip, saf.fbSelect := false }

/-- ENABLE with LIGHT = 1 (R232, R260). A LIGHT of 0 is the row SWITCH_OFF. -/
def enableBody (rq : Req) : State → State × Reply :=
  withLen (len rq 4) (fun s =>
    if !bitOf (u8 rq.payload 0) 0 then refuse St.badParam s
    else if s.lamp = Lamp.lit then okReply (lampReply s 0xFF) s
    else if s.lamp = Lamp.fading then blocked s 0xFB
    else if s.lamp = Lamp.stopped then blocked s 0xFE
    else match enableBlocker s with
      | some b => blocked s b
      | none => let t := lightUp s; okReply (lampReply t 0xFF) t)

/-- An ENABLE goes ahead of the queue: it is a service request of a part that leaves IDLE, or that gives up a SHUTDOWN
(R454). -/
def enableAhead (s : State) : Bool := s.pwr.service && (s.pwr.state == .idle || s.executes)

/-- ENABLE (R232). As a service request it is executed at once, ahead of the queue (R454). -/
def execEnable (rq : Req) (s0 : State) : Host.Outcome State Fault Refusal :=
  let s := accept 0 0x46 rq s0
  .next (
    if enableAhead s then hwCommand 0x46 rq (enableBody rq) { s with pwr.service := s.pwr.service && s.pwr.state == .idle }
    else command 0x46 rq (enableBody rq) s)

/-- A switch-off fade (R240): no stop is in force (R258). -/
def beginSwitchOff (s : State) : State :=
  let f : Fade := ⟨.switchOff, s.time, msUnits (s.f F.SAF_FADE_T1), s.time + msUnits (s.f F.SAF_FADE_T1), iStart s, 0, false⟩
  setLamp Lamp.fading (({ s with saf.fade := some f, saf.byStop := false }.setF F.SAF_ENV_STAT_I_START
    (min 65535 f.iStart)).setF F.SAF_STATE_CLASS 3)

/-- ENABLE with LIGHT = 0 (R240, R260): in LIT or SAFE_HOLD the fade begins; in DARK nothing is to do; in
FADING and STOPPED it is refused. -/
def switchOffBody (rq : Req) : State → State × Reply :=
  withLen (len rq 4) (fun s =>
    if bitOf (u8 rq.payload 0) 0 then refuse St.badParam s
    else if s.lamp = Lamp.lit || s.lamp = Lamp.safeHold then
      let t := beginSwitchOff s
      okReply (lampReply t 0xFF) t
    else if s.lamp = Lamp.dark then okReply (lampReply s 0xFF) s
    else blocked s 0xFB)

def execSwitchOff (rq : Req) (s : State) : Host.Outcome State Fault Refusal :=
  .next (command 0x46 rq (switchOffBody rq) s)

/-! ### The lock and the log -/

/-- The 4-byte reply of SAFE_UNLOCK (R261), from byte 1 on. -/
def unlockReply (s : State) : List Byte :=
  bytesLE 1 (5 - s.f F.SAF_LOCK_FAILS) ++ bytesLE 1 (s.f F.SAF_LOCK_STREAM) ++ [0]

/-- SAFE_UNLOCK (R253, R261). -/
def safeUnlockBody (rq : Req) : State → State × Reply :=
  withLen (len rq 8) (fun s =>
    if s.fb F.SAF_LOCK_LOCKOUT then (s, .final St.locked (unlockReply s))
    else if rq.payload == s.saf.password then
      let t := (({ s with saf.unlockTime := s.time, saf.lockPending := false }.setF F.SAF_LOCK_FAILS 0).setB
        F.SAF_LOCK_UNLOCKED true).setF F.SAF_LOCK_STREAM rq.stream
      okReply (unlockReply t) t
    else
      let n := s.f F.SAF_LOCK_FAILS + 1
      let t := (s.setF F.SAF_LOCK_FAILS n).setB F.SAF_LOCK_LOCKOUT (decide (5 ≤ n))
      (t.raise 0x89 (q4 rq.stream ++ q4 (5 - n)), .final St.badPassword (unlockReply t)))

def execSafeUnlock (rq : Req) (s : State) : Host.Outcome State Fault Refusal :=
  .next (command 0x42 rq (safeUnlockBody rq) s)

/-- Lock again (R253). -/
def lockNow (s : State) : State :=
  ({ s with saf.lockPending := false }.setB F.SAF_LOCK_UNLOCKED false).setF F.SAF_LOCK_STREAM 0

/-- Is a change of the safety configuration being stored? -/
def storing (s : State) : Bool :=
  s.nvm.ops.any (fun o => match o.kind with | .append _ => true | .record _ _ => true | _ => false)

/-- SAFE_LOCK (R253, R261): at once, or when the storing of a change ends. -/
def safeLockBody (rq : Req) : State → State × Reply :=
  withLen (len rq 0) (fun s =>
    if storing s then okReply [] { s with saf.lockPending := true } else okReply [] (lockNow s))

def execSafeLock (rq : Req) (s : State) : Host.Outcome State Fault Refusal :=
  .next (command 0x43 rq (safeLockBody rq) s)

/-- UNLOCK_TIMEOUT (R253): 600 s after the last accepted SAFE_UNLOCK or change the configuration locks again. -/
def unlockTimeout (s : State) : State :=
  if s.fb F.SAF_LOCK_UNLOCKED then lockNow { s with time := max s.time (s.saf.unlockTime + 60000000000) } else s

def execUnlockTimeout (s : State) : Host.Outcome State Fault Refusal := .next (unlockTimeout s)

/-- Entry `e` of a SAFE_WRITE: address and value (R262). -/
def swEntries (pl : List Byte) : List (Nat × Nat) :=
  (List.range (bitsOf (u8 pl 0) 5 0)).map (fun e => (u32 pl (4 + 8 * e), u32 pl (8 + 8 * e)))

/-- The addresses of a SAFE_WRITE: registers with an RWL field, and the password with both halves (R262). -/
def swAddrsOk (es : List (Nat × Nat)) : Bool :=
  es.all (fun e => hasRwl e.1 || e.1 == 0xF000 || e.1 == 0xF004) &&
    (es.any (fun e => e.1 == 0xF000) == es.any (fun e => e.1 == 0xF004))

/-- The value checks of a SAFE_WRITE (R254 step 1); the lock was checked before. -/
def swValuesOk (s : State) (stream : Nat) (es : List (Nat × Nat)) : Bool :=
  es.all (fun e => decide (0xF000 ≤ e.1) || (wordStatus s stream e.1 0xFFFFFFFF e.2).isNone)

/-- The value the entries leave at an address: that of the last entry for it, since they are applied in order. -/
def swLast (es : List (Nat × Nat)) (a : Nat) : Option (Nat × Nat) := es.reverse.find? (fun e => e.1 == a)

/-- The new password, if the entries carry one. -/
def swPassword (es : List (Nat × Nat)) : Option (List Byte) :=
  match swLast es 0xF000, swLast es 0xF004 with
  | some a, some b => some (bytesLE 4 a.2 ++ bytesLE 4 b.2)
  | _, _ => none

/-- The registers a SAFE_WRITE writes, each once, in the order of their first entries. -/
def swRegs (es : List (Nat × Nat)) : List Nat :=
  (es.map Prod.fst).foldl (fun l a => if a < 0xF000 && !l.contains a then l ++ [a] else l) []

/-- The register entries applied in order (R262). -/
def swApply (es : List (Nat × Nat)) (s : State) : State :=
  (es.filter (fun e => decide (e.1 < 0xF000))).foldl (fun t e => writeOne e.1 (BitVec.ofNat 32 e.2) t) s

/-- One entry per register written, its value before the command and after it (R254; notes/assumptions/57.md), then the
password as one entry (R262). -/
def swItems (s : State) (es : List (Nat × Nat)) : List LogItem :=
  let regs := (swRegs es).map (fun a => (⟨a, (s.reg a).toNat, ((swApply es s).reg a).toNat⟩ : LogItem))
  match swPassword es with
  | some p => regs ++ [⟨0xF000, crc32c s.saf.password, crc32c p⟩]
  | none => regs

/-- SAFE_WRITE (R254, R262): LEN, the lock, the addresses, the values, the log room; then everything is
applied, and the final reply follows the last program, with the entries then logged and the SEQ of the last one. -/
def safeWriteBody (rq : Req) : State → State × Reply :=
  withLen (decide (4 ≤ rq.payload.length) && rq.payload.length == 4 + 8 * bitsOf (u8 rq.payload 0) 5 0) (fun s =>
    let es := swEntries rq.payload
    let items := swItems s es
    guarded ([(!rq.bcast, St.badParam), (s.unlocked rq.stream, St.locked), (swAddrsOk es, St.badParam),
        (!es.isEmpty && swValuesOk s rq.stream es, St.range)] ++ changeChecks s items.length)
      (fun s =>
        let s1 := swApply es s
        let s2 := match swPassword es with
          | some p => { s1 with saf.password := p }
          | none => s1
        let stored := es.any (fun e => decide (0xF000 ≤ e.1) || isStored e.1)
        let s3 := logChange rq.stream (some s.curSeq) items stored s2
        (s3, .accepted [] 0 [])) s)

def execSafeWrite (rq : Req) (s : State) : Host.Outcome State Fault Refusal :=
  .next (command 0x44 rq (safeWriteBody rq) s)

/-- LOG_READ (R263). -/
def logReadBody (rq : Req) : State → State × Reply :=
  withLen (len rq 4) (fun s =>
    let first := u16 rq.payload 0
    let count := u8 rq.payload 2
    if 255 < first || !inRange count 1 127 then refuse St.range s
    else
      let es := (s.saf.log.drop first).take count
      okReply (bytesLE 1 es.length ++ bytesLE 2 s.saf.log.length ++ es.flatten) s)

def execLogRead (rq : Req) (s : State) : Host.Outcome State Fault Refusal :=
  .next (command 0x45 rq (logReadBody rq) s)

/-! ### Stop pins -/

/-- A filtered fall of one stop pin requests a stop of the mapped class (R241); with the other pin high a
discrepancy begins (R242). -/
def stopPinFall (a b : Bool) (s : State) : State :=
  let pinA := s.saf.pinA && !a
  let pinB := s.saf.pinB && !b
  let s1 := { s with
    saf.pinA := pinA
    saf.pinB := pinB
    saf.discStart := if pinA == pinB then none else (match s.saf.discStart with | some t => some t | none => some s.time) }
  let s2 := s1.bump F.SAF_PINS_STOP_CNT
  raiseSource Src.pinStop (if pinA == pinB then sourceOff Src.pinDisc s2 else s2)

/-- SAFE_STOP_PIN (R241): the named pins fall. -/
def execSafeStopPin (a b : Bool) (s : State) : Host.Outcome State Fault Refusal :=
  .next (if s.off || !(a || b) then s else stopPinFall a b s)

/-- PIN_DISC (R242): a single pin has been low for 10.0 ms. -/
def pinDisc (s0 : State) : State :=
  if s0.saf.pinA == s0.saf.pinB then s0
  else
    let s := { s0 with time := max s0.time (s0.saf.discStart.getD s0.time + msUnits 10) }
    (raiseSource Src.pinDisc s).raise 0x83 (q4 (if s.saf.pinA then 1 else 0))

def execPinDisc (s : State) : Host.Outcome State Fault Refusal :=
  .next (if s.off then s else pinDisc s)

/-- STOP_PIN_RELEASE (R242, R243): the named pins return high; PIN_STOP is active while either pin is low,
PIN_DISC while exactly one is. -/
def stopPinRelease (a b : Bool) (s : State) : State :=
  let pinA := s.saf.pinA || a
  let pinB := s.saf.pinB || b
  let s1 := { s with
    saf.pinA := pinA
    saf.pinB := pinB
    saf.discStart := if pinA == pinB then none else (match s.saf.discStart with | some t => some t | none => some s.time) }
  let s2 := if pinA && pinB then sourceOff Src.pinStop s1 else s1
  if pinA == pinB then sourceOff Src.pinDisc s2 else s2

def execStopPinRelease (a b : Bool) (s : State) : Host.Outcome State Fault Refusal :=
  .next (stopPinRelease a b s)

/-! ### Fades -/

/-- F(t) of the fade in progress, as a numerator over a denominator (R235, R236, R240); 1 with no fade. -/
def fadeF (s : State) (now : Nat) : Nat × Nat :=
  match s.saf.fade with
  | none => (1, 1)
  | some f =>
    match f.kind with
    | .class2 =>
      let i := if f.fbShown then f.iSafe else f.iStart
      if i = 0 then (1, 1) else (min (f.env now) i, i)
    | _ => (f.left now, max 1 f.dur)

/-- A fraction as u1.15, rounded (R19). -/
def toU15 (q : Nat × Nat) : Nat := roundDiv (q.1 * 0x8000) (max 1 q.2)

/-- CURRENT_REF_UPDATE (R23, R24): every 100 µs of a fade the current-reference scale becomes
G_c × F(t) / F_img, at most 1.0. DESIGN CHOICE (notes/assumptions/67.md): the quotient is cut to u1.15, rounded down; R24 and R109
give no rounding. -/
def currentRefUpdate (s : State) : State :=
  match s.saf.fade with
  | none => s
  | some _ =>
    let fq := fadeF s s.time
    let fimg := s.drv.shown.f
    let gc := s.f F.DRV_GOV_STAT_GC
    let v := if fimg = 0 then 0 else min 0x8000 (gc * fq.1 * 0x8000 / (fq.2 * fimg))
    s.setF F.DRV_SCALE_SCALE (min v gc)

def execCurrentRefUpdate (s : State) : Host.Outcome State Fault Refusal := .next (currentRefUpdate s)

/-- The limit of an envelope check: E × (1 + TOL) + OFS (R237). -/
def envLimit (s : State) (e : Nat) : Nat × Nat :=
  (e * (100 + s.f F.SAF_ENV_TOL) + 100 * s.f F.SAF_ENV_OFS, 100)

/-- ENVELOPE_CHECK (R237): every 1 ms of a fade, and in SAFE_HOLD against the budget. `imeas` is the average of
the last 100 µs in mA. A breach leads to the class-0 removal with source ENVELOPE. -/
def envelopeCheck (imeas : Nat) (s0 : State) : State :=
  let s := s0.setF F.DRV_IMEAS_IMEAS (min 65535 imeas)
  let e := match s.saf.fade with
    | some f => f.env s.time
    | none => s.budgetMa
  let lim := envLimit s e
  if s.saf.fade.isSome then
    let s1 := s.setF F.SAF_ENV_STAT_ENV (min 65535 e)
    if lim.1 < imeas * lim.2 then raiseOnce Src.envelope s1 else s1
  else if s.lamp = Lamp.safeHold then
    if lim.1 < imeas * lim.2 then raiseOnce Src.envelope s else s
  else s

def execEnvelopeCheck (imeas : Nat) (s : State) : Host.Outcome State Fault Refusal :=
  .next (envelopeCheck imeas s)

/-- The instant a fade ends (its own TIME, not before now). -/
def atFadeEnd (f : Fade) (s : State) : State := { s with time := max s.time f.stop }

/-- CLASS1_FADE_END (R235, R233): the class-0 removal, latched. -/
def class1FadeEnd (s : State) : State :=
  match s.saf.fade with
  | some f => if f.kind = .class1 then removeLight (atFadeEnd f s) else s
  | none => s

def execClass1FadeEnd (s : State) : Host.Outcome State Fault Refusal := .next (class1FadeEnd s)

/-- CLASS2_FADE_END (R236): F is 1.0 and the lamp state becomes SAFE_HOLD. -/
def class2FadeEnd (s : State) : State :=
  match s.saf.fade with
  | some f =>
    if f.kind = .class2 then
      let s1 := { atFadeEnd f s with saf.fade := none }
      setLamp Lamp.safeHold (s1.setF F.DRV_SCALE_SCALE (s1.f F.DRV_GOV_STAT_GC))
    else s
  | none => s

def execClass2FadeEnd (s : State) : Host.Outcome State Fault Refusal := .next (class2FadeEnd s)

/-- SWITCH_OFF_END (R240): VLED_EN goes low and the lamp state becomes DARK; nothing latches. -/
def switchOffEnd (s : State) : State :=
  match s.saf.fade with
  | some f =>
    if f.kind = .switchOff then
      setLamp Lamp.dark { vledOff (atFadeEnd f s) with
        saf.fade := none
        saf.switches := false
        saf.fbRelease := !s.saf.fbUntilFlip
        saf.fbSelect := false }
    else s
  | none => s

def execSwitchOffEnd (s : State) : Host.Outcome State Fault Refusal := .next (switchOffEnd s)

/-- MASTER_LOSS (R248, R350): ELAPSED reaches MLOSS; once until a valid master packet comes. -/
def masterLoss (s0 : State) : State :=
  let s := { s0 with time := max s0.time (s0.cmd.masterTime + 1000000 * s0.f F.SAF_LIMITS_MLOSS) }
  if s0.fb F.CMD_STATUS_MLOSS_RUN || s0.off then s0
  else
    let s1 := s.setB F.CMD_STATUS_MLOSS_RUN true
    raiseSource Src.mloss (s1.raise 0x22 (q4 s1.elapsedMs ++ q4 s1.cmd.masterStream))

def execMasterLoss (s : State) : Host.Outcome State Fault Refusal := .next (masterLoss s)

/-! ### VLED monitors (R232, R408, R409) -/

/-- UV + 50 mV, in mV. -/
def uvArmMv (s : State) : Nat := 10 * s.f F.PWR_VLED_CFG_UV + 50

/-- VLED_UV_ARM (R408): VLED_SENSE first exceeds UV + 50 mV after VLED_EN rises. -/
def vledUvArm (mv : Nat) (s0 : State) : State :=
  let s := { s0 with pwr.vledMv := mv }
  if s.fb F.SAF_STATE_VLED_EN && !s.pwr.uvArmed && decide (uvArmMv s < mv) then { s with pwr.uvArmed := true } else s

def execVledUvArm (mv : Nat) (s : State) : Host.Outcome State Fault Refusal := .next (vledUvArm mv s)

/-- VLED_NO_RISE (R232): 50 ms after VLED_EN rose from DARK the warning has not armed. -/
def vledNoRise (s : State) : State :=
  if s.fb F.SAF_STATE_VLED_EN && s.saf.awaitArm && !s.pwr.uvArmed && !s.pwr.noRise then
    { s with time := max s.time (s.pwr.vledOn + msUnits 50), pwr.noRise := true }.raise 0x85 (q4 s.pwr.vledMv)
  else s

def execVledNoRise (s : State) : Host.Outcome State Fault Refusal := .next (vledNoRise s)

/-- VLED_UV (R408): armed, and VLED_SENSE below UV; once per episode. Pixel tests stop (R213). -/
def vledUv (mv : Nat) (s0 : State) : State :=
  let s := { s0 with pwr.vledMv := mv }
  if s.pwr.uvArmed && !s.pwr.uvActive && decide (mv < 10 * s.f F.PWR_VLED_CFG_UV) then
    pauseTests 3 (((({ s with pwr.uvActive := true } : State).bump F.PWR_VLED_STAT_UV_CNT).setB F.PWR_FLAGS_VLED_UV true).raise
      0xC3 (q4 mv))
  else s

def execVledUv (mv : Nat) (s : State) : Host.Outcome State Fault Refusal := .next (vledUv mv s)

/-- VLED_UV_RELEASE (R408): back at UV + 50 mV. -/
def vledUvRelease (mv : Nat) (s0 : State) : State :=
  let s := { s0 with pwr.vledMv := mv }
  if decide (uvArmMv s ≤ mv) then { s with pwr.uvActive := false } else s

def execVledUvRelease (mv : Nat) (s : State) : Host.Outcome State Fault Refusal := .next (vledUvRelease mv s)

/-- VLED_OV (R409): 4.50 V, in every state but SLEEP and device reset. -/
def vledOv (mv : Nat) (s0 : State) : State :=
  let s := { s0 with pwr.vledMv := mv }
  if s.off || s.pwr.state = .sleep || s.pwr.ovActive || mv < 4500 then s
  else
    raiseSource Src.vledOv (((({ s with pwr.ovActive := true } : State).bump F.PWR_VLED_STAT_OV_CNT).setB
      F.PWR_FLAGS_VLED_OV true).raise 0xC4 (q4 mv))

def execVledOv (mv : Nat) (s : State) : Host.Outcome State Fault Refusal := .next (vledOv mv s)

/-- VLED_OV_RELEASE (R409): below 4.40 V. -/
def vledOvRelease (mv : Nat) (s0 : State) : State :=
  let s := { s0 with pwr.vledMv := mv }
  if s.pwr.ovActive && decide (mv < 4400) then sourceOff Src.vledOv { s with pwr.ovActive := false } else s

def execVledOvRelease (mv : Nat) (s : State) : Host.Outcome State Fault Refusal := .next (vledOvRelease mv s)

end Sys2Proof.Machine
end

