-- ==== Sys2Proof/Machine/Drive.lean ====
section
/-! DEFINITION. Stages 4 to 11 of a row in DRV (R18, R21, R82 to R95, R108, R210, R212, R245), the row slots
(R27, R41), the end of an image (R22, R108, R247, R271, R372, R388), the photodiodes and the flux loop (R98 to
R100), the reference refresh (R104, R105), the check of the fallback copy (R26, R139). -/

namespace Sys2Proof.Machine

/-! ### Stages 4 to 9 of a pixel -/

/-- A ceiling zone as placed (R245): x0, x1, y0, y1 and CEIL. -/
structure Zone where
  x0 : Int
  x1 : Int
  y0 : Int
  y1 : Int
  ceil : Nat

/-- What a pass of DRV over an image holds constant: D, G_p, c (R88, R92, R95), the zones, the COLD raise (R83), W_min
and the planned slice (R199), the fill (R212). -/
structure DrvPass where
  d : Nat
  gp : Nat
  c : Nat
  zones : List Zone
  coldMin : Nat
  wMin : Nat
  plan : Nat
  fill : Option Nat

/-- The enabled zones of the set in force, moved by the geometry where they FOLLOW it (R245); `still` while the fallback
source drives (R25). -/
def zonesOf (s : State) (still : Bool) : List Zone :=
  (List.range 16).filterMap (fun n =>
    let z (x : Fld) := s.a (x.at (0x10 * n))
    if z F.SAF_CZ0_A_EN = 0 then none
    else
      let move := !still && z F.SAF_CZ0_A_FOLLOW == 1
      let dx : Int := if move then (signedOf 16 (s.a F.OBJ_GEOM_BEND) + 8).fdiv 16 else 0
      let dy : Int := if move then (signedOf 16 (s.a F.OBJ_GEOM_PITCH) + 8).fdiv 16 else 0
      some ⟨z F.SAF_CZ0_A_X0 + dx, z F.SAF_CZ0_A_X1 + dx, z F.SAF_CZ0_B_Y0 + dy, z F.SAF_CZ0_B_Y1 + dy, z F.SAF_CZ0_C_CEIL⟩)

/-- The pass over the image being composed. -/
def drvPass (s : State) (still : Bool) : DrvPass :=
  ⟨s.f F.DRV_DFACT_D, s.drv.comp.gp, s.drv.comp.c, zonesOf s still,
    if s.f F.THM_STATUS_BAND = 0 then s.a F.DRV_CTRL_COLD_MINW else 0, wMin s.rate, s.dia.plan,
    if s.fb F.DIA_CTRL_FILL_EN then some (s.f F.DIA_CTRL_FILL_GAIN) else none⟩

/-- Stages 5 to 7 (R19, R95): X = 4 × v7 of a value leaving stage 4, with the gain of its pixel. -/
def DrvPass.code (k : DrvPass) (g v4 : Nat) : Nat :=
  let v5 := min 65535 (roundDiv (v4 * k.d) 0x8000)
  let v6 := min 65535 (roundDiv (v5 * k.gp) 0x8000)
  min 262143 (roundDiv (4 * v6 * g * k.c) (2 ^ 37))

/-- Stage 8 (R82): RANGE, WIDTH and m of X. -/
def driveMap (x : Nat) : Nat × Nat × Nat :=
  if x < 4096 then (0, x, 1)
  else if x < 16384 then (1, x / 4, 4)
  else if x < 65536 then (2, x / 16, 16)
  else (3, x / 64, 64)

/-- The lowest ceiling of the zones over a column; none where there is none (R245). -/
def ceilAt (zs : List Zone) (x : Nat) : Option Nat :=
  zs.foldl (fun o z => if z.x0 ≤ (x : Int) ∧ (x : Int) ≤ z.x1 then some (min z.ceil (o.getD z.ceil)) else o) none

/-- Stage 9 raises a pixel with a mapped 4-neighbour (R212). `m0`, `mu`, `md` are the mapped pixels of its row and of
the rows above and below. -/
def nearMapped (m0 mu md : List Nat) (p : Nat) : Bool :=
  (decide (0 < pixX p) && m0.contains (p - 1)) || (decide (pixX p < 2047) && m0.contains (p + 1)) ||
    (decide (2048 ≤ p) && mu.contains (p - 2048)) || md.contains (p + 2048)

/-- The fill-in raise, at most to the ceiling code (R212). -/
def DrvPass.raised (k : DrvPass) (near : Bool) (x xc : Nat) : Nat :=
  match k.fill with
  | some g => if near then min 262143 (min (roundDiv (x * (256 + g)) 256) xc) else x
  | none => x

/-- What DRV makes of a pixel: its word, its share of S, and whether the ceiling monitor finds it in violation (R247). -/
structure PixelOut where
  word : Nat
  share : Nat
  viol : Bool

/-- Stages 4 to 9 of a pixel (R18). The four pixels of a gain word in error are driven dark (R36). -/
def drvPixel (s : State) (k : DrvPass) (zs : List Zone) (m0 mu md : List Nat) (p v : Nat) : PixelOut :=
  if m0.contains p then ⟨0x8000, 0, false⟩
  else
    let ceil := ceilAt zs (pixX p)
    let v4 := match ceil with
      | some c => min v c
      | none => v
    if v4 = 0 || s.drv.dark.contains (p / 4 * 4) then ⟨0, 0, false⟩
    else
      let g := s.gain p
      let xc := match ceil with
        | some c => k.code g c
        | none => 262143
      let (r, w, m) := driveMap (k.raised (nearMapped m0 mu md p) (k.code g v4) xc)
      let w := if r = 0 && decide (0 < w) then max w k.coldMin else w
      let mark := inSlice k.plan p && decide (k.wMin ≤ w)
      ⟨b2n mark * 0x4000 + r * 0x1000 + w, w * m, decide (max xc 15 < w * m)⟩

/-- The bytes of a row's words, low byte first (R108). -/
def wordBytes (ws : List Nat) : List Byte := ws.flatMap (bytesLE 2)

/-- Stages 4 to 11 of a row: the words go to the back words; S, the signature and the row CRC go on. -/
def drvRow (k : DrvPass) (y : Nat) (v : Array Nat) (s : State) : State :=
  let zs := k.zones.filter (fun z => decide (z.y0 ≤ (y : Int)) && decide ((y : Int) ≤ z.y1))
  let near := s.dia.mapComp.filter (fun p => decide (pixY p ≤ y + 1) && decide (y ≤ pixY p + 1))
  let m0 := near.filter (fun p => pixY p == y)
  let mu := near.filter (fun p => decide (pixY p < y))
  let md := near.filter (fun p => decide (y < pixY p))
  let out := (List.range 2048).map (fun x => drvPixel s k zs m0 mu md (pixIdx x y) (at0 v x))
  let ws := out.map PixelOut.word
  let unmarked := ws.map (fun w => if bitOf w 15 then w else w % 0x4000)
  { s with
    drv.back := Mem.writeRun 0 s.drv.back (2048 * y) (ws.map (BitVec.ofNat 16))
    drv.begun := true
    drv.sig := crcFeed (crcAlg 0) s.drv.sig (wordBytes unmarked)
    drv.comp := { s.drv.comp with
      s := s.drv.comp.s + (out.map PixelOut.share).sum
      rowCrc := s.drv.comp.rowCrc ++ [crc32 (wordBytes ws)] }
    saf.viol := match s.saf.viol, out.findIdx? PixelOut.viol with
      | none, some x => some (x, y)
      | o, _ => o }

/-! ### The row slots -/

/-- The active half composes in this period (R25, R32, R80): clocked by the core PLL, in ACTIVE, and its image was not
discarded. -/
def halfComposes (s : State) : Bool := s.executes && s.pwr.state == .active && !s.onFrc && !s.drv.noSwap &&
  !s.bistTests

/-- The fallback pattern drives stage 4 (R25), or the start-up path of R138 does. -/
def fallbackDrives (s : State) : Bool := s.pwr.state == .active && (s.fbDrives || (s.onFrc && s.sys.startUp))

/-- A row of the fallback copy through the tone map (R25, R137). -/
def fallbackRow (s : State) (y : Nat) : Array Nat :=
  let pts := s.tonePts
  ((List.range 2048).map (fun x => toneMap pts (fbSource s x y))).toArray

/-- What the capacity of R177 did in a row: rows and shadow slots filled. -/
def noteFill (r : RowObjs) (s : State) : State :=
  if r.tooMany then
    { s with obj.fillRows := s.obj.fillRows + 1, obj.filled := setInsertAll (r.fill.map ObjPlaced.slot) s.obj.filled }
  else s

/-- The CRC-32C of the 2,048 values of a row leaving stage 3 (R271). -/
def rowInCrc (v : Array Nat) : Nat := crc32c ((v.toList.take 2048 ++ List.replicate (2048 - v.size) 0).flatMap (bytesLE 2))

/-- The active half's row: the values leaving stage 3, with their CRC-32C in the row-CRC table (R271). The half's line-buffer
pool holds the lines it read (R265). -/
def composeHalf (y : Nat) (s : State) : Array Nat × State :=
  let (v, r) := halfRow s y
  (v, noteFill r (setHalf s.activeHalf { s.half s.activeHalf with pool := linePool s y } { s with drv.comp := { s.drv.comp with
    rowIn := s.drv.comp.rowIn ++ [rowInCrc v] } }))

/-- COMPOSE_ROW (R18, R27): the next row slot of the period. A row is written only behind all rows before it. -/
def composeRow (s0 : State) : State :=
  let y := s0.drv.rows
  if !s0.tck.running || 511 < y then s0
  else
    let s := { s0 with drv.rows := y + 1, tck.row := max s0.tck.row y }
    let half := halfComposes s && s.drv.comp.rowIn.length == y
    let (v, s1) := if half then composeHalf y s else (#[], s)
    if s.drv.noSwap || s.bistTests || !(s.drv.comp.rowCrc.length == y) then s1
    else if fallbackDrives s then drvRow (drvPass s true) y (fallbackRow s y) s1
    else if half then drvRow (drvPass s false) y v s1
    else s1

def execComposeRow (s : State) : Host.Outcome State Fault Refusal := .next (composeRow s)

/-! ### The end of an image -/

/-- I_pred of S in mA, rounded up (R91): 40 µA × S / 262,144. -/
def ipredMa (s : Nat) : Nat := min 65535 ((s + 6553599) / 6553600)

/-- I_pred × G_c in mA (R109); G_c is u1.15. DESIGN CHOICE (notes/assumptions/67.md): R109 gives no rounding, and the reading is
rounded up, as R91 rounds that of LAST. -/
def ipredShown (s gc : Nat) : Nat := min 65535 ((s * gc + 6553600 * 0x8000 - 1) / (6553600 * 0x8000))

/-- The DRV side of the end of an image (R22, R91, R108, R247). -/
def writeDone (clampFault : Option Nat) (s : State) : State :=
  if !(s.drv.comp.rowCrc.length == 512) then s
  else
    let s1 := ((s.setF F.DRV_IPRED_LAST (ipredMa s.drv.comp.s)).setReg 0x6048
      (BitVec.ofNat 32 (s.drv.sig ^^^ 0xFFFFFFFF))).setReg 0x604C (BitVec.ofNat 32 (tickNumber s))
    { s1.setB F.DRV_STATUS_SIG_SHOWN false with
      drv.written := true
      saf.viol := match s.saf.viol, clampFault with
        | none, some p => some (pixX p, pixY p)
        | o, _ => o }

/-- The CRC-32 of what a video layer read for the image (R372). -/
def vInCrc (s : State) (n : Nat) : Nat :=
  let l := s.vLayer n
  match s.buf? (l.a n F.LYR_V0_BUF_DESC) with
  | some b =>
    if l.showing then crc32 ((List.range b.h).flatMap (fun r => s.storeBytes (b.addr + r * b.stride) (lineBytes b.fmt b.w)))
    else 0
  | none => 0

/-- The CRC-32 of what BASE read (R372). -/
def baseInCrc (s : State) : Nat :=
  match s.buf? (60 + s.baseSlot) with
  | some b => if 3 < s.baseSlot then 0 else crc32 (s.storeBytes b.addr 2097152)
  | none => 0

/-- The input CRCs (R372). With a test source in place of stage 1 no layer reads (R139). -/
def inputCrcs (s : State) : State :=
  let v (c : Nat) : Word := BitVec.ofNat 32 (if s.a F.LYR_TEST_MODE = 0 then c else 0)
  ((s.setReg 0x4024 (v (baseInCrc s))).setReg 0x4138 (v (vInCrc s 0))).setReg 0x41B8 (v (vInCrc s 1))

/-- LYR_Gn_ANIM of the image and the entries whose symbol is missing (R130, R132). DESIGN CHOICE (notes/assumptions/58.md): F reads
0 once a CLEAR table is over, and goes on with the counter while the layer is disabled; R149 says neither. -/
def animOne (s : State) (g : Nat) : State :=
  let l := s.gLayer g
  let due := if gEnabled s g then animDue l.table l.n else []
  let miss := due.filter (fun e => (symSeen s (nth 0 e.2 0)).isNone)
  let f := match l.table with
    | [] => 0
    | t => (animFrame t l.n).getD 0
  let at_ (x : Fld) := x.at (0x10 * g)
  let s1 := ((s.setF (at_ F.LYR_G0_ANIM_F) f).setF (at_ F.LYR_G0_ANIM_DRAWN) (due.length - miss.length)).setF
    (at_ F.LYR_G0_ANIM_MISSING) miss.length
  let new := miss.filter (fun e => !l.missed.contains e.1)
  let s2 := { s1 with lyr.g := vset s1.lyr.g g { l with missed := setInsertAll (new.map Prod.fst) l.missed } }
  new.foldl (fun t e => (t.setB F.LYR_STATUS_SYMBOL_MISSING true).raise 0x44 (q4 (2 + g) ++ q4 e.1 ++ q4 (nth 0 e.2 0))) s2

/-- OBJ_OVL and OBJ_OVERLOAD of the image (R177, R184, R192). -/
def overloadDone (s : State) : State :=
  let n := s.obj.fillRows
  let s1 := { s.setF F.OBJ_OVL_OVL_ROWS n with obj.lastFilled := s.obj.filled, obj.last := s.obj.cur, obj.lastReset := false }
  if n = 0 then s1
  else ((s1.bump F.OBJ_OVL_OVL_IMAGES).setB F.OBJ_STATUS_OVERLOAD true).raise 0x52 (q4 n)

/-- What an image is composed from as it stands (R271). -/
def composeInputs (s : State) : ComposeInputs :=
  ⟨s.tck.act, s.lyr.v, s.lyr.g, s.lyr.symSample, s.lyr.tone, s.baseSlot, s.obj.cur⟩

/-- The half's side of the end of an image: the row-CRC table and the inputs kept for Grazing (R271), UNCHANGED (R388), what
the layers read (R372). -/
def composeDone (s : State) : State :=
  if !(s.drv.comp.rowIn.length == 512) then s
  else
    let same := s.drv.comp.rowIn == s.drv.prevIn && !s.tck.itemsApplied
    let s1 := { s with drv.prevIn := s.drv.comp.rowIn
                       obj.lastIn := composeInputs s
                       pwr.unchanged := if same then min 65535 (s.pwr.unchanged + 1) else 0 }
    (List.range 4).foldl animOne (inputCrcs (overloadDone s1))

/-- IMAGE_WRITE_DONE (R22): the last row has been written. `clampFault` is a pixel at which the ceiling monitor found
the clamp at fault. -/
def imageWriteDone (clampFault : Option Nat) (s : State) : State :=
  if !s.tck.running || !(s.drv.rows == 512) || !decide (s.tck.row < 512) then s
  else composeDone (writeDone clampFault { s with tck.row := 512 })

def execImageWriteDone (clampFault : Option Nat) (s : State) : Host.Outcome State Fault Refusal :=
  .next (imageWriteDone clampFault s)

/-- The current of the fallback image at D = 1 and G = 1, in mA (R258): a pass of stages 4 to 9 that writes nothing. -/
def fallbackIpred (s : State) : Nat :=
  if !s.fb F.SAF_FB_VALID then 0
  else
    let k : DrvPass := { drvPass s true with d := 0x8000, gp := 0x8000 }
    let t := (List.range 512).foldl (fun t y => drvRow k y (fallbackRow s y) t)
      { s with drv.comp := { s.drv.comp with s := 0 }, dia.mapComp := s.dia.map }
    ipredMa t.drv.comp.s

/-- The start image (R435): one pass over the fallback copy into the back words. -/
def startImage (s : State) : State :=
  let s1 := { s with drv.comp := { s.drv.comp with s := 0, rowCrc := [], rowIn := [] }, drv.sig := 0xFFFFFFFF, saf.viol := none,
                      dia.mapComp := s.dia.map }
  let s2 := (List.range 512).foldl (fun t y => drvRow (drvPass s1 true) y (fallbackRow s1 y) t) s1
  writeDone none s2

/-! ### Photodiodes and the flux loop (R98 to R100) -/

/-- The median of some rationals: of an even number the mean of the middle two. -/
def medianR (l : List Rat) : Rat :=
  let v := l.mergeSort (fun a b => decide (a ≤ b))
  let n := v.length
  if n % 2 = 1 then nth 0 v (n / 2) else (nth 0 v (n / 2 - 1) + nth 0 v (n / 2)) / 2

/-- A rational in steps of 1 / `d`, rounded to the nearest, within 32 bits. -/
def ratSteps (d : Nat) (r : Rat) : Nat := min 0xFFFFFFFF ((r * d + 1 / 2).floor.toNat)

/-- q_n of each photodiode that has a factory reading (R99). -/
def pdQ (s : State) (n : Nat) : Option Rat :=
  let ref := s.f (F.DRV_PD0_REF.at (4 * n))
  if ref = 0 then none else some ((s.f (F.DRV_PD0_READ.at (4 * n)) : Rat) / (ref : Rat))

/-- Is a reading within 0.50 to 1.50 (R99)? -/
def pdInRange (q : Option Rat) : Bool :=
  match q with
  | some r => decide (1 / 2 ≤ r) && decide (r ≤ 3 / 2)
  | none => false

/-- The photodiodes that are valid (R99). -/
def pdValid (s : State) : List Nat :=
  let ok := (List.range 4).filter (fun n => pdInRange (pdQ s n))
  if ok.length < 3 then ok
  else
    let m := medianR (ok.filterMap (pdQ s))
    ok.filter (fun n => match pdQ s n with
      | some q => decide (absR (q - m) * 10 ≤ m)
      | none => false)

/-- The flux loop of one period (R100). -/
def fluxLoop (qs : List Rat) (s : State) : State :=
  let mean := qs.sum / (qs.length : Rat)
  let t := if mean = 0 then 0 else 1 / mean
  let b := maxR (17 / 20) (minR (23 / 20) t)
  let c := (s.f F.DRV_FLUX_CORR : Rat) / 8388608
  let c1 := c + (b - c) / (10 * (rateHz s.rate : Rat))
  let s1 := s.setF F.DRV_FLUX_CORR (ratSteps 8388608 c1)
  let low := !(b == t)
  if !low then { s1 with drv.fluxLow := false }
  else
    let s2 := { (s1.setB F.DRV_FLUX_LIMIT true).setB F.DRV_STATUS_FLUX_LIMIT true with drv.fluxLow := true }
    if s.drv.fluxLow then s2 else s2.raise 0x63 (q4 (ratSteps 8388608 t) ++ q4 (s2.f F.DRV_FLUX_CORR))

/-- PHOTODIODE_READ (R98 to R100): for each photodiode the ADC codes with its cluster off and during the test pulse. DESIGN CHOICE
(notes/assumptions/67.md): of several photodiodes rejected in a period PD_REJECT names the lowest. -/
def photodiodeRead (readings : List (Nat × Nat)) (s0 : State) : State :=
  if !s0.tck.running then s0
  else
    let s := (List.range 4).foldl (fun t n =>
      t.setF (F.DRV_PD0_READ.at (4 * n)) (min 4095 ((nth (0, 0) readings n).2 - (nth (0, 0) readings n).1))) s0
    let ok := pdValid s
    let s1 := s.setF F.DRV_FLUX_PD_VALID (ok.map (fun n => 2 ^ n)).sum
    let s2 := match (List.range 4).filter (fun n => !ok.contains n) with
      | [] => s1
      | n :: _ => (s1.setB F.DRV_STATUS_PD_REJECT true).raise 0x64 (q4 n ++ q4 (ratSteps 32768 ((pdQ s n).getD 0)))
    if s2.fb F.DRV_FLUX_CTRL_EN && decide (2 ≤ ok.length) then fluxLoop (ok.filterMap (pdQ s)) s2 else s2

def execPhotodiodeRead (readings : List (Nat × Nat)) (s : State) : Host.Outcome State Fault Refusal :=
  .next (photodiodeRead readings s)

/-- The drive of a pixel word in units of X: WIDTH × m (R77, R82); an isolated pixel has none. -/
def wordDrive (w : Nat) : Nat := if pwIsolate w then 0 else pwWidth w * 4 ^ pwRange w

/-- What a reference cluster is driven at in the frame in progress (R98): the mean drive of its quadrant of the image on show.
DESIGN CHOICE (notes/assumptions/67.md): R98 numbers no corner, and cluster 0 is taken as the upper left one, 1 the upper right, 2 and
3 those below; while the tick is stopped or the switches are open a cluster is not driven. -/
def State.clusterDrive (s : State) (n : Nat) : Rat :=
  if !s.tck.running || !s.saf.switches then 0
  else
    let ps := (List.range 256).flatMap (fun y => (List.range 1024).map (fun x => pixIdx (1024 * (n % 2) + x) (256 * (n / 2) + y)))
    ((ps.map (fun p => wordDrive (s.frontWord p))).sum : Rat) / 262144

/-! ### The reference refresh (R104, R105) -/

/-- The refresh interval of a band (R104). -/
def refreshFrames : Nat → Nat
  | 0 => 16
  | 1 => 16
  | 2 => 8
  | 3 => 4
  | _ => 1

/-- REFERENCE_REFRESH (R104, R105): when due, the idle cells are charged; they exchange at the tick. The interval of a
new band holds from this refresh on. -/
def referenceRefresh (s : State) : State :=
  if !s.tck.running || s.drv.sinceRefresh < s.f F.DRV_REFRESH_INTERVAL then s
  else
    ({ s with drv.cells := true, drv.sinceRefresh := 0 }.setF F.DRV_REFRESH_LAST_FRAME s.tck.frame).setF
      F.DRV_REFRESH_INTERVAL (refreshFrames s.band)

def execReferenceRefresh (s : State) : Host.Outcome State Fault Refusal := .next (referenceRefresh s)

/-! ### The fallback copy (R26) -/

/-- The copy is loaded from eNVM (R26, R434): valid when its marker and CRC are. -/
def loadFallback (s : State) : State :=
  let s1 := { s with drv.fb := s.nvm.fb }.setB F.SAF_FB_VALID s.nvm.fbValid
  s1.setF F.SAF_FB_IPRED (fallbackIpred s1)

/-- The identity tone map is restored (R139); `found` is the CRC that was found. -/
def toneReset (s0 : State) : State :=
  let (found, s) := s0.draw 64
  (({ s with lyr.tone := none }.setReg 0x4020 (BitVec.ofNat 32 (toneCrc toneIdentity))).setB F.LYR_STATUS_TONE_RESET
    true).raise 0x45 (q4 found)

/-- The copies of the fallback copy into pattern slots meet its failure: each ends with BAD_CRC, its slot FREE (R36, R135). -/
def copiesFail (s : State) : State :=
  s.lyr.copies.foldl (fun t slot => finishKey 0x28 slot St.badCrc [] (match t.buf? (60 + slot) with
    | some b => setBuf (60 + slot) { b with st := 0 } t
    | none => t)) { s with lyr.copies := [] }

/-- FALLBACK_CRC_CHECK (R26, R139): whether the copy and the tone map passed. A copy that failed is reloaded; SAF_FB is
refreshed. -/
def fallbackCrcCheck (fbOk toneOk : Bool) (s : State) : State :=
  if !s.tck.running then s
  else
    let s1 := if fbOk then s.setF F.SAF_FB_IPRED (fallbackIpred s) else loadFallback (copiesFail s)
    if toneOk then s1 else toneReset s1

def execFallbackCrcCheck (fbOk toneOk : Bool) (s : State) : Host.Outcome State Fault Refusal :=
  .next (fallbackCrcCheck fbOk toneOk s)

end Sys2Proof.Machine
end

