-- ==== Sys2Proof/Machine/Nvm.lean ====
section
/-! DEFINITION. The eNVM (R439 to R448, R460 to R466): what its bytes read as, the commands that read and write
it, and the end of an operation (R441 to R443) with what hangs on it. -/

namespace Sys2Proof.Machine

/-! ### What the bytes read as (R439, R440) -/

/-- A byte of a number. -/
def byteOf (v i : Nat) : Byte := BitVec.ofNat 8 (v / 256 ^ i)

/-- A byte of the calibration region by its offset (R440). The rest of it has no stated contents: free values
(notes/assumptions/5.md). -/
def calByte (s : State) (o : Nat) : Byte :=
  let g (p : Nat) : Nat := (Config.gainFact p).toNat
  if o < 0x180000 then byteOf (g (2 * (o / 3)) + 4096 * g (2 * (o / 3) + 1)) (o % 3)
  else if o < 0x182000 then
    byteOf ((Config.tileBin (o % 4096 / 4)).toNat + 65536 * (Config.nFact (o % 4096 / 4)).toNat) (o % 4)
  else if o < 0x184000 then
    let new := s.nvm.factorCopy == (o - 0x182000) / 4096
    let fopt := if new then s.nvm.fopt else s.nvm.foptOld
    let fel := if new then s.nvm.fel else s.nvm.felOld
    byteOf ((Mem.read 0x8000 fopt (o % 4096 / 4)).toNat + 65536 * (Mem.read 0x8000 fel (o % 4096 / 4)).toNat) (o % 4)
  else if o < 0x186000 && decide (o % 4096 < 8) then byteOf (Config.pdRef (o % 4096 / 2)).toNat (o % 2)
  else BitVec.ofNat 8 (Config.freeValue 61 o).toNat

/-- A byte of a self-test record (R451). -/
def bistByte (r : BistRec) (i : Nat) : Byte :=
  if i < 16 then
    nth 0 (bytesLE 1 r.type ++ bytesLE 1 r.step ++ bytesLE 1 r.stepsEnd ++ bytesLE 1 r.origin ++ bytesLE 4 r.minutes ++
      bytesLE 2 r.faults.length ++ bytesLE 2 r.spares ++ bytesLE 4 r.bankBad) i
  else if i < 64 then 0
  else if i < 1088 then
    match r.repair.find? (fun e => e.1 == (i - 64) / 32 && e.2.1 == (i - 64) % 32 / 4) with
    | some e => byteOf (e.2.2 + 0x8000) (i % 4)
    | none => 0
  else nth 0 (nth [] r.faults ((i - 1088) / 8)) ((i - 1088) % 8)

/-- The 32 bytes of a lifetime-counter record (R444). -/
def lifeBytes (r : LifeRec) : List Byte :=
  let b := bytesLE 4 r.seq ++ bytesLE 4 r.minutes ++ bytesLE 4 r.c ++ bytesLE 4 r.boots ++ bytesLE 4 r.shutdowns ++ zeros 8
  b ++ bytesLE 4 (crc32c b)

/-- A byte of a torn page or unit: what it holds is not stated (notes/assumptions/5.md). `d` is the draw of the tear. -/
def tornByte (d i : Nat) : Byte := BitVec.ofNat 8 (Config.freeValue 63 (0x100000 * d + i)).toNat

/-- Is it a byte of the password in a page of the safety record? Eight stand somewhere in it. -/
def passwordByte (o : Nat) : Bool := inRange o (Config.passwordAt.toNat % 4089) (Config.passwordAt.toNat % 4089 + 7)

/-- A byte of a copy of the safety record: the layout is not given, so its bytes are free values, fixed by its SEQ; those of
the password read 0x00 (R461). -/
def safeByte (c : SafeCopy) (o : Nat) : Byte :=
  if passwordByte o then 0
  else BitVec.ofNat 8 (Config.freeValue 62 (4096 * c.data.seq + o)).toNat

/-- A byte of the eNVM by its address (R439), its page whole. The image a slot was delivered with and the layout of the
safety record are not given: free values (notes/assumptions/5.md). -/
def goodByte (s : State) (a : Nat) : Byte :=
  match nvmRegion a with
  | 0 | 1 =>
    if s.nvm.fwPages.contains (a / 4096) then Mem.read 0xFF s.nvm.bytes a else BitVec.ofNat 8 (Config.freeValue 60 a).toNat
  | 2 => calByte s (a - 0x100000)
  | 3 => Mem.read 0 s.nvm.fb (a - 0x300000)
  | 4 => mapByte (if a < 0x520000 then s.nvm.mapA.pixels else s.nvm.mapB.pixels) (a % 0x20000)
  | 5 =>
    let r := if a < 0x544000 then s.nvm.bistA else s.nvm.bistB
    bistByte ((kvGet s.nvm.bistPages ((a - 0x540000) / 4096)).getD r) (a % 0x4000)
  | 6 => safeByte (if a < 0x549000 then s.saf.copyA else s.saf.copyB) (a % 4096)
  | 7 => nth 0xFF (nth [] s.saf.log ((a - 0x54A000) / 32)) (a % 32)
  | 8 =>
    match (if s.nvm.lifeOk then s.nvm.life :: s.nvm.lifeRing else []).find? (fun r => r.seq % 2048 == (a - 0x54C000) / 32) with
    | some r => nth 0 (lifeBytes r) (a % 32)
    | none => 0xFF
  | 9 => Mem.read 0xFF s.nvm.bytes a
  | _ => 0xFF

/-- A byte of the eNVM: of a torn page whose data the state does not list, a free value, the password still reading 0x00 (R461). -/
def nvmByte (s : State) (a : Nat) : Byte :=
  match kvGet s.nvm.badPages (a / 4096) with
  | some d =>
    if [0, 1, 3, 9].contains (nvmRegion a) then goodByte s a
    else if nvmRegion a = 6 && passwordByte (a % 4096) then 0
    else tornByte d (a % 4096)
  | none => goodByte s a

/-- The bytes of `n` pages from a page on. -/
def pageBytes (s : State) (pg n : Nat) : List Byte := (natsFrom (4096 * pg) (4096 * n)).map (nvmByte s)

/-! ### DIAG_MAP_READ (R224) -/

/-- The data of a copy of the failed-pixel map: with a page of it torn or failed, what the eNVM reads as (R224, R442). -/
def copyRun (s : State) (copy o n : Nat) : List Byte :=
  if s.nvm.badPages.any (fun e => inRange e.1 (0x500 + 0x20 * copy) (0x51F + 0x20 * copy)) then
    (natsFrom (0x500000 + 0x20000 * copy + o) n).map (nvmByte s)
  else mapRun (if copy = 0 then s.nvm.mapA.pixels else s.nvm.mapB.pixels) o n

/-- DIAG_MAP_READ (R224). -/
def diagMapReadBody (rq : Req) : State → State × Reply :=
  withLen (len rq 12) (fun s =>
    let pl := rq.payload
    let src := bitsOf (u8 pl 0) 1 0
    let o := u32 pl 4
    let n := u16 pl 8
    let top := if src = 3 then 65536 else 131072
    if !(o % 4 == 0) || !(n % 4 == 0) then refuse St.badParam s
    else if !inRange n 4 4064 || top < o + n then refuse St.range s
    else if (match s.dia.save with | some sv => src == sv.copy + 1 | none => false) then refuse St.busy s
    else
      let c := if src = 1 then s.nvm.mapA else s.nvm.mapB
      let last := seqNewest s.nvm.mapA.valid s.nvm.mapB.valid s.nvm.mapA.seq s.nvm.mapB.seq
      let valid := if src = 1 || src = 2 then c.valid else true
      let data := match src with
        | 0 => mapRun s.dia.map o n
        | 3 => faultRun s.dia.faults o n
        | k => copyRun s (k - 1) o n
      okReply (bytesLE 1 (b2n valid) ++ zeros 2 ++ bytesLE 4 (if src = 1 || src = 2 then c.seq else last) ++ bytesLE 4 o ++ data) s)

def execDiagMapRead (rq : Req) (s : State) : Host.Outcome State Fault Refusal :=
  .next (command 0x30 rq (diagMapReadBody rq) s)

/-! ### The spare areas (R441) -/

/-- SEQ, PAGES and RCRC of a marker page: the last page of a copy. DESIGN CHOICE (notes/assumptions/62.md): the SEQ of the
copies that are never written again, 1 and 0. -/
def markerOf (s : State) (pg : Nat) : Option (Nat × Nat × Nat) :=
  let one (seq : Nat) : Option (Nat × Nat × Nat) := some (seq, 1, crc32c (pageBytes s pg 1))
  let map (c : MapCopy) : Option (Nat × Nat × Nat) := some (c.seq, 32, crc32c ((List.range 0x20000).map (mapByte c.marked)))
  let bist (c : Nat) (r : BistRec) : Option (Nat × Nat × Nat) :=
    let m := (kvGet s.nvm.bistPages (4 * c + 3)).getD r
    some (m.seq, 4, crc32c ((List.range 0x4000).map (bistByte m)))
  let factor (c : Nat) : Option (Nat × Nat × Nat) :=
    one (if c = s.nvm.factorCopy then s.nvm.factorSeq else s.nvm.factorOldSeq)
  match pg with
  | 0x280 => one 1
  | 0x281 => one 0
  | 0x282 => factor 0
  | 0x283 => factor 1
  | 0x284 => one 1
  | 0x285 => one 0
  | 0x4FF => s.nvm.fbMark.map (fun m => (m.1, 512, crc32c (Mem.readRun 0 m.2 0 0x200000)))
  | 0x51F => map s.nvm.mapA
  | 0x53F => map s.nvm.mapB
  | 0x543 => bist 0 s.nvm.bistA
  | 0x547 => bist 1 s.nvm.bistB
  | 0x548 => one s.saf.copyA.data.seq
  | 0x549 => one s.saf.copyB.data.seq
  | _ => none

/-- PCRC of a page as it stands: that of its data, and of a torn page one that fails (R442). -/
def pageCrc (s : State) (pg : Nat) : Nat :=
  let c := crc32c (pageBytes s pg 1)
  match kvGet s.nvm.badPages pg with
  | some d => (c + 1 + (Config.freeValue 73 d).toNat % (2 ^ 32 - 1)) % 2 ^ 32
  | none => c

/-- SEQ of a page that is no marker page: the activation number on the first page of a firmware slot (R441, R448). -/
def plainSeq (s : State) (pg : Nat) : Nat :=
  match pg with
  | 0x000 => s.nvm.slotA.act
  | 0x080 => s.nvm.slotB.act
  | _ => 0xFFFFFFFF

/-- The 64 bytes of the spare area of a page (R441). That of a change-log page is not used. -/
def spareArea (s : State) (pg : Nat) : List Byte :=
  if nvmRegion (4096 * pg) = 7 then List.replicate 64 0xFF
  else
    let mid := match markerOf s pg with
      | some (seq, pages, rcrc) => bytesLE 4 seq ++ bytesLE 2 pages ++ [0x5A, 0xFF] ++ bytesLE 4 rcrc
      | none => bytesLE 4 (plainSeq s pg) ++ List.replicate 8 0xFF
    bytesLE 4 (pageCrc s pg) ++ mid ++ bytesLE 4 (crc32c mid) ++ List.replicate 44 0xFF

/-! ### NVM_READ, BIST_RESULT -/

/-- NVM_READ (R461). -/
def nvmReadBody (rq : Req) : State → State × Reply :=
  withLen (len rq 8) (fun s =>
    let a := u32 rq.payload 0
    let n := u16 rq.payload 4
    if !(a % 4 == 0) || !(n % 4 == 0) then refuse St.badParam s
    else if !inRange n 4 4064 || decide (0x800000 < a + n) then refuse St.range s
    else okReply (zeros 3 ++ bytesLE 4 a ++ (natsFrom a n).map (nvmByte s)) s)

/-- Does an NVM_READ touch the page being programmed (R461)? -/
def nvmReadWaits (rq : Req) (s : State) : Bool :=
  s.nvm.started && (match s.nvm.ops with
    | o :: _ => overlap (u32 rq.payload 0) (u16 rq.payload 4) (o.kind.addr s.saf.log.length) 4096
    | [] => false)

/-- NVM_READ waits for a program of its page to end (R461). -/
def execNvmRead (rq : Req) (s : State) : Host.Outcome State Fault Refusal :=
  .next (if nvmReadWaits rq s then serveQueue (accept 0 0x60 rq s) else command 0x60 rq (nvmReadBody rq) s)

/-- The bytes of a copy of the self-test record as stored (R466). -/
def bistStored (s : State) (c o n : Nat) : List Byte := (natsFrom (0x540000 + 0x4000 * c + o) n).map (nvmByte s)

/-- COMPLETE and SEQ of a copy: of an invalid one as its first page and its marker page stand (R441, R451). -/
def bistStands (s : State) (c : Nat) (r : BistRec) : Bool × Nat :=
  if r.valid then (r.complete, r.seq)
  else (nvmByte s (0x540001 + 0x4000 * c) == nvmByte s (0x540002 + 0x4000 * c), ((kvGet s.nvm.bistPages (4 * c + 3)).getD r).seq)

/-- BIST_RESULT (R466): the bytes of the copy as stored. -/
def bistResultBody (rq : Req) : State → State × Reply :=
  withLen (len rq 8) (fun s =>
    let src := u8 rq.payload 0
    let o := u16 rq.payload 4
    let n := u16 rq.payload 6
    let c := match src with
      | 0 => (match bistNewest s with | some e => e.1 | none => 0)
      | 1 => 0
      | _ => 1
    let r := if c = 0 then s.nvm.bistA else s.nvm.bistB
    if 2 < src || !(o % 4 == 0) || !(n % 4 == 0) then refuse St.badParam s
    else if !inRange n 4 4064 || 16384 < o + n then refuse St.range s
    else okReply (bytesLE 1 (b2n r.valid) ++ bytesLE 1 (b2n (bistStands s c r).1) ++ [0] ++ bytesLE 4 (bistStands s c r).2 ++
      bytesLE 4 o ++ bistStored s c o n) s)

def execBistResult (rq : Req) (s : State) : Host.Outcome State Fault Refusal :=
  .next (command 0x69 rq (bistResultBody rq) s)

/-! ### NVM_WRITE -/

/-- Does a range lie in the user area or in the fallback region (R462)? -/
def writableRange (a n : Nat) : Bool :=
  (decide (0x300000 ≤ a) && decide (a + n ≤ 0x500000)) || (decide (0x55C000 ≤ a) && decide (a + n ≤ 0x65C000))

/-- The pieces of a run of data that fall into each page: address and bytes, by fuel. -/
def pagePieces : Nat → Nat → List Byte → List (Nat × List Byte)
  | 0, _, _ => []
  | _, _, [] => []
  | k + 1, a, bs =>
    let n := 4096 - a % 4096
    (a, bs.take n) :: pagePieces k (a + n) (bs.drop n)

/-- A command that programs waits for its last operation, or ends at once when there is none. -/
def acceptOps (ks : List NvmKind) (fin : List Byte) (s : State) : State × Reply :=
  if ks.isEmpty then (s, .both [] St.ok fin) else (nvmPush (some s.curSeq) ks s, .accepted [] 0 fin)

/-- NVM_WRITE (R462). With ERASE it is the row NVM_ERASE. -/
def nvmWriteBody (rq : Req) : State → State × Reply :=
  withLen (inRange rq.payload.length 8 4080) (fun s =>
    let a := u32 rq.payload 0
    let data := rq.payload.drop 8
    let fb := decide (a < 0x500000)
    guarded [(!rq.bcast, St.badParam), (!bitOf (u8 rq.payload 4) 0, St.badParam), (a % 4 == 0, St.badParam),
        (writableRange a (max 1 data.length), St.range)]
      (fun s =>
        if s.sdActive then (s, .final St.refusedState (zeros 7))
        else acceptOps ((pagePieces 2 a data).map (fun e => .page e.1 e.2) ++
          (if fb && bitOf (u8 rq.payload 4) 1 then [.marker] else [])) (zeros 7) s) s)

def execNvmWrite (rq : Req) (s : State) : Host.Outcome State Fault Refusal := .next (command 0x61 rq (nvmWriteBody rq) s)

/-- NVM_WRITE with ERASE (R462). -/
def nvmEraseBody (rq : Req) : State → State × Reply :=
  withLen (len rq 8) (fun s =>
    let a := u32 rq.payload 0
    guarded [(!rq.bcast, St.badParam), (bitOf (u8 rq.payload 4) 0, St.badParam), (a % 4 == 0, St.badParam),
        (writableRange a 1, St.range)]
      (fun s =>
        if s.sdActive then (s, .final St.refusedState (zeros 7))
        else acceptOps [.erase (a / 4096 * 4096)] (zeros 7) s) s)

def execNvmErase (rq : Req) (s : State) : Host.Outcome State Fault Refusal := .next (command 0x61 rq (nvmEraseBody rq) s)

/-! ### Firmware -/

/-- A slot's state. -/
def State.fwSlot (s : State) (n : Nat) : FwSlot := if n = 0 then s.nvm.slotA else s.nvm.slotB

/-- What of a slot's image stands in the local RAM of a half that boots from it: its first 256 KiB (R265, R267). DESIGN CHOICE
(notes/assumptions/64.md). -/
def ramImage (s : State) (n : Nat) : Mem 8 :=
  Mem.writeRun 0xFF [] 0 ((natsFrom (0x80000 * n) (min 0x40000 (u32 ((natsFrom (0x80000 * n) 4).map (nvmByte s)) 0))).map (nvmByte s))

/-- Change a slot. -/
def setSlot (n : Nat) (x : FwSlot) (s : State) : State :=
  if n = 0 then { s with nvm.slotA := x } else { s with nvm.slotB := x }

/-- The slot with the higher activation number (R446). -/
def highSlot (s : State) : Nat := if seqNewer s.nvm.slotB.act s.nvm.slotA.act then 1 else 0

/-- The slot that boots at the next device reset (R446). -/
def bootSlot (s : State) : Option Nat :=
  match s.nvm.slotA.valid, s.nvm.slotB.valid with
  | false, false => none
  | true, false => some 0
  | false, true => some 1
  | true, true => some (highSlot s)

/-- The idle slot (R447): neither the boot slot nor the slot of a half. -/
def slotIdle (s : State) (n : Nat) : Bool :=
  !(bootSlot s == some n) && !(s.f F.HLV_HEALTH_A_SLOT == n) && !(s.f F.HLV_HEALTH_B_SLOT == n)

/-- A half is to boot from a slot: it is no longer idle, and its staging ends (R447). -/
def endStaging (n : Nat) (s : State) : State :=
  if (s.fwSlot n).staging.isNone then s
  else setSlot n { s.fwSlot n with staging := none } { s with nvm.fwBuf := s.nvm.fwBuf.filter (fun e => !(e.1 / 0x80000 == n)) }

/-- A byte of a slot. -/
def slotBytes (s : State) (n o k : Nat) : List Byte := (natsFrom (0x80000 * n + o) k).map (nvmByte s)

/-- A slot passes the checks of R445. -/
def slotOk (s : State) (n : Nat) : Bool :=
  let h := slotBytes s n 0 64
  let l := u32 h 0
  inRange l 4096 524288 && u32 h 60 == crc32c (h.take 60) && u16 h 8 == 0x1048 && bitOf (u8 h 10) 0 &&
    u32 h 4 == crc32c (slotBytes s n 64 (l - 64))

/-- Bytes of a fill put in (R447). -/
def fwFill (a : Nat) (data : List Byte) (buf : List (Nat × Byte)) : List (Nat × Byte) :=
  ((natsFrom a data.length).zip data).foldl (fun b e => Mem.put e.1 e.2 b) buf

/-- The pages a fill has touched and not programmed. -/
def fwTouched (buf : List (Nat × Byte)) : List Nat := buf.foldl (fun l e => setInsert (e.1 / 4096) l) []

/-- Does a fill cover the whole page? -/
def fwCovered (buf : List (Nat × Byte)) (pg : Nat) : Bool := countP (fun e => e.1 / 4096 == pg) buf == 4096

/-- The bytes a page is programmed with: those of the fill, and the present ones where it has none. -/
def fwPage (s : State) (buf : List (Nat × Byte)) (pg : Nat) : List Byte :=
  (natsFrom (4096 * pg) 4096).map (fun a => (kvGet buf a).getD (nvmByte s a))

/-- Is a page of a slot still to be programmed? -/
def slotPending (s : State) (n : Nat) : Bool :=
  s.nvm.ops.any (fun o => match o.kind with
    | .fw m _ _ => m == n
    | .fwAct m _ => m == n
    | _ => false)

/-- The version of a slot is that of its header as it stands (R445, R460). -/
def readVersion (n : Nat) (s : State) : State :=
  let h := slotBytes s n 0 16
  setSlot n { s.fwSlot n with major := u8 h 12, minor := u8 h 13, build := u16 h 14 } s

/-- END with every page programmed: the fill closes and the slot is checked under R445. -/
def closeSlot (n : Nat) (st : Nat) (s : State) : State :=
  readVersion n (setSlot n { s.fwSlot n with staging := none, valid := st == St.ok && slotOk s n } s)

/-- The boot reads the version of a slot whose first page has been programmed since delivery (R460). -/
def bootVersion (s : State) (n : Nat) : State := if s.nvm.fwPages.contains (128 * n) then readVersion n s else s

/-- Bytes 1 to 7 of the final reply of FW_STAGE (R463). -/
def fwStageFin (valid : Bool) (top : Nat) : List Byte := bytesLE 1 (b2n valid) ++ zeros 2 ++ bytesLE 4 top

/-- FW_STAGE (R447, R463). -/
def fwStageBody (rq : Req) : State → State × Reply :=
  withLen (inRange rq.payload.length 8 4080) (fun s =>
    let pl := rq.payload
    let n := u8 pl 0
    let start := bitOf (u8 pl 1) 0
    let fin := bitOf (u8 pl 1) 1
    let o := u32 pl 4
    let data := pl.drop 8
    guarded [(!rq.bcast, St.badParam), (decide (n < 2), St.badParam), (o % 4 == 0, St.badParam),
        (!start || o == 0, St.badParam), (decide (o + data.length ≤ 524288), St.range), (slotIdle s n, St.refusedState),
        (start || (s.fwSlot n).staging.isSome, St.refusedState), (!s.sdActive, St.refusedState)]
      (fun s =>
        let buf := fwFill (0x80000 * n + o) data (if start then [] else s.nvm.fwBuf)
        let top := max (if start then 0 else (s.fwSlot n).staging.getD 0) (if data.isEmpty then 0 else o + data.length)
        let pages := (fwTouched buf).filter (fun pg => fin || fwCovered buf pg)
        let s1 := setSlot n { s.fwSlot n with staging := some top } { s with nvm.fwBuf := buf.filter (fun e => !pages.contains (e.1 / 4096)) }
        let ks := (if start then [NvmKind.fwAct n 0] else []) ++ pages.map (fun pg => .fw n (pg - 128 * n) (fwPage s buf pg))
        if ks.isEmpty && fin then
          (if slotPending s1 n then (s1, .accepted [] 1 [])
           else
            let s2 := closeSlot n St.ok s1
            (s2, .both [] St.ok (fwStageFin (s2.fwSlot n).valid top)))
        else acceptOps ks (fwStageFin false top) s1) s)

def execFwStage (rq : Req) (s : State) : Host.Outcome State Fault Refusal := .next (command 0x62 rq (fwStageBody rq) s)

/-- FW_ACTIVATE (R448, R464). -/
def fwActivateBody (rq : Req) : State → State × Reply :=
  withLen (len rq 4) (fun s =>
    let n := u8 rq.payload 0
    let body (act : Nat) : List Byte := bytesLE 1 n ++ zeros 2 ++ bytesLE 4 act
    guarded [(!rq.bcast, St.badParam), (decide (n < 2), St.badParam)]
      (fun s =>
        if !(s.fwSlot n).valid || s.sdActive then (s, .final St.refusedState (body (s.fwSlot n).act))
        else if bootSlot s = some n then (s, .both [] St.ok (body (s.fwSlot n).act))
        else
          let act := ((s.fwSlot (highSlot s)).act + 1) % 2 ^ 32
          acceptOps [.fwAct n act] (body act) s) s)

def execFwActivate (rq : Req) (s : State) : Host.Outcome State Fault Refusal :=
  .next (command 0x63 rq (fwActivateBody rq) s)

/-! ### The end of an operation -/

/-- NVM_REC: the newest valid record (R460). -/
def setRec (s : State) : State :=
  match bistNewest s with
  | none => s.setReg 0xE018 0
  | some (c, r) => s.setReg 0xE018 (BitVec.ofNat 32
      (b2n r.complete * 2 ^ 31 + r.type * 2 ^ 30 + c * 2 ^ 29 + r.step % 256 * 65536 + r.seq % 65536))

/-- The four pages of a record copy (R451). -/
def bistOps (c : Nat) (r : BistRec) : List NvmKind := (List.range 4).map (fun pg => .bist c pg r)

/-- A self-test's step may start, and go on (R407, R425, R450): no supply dip, and no THERM_SD. -/
def State.testPaused (s : State) : Bool := s.dipHolds || s.fb F.THM_STATUS_SD_ACT

/-- The local RAM of a half loses its firmware (R453). -/
def loseRam (h : Half) (s : State) : State := match h with
  | .a => { s with hlv.halfA := { s.hlv.halfA with ram := none, image := [] } }
  | .b => { s with hlv.halfB := { s.hlv.halfB with ram := none, image := [] } }

/-- A step is started (R450, R453): the banks it marches are LOST from here, and with it the firmware of a half. -/
def beginStep (n : Nat) (s : State) : State :=
  match s.nvm.test with
  | none => s
  | some t =>
    let banks := if t.type = 1 then (if n = 1 then 0xFFFF else if n = 2 then 0xFFFF0000 else 0)
      else if inRange n 1 8 then 0xF * 16 ^ (n - 1) else 0
    let s1 : State := { s with nvm.stepNow := n, pwr.marched := s.pwr.marched ||| banks }
    if 1 < t.origin then s1 else if n = 12 then loseRam .a s1 else if n = 13 then loseRam .b s1 else s1

/-- The NVM_LIFE counts of a record (R460). -/
def setLife (r : LifeRec) (s : State) : State :=
  (s.setF F.NVM_LIFE_SHUTDOWNS (min 65535 r.shutdowns)).setF F.NVM_LIFE_BOOTS (min 65535 r.boots)

/-- Change a copy of the self-test record. -/
def setBist (c : Nat) (r : BistRec) (s : State) : State :=
  if c = 0 then { s with nvm.bistA := r } else { s with nvm.bistB := r }

def bistCopy (s : State) (c : Nat) : BistRec := if c = 0 then s.nvm.bistA else s.nvm.bistB

/-- A copy of the map while a save is on its way into it: it is invalid until its marker page, page 31, is done (R442). -/
def mapPartly (c : Nat) (s : State) : State :=
  if c = 0 then { s with nvm.mapA := { s.nvm.mapA with valid := false } }
  else { s with nvm.mapB := { s.nvm.mapB with valid := false } }

/-- A page of a copy takes its part of the map saved. -/
def mapPage (c pg : Nat) (px : List Nat) (s : State) : State :=
  let take (old : List Nat) : List Nat :=
    old.filter (fun p => decide (p / 32768 < pg)) ++ px.filter (fun p => p / 32768 == pg) ++
      old.filter (fun p => decide (pg < p / 32768))
  let put (m : MapCopy) : MapCopy := { m with pixels := take m.pixels }
  if c = 0 then { s with nvm.mapA := put s.nvm.mapA } else { s with nvm.mapB := put s.nvm.mapB }

/-- The page passes its PCRC from here (R441); an append leaves its page's spare area as it is. -/
def pageWhole (k : NvmKind) (s : State) : State :=
  match k with
  | .append _ => s
  | _ => { s with nvm.badPages := kvErase (NvmKind.addr 0 k / 4096) s.nvm.badPages }

/-- A page fails its PCRC from here: torn, or failed twice (R442, R443). What it holds is not stated; of a page whose data the
state lists the free bytes are put in. -/
def spoilPage (a : Nat) (s0 : State) : State :=
  let pg := a / 4096 * 4096
  let d := s0.fresh
  let s : State := { s0 with fresh := d + 1, nvm.badPages := kvPut (pg / 4096) d s0.nvm.badPages }
  let bs := (List.range 4096).map (tornByte d)
  match nvmRegion pg with
  | 3 => { s with nvm.fb := Mem.writeRun 0 s.nvm.fb (pg - 0x300000) bs, nvm.fbValid := false,
                  nvm.fbMark := if pg = 0x4FF000 then none else s.nvm.fbMark }
  | 0 | 1 => { s with nvm.bytes := Mem.writeRun 0xFF s.nvm.bytes pg bs, nvm.fwPages := setInsert (pg / 4096) s.nvm.fwPages }
  | 9 => { s with nvm.bytes := Mem.writeRun 0xFF s.nvm.bytes pg bs }
  | _ => s

/-- The records left in the ring once a page of it is lost; with none left the counters are (R438, R444). -/
def lifeLost (r : LifeRec) (s : State) : State :=
  let left := (if s.nvm.lifeOk then s.nvm.life :: s.nvm.lifeRing else []).filter (fun e => !(e.seq / 128 == r.seq / 128))
  { s with nvm.life := left.headD ⟨0, 0, 0x800000, 0, 0⟩, nvm.lifeRing := left.drop 1, nvm.lifeOk := !left.isEmpty }

/-- A program that was cut, or failed twice: its page is spoilt and its copy, or its slot, is invalid (R442, R443). -/
def copyFails (k : NvmKind) (s0 : State) : State :=
  let s := match k with
    | .append _ => s0
    | _ => spoilPage (NvmKind.addr 0 k) s0
  match k with
  | .append _ => s
  | .record c _ =>
    if c = 0 then { s with saf.copyA := { s.saf.copyA with valid := false } }
    else { s with saf.copyB := { s.saf.copyB with valid := false } }
  | .map c _ _ _ => mapPartly c s
  | .factor c _ _ _ => if c = s.nvm.factorCopy then s else { s with nvm.factorOldOk := false }
  | .page .. => s
  | .erase _ => s
  | .marker => { s with nvm.fbValid := false }
  | .fw n _ _ => setSlot n { s.fwSlot n with valid := false } s
  | .fwAct n _ => setSlot n { s.fwSlot n with valid := false } s
  | .life r => lifeLost r s
  | .bist c _ _ => setBist c { bistCopy s c with valid := false } s

/-- The fallback pattern's marker is programmed: it is valid if every other page passes its PCRC (R442). DEDUCED: SEQ is one
above that of the marker before (notes/assumptions/62.md). -/
def markFallback (s : State) : State :=
  let seq := match s.nvm.fbMark with | some m => m.1 + 1 | none => 1
  { s with nvm.fbMark := some (seq % 2 ^ 32, s.nvm.fb),
           nvm.fbValid := s.nvm.badPages.all (fun e => !inRange e.1 0x300 0x4FF) }

/-- A page of the fallback region is written or erased without the marker: the pattern is invalid (R462). -/
def fallbackPage (a : Nat) (bs : List Byte) (s : State) : State :=
  { s with nvm.fb := Mem.writeRun 0 s.nvm.fb (a - 0x300000) bs, nvm.fbValid := false,
           nvm.fbMark := if 0x4FF000 ≤ a then none else s.nvm.fbMark }

/-- What an operation leaves once it is done (R441). The entries of an append take the next SEQ (R255). -/
def nvmEffect (k : NvmKind) (s0 : State) : State :=
  let s := pageWhole k s0
  match k with
  | .append es =>
    let first := s.saf.log.length + 1
    let s1 := { s with saf.log := s.saf.log ++ renumberEntries first es }
    let s2 := s1.raise 0x86 (q4 first ++ q4 s1.saf.log.length)
    if s.saf.log.length < 256 && decide (256 ≤ s1.saf.log.length) then s2.raise 0x88 (q4 256) else s2
  | .record c d0 =>
    let d : SafeRec := { d0 with logSeq := min d0.logSeq s.saf.log.length }
    let s1 := if c = 0 then { s with saf.copyA := ⟨true, d⟩ } else { s with saf.copyB := ⟨true, d⟩ }
    s1.setB F.SAF_LOCK_CFG_INVALID false
  | .map c pg _ px =>
    (match s.dia.save with
     | some sv => if pg = 31 then saveDone sv s else mapPage c pg px (mapPartly c s)
     | none => mapPage c pg px (mapPartly c s))
  | .factor c seq fo fe =>
    let s1 : State := if c = s.nvm.factorCopy then s
      else { s with nvm.foptOld := s.nvm.fopt, nvm.felOld := s.nvm.fel, nvm.factorOldOk := s.nvm.factorOk,
                    nvm.factorOldSeq := s.nvm.factorSeq }
    { s1 with nvm.fopt := fo, nvm.fel := fe, nvm.factorCopy := c, nvm.factorOk := true, nvm.factorSeq := seq }
  | .page a d => if a < 0x500000 then fallbackPage a d s else { s with nvm.bytes := Mem.writeRun 0xFF s.nvm.bytes a d }
  | .erase a =>
    if a < 0x500000 then fallbackPage a (List.replicate 4096 0xFF) s
    else { s with nvm.bytes := Mem.eraseRun s.nvm.bytes a 4096 }
  | .marker => markFallback s
  | .fw n pg d =>
    { s with nvm.bytes := Mem.writeRun 0xFF s.nvm.bytes (0x80000 * n + 4096 * pg) d,
             nvm.fwPages := setInsert (128 * n + pg) s.nvm.fwPages }
  | .fwAct n act => setSlot n { s.fwSlot n with act := act, valid := (s.fwSlot n).valid && !(act == 0) } s
  | .life r =>
    let ring := if r.seq = s.nvm.life.seq || !s.nvm.lifeOk then s.nvm.lifeRing else s.nvm.life :: s.nvm.lifeRing
    setLife r { s with nvm.life := r, nvm.lifeOk := true, nvm.lifeRing := ring.filter (fun e => decide (r.seq / 128 < e.seq / 128 + 16)) }
  | .bist c pg d0 =>
    let d : BistRec := { d0 with valid := true }
    let s : State := { s with nvm.bistPages := kvPut (4 * c + pg) d s.nvm.bistPages }
    if d.step = 0 && pg == 0 then setRec (setBist c d s)
    else if pg = 3 then bistDone d (if d.complete then St.ok else St.aborted) (setRec (setBist c d { s with nvm.recTorn := false }))
    else if (bistCopy s c).seq = d.seq then s
    else setRec (setBist c { bistCopy s c with valid := false } s)

/-- What an operation that failed twice leaves (R443): its copy is invalid, and what else of its record or command
was to be written is dropped. -/
def nvmFailEffect (o : NvmOp) (s0 : State) : State :=
  let s := copyFails o.kind { s0 with nvm.ops := s0.nvm.ops.filter (fun p => o.owner.isNone || !(p.owner == o.owner)) }
  match o.kind with
  | .append _ => syncLog s
  | .map _ pg _ _ => (match s.dia.save with | some sv => saveFailed sv pg s | none => s)
  | .bist c _ _ =>
    setRec { s with
      nvm.testEnd := if s.nvm.test.isSome && !(s.nvm.testEnd == some St.aborted) then some St.nvmFail else s.nvm.testEnd
      nvm.ops := s.nvm.ops.filter (fun p => match p.kind with | .bist k _ _ => !(k == c) | _ => true) }
  | _ => syncLog s

/-- The pages a command has programmed (R285): its journal progress. -/
def unitsDone (s : State) (seq : Nat) : Nat :=
  match s.cmd.journal.find? (fun e => e.seq == seq) with
  | some e => e.progress
  | none => 0

/-- A FW_STAGE whose pages are programmed: after END the slot is checked (R445, R463). -/
def fwStageEnd (j : Job) (st : Nat) (s : State) : State :=
  let n := u8 j.rq.payload 0
  let top := (s.fwSlot n).staging.getD 0
  if bitOf (u8 j.rq.payload 1) 1 then
    let s1 := closeSlot n st s
    finishJob j st (fwStageFin (s1.fwSlot n).valid top) s1
  else finishJob j st (fwStageFin false top) s

/-- A FW_STAGE with END that waits for the pages of the commands before it (key 1) ends once they are programmed. -/
def fwStageWaits (s : State) : State :=
  match s.jobKey? 0x62 1 with
  | some j => if slotPending s (u8 j.rq.payload 0) then s else fwStageEnd j St.ok s
  | none => s

/-- A command whose last operation has ended gets its final reply (R254, R462 to R464). The sequences of SHUTDOWN and
PWR_STATE go on by themselves, and so does a FLUX_CAL with tiles left. -/
def ownerEnds (seq st : Nat) (s : State) : State :=
  match s.cmd.jobs.find? (fun j => j.seq == seq) with
  | none => s
  | some j =>
    if j.op = 0x6A || j.op = 0x48 || j.op = 0x68 then s
    else if j.op = 0x2C then
      (match s.drv.cal with
       | some c => if st = St.ok && decide (c.done < c.count) then s else endCal st s
       | none => s)
    else if j.op = 0x61 then finishJob j st (bytesLE 1 (unitsDone s seq) ++ zeros 6) s
    else if j.op = 0x62 then fwStageEnd j st s
    else if j.op = 0x44 then finishJob j st (bytesLE 1 (unitsDone s seq) ++ [0, 0] ++ bytesLE 4 s.saf.log.length) s
    else if j.op = 0x25 then finishJob j st (bytesLE 1 (min 2 (unitsDone s seq)) ++ zeros 2) s
    else finishJob j st j.fin s

/-- The owner of an operation that has ended: done when it owns no other. -/
def ownerDone (owner : Option Nat) (s : State) : State :=
  match owner with
  | none => s
  | some q =>
    if s.ownsOps q then s
    else
      let st := if s.nvm.failed.contains q then St.nvmFail else St.ok
      let t := ownerEnds q st { s with nvm.failed := setErase q s.nvm.failed }
      if t.cmd.jobs.any (fun j => j.seq == q) then t else { t with nvm.touched := setErase q t.nvm.touched }

/-- The next operation starts, unless THERM_SD or a dip holds it back (R425, R407). -/
def nvmKick (s : State) : State :=
  let go := !s.nvm.ops.isEmpty && !s.sdActive && !s.dipHolds
  { s with nvm.started := go, nvm.ops := if go then aimHead s s.nvm.ops else s.nvm.ops }

/-- A SAFE_LOCK that waits for the storing of a change acts (R261). -/
def lockAfter (s : State) : State := if s.saf.lockPending && !storing s then lockNow s else s

/-- The owner's units of progress (R285): pages, eNVM copies, log entries. -/
def unitsOf : NvmKind → Nat
  | .append es => es.length
  | _ => 1

/-- Count an operation done for its owner. -/
def countUnits (o : NvmOp) (s : State) : State :=
  match o.owner with
  | none => s
  | some q =>
    let op := match s.cmd.jobs.find? (fun j => j.seq == q) with | some j => j.op | none => 0
    let counts := match o.kind with
      | .append _ => op == 0x44
      | .record _ _ => op == 0x25
      | _ => true
    { (if counts then noteProgress q (unitsDone s q + unitsOf o.kind) s else s) with nvm.touched := setInsert q s.nvm.touched }

/-- Is an operation one of a self-test record? -/
def NvmKind.isBist : NvmKind → Bool
  | .bist .. => true
  | _ => false

/-- The final reply of a PWR_STATE (R412), from byte 1 on. -/
def pwrBody (st refuser mask frame : Nat) : List Byte :=
  bytesLE 1 st ++ bytesLE 1 refuser ++ [0] ++ bytesLE 2 mask ++ [0, 0] ++ bytesLE 4 frame

/-- A test whose record has been written ends (R450, R454, R457): the command gets its final reply, and a completed
shut-down test is counted (R444, R449). In a switch-over the new active half answers a BIST_RUN (R458). -/
def testOver (t : BistRec) (st : Nat) (s0 : State) : State :=
  let s1 := { s0 with nvm.test := none, nvm.testEnd := none, nvm.testAbort := false, nvm.stepNow := 0 }
  let s2 := if t.origin ≤ 1 && st = St.ok then
      { s1 with nvm.shutdowns := s1.nvm.shutdowns + 1, pwr.tested := s1.pwr.tested || t.origin == 0 } else s1
  match t.origin with
  | 0 => finishKey 0x6A 1 st (bistBody t 0xFF) s2
  | 2 => if s2.hlv.abdicated.isSome then s2 else finishOp 0x68 st (bistBody t 0xFF) s2
  | 1 => if st = St.aborted then finishKey 0x48 3 St.aborted (pwrBody (pwrCode s2.pwr.state) 0xFF 0 s2.tck.frame) s2 else s2
  | _ => s2

/-- What a test does as an operation on its record ends, and as its pause ends: with step 0 done the first step starts, and
with the record written the test is over (R450). -/
def testCheck (s : State) : State :=
  match s.nvm.test with
  | none => s
  | some t =>
    if s.nvm.ops.any (fun o => o.kind.isBist) || s.nvm.quickRec.isSome then s
    else match s.nvm.testEnd with
      | some st => testOver t st s
      | none => if t.origin ≤ 1 && s.nvm.stepNow = 0 && !s.testPaused then beginStep 1 s else s

/-- PROG_CNT counts pages programmed or erased, not appends (R460). -/
def countPage (k : NvmKind) (s : State) : State :=
  match k with
  | .append _ => s
  | _ => s.bump F.NVM_CNT_PROG_CNT

/-- NVM_OP_DONE (R441, R443): the operation in progress ends; a failed read-back runs it once more, a second one
fails it. -/
def nvmOpDone (ok : Bool) (s : State) : State :=
  match s.nvm.ops with
  | [] => s
  | o :: rest =>
    if !s.nvm.started || s.nvm.suspended.isSome then s
    else if ok then
      let s1 := countPage o.kind (nvmEffect o.kind (countUnits o { s with nvm.ops := rest, nvm.started := false }))
      testCheck (lockAfter (nvmKick (fwStageWaits (ownerDone o.owner s1))))
    else if !o.retry then { s with nvm.ops := { o with retry := true } :: rest }
    else
      let s1 := ((nvmFailEffect o { s with nvm.ops := rest, nvm.started := false }).bump F.NVM_CNT_FAIL_CNT).setB
        F.NVM_STATUS_FAIL true
      let s2 := match o.owner with
        | some q => { s1 with nvm.failed := setInsert q s1.nvm.failed }
        | none => s1
      testCheck (lockAfter (nvmKick (fwStageWaits (ownerDone o.owner s2))))

def execNvmOpDone (ok : Bool) (s : State) : Host.Outcome State Fault Refusal := .next (nvmOpDone ok s)

/-- Is an operation an erase (R443)? -/
def NvmKind.isErase : NvmKind → Bool
  | .erase _ => true
  | _ => false

/-- Does a cause still hold the operation in progress back (R443)? -/
def nvmHeld (s : State) : Bool :=
  s.pwr.dip.isSome || (s.sdActive && (match s.nvm.ops with | o :: _ => o.kind.isErase | [] => false))

/-- The operation that was suspended runs again, or the next one starts. -/
def resumeOps (s : State) : State :=
  match s.nvm.suspended with
  | some t => ({ s with nvm.suspended := none } : State).raise 0xE2
      (q4 (match s.nvm.ops with | o :: _ => o.kind.addr s.saf.log.length | [] => 0) ++ q4 ((s.time - t) / 100))
  | none => nvmKick s

/-- NVM_RESUME (R407, R443): 1.0 ms after the cause cleared the operation is run again from its start, what waits runs, and a
self-test goes on. -/
def nvmResume (s : State) : State :=
  match s.nvm.resumeAt with
  | none => s
  | some t => if nvmHeld s then s else testCheck (resumeOps { s with time := max s.time t, nvm.resumeAt := none })

def execNvmResume (s : State) : Host.Outcome State Fault Refusal := .next (nvmResume s)

/-- The operation in progress is suspended (R443). -/
def nvmSuspend (s : State) : State :=
  if s.nvm.started && s.nvm.suspended.isNone then { s with nvm.suspended := some s.time } else s

/-! ### THERM_SD (R425) -/

/-- Does a command own the operation that runs? -/
def ownsHead (s : State) (q : Nat) : Bool :=
  s.nvm.started && (match s.nvm.ops with | o :: _ => o.owner == some q | [] => false)

/-- The operations of the owner not yet started. -/
def waitingOps (s : State) : List NvmOp := if s.nvm.started then s.nvm.ops.drop 1 else s.nvm.ops

/-- Does the command's change stand applied (R254 step 3)? -/
def appliedChange (s : State) (q : Nat) : Bool :=
  s.nvm.ops.any (fun o => o.owner == some q && (match o.kind with | .append _ => true | .record _ _ => true | _ => false))

/-- One command that must program meets THERM_SD: its operations that have not started are dropped, and it ends. -/
def sdOwner (s : State) (q : Nat) : State :=
  let applied := appliedChange s q || s.nvm.touched.contains q
  let head := ownsHead s q
  let keep (o : NvmOp) : Bool := !(o.owner == some q)
  let s1 := syncLog { s with nvm.ops := (if s.nvm.started then s.nvm.ops.take 1 else []) ++ (waitingOps s).filter keep }
  if head then { s1 with nvm.failed := setInsert q s1.nvm.failed }
  else ownerEnds q (if applied then St.nvmFail else St.refusedState) { s1 with nvm.touched := setErase q s1.nvm.touched }

/-- The commands that must program: those with an operation not yet started, and a FLUX_CAL with STORE, between two of
its programs too. SHUTDOWN and PWR_STATE wait as internal saves do. -/
def sdOwners (s : State) : List Nat :=
  let cal := match s.drv.cal with
    | some c => if c.store then [c.seq] else []
    | none => []
  ((waitingOps s).filterMap NvmOp.owner ++ cal).foldl (fun l q =>
    if s.cmd.jobs.any (fun j => j.seq == q && (j.op == 0x6A || j.op == 0x48)) then l else setInsert q l) []

/-- The pages of a save that have not been programmed yet, the one in progress among them. -/
def mapLeft (s : State) : Nat := countP (fun o => match o.kind with | .map .. => true | _ => false) s.nvm.ops

/-- The map save and THERM_SD (R425): one that the engine asked for waits, and the commands that asked for it too end; one
that only commands asked for ends as they do, the page in progress apart. DEDUCED (notes/assumptions/62.md). -/
def sdSave (s : State) : State :=
  let s1 := match s.dia.saveReq with
    | some owners =>
      saveReplies St.refusedState owners { s with dia.saveReq := if s.dia.saveOwn then some [] else none }
    | none => s
  match s1.dia.save with
  | none => s1
  | some sv =>
    if sv.owners.isEmpty then s1
    else
      let head := if s1.nvm.started then s1.nvm.ops.take 1 else []
      let isMap (o : NvmOp) : Bool := match o.kind with | .map .. => true | _ => false
      let none_ := mapLeft s1 == 32 && !head.any isMap
      if sv.own then
        saveReplies (if none_ then St.refusedState else St.nvmFail) sv.owners { s1 with dia.save := some { sv with owners := [] } }
      else if none_ then
        saveReplies St.refusedState sv.owners ({ s1 with
          dia.save := none, dia.changed := true, nvm.ops := s1.nvm.ops.filter (fun o => !isMap o) }.addF F.DIA_NEWCNT_NEW sv.newBits)
      else
        let t := saveFailed sv (32 - mapLeft s1) s1
        { t with nvm.ops := head.filter isMap ++ t.nvm.ops }

/-- THERM_SD is raised: the eNVM's part of it (R425). -/
def nvmSd (s : State) : State :=
  let s1 := match s.nvm.ops with
    | o :: _ => if o.kind.isErase then nvmSuspend s else s
    | [] => s
  lockAfter (sdSave ((sdOwners s1).foldl sdOwner s1))

/-- THERM_SD has cleared: what waits runs (R425), a self-test's first step among it. A suspended erase follows 1.0 ms later, with
NVM_RESUME (R443). -/
def nvmSdClear (s : State) : State :=
  if s.nvm.suspended.isSome && s.pwr.dip.isNone then { s with nvm.resumeAt := some (max (s.nvm.resumeAt.getD 0) (s.time + 100000)) }
  else testCheck (if s.nvm.started then s else nvmKick s)

end Sys2Proof.Machine
end

