-- ==== Sys2Proof/Machine/Halves.lean ====
section
/-! DEFINITION. The two halves (R265 to R295): health, HALF resets, abdication, Grazing, self-test slices, the planned
exchange, HALF_STATUS, HALF_SWITCH and HALF_RESET. The takeover is in Machine/Takeover.lean. -/

namespace Sys2Proof.Machine

/-! ### Health (R267 to R270) -/

namespace Health
abbrev reset : Nat := 0
abbrev boot : Nat := 1
abbrev proving : Nat := 2
abbrev good : Nat := 3
abbrev failed : Nat := 4
end Health

/-- LAST_CAUSE of a half. -/
def State.lastCause (s : State) (h : Half) : Nat := s.f (ofHalf F.HLV_HEALTH_A_LAST_CAUSE h)

/-- The running firmware version of a half as R292 packs it. -/
def versionBytes (s : State) (h : Half) : List Byte :=
  bytesLE 1 (s.f (ofHalf F.HLV_FWVER_A_MAJOR h)) ++ bytesLE 1 (s.f (ofHalf F.HLV_FWVER_A_MINOR h)) ++
    bytesLE 2 (s.f (ofHalf F.HLV_FWVER_A_BUILD h))

/-- Bytes 1 to 11 of the final reply of HALF_RESET (R294). -/
def halfResetBody (s : State) (h : Half) : List Byte :=
  bytesLE 1 (s.health h) ++ bytesLE 1 (if s.health h = Health.failed then s.lastCause h else 0) ++ [0] ++ versionBytes s h ++
    bytesLE 4 s.tck.frame

/-- The HALF_RESETs in flight: key 0 or 1 is a half in reset, 2 or 3 one that waits for its planned exchange. After an
abdication the takeover's sweep answers them (R284). -/
def endHalfReset (h : Half) (key st : Nat) (s : State) : State :=
  if s.hlv.abdicated.isSome then s else finishAll 0x7A key st (halfResetBody s h) s

/-- HEALTH changes (R295). -/
def setHealth (h : Half) (new : Nat) (s : State) : State :=
  let old := s.health h
  if old = new then s
  else (s.setF (ofHalf F.HLV_HEALTH_A_HEALTH h) new).raise 0x92 (q4 (halfCode h) ++ q4 old ++ q4 new ++ q4 (s.lastCause h))

/-- A half enters PROVING (R279): both runs start again. -/
def enterProving (h : Half) (s : State) : State :=
  setHealth h Health.proving (((setHalf h { s.half h with slices := 0, matched := false } s).setF F.HLV_GRAZE_MISMATCH_RUN 0).setF
    F.HLV_GRAZE_MATCH_RUN 0)

/-- A half becomes GOOD: a HALF_RESET of it ends (R288), and with it DIVERGE (R281). -/
def enterGood (h : Half) (s : State) : State :=
  let wasReset := (s.jobKey? 0x7A (halfCode h)).isSome
  let s1 := setHealth h Health.good s
  let s2 := endHalfReset h (halfCode h) St.ok s1
  if wasReset && s2.fb F.HLV_ROLE_DIVERGE then
    sourceOff Src.diverge ((s2.setB F.HLV_ROLE_DIVERGE false).setF F.HLV_GRAZE_MISMATCH_RUN 0)
  else s2

/-- The registers that a HALF reset loads: those kept across none (R11, R149) that show an image composed: LYR_BASE_INCRC,
LYR_Vn_INCRC and LYR_Gn_ANIM. DESIGN CHOICE (notes/assumptions/66.md): DRV's stay, and those a boot loads: what they show belongs to
no half (R265), and a HALF reset runs no boot (R430). -/
def halfRegs : List Nat := [0x4024, 0x4138, 0x41B8, 0x4204, 0x4214, 0x4224, 0x4234]

/-- The words kept across none that the state computes read their reset values (R11): LYR_Vn_STAT (R149), OBJ_COUNT and
OBJ_RD_POS, OBJ_RD_INFO, OBJ_RD_FLAGS (R184), DIA_PROBE_V and DIA_PROBE_I (R223). DESIGN CHOICE (notes/assumptions/66.md): until
the next tick, image, sample or reading renews them. -/
def halfViews (s : State) : State :=
  { s with lyr.statReset := true, obj.lastReset := true, obj.rdReset := true, dia.readV := [], dia.readI := [] }

/-- A HALF reset (R267, R288): the half boots from a slot, whose staging ends (R447). -/
def resetHalf (h : Half) (slot : Nat) (s : State) : State :=
  let s0 := endStaging slot (halfRegs.foldl (fun t a => t.setReg a 0) (halfViews s))
  let s1 := setHealth h Health.reset { setHalf h { bootTime := s.time, served := s.time } s0 with
    hlv.ready := s.hlv.ready.filter (fun x => !(x == h)) }
  let s2 := (s1.setReg (0x9010 + 4 * halfCode h) 0).setF (ofHalf F.HLV_HEALTH_A_SLOT h) slot
  setHealth h Health.boot s2

/-- HLV may restart a half on its own (R269). -/
def mayRestart (s : State) (h : Half) : Bool :=
  s.fb F.HLV_CTRL_AUTO_RESTART && decide (s.f (ofHalf F.HLV_HEALTH_A_RESTARTS h) < s.f F.HLV_CTRL_RESTART_MAX)

/-- The automatic restart, onto the slot the half last ran (R269). -/
def autoRestart (h : Half) (s : State) : State :=
  resetHalf h (s.f (ofHalf F.HLV_HEALTH_A_SLOT h)) (s.bump (ofHalf F.HLV_HEALTH_A_RESTARTS h))

/-- R278: no half is active; HALVES is raised, and a HALF_SWITCH that waited is refused (R287). -/
def noHalf (s : State) : State :=
  let s1 := { s with hlv.active := false, hlv.abdicated := s.hlv.abdicated.map (fun x => { x with tick := none }) }
  raiseSource Src.halves (finishOp 0x79 St.refusedState [] s1)

/-- A planned exchange is cancelled (R287, R288, R294). -/
def cancelExchange (s : State) : State :=
  match s.hlv.exchange with
  | none => s
  | some x =>
    let s1 := { s with hlv.exchange := none }
    match x.resetHalf with
    | some h => endHalfReset h (2 + halfCode h) St.refusedState s1
    | none => finishOp 0x79 St.refusedState [] s1

/-- A standby half becomes FAILED (R269); HLV resets it if it may. With the other half abdicated no half is left; with
both unable to boot HALVES is raised (R270, R290). -/
def failHalf (h : Half) (cause : Nat) (s : State) : State :=
  let s1 := setHealth h Health.failed (s.setF (ofHalf F.HLV_HEALTH_A_LAST_CAUSE h) cause)
  let s2 := cancelExchange (endHalfReset h (halfCode h) St.aborted { s1 with
    hlv.ready := s1.hlv.ready.filter (fun x => !(x == h)) })
  let s3 := if mayRestart s2 h then autoRestart h s2 else s2
  if s3.hlv.active && s3.hlv.abdicated.isSome then noHalf s3
  else if !s3.hlv.active && s3.health .a == Health.failed && s3.health .b == Health.failed then raiseSource Src.halves s3
  else s3

/-! ### Abdication (R274, R275, R278) -/

/-- An image, composed wholly or in part by a half that abdicates, that is not compared (R272). -/
def skipImage (b : Bool) (s : State) : State := if b then s.bump F.HLV_GRAZE_CNT_SKIP_CNT else s

/-- What the images of an abdicating half become: the one in composition is discarded unless the fallback source drives
(R275, R277), and none is compared (R272). -/
def dropImages (s : State) : State :=
  let s1 := skipImage s.hlv.grazeDue (skipImage (!s.drv.comp.rowIn.isEmpty) s)
  { s1 with hlv.grazeDue := false
            drv.noSwap := s1.drv.noSwap || !fallbackDrives s
            drv.comp := { s1.drv.comp with rowIn := [] } }

/-- A BIST_RUN that runs its steps stops after the step in progress (R458). -/
def stopBistRun (s : State) : State :=
  if s.bistTests then { s with nvm.testAbort := true } else s

/-- The active half abdicates (R274 to R278). -/
def abdicate (cause : Nat) (s : State) : State :=
  if !s.hlv.active || s.hlv.abdicated.isSome then s
  else
    let h := s.activeHalf
    let other := otherHalf h
    let ready := s.health other == Health.good
    let s1 := (((s.raise 0x90 (q4 (halfCode h) ++ q4 cause ++ q4 s.tck.row)).setB F.HLV_STATUS_ABDICATED true).bump
      F.HLV_SW_CNT_ABDICATE_CNT).setF (ofHalf F.HLV_HEALTH_A_LAST_CAUSE h) cause
    let s2 := match s1.hlv.exchange with
      | some ⟨_, some r, _⟩ => endHalfReset r (2 + halfCode r) St.refusedState { s1 with hlv.exchange := none }
      | _ => { s1 with hlv.exchange := none }
    let at_ := s.tickNo (if s.time + 2000 ≤ s.nextTick then 1 else 2)
    let s3 := { dropImages (stopBistRun s2) with
      hlv.quick := none
      hlv.showNew := true
      hlv.abdicated := some ⟨h, cause, s.tck.frame, if ready then some at_ else none,
        decide (s.cutoff ≤ s.tck.row) && at_ == s.tickNo 1⟩ }
    let s4 := (if s.hlv.showNew then s3 else { s3 with hlv.limit := false }.setF F.HLV_ROLE_HELD 0).setB F.HLV_ROLE_REFUSER true
    let s5 := if mayRestart s4 h then autoRestart h s4 else setHealth h Health.failed s4
    if ready then s5 else noHalf s5

/-- A fault of a half (R269, R274): the active half abdicates, a standby half that runs becomes FAILED. -/
def halfFault (h : Half) (cause : Nat) (s : State) : State :=
  if s.off || s.pwr.state == .idle then s
  else if s.hlv.active && s.hlv.abdicated.isNone && s.activeHalf == h then abdicate cause s
  else if inRange (s.health h) 1 3 then failHalf h cause s
  else s

/-- LOCKSTEP_MISCOMPARE (R274). -/
def execLockstepMiscompare (h : Half) (s : State) : Host.Outcome State Fault Refusal := .next (halfFault h 1 s)

/-- The watchdog of a half runs out: 2 periods after its last service, at `served` or at the last one known; 35 ms while the
part runs on FRC (R265). -/
def wdogEnd (h : Half) (served : Nat) (s : State) : Nat :=
  max (min served s.time) (s.half h).served + (if s.onFrc then 3500000 else (2 * s.periodAct).floor.toNat)

/-- WATCHDOG_EXPIRY (R265, R274): the half's firmware has not served its watchdog since `served`. A half in reset or in BOOT
has none to serve. -/
def watchdogExpiry (h : Half) (served : Nat) (s : State) : State :=
  if s.off || s.pwr.state == .idle || !inRange (s.health h) 2 3 then s
  else halfFault h 3 { setHalf h { s.half h with served := max (min served s.time) (s.half h).served } s with
    time := max s.time (wdogEnd h served s) }

def execWatchdogExpiry (x : Expiry) (s : State) : Host.Outcome State Fault Refusal :=
  .next (watchdogExpiry x.half x.served s)

/-- PIPELINE_PARITY_ERROR (R55, R178, R274): a pipeline fault of the active half, of whichever kind; for a standby half R269
names none. -/
def execPipelineParityError (x : PipeError) (s : State) : Host.Outcome State Fault Refusal :=
  .next (if s.activeHalf == x.half then halfFault x.half 4 s else s)

/-- ROW_UNDERRUN (R28): a row of an image that has begun is missing 100 µs before the tick. It counts as a pipeline fault of
the active half (R274). -/
def rowUnderrun (s : State) : State :=
  let n := s.drv.comp.rowCrc.length
  if !s.tck.running || !s.drv.begun || 511 < n || s.drv.noSwap then s
  else
    abdicate 4 ((({ s with drv.noSwap := true }.setB F.DRV_STATUS_ROW_UNDERRUN true).bump F.DRV_CNT_UNDERRUN_CNT).raise 0x60 (q4 n))

def execRowUnderrun (s : State) : Host.Outcome State Fault Refusal := .next (rowUnderrun s)

/-- HOLD_LIMIT (R277): a third held tick of a switch-over has come: the reaction of source HALVES. It counts as a pipeline
fault of the new half, and the held ticks count on (R290). -/
def holdLimit (s : State) : State :=
  if !s.hlv.showNew || s.hlv.limit || s.f F.HLV_ROLE_HELD < 3 then s
  else
    let s1 := { s.setB F.HLV_STATUS_HOLD_LIMIT true with hlv.limit := true }
    if s1.hlv.active && s1.hlv.abdicated.isNone then
      let s2 := abdicate 4 s1
      if s2.hlv.active then raiseOnce Src.halves s2 else s2
    else noHalf s1

def execHoldLimit (s : State) : Host.Outcome State Fault Refusal := .next (holdLimit s)

/-! ### Booting (R267, R269, R270) -/

/-- BOOT_DONE (R468), once in a boot: both halves have left BOOT, or 25 ms have passed. Before tick 0 the time to it is that of
the boot's table (R434; DEDUCED, notes/assumptions/36.md). -/
def bootDoneCheck (s : State) : State :=
  let left (h : Half) : Bool := decide (Health.boot < s.health h)
  if s.sys.bootDone || !((left .a && left .b) || decide (2500000 ≤ s.time)) then s
  else { s with sys.bootDone := true }.raise 0x01
    (q4 (s.f F.SYS_RSTCAUSE_KIND) ++ q4 (s.reg 0x0010).toNat ++ q4 (s.sys.tick0.getD (firstTick s).floor.toNat / 1000))

/-- A half has left BOOT (R270, R278): it enters PROVING, and may become active if none is. -/
def halfBootDone (h : Half) (crcOk : Bool) (s : State) : State :=
  if !(s.health h == Health.boot) || s.off then s
  else if !crcOk then bootDoneCheck (failHalf h 7 s)
  else
    let v := s.fwSlot (s.f (ofHalf F.HLV_HEALTH_A_SLOT h))
    let s1 := s.setReg (0x9010 + 4 * halfCode h) (BitVec.ofNat 32 (v.major * 2 ^ 24 + v.minor * 2 ^ 16 + v.build))
    let s2 := enterProving h (setHalf h { s1.half h with
      ram := some (s.f (ofHalf F.HLV_HEALTH_A_SLOT h)), image := ramImage s (s.f (ofHalf F.HLV_HEALTH_A_SLOT h)), served := s.time } s1)
    bootDoneCheck (if s2.hlv.active then s2 else { s2 with hlv.ready := s2.hlv.ready ++ [h] })

def execHalfBootDone (h : Half) (crcOk : Bool) (s : State) : Host.Outcome State Fault Refusal :=
  .next (halfBootDone h crcOk s)

/-- HALF_BOOT_TIMEOUT (R269): BOOT has exceeded 20 ms. -/
def halfBootTimeout (h : Half) (s : State) : State :=
  if !(s.health h == Health.boot) || s.off then s
  else bootDoneCheck (failHalf h 7 { s with time := max s.time ((s.half h).bootTime + 2000000) })

def execHalfBootTimeout (h : Half) (s : State) : Host.Outcome State Fault Refusal := .next (halfBootTimeout h s)

/-! ### Grazing and slices (R268, R271 to R273, R279) -/

/-- The standby half. -/
def State.standby (s : State) : Half := otherHalf s.activeHalf

/-- R268: a PROVING standby half becomes GOOD. -/
def goodCheck (s : State) : State :=
  let h := s.standby
  if s.hlv.active && s.health h == Health.proving && (s.half h).matched && decide (64 ≤ (s.half h).slices)
  then enterGood h s else s

/-- A mismatch (R271, R279); the third in a row asks for the quick self-test. -/
def mismatch (row : Nat) (s : State) : State :=
  let run := min 3 (s.f F.HLV_GRAZE_MISMATCH_RUN + 1)
  let s1 := (((((s.setF F.HLV_GRAZE_MISMATCH_RUN run).setF F.HLV_GRAZE_MATCH_RUN 0).bump F.HLV_GRAZE_CNT_MISMATCH_CNT).setB
    F.HLV_STATUS_MISMATCH true).setF F.HLV_GRAZE_ROW_ROW row).setReg 0x9024 (BitVec.ofNat 32 s.tck.frame)
  let s2 := s1.raise 0x93 (q4 row ++ q4 run)
  if run = 3 && s.f F.HLV_GRAZE_MISMATCH_RUN == 2 && s.hlv.quick.isNone then
    { s2 with hlv.quick := some ⟨if s.tck.row < 512 then s.tck.frame else s.tickNo 1, none⟩ }
  else s2

/-- The rows the standby half recomputes of the image on show (R271). -/
def grazeRows (s : State) : List Nat := (List.range 16).map (fun n => s.tck.frame % 32 + 32 * n)

/-- The state with the inputs of the image to be grazed in place (R142, R178, R271). -/
def grazeState (s : State) : State :=
  let i := s.obj.grazeIn
  { s with tck.act := i.act, lyr.v := i.v, lyr.g := i.g, lyr.symSample := i.sym, lyr.tone := i.tone, obj.cur := i.objs }.setF
    F.LYR_BASE_SHOWN i.base

/-- The CRC-32C the standby half computes for a row: that of the row recomputed from the same inputs, but for a fault of the
half, which changes it by `err`. -/
def grazeCrc (s : State) (row err : Nat) : Nat := rowInCrc (halfRow (grazeState s) row).1 ^^^ err

/-- The lowest of those rows whose CRC differs from that of the row-CRC table. -/
def grazeDiff (s : State) (errs : List Nat) : Option Nat :=
  ((List.range 16).find? (fun n => !(nth 0 s.hlv.rowCrcs (nth 0 (grazeRows s) n) ==
    grazeCrc s (nth 0 (grazeRows s) n) (nth 0 errs n)))).map (nth 0 (grazeRows s))

/-- A match (R268, R279): 32 in a row are remembered for the proving of the standby half. -/
def matched (s : State) : State :=
  let n := min 63 (s.f F.HLV_GRAZE_MATCH_RUN + 1)
  let s1 := (s.setF F.HLV_GRAZE_MISMATCH_RUN 0).setF F.HLV_GRAZE_MATCH_RUN n
  goodCheck (if 32 ≤ n then setHalf s.standby { s1.half s.standby with matched := true } s1 else s1)

/-- The standby half's line-buffer pool after its last row (R265). -/
def grazePool (s : State) : State :=
  setHalf s.standby { s.half s.standby with pool := linePool (grazeState s) (s.tck.frame % 32 + 480) } s

/-- GRAZE (R271, R272): the standby half recomputes its 16 rows and compares, or cannot finish. `errs` are its faults: what
each row's CRC-32C comes out wrong by, in the order of the rows; a row with none listed comes out right. -/
def graze (errs : List Nat) (finished : Bool) (s0 : State) : State :=
  if !s0.hlv.grazeDue then s0
  else
    let s := { s0 with hlv.grazeDue := false }
    if !finished || !s.grazing then s.bump F.HLV_GRAZE_CNT_SKIP_CNT
    else match grazeDiff s errs with
      | none => matched (grazePool s)
      | some row => mismatch row (grazePool s)

def execGraze (errs : List Nat) (finished : Bool) (s : State) : Host.Outcome State Fault Refusal :=
  .next (graze errs finished s)

/-- SELF_TEST_SLICE (R273): the standby half has run its slice: one in a period, after Grazing. -/
def selfTestSlice (pass : Bool) (s0 : State) : State :=
  let h := s0.standby
  if !s0.grazing || !s0.tck.running || s0.hlv.grazeDue || s0.hlv.sliceRun then s0
  else
    let s : State := { s0 with hlv.sliceRun := true }
    let x := s.half h
    let n := x.slices + 1
    if !pass then failHalf h 6 s
    else goodCheck ((setHalf h { x with slices := n, rounds := x.rounds + b2n (n % 64 == 0) } s).setF
      (ofHalf F.HLV_HEALTH_A_SLICE h) ((s.f (ofHalf F.HLV_HEALTH_A_SLICE h) + 1) % 64))

def execSelfTestSlice (pass : Bool) (s : State) : Host.Outcome State Fault Refusal := .next (selfTestSlice pass s)

/-- QUICK_SELF_TEST (R279): both halves have run it in the blanking of its period, up to 50 µs before the tick, which
decides (R280). -/
def quickSelfTest (passA passB : Bool) (s : State) : State :=
  match s.hlv.quick with
  | some ⟨f, none⟩ =>
    if f = s.tck.frame && s.tck.row == 512 then
      let s1 := { s with time := max s.time (s.nextTick - 5000), hlv.quick := some ⟨f, some (passA, passB)⟩ }
      let s2 := if passA then s1 else s1.setB F.HLV_STATUS_QT_FAIL_A true
      if passB then s2 else s2.setB F.HLV_STATUS_QT_FAIL_B true
    else s
  | _ => s

def execQuickSelfTest (passA passB : Bool) (s : State) : Host.Outcome State Fault Refusal :=
  .next (quickSelfTest passA passB s)

/-! ### The planned exchange (R287, R288) -/

/-- Bytes 1 to 7 of the reply of HALF_SWITCH (R293). -/
def halfSwitchBody (s : State) (noSwitch : Bool) (frame : Nat) : List Byte :=
  bytesLE 1 (s.f F.HLV_ROLE_ACTIVE + 2 * b2n noSwitch) ++ [0, 0] ++ bytesLE 4 frame

/-- The active half changes (R291). -/
def changeActive (h : Half) (s : State) : State :=
  ((((s.setF F.HLV_ROLE_ACTIVE (halfCode h)).bump F.HLV_SW_CNT_SWITCH_CNT).setB F.HLV_STATUS_SWITCHED true).setReg 0x902C
    (BitVec.ofNat 32 s.tck.frame))

/-- HALF_EXCHANGE (R287, R288): at its tick the roles exchange; a HALF_RESET then resets the old active half. The old active
half starts Grazing with the next image: the one composed last is skipped (notes/assumptions/64.md). -/
def halfExchange (s : State) : State :=
  match s.hlv.exchange with
  | none => s
  | some x =>
    if !(x.tick == s.tck.frame) || !s.executes then s
    else if !(s.health s.standby == Health.good) then cancelExchange s
    else
      let old := s.activeHalf
      let new := s.standby
      let s0 : State := { skipImage s.hlv.grazeDue s with hlv.exchange := none, hlv.grazeDue := false }
      let s1 := (changeActive new s0).raise 0x91 (q4 (halfCode new) ++ q4 0)
      match x.resetHalf with
      | none => finishOp 0x79 St.ok (halfSwitchBody s1 false s1.tck.frame) s1
      | some h =>
        let s2 := { s1 with cmd.jobs := s1.cmd.jobs.map (Job.rekey 0x7A (2 + halfCode h) (halfCode h)) }
        resetHalf old x.slot (s2.setF (ofHalf F.HLV_HEALTH_A_RESTARTS h) 0)

def execHalfExchange (s : State) : Host.Outcome State Fault Refusal := .next (halfExchange s)

/-! ### Commands (R292 to R294) -/

/-- The block of a half (R292). -/
def halfBlock (s : State) (h : Half) : List Byte :=
  let g (x : Fld) := s.f (ofHalf x h)
  bytesLE 1 (s.health h + 8 * g F.HLV_HEALTH_A_SLOT) ++ bytesLE 1 (s.lastCause h) ++ bytesLE 1 (g F.HLV_HEALTH_A_RESTARTS) ++ [0] ++
    versionBytes s h ++ bytesLE 4 (s.half h).rounds ++ bytesLE 2 (g F.HLV_HEALTH_A_ECC_CORR) ++
    bytesLE 2 (if s.hlv.active && s.activeHalf == h then 0 else s.f F.HLV_GRAZE_MATCH_RUN)

/-- HALF_STATUS (R292). -/
def halfStatusBody (rq : Req) : State → State × Reply :=
  withLen (len rq 0) (fun s =>
    okReply (bytesLE 1 (s.f F.HLV_ROLE_ACTIVE + 2 * b2n s.hlv.exchange.isSome + 4 * s.f F.HLV_ROLE_DIVERGE + 8 * b2n s.grazing) ++
      zeros 2 ++ bytesLE 4 (match s.hlv.exchange with | some x => x.tick | none => (s.reg 0x902C).toNat) ++
      halfBlock s .a ++ halfBlock s .b ++ bytesLE 2 (s.f F.HLV_GRAZE_CNT_MISMATCH_CNT) ++
      bytesLE 2 (s.f F.HLV_GRAZE_CNT_SKIP_CNT) ++ bytesLE 4 s.tck.frame) s)

def execHalfStatus (rq : Req) (s : State) : Host.Outcome State Fault Refusal :=
  .next (command 0x78 rq (halfStatusBody rq) s)

/-- A half is in BOOT, or a planned exchange is pending (R290). -/
def halfBusy (s : State) : Bool := s.health .a == Health.boot || s.health .b == Health.boot || s.hlv.exchange.isSome

/-- The tick of an exchange accepted now (R287). -/
def exchangeTick (s : State) : Nat := s.tickNo (if s.tck.row < s.cutoff then 1 else 2)

/-- HALF_SWITCH (R281, R287, R290, R293). -/
def halfSwitchCmd (rq : Req) : State → State × Reply :=
  withLen (len rq 4) (fun s =>
    let t := u8 rq.payload 0
    if 2 < t then refuse St.badParam s
    else if halfBusy s then refuse St.busy s
    else if t < 2 && halfOf t == s.activeHalf then okReply (halfSwitchBody s true s.tck.frame) s
    else if s.fb F.HLV_ROLE_DIVERGE || !(s.health s.standby == Health.good) then refuse St.refusedState s
    else ({ s with hlv.exchange := some ⟨exchangeTick s, none, 0⟩ }, .later 0 []))

def execHalfSwitch (rq : Req) (s : State) : Host.Outcome State Fault Refusal :=
  .next (command 0x79 rq (halfSwitchCmd rq) s)

/-- The slot of IMAGE (R294). -/
def imageSlot (s : State) (h : Half) (image : Nat) : Nat :=
  if image < 2 then image
  else if image = 2 then s.f (ofHalf F.HLV_HEALTH_A_SLOT h)
  else (bootSlot s).getD (s.f (ofHalf F.HLV_HEALTH_A_SLOT h))

/-- HALF_RESET (R288, R290, R294). -/
def halfResetCmd (rq : Req) : State → State × Reply :=
  withLen (len rq 4) (fun s =>
    let n := u8 rq.payload 0
    let image := u8 rq.payload 1
    let h := halfOf n
    if 1 < n || 3 < image || !(u16 rq.payload 2 == 0) then refuse St.badParam s
    else if halfBusy s then refuse St.busy s
    else if !(s.health (otherHalf h) == Health.good) then refuse St.refusedState s
    else
      let slot := imageSlot s h image
      if h == s.activeHalf then
        ({ s with hlv.exchange := some ⟨exchangeTick s, some h, slot⟩ },
          .accepted (zeros 3 ++ bytesLE 4 (exchangeTick s)) (2 + halfCode h) [])
      else
        (resetHalf h slot (s.setF (ofHalf F.HLV_HEALTH_A_RESTARTS h) 0),
          .accepted (zeros 3 ++ bytesLE 4 s.tck.frame) (halfCode h) []))

def execHalfReset (rq : Req) (s : State) : Host.Outcome State Fault Refusal :=
  .next (command 0x7A rq (halfResetCmd rq) s)

end Sys2Proof.Machine
end

