-- ==== Sys2Proof/Machine/Reset.lean ====
section
/-! DEFINITION. A device reset as it is asserted (R430, R431, R433): what AON and the eNVM keep, what is lost, and the
eNVM operation it cuts. The boot that follows is in `Boot.lean`. -/

namespace Sys2Proof.Machine

/-! ### The cut operation (R431, R442) -/

/-- An entry that an append reached (R255): whole, or torn, with what it holds not stated but a CRC that fails
(notes/assumptions/5.md). `d` is the draw of the tear, `i` the entry. -/
def reachedEntry (d i : Nat) (b : List Byte) : List Byte :=
  if (Config.freeValue 74 (0x100000 * d + i)).toNat % 2 = 0 then b
  else
    let c := (List.range 30).map (fun k => tornByte d (32 * i + k))
    c ++ bytesLE 2 ((crc16 c + 1 + (Config.freeValue 75 (0x100000 * d + i)).toNat % 65535) % 65536)

/-- The entries of a cut append that stand in the log: as many as it had reached, a free value, each whole or torn. -/
def tornEntries (d first : Nat) (es : List (List Byte)) : List (List Byte) :=
  let n := (Config.freeValue 76 d).toNat % (es.length + 1)
  ((List.range n).zip (renumberEntries first (es.take n))).map (fun e => reachedEntry d e.1 e.2)

/-- What the cut operation leaves (R431, R442). A torn page of the record that a shut-down test has opened has the next boot run
its quick test (R455). -/
def tornEffect (k : NvmKind) (s : State) : State :=
  match k with
  | .append es =>
    { s with saf.log := s.saf.log ++ tornEntries s.fresh (s.saf.log.length + 1) es, fresh := s.fresh + 1 }
  | .bist c _ d => { copyFails k s with nvm.recTorn := s.nvm.recTorn || (decide (d.origin ≤ 1) && c == s.nvm.testCopy) }
  | _ => copyFails k s

/-- The operation in progress is cut; what waits is gone. -/
def nvmCut (s : State) : State :=
  let s1 := match s.nvm.ops with
    | o :: _ => if s.nvm.started then tornEffect o.kind s else s
    | [] => s
  let s2 := match s1.dia.save with
    | some sv => if s1.nvm.ops.any (fun o => match o.kind with | .map _ pg _ _ => decide (0 < pg) | _ => false) then mapPartly sv.copy s1 else s1
    | none => s1
  syncLog { s2 with nvm.ops := [], nvm.started := false, nvm.suspended := none, nvm.resumeAt := none, nvm.touched := [], nvm.failed := [] }

/-! ### What is kept -/

/-- The register words after everything but AON is lost; with AON lost too (R433). -/
def keptRegs (s : State) (aonLost : Bool) : List RegRow → Mem 32
  | [] => []
  | r :: t =>
    let v := if r.keep = 2 || (r.keep == 1 && !aonLost) then s.reg r.addr else BitVec.ofNat 32 r.reset
    if v = 0 then keptRegs s aonLost t else (r.addr, v) :: keptRegs s aonLost t

/-- The part with every domain but AON lost (R396, R431, R433): registers at their reset values, volatile state
gone; the eNVM, the pins' levels and AON stay, a supply dip it monitors among it (R406; notes/assumptions/63.md). -/
def coldState (aonLost : Bool) (s0 : State) : State :=
  let s := nvmCut s0
  { pending := s.pending
    fresh := s.fresh
    regs := keptRegs s aonLost regRows
    tck := { act := { regs := resetItems } }
    saf := { pinA := s.saf.pinA, pinB := s.saf.pinB,
             discStart := if s.saf.pinA == s.saf.pinB then none else some 0,
             active := if s.saf.pinA && s.saf.pinB then [] else [Src.pinStop],
             password := s.saf.password, copyA := s.saf.copyA, copyB := s.saf.copyB,
             log := s.saf.log, logNext := s.saf.logNext, logStored := s.saf.logStored }
    nvm := { s.nvm with fwBuf := [], quickRec := none, test := none, stepNow := 0, testAbort := false, testEnd := none,
                        testFound := 0, repair := [],
                        slotA := { s.nvm.slotA with staging := none }, slotB := { s.nvm.slotB with staging := none } }
    sys := { phase := .run, causes := [] }
    pwr := { elapsedKept := if aonLost then 0 else if s.pwr.state == .sleep then s.pwr.elapsedKept else s.elapsedS,
             dip := if aonLost then none else s.pwr.dip.map (fun d => (0, d.2)),
             dipBefore := if aonLost then 0 else s.pwr.dipBefore + (s.time - (s.pwr.dip.map Prod.fst).getD s.time),
             wakeMv := s.pwr.wakeMv, roosterOut := if aonLost then false else s.pwr.roosterOut,
             lpoStopped := if aonLost then false else s.pwr.lpoStopped,
             rcrc := if aonLost then [] else s.pwr.rcrc } }

/-- SLEEP_TICKS at the reset that ends SLEEP (R404): AON periods of 1/32,768 s since the bypass closed. -/
def sleepTicks (s : State) : Nat := (s.time - s.pwr.sleep0) * 32768 / 100000000

/-- PWR_SLEEP as a wake or PIN reset leaves it (R404). -/
def latchSleep (k : ResetKind) (s : State) : State :=
  if s.pwr.state = .sleep then
    let n := sleepTicks s
    let sat := decide (2 ^ 40 ≤ n)
    let m := if sat then 2 ^ 40 - 1 else n
    let valid := (k == .wake || k == .pin) && !s.pwr.lpoStopped
    ((s.setReg 0xC040 (BitVec.ofNat 32 (lo32 m))).setReg 0xC044
      (BitVec.ofNat 32 (m / 2 ^ 32 + 2 ^ 30 * b2n sat + 2 ^ 31 * b2n valid)))
  else s

/-- A device reset is asserted (R430, R431). POR and BOR clear AON, the record of the other causes among it. -/
def deviceReset (k : ResetKind) (s0 : State) : State :=
  let s := latchSleep k s0
  let aonLost := k == .por || k == .bor
  let t := coldState aonLost s
  { t with
    sys := { t.sys with
      phase := .inReset
      causes := if aonLost then [k] else if s.sys.phase == .inReset then s.sys.causes ++ [k] else [k]
      fromSleep := !aonLost && (s.sys.fromSleep || (s.pwr.state == .sleep && (k == .pin || k == .wake)))
      quickAsked := s.sys.quickAsked && k == .soft
      pinLow := if k = .pin then some 0 else s.sys.pinLow }
    thm := { trip := if aonLost then none else s.thm.trip } }

/-- POR (R430): VSUP rises from below the reset level. -/
def execPor (s : State) : Host.Outcome State Fault Refusal := .next (deviceReset .por s)

/-- BOR (R406): VSUP falls below 1.56 V. -/
def execBor (mv : Nat) (s : State) : Host.Outcome State Fault Refusal :=
  .next (if mv < 1560 then deviceReset .bor s else s)

/-- RESET_N_LOW (R410): RESET_N is low behind its glitch filter. -/
def execResetNLow (s : State) : Host.Outcome State Fault Refusal := .next (deviceReset .pin s)

/-- RESET (R467). The reply goes first; the SOFT reset follows 1.0 ms after it has left. -/
def resetBody (rq : Req) : State → State × Reply :=
  withLen (len rq 4) (fun s =>
    if u8 rq.payload 0 = 0xA5 then
      okReply [] { s with sys.softAsked := true, sys.softAt := s.time + 100000, sys.quickAsked := bitOf (u8 rq.payload 1) 0 }
    else refuse St.badParam s)

def execReset (rq : Req) (s : State) : Host.Outcome State Fault Refusal := .next (command 0x7F rq (resetBody rq) s)

/-- The reply of a RESET is still to be sent on the ring (R467); by the service port its building counts. -/
def resetReplyWaits (s : State) : Bool := s.cmd.out.any (fun p => p.op == 0x7F && p.port == .ring && p.type == 1)

/-- SOFT_RESET (R430, R467): 1.0 ms after the reply of a RESET. -/
def softReset (s : State) : State :=
  if s.sys.softAsked && !resetReplyWaits s && !s.off then deviceReset .soft { s with time := max s.time s.sys.softAt } else s

def execSoftReset (s : State) : Host.Outcome State Fault Refusal := .next (softReset s)

end Sys2Proof.Machine
end

