-- ==== Sys2Proof/Machine/Thermal.lean ====
section
/-! DEFINITION. Temperature (R415 to R429): a round of readings with all that follows from it, the fast cadence, the
155 °C trip and the hold after it, what a tick takes, and THERM_READ. Temperatures are in 1/16 °C. -/

namespace Sys2Proof.Machine

/-! ### Readings (R415, R416) -/

/-- The powers of atanh's series, in units of 2^−64, by fuel. -/
def atanhSum : Nat → Nat → Int → Int → Int
  | 0, _, _, _ => 0
  | k + 1, n, z2, t => t / (n : Int) + atanhSum k (n + 2) z2 (t * z2 / (2 ^ 64 : Nat))

/-- ln(a / b) in units of 2^−64, cut below that (notes/assumptions/12.md). -/
def lnFix (a b : Nat) : Int :=
  let e : Int := (a.log2 : Int) - (b.log2 : Int)
  let x := if e < 0 then a * 2 ^ e.natAbs else a
  let y := if 0 < e then b * 2 ^ e.natAbs else b
  let z : Int := ((x : Int) - (y : Int)) * (2 ^ 64 : Nat) / ((x + y : Nat) : Int)
  e * 12786308645202655660 + 2 * atanhSum 40 1 (z * z / (2 ^ 64 : Nat)) z

/-- A diode's temperature from ΔV in µV and n in u2.14 (R415). -/
def diodeT (dv ideal : Nat) : Int :=
  ratRound (16 * ((dv * 16384 * 100 : Nat) / ((ideal * 19842 : Nat) : Rat) - 5463 / 20))

/-- An NTC's temperature from its voltage in µV at 100 µA, its voltage at 25 °C, and B in K (R415). -/
def ntcT (uv uv25 b : Nat) : Int :=
  let l : Rat := (lnFix uv uv25 : Rat) / (2 ^ 64 : Nat)
  ratRound (16 * (1 / (20 / 5963 + l / (b : Rat)) - 5463 / 20))

/-- STAT codes (R427). -/
abbrev tsOk : Nat := 0
abbrev tsUnder : Nat := 1
abbrev tsOpen : Nat := 2
abbrev tsShort : Nat := 3
abbrev tsRange : Nat := 4
abbrev tsOff : Nat := 7

/-- A field of a remote channel's registers, given for TS0. -/
def tsF (x : Fld) (n : Nat) : Fld := x.at (0x10 * n)

/-- STAT, the temperature where one is measured, and RAW of a reading (R416): µV at 10 µA and at 100 µA. -/
def tsReading (s : State) (n : Nat) (v : Nat × Nat) : Nat × Option Int × Nat :=
  let ntc (r25 : Nat) : Nat × Option Int × Nat :=
    let b := s.f (tsF F.THM_TS0_CFG_B n)
    let raw := min 65535 (v.2 / 100)
    if v.2 < 20000 then (tsShort, none, raw)
    else if 1600000 < v.2 then (tsUnder, some (ntcT 1600000 r25 b), raw)
    else (tsOk, some (ntcT v.2 r25 b), raw)
  match s.f (tsF F.THM_TS0_CFG_MODE n) with
  | 0 => (tsOff, none, 0)
  | 1 =>
    let dv := v.2 - v.1
    let raw := min 65535 dv
    if 1000000 ≤ v.1 then (tsOpen, none, raw)
    else if dv < 40000 then (tsShort, none, raw)
    else if 95000 < dv then (tsRange, none, raw)
    else (tsOk, some (diodeT dv (s.f (tsF F.THM_TS0_CFG_IDEAL n))), raw)
  | 2 => ntc 1000000
  | _ => ntc 4700000

/-- The signed temperature of a register field. -/
def tempOf (s : State) (x : Fld) : Int := signedOf 16 (s.f x)

/-- SENSOR_FAULT (R416, R417, R429): channel, STAT, last reading. -/
def sensorFault (ch stat : Nat) (t : Int) (s : State) : State :=
  (s.setB F.THM_STATUS_FAULT_SEEN true).raise 0xD3 (q4 ch ++ q4 stat ++ q4i t)

/-- The temperature a channel reports: that of the reading, or its last OK value (R416). Before the first one, and while the
channel is off, THM_TSn_T.T stays (notes/assumptions/64.md). -/
def tsReport (s : State) (n stat : Nat) (t : Option Int) : Option Int :=
  if t.isNone && !(stat == tsOff) then vnth none s.thm.tsLast n else t

/-- One remote channel of a round (R416). -/
def tsOne (s : State) (n : Nat) (v : Nat × Nat) : State :=
  let (stat, t, raw) := tsReading s n v
  let s1 := (s.setF (tsF F.THM_TS0_T_STAT n) stat).setF (tsF F.THM_TS0_RAW_RAW n) raw
  let s2 : State := match tsReport s n stat t with
    | some r => { s1.setF (tsF F.THM_TS0_T_T n) (encSigned 16 r) with
                  thm.tsLast := if stat = tsOk then vset s.thm.tsLast n t else s.thm.tsLast }
    | none => s1
  let run := vnth 0 s.thm.tsRun n
  let put (k : Nat) (u : State) : State := { u with thm.tsRun := vset u.thm.tsRun n k }
  if stat = tsOff then (put 0 s2).setB (tsF F.THM_TS0_T_FAULT n) false
  else if s.fb (tsF F.THM_TS0_T_FAULT n) then
    (if stat = tsOk then (if 2 ≤ run then (put 0 s2).setB (tsF F.THM_TS0_T_FAULT n) false else put (run + 1) s2) else put 0 s2)
  else if stat = tsOk || stat = tsUnder then put 0 s2
  else if 2 ≤ run then
    sensorFault (8 + n) stat (tempOf s2 (tsF F.THM_TS0_T_T n)) ((put 0 s2).setB (tsF F.THM_TS0_T_FAULT n) true)
  else put (run + 1) s2

/-! ### The on-die sensors (R417) -/

/-- A list in rising order. -/
def sortInts (l : List Int) : List Int :=
  l.foldr (fun x acc => acc.takeWhile (fun y => decide (y < x)) ++ [x] ++ acc.dropWhile (fun y => decide (y < x))) []

/-- Twice the median of the eight. -/
def median2 (die : List Int) : Int :=
  let l := sortInts die
  nth 0 l 3 + nth 0 l 4

/-- One on-die sensor of a round: excluded, included again, or as it was. -/
def dieOne (m2 : Int) (s : State) (n : Nat) (t : Int) : State :=
  let x := F.THM_DIE0_VALID.at (4 * n)
  let far := decide (320 < (2 * t - m2).natAbs)
  let s1 := s.setF (F.THM_DIE0_T.at (4 * n)) (encSigned 16 t)
  let run := vnth 0 s.thm.dieRun n
  let put (k : Nat) (u : State) : State := { u with thm.dieRun := vset u.thm.dieRun n k }
  if far == s.fb x then
    (if 2 ≤ run then
      (let s2 := (put 0 s1).setB x (!far)
       if far then sensorFault n 5 t s2 else s2)
     else put (run + 1) s1)
  else put 0 s1

/-- The valid on-die sensors as a mask. -/
def dieValid (s : State) : Nat := maskOf ((List.range 8).map (fun n => s.fb (F.THM_DIE0_VALID.at (4 * n))))

/-- T_array from the readings and the sensors in force (R417). -/
def arrayT (s : State) (die : List Int) : Int :=
  let ts := ((List.range 8).filter (fun n => bitOf (dieValid s) n)).map (fun n => nth 0 die n)
  match ts with
  | [] => 16 * s.f F.THM_SD_SD_T
  | t :: r => if ts.length < 4 then 16 * s.f F.THM_SD_SD_T else r.foldl max t

/-! ### Bands (R420) -/

/-- The lower bound of a band. -/
def bandBound : Nat → Int
  | 0 => -100000
  | 1 => -320
  | 2 => 400
  | 3 => 1360
  | _ => 1760

/-- The band a reading leads to from a band. -/
def nextBand (b : Nat) (t : Int) : Nat :=
  let up := (List.range 5).foldl (fun acc k => if bandBound k ≤ t then k else acc) 0
  if b < up then up
  else (List.range 5).foldl (fun acc k => if decide (k ≤ b) && decide (bandBound k - 48 ≤ t) then k else acc) 0

/-- The band in force follows (R419, R420), with THERM_BAND. -/
def bandInForce (s : State) : State :=
  let old := s.f F.THM_STATUS_BAND
  if old = s.thm.band then s
  else ((s.setF F.THM_STATUS_BAND s.thm.band).setB F.THM_STATUS_BAND_CHG true).raise 0xD0
    (q4 old ++ q4 s.thm.band ++ q4i (tempOf s F.THM_TARRAY_T))

/-! ### The throttle (R421, R422) -/

/-- f of a channel as a fraction over 16,000: 1 − slope × (T − knee), slope in 0.1 %/°C. -/
def derate (t knee16 : Int) (slope : Nat) : Nat :=
  if t ≤ knee16 then 16000 else (16000 - (slope : Int) * (t - knee16)).toNat

/-- The factors of the derating channels in order: LIMITER code and value. -/
def derateList (s : State) : List (Nat × Nat) :=
  (0, derate (tempOf s F.THM_TARRAY_T) (16 * s.f F.THM_KNEE_KNEE) (s.f F.THM_KNEE_SLOPE)) ::
    ((List.range 4).filter (fun n => s.fb (tsF F.THM_TS0_LIM_KEN n) && !(s.f (tsF F.THM_TS0_CFG_MODE n) == 0))).map (fun n =>
      (n + 1, if s.fb (tsF F.THM_TS0_T_FAULT n) then 160 * s.f (tsF F.THM_TS0_LIM_FAULT_F n)
        else derate (tempOf s (tsF F.THM_TS0_T_T n)) (16 * s.f (tsF F.THM_TS0_LIM_RKNEE n)) (s.f (tsF F.THM_TS0_LIM_RSLOPE n))))

/-- The smallest factor and the channel that gives it, the first on a tie. -/
def limiting (s : State) : Nat × Nat :=
  (derateList s).foldl (fun b e => if e.2 < b.2 then e else b) (0, 16000)

/-- THM delivers the throttle of a tick (R421), with THERM_THROTTLE when it leaves or regains 1.0 (R422). -/
def throttleNow (s : State) : State :=
  let (who, f) := limiting s
  let thr := f * 0x8000 / 16000
  let low := decide (thr < 0x8000)
  let was := s.fb F.THM_STATUS_THROTTLING
  let s1 := (((s.setF F.THM_THROT_THROT thr).setF F.THM_THROT_LIMITER who).setB F.THM_STATUS_THROTTLING low)
  let s2 := if low && !was then s1.setB F.THM_STATUS_THROT_SEEN true else s1
  if low == was then s2 else s2.raise 0xD1 (q4 thr ++ q4 who ++ q4i (tempOf s F.THM_TARRAY_T))

/-- THM at a tick (R420, R421). -/
def thmTick (s : State) : State := throttleNow (bandInForce s)

/-! ### The fast cadence (R418) -/

/-- Does a channel stand at or above its knee less `d` °C? -/
def hotChannel (s : State) (d : Int) : Bool :=
  decide (16 * ((s.f F.THM_KNEE_KNEE : Int) - d) ≤ tempOf s F.THM_TARRAY_T) ||
    (List.range 4).any (fun n => s.fb (tsF F.THM_TS0_LIM_KEN n) && !(s.f (tsF F.THM_TS0_CFG_MODE n) == 0) &&
      decide (16 * ((s.f (tsF F.THM_TS0_LIM_RKNEE n) : Int) - d) ≤ tempOf s (tsF F.THM_TS0_T_T n)))

/-- A round starts the fast cadence, or lets the time to its end run. -/
def fastRound (s : State) : State :=
  if hotChannel s 8 then { s with thm.fast := true, thm.cool := none }
  else if !s.thm.fast then s
  else if hotChannel s 11 then { s with thm.cool := none }
  else { s with thm.cool := some (s.thm.cool.getD s.time) }

/-- FAST_CADENCE_END (R418): 100 ms below without a break. -/
def fastCadenceEnd (s : State) : State :=
  match s.thm.cool with
  | some t => { s with thm.fast := false, thm.cool := none, time := max s.time (t + 10000000) }
  | none => s

def execFastCadenceEnd (s : State) : Host.Outcome State Fault Refusal := .next (fastCadenceEnd s)

/-! ### THERM_SD (R423, R424) -/

/-- The least-squares slope of the readings, in 1/16 °C per 10 ns; 0 with fewer than two (R423). -/
def slopeOf (h : List (Nat × Int)) : Rat :=
  let n : Rat := (h.length : Nat)
  let sx : Rat := (h.map (fun e => (e.1 : Rat))).sum
  let sy : Rat := (h.map (fun e => (e.2 : Rat))).sum
  let sxx : Rat := (h.map (fun e => (e.1 : Rat) * (e.1 : Rat))).sum
  let sxy : Rat := (h.map (fun e => (e.1 : Rat) * (e.2 : Rat))).sum
  let d := n * sxx - sx * sx
  if h.length < 2 ∨ d = 0 then 0 else (n * sxy - sx * sy) / d

/-- t_p in 10 ns units, unlimited when the rate is not positive (R423). -/
def tripTime (t : Int) (r : Rat) : Option Rat := if r ≤ 0 then none else some (((2480 - t : Int) : Rat) / r)

/-- A running class-1 fade meets a thermal one (R424): it ends at the earlier of the two ends. -/
def fadeMeets (dur : Nat) (s : State) : State :=
  match s.saf.fade with
  | some f => if f.kind = .class1 then { s with saf.fade := some { f with stop := min f.stop (s.time + dur) } } else s
  | none => s

/-- THERM_SD is raised (R423 to R425). -/
def raiseSd (t : Int) (s : State) : State :=
  let r := slopeOf s.thm.hist
  let tp := tripTime t r
  let rate := clampInt (-32768) 32767 (ratRound (r * 1600000))
  let pred := match tp with
    | some x => min 0xFFFE (x / 100000).floor.toNat
    | none => 0xFFFF
  let fade := s.f F.THM_SD_FADE
  let slow := match tp with
    | some x => decide (((fade + 10) * 100000 : Nat) ≤ x)
    | none => true
  let cls := if classOf s Src.thermSd = 1 && slow then 1 else 0
  let s1 := (((s.setF F.THM_RATE_RATE (encSigned 16 rate)).setF F.THM_RATE_T_PRED pred).setB F.THM_STATUS_SD_ACT true).setB
    F.THM_STATUS_SD_SEEN true
  let s2 := (s1.bump F.THM_CNT_SD_CNT).raise 0xD2 (q4i t ++ q4i rate ++ q4 pred ++ q4 cls)
  let s3 := if cls = 1 then fadeMeets (msUnits fade) s2 else s2
  nvmSd (requestStopDur cls Src.thermSd (msUnits fade) (activate Src.thermSd s3))

/-- THERM_SD clears (R423, R425). -/
def clearSd (s : State) : State := nvmSdClear (sourceOff Src.thermSd (s.setB F.THM_STATUS_SD_ACT false))

/-- The shut-down threshold against T_array. -/
def sdCheck (t : Int) (s : State) : State :=
  let sd : Int := 16 * s.f F.THM_SD_SD_T
  if s.sdActive then (if t < sd - 80 then clearSd s else s)
  else if sd ≤ t then raiseSd t s else s

/-! ### A round (R417 to R423) -/

/-- T_array is in force: the peak, the fit's readings, the band (R420, R423, R427). -/
def takeArray (t : Int) (s : State) : State :=
  let s1 := (s.setF F.THM_TARRAY_T (encSigned 16 t)).setF F.THM_TARRAY_VALID (dieValid s)
  let s2 := if tempOf s1 F.THM_PEAK_PEAK < t then s1.setF F.THM_PEAK_PEAK (encSigned 16 t) else s1
  { s2 with thm.hist := ((s2.time, t) :: s2.thm.hist).take 8, thm.band := nextBand s2.thm.band t }

/-- What a round's readings lead to; before the first tick everything at once (R419). -/
def roundOf (die : List Int) (ts : List (Nat × Nat)) (s : State) : State :=
  let s1 := (List.range 8).foldl (fun u n => dieOne (median2 die) u n (nth 0 die n)) s
  let s2 := (List.range 4).foldl (fun u n => tsOne u n (nth (0, 0) ts n)) s1
  let t := arrayT s2 die
  let s3 := sdCheck t (fastRound (takeArray t s2))
  if s3.tck.started then s3 else thmTick s3

/-- THM runs in ACTIVE, HOLD and IDLE, out of reset (R419). -/
def thermalRound (die : List Int) (ts : List (Nat × Nat)) (s : State) : State := if s.off then s else roundOf die ts s

/-- THERMAL_ROUND (R418): the readings of the eight on-die sensors in 1/16 °C, and of TS0 to TS3 in µV at 10 µA and at
100 µA (an NTC has only the second). -/
def execThermalRound (die : List Int) (ts : List (Nat × Nat)) (s : State) : Host.Outcome State Fault Refusal :=
  .next (thermalRound die ts s)

/-! ### The trip (R426) -/

/-- THERMAL_TRIP (R426): a class-0 stop and the THERMAL hold; AON latches the release level, the sensor, the sensors
valid, and the trip's record. -/
def thermalTrip (sensor : Nat) (s : State) : State :=
  if s.off then s
  else
    let s1 := raiseOnce Src.thermTrip s
    let rel := s1.f F.THM_SD_SD_T - 15
    let s2 := (((s1.setF F.THM_TRIP_SENSOR (sensor % 8)).setF F.THM_TRIP_RELEASE rel).setF F.THM_TRIP_FRAME_LO
      (s1.tck.frame % 65536)).bump F.THM_CNT_TRIP_CNT
    let t := coldState false s2
    { t with sys := { t.sys with phase := .inReset, causes := [] }, thm := { trip := some (dieValid s1) } }

def execThermalTrip (sensor : Nat) (s : State) : Host.Outcome State Fault Refusal := .next (thermalTrip sensor s)

/-- TRIP_HOLD_MONITOR (R426): the hold ends in a THERMAL reset once every sensor latched as valid reads below the
release level. -/
def tripHoldMonitor (die : List Int) (s : State) : State :=
  match s.thm.trip with
  | none => s
  | some m =>
    if (List.range 8).all (fun n => !bitOf m n || decide (nth 0 die n < 16 * s.f F.THM_TRIP_RELEASE)) then
      { s with thm.trip := none, sys.causes := s.sys.causes ++ [.thermal] }
    else s

def execTripHoldMonitor (die : List Int) (s : State) : Host.Outcome State Fault Refusal := .next (tripHoldMonitor die s)

/-! ### THERM_READ (R428) -/

/-- Bytes 1 to 47 of the reply. -/
def thermReadReply (s : State) : List Byte :=
  bytesLE 1 (s.f F.THM_STATUS_BAND + 8 * b2n s.thmFast + 16 * s.f F.THM_STATUS_SD_ACT) ++ bytesLE 1 (s.f F.THM_THROT_LIMITER) ++
    bytesLE 1 (s.f F.THM_TARRAY_VALID) ++ bytesLE 2 (s.f F.THM_TARRAY_T) ++ bytesLE 2 (s.f F.THM_THROT_THROT) ++
    (List.range 8).flatMap (fun n => bytesLE 2 (s.f (F.THM_DIE0_T.at (4 * n)))) ++
    (List.range 4).flatMap (fun n => bytesLE 2 (s.f (tsF F.THM_TS0_T_T n))) ++
    (List.range 4).flatMap (fun n => bytesLE 1 (s.f (tsF F.THM_TS0_T_STAT n) + 8 * s.f (tsF F.THM_TS0_T_FAULT n))) ++
    bytesLE 2 (s.f F.THM_RATE_RATE) ++ bytesLE 2 (s.f F.THM_RATE_T_PRED) ++ bytesLE 2 (s.f F.THM_PEAK_PEAK) ++ [0, 0] ++
    bytesLE 4 s.tck.frame

/-- THERM_READ (R428). -/
def thermReadBody (rq : Req) : State → State × Reply := withLen (len rq 0) (fun s => okReply (thermReadReply s) s)

def execThermRead (rq : Req) (s : State) : Host.Outcome State Fault Refusal :=
  .next (command 0x38 rq (thermReadBody rq) s)

end Sys2Proof.Machine
end

