-- ==== Sys2Proof/Machine/Tick.lean ====
section
/-! DEFINITION. The frame tick (R16, R22, R28, R42 to R49, R63 to R69, R80, R88 to R94, R104 to R107, R130 to R132,
R136, R141 to R145, R199, R211 to R214, R232, R236, R246, R247, R271, R272, R277 to R280, R399, R400, R434), TICK_IN
(R47), and a layer's fade (R145). `doTick` is the whole tick; a restart of the tick (R45, R393) runs it too. -/

namespace Sys2Proof.Machine

/-! ### The instant and the number of a tick (R45, R46, R49, R63, R65, R68, R434) -/

/-- The correction asked of this tick: that of an ALIGN_TICK (R65). -/
def alignCorr (s : State) : Rat := match s.tck.corr with | some (1, c) => c | _ => 0

/-- The correction this tick makes: that of an ALIGN_TICK and the pull of TICK_IN; it shortens the period it lands in, as
planned, by at most 2 % (R46, R47, R65). -/
def tickCorr (s : State) : Rat := maxR (-(s.periodLen / 50)) (alignCorr s + s.tck.pull)

/-- The exact instant of the tick that comes; never before the present. -/
def tickInstant (s : State) : Rat :=
  maxR (s.time : Rat) (if s.tck.started then s.nextExact + tickCorr s else firstTick s)

/-- The ALIGN_TICK correction this tick has made leaves a residual, the distance from the instant that was asked for; at 50 ns
or less the tick is aligned (R65, R76). -/
def alignDone (asked : Rat) (s : State) : State :=
  match s.tck.corr with
  | some (1, _) =>
    let res := s.tck.exact - asked
    let s1 := { s with tck.corr := none, tck.alignErr := res, tck.alignAt := s.tck.exact }
    if s.fb F.TCK_STATUS_ALIGNED || decide (5 < absR res) then s1
    else (s1.setB F.TCK_STATUS_ALIGNED true).raise 0x33 (q4 (s.f F.TCK_ALIGN_ERR_ERR))
  | some (n, c) => { s with tck.corr := some (n - 1, c) }
  | none => s

/-- A shortened period cuts test slots (R214). -/
def cutSlots (s : State) : State :=
  if tickCorr s < 0 && s.dia.running then
    s.addF F.DIA_CNT_B_LOST (lostSlots s (s.periodLen + tickCorr s).floor.toNat s.periodLen.floor.toNat)
  else s

/-- TCK_FRAME, TCK_TICK_TIME and ROW at the tick. -/
def tickClock (s : State) : State :=
  let e := tickInstant s
  let t := e.floor.toNat
  let first := s.sys.phase == .boot && !s.tck.started
  let s1 : State := { s with
    time := t
    tck.exact := e
    tck.tickTime := t
    tck.frame := tickNumber s
    tck.row := 0
    tck.started := true
    tck.running := true
    tck.planned := none
    tck.pull := 0
    tck.cut := none
    tck.sixty := false
    tck.setFrame := match s.tck.setFrame with
      | some x => if x.ticks ≤ 1 then none else some { x with ticks := x.ticks - 1 }
      | none => none
    cmd.raised := []
    cmd.window := t }
  if first then { s1.setF F.SYS_BOOT_LIGHT_READY (min 65535 (t / 1000)) with sys.phase := .run, sys.tick0 := some t } else s1

/-! ### Sets (R42, R51, R56, R61, R69, R388) -/

/-- The sets this tick applies (R56). -/
def setsDue (s : State) : List Sampled := s.tck.sets.filter (fun x => x.applyAt == s.tck.frame)

/-- Does a set applied at this tick carry a table? -/
def tabApplied (due : List Sampled) (k : Nat) : Bool := due.any (fun x => x.tabs.any (fun e => e.1 == k))

/-- Does a set hold any item (R388)? The taps in force are the checker's, no items. -/
def Sampled.holdsItem (x : Sampled) : Bool := !x.items.isEmpty || x.tabs.any (fun e => decide (e.1 < 8))

/-- FLIP_ID, FLIP_FRAME and FLIP_TIME latch (R69); a fallback source kept for the flip of the first COMMIT after a service exit is
released (R454). -/
def flipLatch (w : FlipWait) (s : State) : State :=
  let s1 := (((s.setF F.TCK_FLIP_FRAME_FRAME s.tck.frame).setF F.TCK_FLIP_ID_ID w.id).setF F.TCK_FLIP_ID_SRC (b2n w.herd))
  let s2 : State := { s1 with tck.flipTime := s.tck.tickTime, tck.flip := none }
  if s.saf.fbUntilFlip && !w.herd && !w.old then { s2 with saf.fbUntilFlip := false, saf.fbRelease := !(s.lamp == Lamp.safeHold) } else s2

/-- The flip at a swap. -/
def flipAt (swapped : Bool) (s : State) : State :=
  match s.tck.flip with
  | some w => if swapped then flipLatch w s else s
  | none => s

/-- The HERD target whose tick this is: it has been applied (R61). -/
def herdApplied (s : State) : State :=
  match s.tck.herd with
  | some h =>
    if h.applyAt = s.tck.frame then
      { s with tck.herd := none }.setF F.TCK_HERD_INFO_RESULT (if h.late then 2 else 1)
    else s
  | none => s

/-- A rate change breaks the lock to TICK_IN (R47). -/
def rateBreak (oldRate : Nat) (s : State) : State :=
  if s.a F.TCK_CTRL_RATE = oldRate then s
  else
    let s1 := { s with tck.tickInPeriod := 0, tck.tickInRun := 0 }
    if s.fb F.TCK_STATUS_LOCKED then
      ((s1.setB F.TCK_STATUS_LOCKED false).setB F.TCK_STATUS_TICK_UNLOCK true).raise 0x32 (q4 1)
    else s1

/-- C(k) is applied (R16, R42, R51). -/
def applySets (s : State) : State :=
  let due := setsDue s
  let rate := s.a F.TCK_CTRL_RATE
  let s1 : State := { s with
    tck.act := s.tck.act.putAt s.tck.sets s.tck.frame
    tck.sets := s.tck.sets.filter (fun x => !(x.applyAt == s.tck.frame))
    tck.itemsApplied := due.any Sampled.holdsItem
    tck.flip := match due.getLast? with
      | some x => some ⟨s.tck.frame + 1, x.id, x.herd, s.saf.fbExit⟩
      | none => s.tck.flip }
  herdApplied (rateBreak rate s1)

/-! ### The clock source (R32, R43, R44, R399, R400) -/

/-- The final reply of CLK_SWITCH (R413), from byte 1 on. -/
def clkBody (s : State) (reason : Nat) : List Byte :=
  bytesLE 1 (s.f F.PWR_CLK_SEL) ++ bytesLE 1 reason ++ [0] ++ bytesLE 4 s.tck.frame

/-- SRC_ACT shows the source in use; off TICK_IN there is no lock (R44, R47). DESIGN CHOICE (notes/assumptions/23.md): a lock that
ends because a set deselects TICK_IN, or because the core PLL is lost, clears LOCKED with no TICK_UNLOCK. -/
def srcAct (s : State) : State :=
  let v := if s.onFrc then 2 else if s.a F.TCK_CTRL_SRC = 1 then 1 else 0
  let s1 := s.setF F.TCK_STATUS_SRC_ACT v
  if v = 1 then s1 else { s1 with tck.tickInRun := 0 }.setB F.TCK_STATUS_LOCKED false

/-- PIX, DRV and CTL run on FRC from here (R31, R44, R400): TIME_Q is 2. -/
def moveToFrc (s : State) : State :=
  srcAct ((((s.setF F.PWR_CLK_SEL 1).setF F.PWR_CLK_PLL_LOCK 0).setF F.TCK_TIME_Q_Q 2).setF F.TCK_TIME_Q_SRC 1)

/-- PIX, DRV and CTL run on the core PLL from here (R399). -/
def moveToPll (s : State) : State :=
  sourceOff Src.corePll
    ((((s.setF F.PWR_CLK_SEL 0).setF F.PWR_CLK_PLL_LOCK 1).setF F.TCK_TIME_Q_Q 0).setF F.TCK_TIME_Q_SRC 0)

/-- A CLK_SWITCH that waits for this tick (R399, R400): toward the PLL once it has locked. -/
def clkTick (s : State) : State :=
  match s.pwr.clk with
  | none => s
  | some c =>
    if c.toPll then
      if !c.locked s.tck.tickTime then s
      else
        let s1 : State := { moveToPll s with pwr.clk := none, tck.sixty := true, sys.startUp := false }
        finishOp 0x49 St.ok (clkBody s1 0) s1
    else
      let s1 : State := { moveToFrc s with pwr.clk := none }
      finishOp 0x49 St.ok (clkBody s1 0) s1

/-! ### Layers and buffers (R130 to R132, R136, R139, R141 to R145) -/

/-- RETIRING buffers leave at the tick: to COMPLETE, or to FREE with BUF_FREE (R141, R146). -/
def retire (s : State) : State :=
  s.lyr.bufs.foldl (fun t e =>
    if e.2.st = 4 then
      (if e.2.release then (setBuf e.1 { e.2 with st := 0, release := false, filled := 0 } t).raise 0x42 (q4 e.1)
       else setBuf e.1 { e.2 with st := 2 } t)
    else t) s

/-- Is a buffer ready for a set that newly names it (R144, R146)? -/
def bufReady (s : State) (d : Nat) : Bool :=
  match s.buf? d with
  | some b => b.st == 2 || (b.st == 3 && !b.release)
  | none => false

/-- The items of a video layer in the set in force. -/
def layerSet (c : CfgSet) (n : Nat) : Mem 32 := c.regs.filter (fun e => layerOfItem e.1 == some n)

/-- Put a video layer's state. -/
def putLayer (n : Nat) (l : VLayer) (s : State) : State := { s with lyr.v := vset s.lyr.v n l }

/-- Sticky bits of LYR_STATUS.NOT_READY. -/
def notReady (bit layer d : Nat) (s : State) : State :=
  (s.setF F.LYR_STATUS_NOT_READY (s.f F.LYR_STATUS_NOT_READY ||| bit)).raise 0x40 (q4 layer ++ q4 d)

/-- A video layer at the tick (R144, R145): it takes its set if the buffer is ready, else it waits and a fade goes on. DESIGN CHOICE
(notes/assumptions/58.md): a buffer that is COMPLETE exactly at tick T + 4 still counts as one during the fade, so the set applies and the
layer is not disabled. -/
def layerTick (due : List Sampled) (s : State) (n : Nat) : State :=
  let l := s.vLayer n
  let c := s.tck.act
  let d := c.v n F.LYR_V0_BUF_DESC
  if !c.vEn n then putLayer n { regs := layerSet c n, tabs := c.tabs } s
  else if (l.showing && l.a n F.LYR_V0_BUF_DESC == d) || bufReady s d then
    putLayer n { regs := layerSet c n, tabs := c.tabs, showing := true } s
  else
    let s1 := putLayer n { l with waiting := true, misses := min 15 (l.misses + 1), fade := l.fade.map (fun k => min 4 (k + 1)) } s
    let newly := due.any (fun x => x.items.any (fun e => layerOfItem e.1 == some n))
    if l.waiting && !newly then s1 else notReady (2 ^ n) n d s1

/-- BASE at the tick (R136). -/
def baseTick (due : List Sampled) (s : State) : State :=
  let p := s.a F.LYR_BASE_PATTERN
  if 3 < p then (s.setF F.LYR_BASE_SHOWN 7).setB F.LYR_STATUS_BASE_WAIT false
  else if s.baseSlot == p || bufReady s (60 + p) then (s.setF F.LYR_BASE_SHOWN p).setB F.LYR_STATUS_BASE_WAIT false
  else
    let s1 := s.setB F.LYR_STATUS_BASE_WAIT true
    let newly := due.any (fun x => x.items.any (fun e => e.1 == F.LYR_BASE_PATTERN.addr))
    if s.fb F.LYR_STATUS_BASE_WAIT && !newly then s1 else notReady 4 6 p s1

/-- The buffers a set in force shows (R141). -/
def shownBufs (s : State) : List Nat :=
  ((List.range 2).filter (fun n => (s.vLayer n).showing)).map (fun n => (s.vLayer n).a n F.LYR_V0_BUF_DESC) ++
    (if s.baseSlot ≤ 3 then [60 + s.baseSlot] else [])

/-- SCANNING and RETIRING follow what is shown (R141, R142). -/
def scanBufs (s : State) : State :=
  let shown := shownBufs s
  { s with lyr.bufs := s.lyr.bufs.map (fun e =>
      if e.2.st = 2 && shown.contains e.1 then (e.1, { e.2 with st := 3 })
      else if e.2.st = 3 && !shown.contains e.1 then (e.1, { e.2 with st := 4 })
      else e) }

/-- A graphic layer's animation at the tick (R130, R131). -/
def animTick (due : List Sampled) (s : State) (g : Nat) : State :=
  let l := s.gLayer g
  let prev := if l.on then l.table else []
  let x : GLayer :=
    if tabApplied due (4 + g) then ⟨0, tabOf [] s.tck.act.tabs (4 + g), prev, gEnabled s g, []⟩
    else { l with n := l.n + 1, prev := prev, on := gEnabled s g }
  { s with lyr.g := vset s.lyr.g g x }

/-- The tone map at the tick (R139). -/
def toneTick (s : State) : State :=
  match s.lyr.toneNext with
  | none => s
  | some t =>
    let s1 : State := { s with lyr.tone := t, lyr.toneNext := none }
    s1.setF F.LYR_TONE_CRC (toneCrc s1.tonePts)

/-- LYR at the tick. -/
def lyrTick (due : List Sampled) (s : State) : State :=
  let s1 := scanBufs (baseTick due ((List.range 2).foldl (layerTick due) (retire s)))
  let s2 := (List.range 4).foldl (animTick due) s1
  toneTick { s2 with lyr.symSample := s2.lyr.syms, lyr.statReset := false }

/-- The entries the enabled graphic layers draw in the image composed now (R130). -/
def animDrawn (s : State) : List (List Nat) :=
  (List.range 4).map (fun g => if gEnabled s g then (animDue (s.gLayer g).table (s.gLayer g).n).map Prod.fst else [])

/-! ### The swap (R22, R24, R28, R80, R91 to R94) -/

/-- The swap takes place (R28, R80): the image has begun, stands whole in the back words, and nothing suppresses it. -/
def swapOk (s : State) : Bool := s.drv.begun && s.drv.written && !s.drv.noSwap && s.saf.viol.isNone

/-- G_c of an image (R93). -/
def gcOf (i : ImgInfo) : Nat := if i.s = 0 then 0x8000 else min 0x8000 (i.ib * 6553600 * 0x8000 / i.s)

/-- The global swap, or a hold (R80, R93). `fb`: the fallback source drove the image. -/
def swapAt (swapped fb : Bool) (s : State) : State :=
  if !swapped then s
  else
    let i := s.drv.comp
    let s1 : State := { s with
      drv.front := s.drv.back
      drv.back := s.drv.front
      drv.shown := i
      dia.mapShown := s.dia.mapComp
      dia.planShown := some s.dia.plan
      saf.fade := s.saf.fade.map (fun f => { f with fbShown := f.fbShown || (fb && s.fbDrives) }) }
    (((s1.setF F.DRV_IPRED_SHOWN (ipredShown i.s (gcOf i))).setF F.DRV_GOV_STAT_GP i.gp).setF F.DRV_GOV_STAT_GC (gcOf i)).setB
      F.DRV_STATUS_SIG_SHOWN true

/-- The governor budget of the image composed now (R90, R93, R238). -/
def govBudget (s : State) : Nat :=
  match s.saf.fade with
  | some f => if f.kind = .class2 then s.budgetMa else min s.budgetMa f.iStart
  | none => s.budgetMa

/-- G_p of the image composed now (R92), from the image on show. -/
def gpNext (s : State) : Nat :=
  let i := s.drv.shown
  if i.s = 0 then 0x8000 else min 0x8000 (s.a F.DRV_GOV_HEADROOM * govBudget s * i.gp * 6553600 / (100 * i.s))

/-- GOV_LIMIT (R94): G_p or G_c goes below 1.0 after an image in which both were 1.0. `gpOld` is the G_p set at the
tick before. DESIGN CHOICE (notes/assumptions/56.md): a falling G_p is judged when it is set, and the event carries the G_p
set at this tick with G_c and I_pred of the image on show. -/
def govLimit (swapped : Bool) (gpOld gp : Nat) (s : State) : State :=
  let i := s.drv.shown
  let gc := s.f F.DRV_GOV_STAT_GC
  let low := decide (i.gp < 0x8000) || decide (gc < 0x8000)
  let now := (swapped && low && i.gp == 0x8000 && !s.drv.govLow) || (decide (gp < 0x8000) && !low && gpOld == 0x8000)
  let s1 : State := { s with drv.govLow := low }
  let s2 := if low || gp < 0x8000 then s1.setB F.DRV_STATUS_GOV_LIMIT true else s1
  if now then s2.raise 0x62 (q4 gp ++ q4 gc ++ q4 (ipredMa i.s)) else s2

/-! ### D, c and the image that starts (R23, R88, R89, R92, R95, R100) -/

/-- S_v (R89). -/
def svOf (s : State) (mv : Nat) : Nat :=
  let knee := 10 * s.a F.DRV_VSUPF_V_KNEE
  if !s.fb F.SAF_STATE_VLED_EN || !s.pwr.uvArmed || knee ≤ mv then 0x8000
  else max 0x2000 (roundDiv (0x8000 * (10000 - s.a F.DRV_VSUPF_SLOPE * (knee - mv))) 10000)

/-- The supply factor at the tick, with SUPPLY_DERATE once per episode (R89). -/
def supplyTick (mv : Nat) (s : State) : State :=
  let sv := svOf s mv
  let was := s.f F.DRV_SFACT_SV
  let s1 := ({ s with pwr.vledMv := mv }.setF F.DRV_VLED_VLED_MV (min 8191 mv)).setF F.DRV_SFACT_SV sv
  if 0x8000 ≤ sv then s1
  else
    let s2 := s1.setB F.DRV_STATUS_SUPPLY_DERATE true
    if was < 0x8000 then s2 else s2.raise 0x65 (q4 mv ++ q4 sv)

/-- F_img (R23): while F falls its value now, while it rises (R236) its value at tick k + 2. -/
def fImg (s : State) : Nat :=
  match s.saf.fade with
  | none => 0x8000
  | some f =>
    match f.kind with
    | .class2 =>
      if f.iSafe = 0 then 0x8000
      else min 0x8000 (toU15 (f.env (s.tck.tickTime + (2 * s.periodAct).floor.toNat), f.iSafe))
    | _ => toU15 (fadeF s s.tck.tickTime)

/-- D at the tick (R88). -/
def dTick (s : State) : State :=
  let t := s.f F.THM_THROT_THROT
  let f := fImg s
  let d := roundDiv (t * s.f F.DRV_SFACT_SV * f) (2 ^ 30)
  ((s.setF F.DRV_DFACT_THROT t).setF F.DRV_SFACT_FADE f).setF F.DRV_DFACT_D d

/-- The image of the period that starts (R22, R80, R92, R95, R108). -/
def startComp (gp : Nat) (s : State) : State :=
  { s with
    drv.comp := { gp := gp, ib := govBudget s, d := s.f F.DRV_DFACT_D, c := s.f F.DRV_FLUX_CORR, f := s.f F.DRV_SFACT_FADE,
                  anim := animDrawn s }
    drv.rows := 0
    drv.begun := false
    drv.written := false
    drv.noSwap := false
    drv.sig := 0xFFFFFFFF
    drv.dark := []
    saf.viol := none
    dia.mapComp := s.dia.map
    obj.fillRows := 0
    obj.filled := [] }

/-- What acts in DRV from this tick: c after a RESTART (R100), the gains of a FLUX_CAL (R101), PHASE_DIS (R86), the
reference cells charged in the period (R105). -/
def drvLatch (s : State) : State :=
  let s1 : State := { s with
    drv.fopt := s.drv.foptNext.getD s.drv.fopt
    drv.fel := s.drv.felNext.getD s.drv.fel
    drv.foptNext := none
    drv.felNext := none
    drv.phaseDis := s.fb F.DRV_CTRL_PHASE_DIS
    drv.cells := false
    drv.sinceRefresh := s.drv.sinceRefresh + 1
    drv.restart := false }
  if s.drv.restart then s1.setF F.DRV_FLUX_CORR 0x800000 else s1

/-- DRV at the tick, after the swap. -/
def drvTick (swapped : Bool) (mv : Nat) (s : State) : State :=
  let s1 := dTick (supplyTick mv (drvLatch s))
  let gp := gpNext s1
  let s2 := startComp gp (govLimit swapped s.drv.comp.gp gp s1)
  if s2.saf.fade.isSome then currentRefUpdate s2 else s2.setF F.DRV_SCALE_SCALE (s2.f F.DRV_GOV_STAT_GC)

/-- D or c has moved from the held image's (R106), or a graphic layer comes to draw other entries than it did (R390). -/
def holdMoved (s : State) : Bool :=
  let held := s.drv.shown
  let c := s.f F.DRV_FLUX_CORR
  decide (256 * s.f F.DRV_DFACT_D < 255 * held.d) || decide (held.c < 200 * (max c held.c - min c held.c)) ||
    !(animDrawn s == held.anim)

/-- HOLD at the tick (R106, R107, R390): D or c has moved, a row read back differs, or a graphic layer comes to draw
other entries. -/
def holdTick (wordErr : Option Nat) (s : State) : State :=
  if !(s.pwr.state == .hold) then s
  else
    let group := s.drv.readback % 32
    let s1 : State := { s with drv.readback := (group + 1) % 32 }
    let s2 := match wordErr with
      | some r => (s1.setB F.DRV_STATUS_PIXWORD_ERR true).raise 0x66 (q4 (16 * group + r % 16))
      | none => s1
    if wordErr.isSome || holdMoved s then leaveHold s2 else s2

/-! ### The sequencer at the tick (R232, R236, R243, R247) -/

/-- The fallback source is selected or released (R232, R236), and the switches close once the warning has armed (R232). -/
def safTick (s : State) : State :=
  let s1 := if s.saf.fbSelect then s.setB F.SAF_STATE_FB_SRC true else if s.saf.fbRelease then s.setB F.SAF_STATE_FB_SRC false else s
  let s2 : State := { s1 with saf.fbSelect := false, saf.fbRelease := false, saf.fbExit := false }
  if s2.saf.awaitArm && s2.pwr.uvArmed then { s2 with saf.awaitArm := false, saf.switches := true } else s2

/-- CEILING (R28, R247): the image that ended held a violation. While the fallback source drives, and in SAFE_HOLD (R230),
it is taken as class 1. -/
def ceilingTick (viol : Option (Nat × Nat)) (fb : Bool) (s : State) : State :=
  match viol with
  | none => sourceOff Src.ceiling s
  | some (x, y) =>
    let s1 := (((s.bump F.SAF_CEIL_VIOL_CNT).setF F.SAF_CEIL_PIX_X x).setF F.SAF_CEIL_PIX_Y y).raise 0x84 (qPix x y)
    let c := classOf s1 Src.ceiling
    requestStop (if (fb || s.lamp == Lamp.safeHold) && c == 2 then 1 else c) Src.ceiling (activate Src.ceiling s1)

/-! ### The halves at the tick (R270 to R272, R275, R277, R278, R280) -/

/-- A half becomes active and GOOD at the tick (R270, R278). -/
def becomeActive (h : Half) (s : State) : State :=
  let s1 : State := { s with hlv.active := true, hlv.ready := [], hlv.firstBoot := false,
                             hlv.abdicated := s.hlv.abdicated.map (fun x => { x with tick := some s.tck.frame }) }
  let s2 := sourceOff Src.halves (enterGood h s1)
  if s.activeHalf == h then s2
  else if s.hlv.firstBoot then s2.setF F.HLV_ROLE_ACTIVE (halfCode h)
  else changeActive h s2

/-- The half HLV_CTRL.PREF names. -/
def State.prefHalf (s : State) : Half := halfOf (s.f F.HLV_CTRL_PREF)

/-- Does the preferred half still come up in its first boot (R270)? -/
def prefBoots (s : State) : Bool :=
  decide (s.health s.prefHalf ≤ Health.boot) && s.f (ofHalf F.HLV_HEALTH_A_RESTARTS s.prefHalf) == 0

/-- The half that becomes active at this tick, if none is (R270, R278). -/
def nextActive (s : State) : Option Half :=
  if s.hlv.active then none
  else if s.hlv.firstBoot then
    (if s.hlv.ready.contains s.prefHalf then some s.prefHalf else if prefBoots s then none else s.hlv.ready.head?)
  else s.hlv.ready.head?

/-- The activation of a half, and the refuser HALF_SWITCH after a takeover (R275). -/
def activeTick (s : State) : State :=
  let s1 := if s.hlv.abdicated.isNone then s.setB F.HLV_ROLE_REFUSER false else s
  match nextActive s1 with
  | some h => becomeActive h s1
  | none => s1

/-- The ticks of a switch-over (R277, R295). `own`: an image of the active half was swapped in; `fb`: the fallback
pattern drove the period. -/
def heldTick (own fb : Bool) (s : State) : State :=
  if !s.hlv.showNew then s
  else if own && s.hlv.active && s.hlv.abdicated.isNone then
    { s with hlv.showNew := false }.raise 0x91 (q4 (halfCode s.activeHalf) ++ q4 (s.f F.HLV_ROLE_HELD))
  else if fb || s.pwr.state == .hold then s
  else s.bump F.HLV_ROLE_HELD

/-- Grazing at the tick (R271, R272): an image not yet compared is skipped, and the image just composed is grazed in the
period that starts or skipped. -/
def grazeTick (composed : Bool) (s : State) : State :=
  let s0 := skipImage s.hlv.grazeDue s
  let s1 : State := { skipImage (composed && !s.grazing) s0 with hlv.sliceRun := false, hlv.rowCrcs := s.drv.prevIn }
  { s1 with hlv.grazeDue := composed && s.grazing, obj.grazeIn := s.obj.lastIn }

/-- DIVERGE (R280, R281). -/
def diverge (s : State) : State :=
  let s1 := (s.setB F.HLV_ROLE_DIVERGE true).setB F.HLV_STATUS_DIVERGE true
  cancelExchange (raiseSource Src.diverge (s1.raise 0x94 (q4 (s.reg 0x9010).toNat ++ q4 (s.reg 0x9014).toNat)))

/-- The outcome of a quick self-test at the tick that ends it (R280). -/
def quickOutcome (s0 : State) : State :=
  match s0.hlv.quick with
  | some ⟨_, some (passA, passB)⟩ =>
    let s : State := { s0 with hlv.quick := none }
    let passes (h : Half) : Bool := match h with | .a => passA | .b => passB
    let st := s.standby
    if !s.hlv.active || s.hlv.abdicated.isSome then s
    else if !passes s.activeHalf then
      if !passes st then abdicate 5 (failHalf st 5 s)
      else if s.health st == Health.good then
        let t := abdicate 5 s
        { t with drv.noSwap := false,
                 hlv.abdicated := t.hlv.abdicated.map (fun x => { x with tick := some s.tck.frame, sampled := true }) }
      else abdicate 5 s
    else if !passes st then failHalf st 5 s
    else if s.health st == Health.good then diverge s
    else if s.health st == Health.proving then failHalf st 8 s
    else s
  | _ => s0

/-! ### The tick -/

/-- OBJ at the tick (R170, R178): a sample taken since the tick before is that of the image being composed. -/
def objTick (s : State) : State :=
  if !s.obj.taken then s
  else staleEvent s.obj.cur s.obj.next { s with obj.cur := s.obj.next, obj.taken := false }

/-- The record of a boot quick test, or of a test that a service request ended, is written after first light (R436,
R454, R456); a service exit with the lamp DARK or STOPPED writes it at once. -/
def quickRecTick (swapped : Bool) (s : State) : State :=
  match s.nvm.quickRec with
  | some (c, r) =>
    if swapped && (s.saf.switches || (s.nvm.testEnd.isSome && (s.lamp == Lamp.dark || s.lamp == Lamp.stopped))) then
      nvmPush none (bistOps c r) { s with nvm.quickRec := none }
    else s
  | none => s

/-- The HERDs with SNAP whose tick this is, by ID (R67): the target applied, and one with SET_FRAME. -/
def snapsDue (s : State) : List Nat :=
  (match s.tck.herd with
   | some h => if h.applyAt = tickNumber s && h.snap then [h.id] else []
   | none => []) ++
  (match s.tck.setFrame with
   | some x => if x.ticks ≤ 1 && x.snap then [x.id] else []
   | none => [])

/-- A tick (R49): the frame ends, the swap takes place, C(k) is applied, and what acts at the tick acts; a HERD's snapshot
follows all of it (R374, R375). `mv` is VLED_SENSE; `wordErr` a row read back in HOLD that differs. -/
def doTick (mv : Nat) (wordErr : Option Nat) (s : State) : State :=
  let swapped := swapOk s
  let fb := fallbackDrives s
  let composed := s.drv.comp.rowIn.length == 512
  let viol := s.saf.viol
  let a := frameEvents (sweepAdvance (cutSlots (if s.tck.started && herdSampleDue s then herdSample s else s)))
  let b := alignDone (s.nextExact + alignCorr s) (tickClock a)
  let c := applySets (flipAt swapped (swapAt swapped fb b))
  let due := setsDue { c with tck.sets := b.tck.sets }
  let d := srcAct (clkTick c)
  let e := objTick (lyrTick due (safTick d))
  let f := holdTick wordErr (drvTick swapped mv (thmTick e))
  let g := testGate swapped (switchesAtTick swapped f)
  let h := grazeTick composed (heldTick (swapped && composed && !fb) fb (activeTick g))
  bootDoneCheck ((snapsDue a).foldl (fun t id => herdSnap id t) (quickOutcome (ceilingTick viol fb (quickRecTick swapped h))))

/-- TICK (R45, R49): in ACTIVE and HOLD while the tick runs, and the first of a boot once its quick test is over. The tick
brings the measurement of VSUP (R406; notes/assumptions/63.md). -/
def tick (env : TickEnv) (s : State) : State :=
  if s.off || s.pwr.state == .idle || !(s.tck.running || (s.sys.phase == .boot && s.nvm.test.isNone)) then s
  else doTick env.vledMv env.wordErr { s with pwr.vsupMv := env.vsupMv, pwr.vsupAt := (tickInstant s).floor.toNat }

def execTick (env : TickEnv) (s : State) : Host.Outcome State Fault Refusal := .next (tick env s)

/-! ### A layer's fade (R145) -/

/-- LAYER_MISS_LIMIT (R145): the misses of a waiting layer have reached MISS_LIMIT: its fade begins. -/
def layerMissLimit (s : State) : State :=
  (List.range 2).foldl (fun t n =>
    let l := t.vLayer n
    if l.waiting && l.fade.isNone && decide (max 1 (l.a n F.LYR_V0_CTRL_MISS_LIMIT) ≤ l.misses) then putLayer n { l with fade := some 0 } t
    else t) s

def execLayerMissLimit (s : State) : Host.Outcome State Fault Refusal := .next (layerMissLimit s)

/-- LAYER_DISABLED (R145): four ticks after the fade began the layer's enable bit is cleared, active and pending. -/
def layerDisabledOne (t : State) (n : Nat) : State :=
  if (t.vLayer n).fade = some 4 then
    let off (w : Word) : Word := withField w n n 0
    let t1 : State := { t with tck.act := { t.tck.act with regs := Mem.write 0 t.tck.act.regs 0x4000 (off (Mem.read 0 t.tck.act.regs 0x4000)) } }
    let t2 := putLayer n { regs := layerSet t.tck.act n, tabs := t.tck.act.tabs } (t1.setReg 0x4000 (off (t1.reg 0x4000)))
    scanBufs ((t2.setF F.LYR_STATUS_LAYER_DISABLED (t2.f F.LYR_STATUS_LAYER_DISABLED ||| 2 ^ n)).raise 0x41 (q4 n))
  else t

def layerDisabled (s : State) : State := (List.range 2).foldl layerDisabledOne s

def execLayerDisabled (s : State) : Host.Outcome State Fault Refusal := .next (layerDisabled s)

/-! ### TICK_IN (R47) -/

/-- Is an interval within ±2 % of the configured period? -/
def inLockRange (s : State) (d : Nat) : Bool :=
  let p := periodR (s.a F.TCK_CTRL_RATE)
  decide (absR ((d : Rat) - p) * 50 ≤ p)

/-- The pull of an edge: the next tick moves toward 40 ns after the edge, by at most 2 % of the period. -/
def edgePull (s : State) : Rat :=
  let p := s.periodAct
  let r := ratMod (s.nextExact - ((s.time + 4 : Nat) : Rat)) p
  let e := if p / 2 < r then r - p else r
  maxR (-(p / 50)) (minR (p / 50) (-e))

/-- Lock to TICK_IN is lost: reason 0 a missing edge, 1 an interval out of range. -/
def tickInLost (reason : Nat) (s : State) : State :=
  let s1 := { s with tck.tickInRun := 0, tck.pull := 0 }
  if s.fb F.TCK_STATUS_LOCKED then
    ((s1.setB F.TCK_STATUS_LOCKED false).setB F.TCK_STATUS_TICK_UNLOCK true).raise 0x32 (q4 reason)
  else s1

/-- Lock is gained once four edges in a row lie within the range and the tick after the edge before came 40 ns ± 10 ns
after it. -/
def tickInLock (prev : Nat) (s : State) : State :=
  if !s.fb F.TCK_STATUS_LOCKED && decide (4 ≤ s.tck.tickInRun) && inRange s.tck.tickTime (prev + 3) (prev + 5) then
    (s.setB F.TCK_STATUS_LOCKED true).raise 0x31 []
  else s

/-- TICK_IN_EDGE (R47): a rising edge, now. DESIGN CHOICE (notes/assumptions/55.md): the first edge, and an edge that ends an
out-of-range interval, is the first of the 4 edges in a row, so three intervals in range give lock. -/
def tickInEdge (s : State) : State :=
  if s.onFrc || !(s.a F.TCK_CTRL_SRC == 1) || !s.tck.running then s
  else
    let s1 := { s with tck.tickInEdge := some s.time }
    match s.tck.tickInEdge with
    | none => { s1 with tck.tickInRun := 1 }
    | some prev =>
      if inLockRange s (s.time - prev) then
        let s2 := { s1 with tck.tickInRun := s.tck.tickInRun + 1, tck.tickInPeriod := s.time - prev }
        tickInLock prev { s2 with tck.pull := edgePull s2 }
      else { tickInLost 1 s1 with tck.tickInRun := 1 }

def execTickInEdge (s : State) : Host.Outcome State Fault Refusal := .next (tickInEdge s)

/-- TICK_IN_TIMEOUT (R47): no valid edge within 1.25 configured periods of the last one: holdover. -/
def tickInTimeout (s : State) : State :=
  if s.onFrc || !(s.a F.TCK_CTRL_SRC == 1) || !s.tck.running then s
  else
    let t := (s.tck.tickInEdge.getD s.time) + (periodR (s.a F.TCK_CTRL_RATE) * (5 / 4)).floor.toNat
    tickInLost 0 { s with time := max s.time t, tck.tickInEdge := none }

def execTickInTimeout (s : State) : Host.Outcome State Fault Refusal := .next (tickInTimeout s)

end Sys2Proof.Machine
end

