-- ==== Sys2Proof/Machine/Banks.lean ====
section
/-! DEFINITION. Banks of the image store that are LOST (R148, R183, R401, R402): what their loss frees and disables,
and their reload from the eNVM; the load of the failed-pixel map (R221). -/

namespace Sys2Proof.Machine

/-! ### The failed-pixel map (R221) -/

/-- The copy of the map that a load takes: the valid one with the newer sequence number. -/
def mapSource (s : State) : Option MapCopy :=
  let a := s.nvm.mapA
  let b := s.nvm.mapB
  if firstInForce a.valid b.valid a.seq b.seq then some a else if b.valid then some b else none

/-- COPY_A_BAD and COPY_B_BAD, and MAP_COPY_BAD with the mask of the copies that fail. -/
def mapCopyBad (s : State) : State :=
  let bad := maskOf [!s.nvm.mapA.valid, !s.nvm.mapB.valid]
  let s1 := if s.nvm.mapA.valid then s else s.setB F.DIA_STATUS_COPY_A_BAD true
  let s2 := if s.nvm.mapB.valid then s1 else s1.setB F.DIA_STATUS_COPY_B_BAD true
  if bad = 0 then s2 else s2.raise 0x78 (q4 bad)

/-- The failed-pixel map is loaded (R221, R222): the fault list is empty. Segments mapped whole are isolated at the tick that
first shows the map (R211). -/
def loadMap (s : State) : State :=
  let m := mapSource s
  let px := match m with | some c => c.pixels | none => []
  let s1 : State := { s with
    dia.map := px
    dia.faults := []
    dia.changed := false }
  mapCopyBad ((s1.setF F.DIA_MAPSEQ_SEQ_A s.nvm.mapA.seq).setF F.DIA_MAPSEQ_SEQ_B s.nvm.mapB.seq)

/-- The copy of the safety record in force (R252): the valid one with the higher sequence number. -/
def safeSource (s : State) : Option SafeRec :=
  if recA s then some s.saf.copyA.data else if s.saf.copyB.valid then some s.saf.copyB.data else none

/-! ### What a loss frees (R148, R402) -/

/-- Does a run of bytes touch a bank of the mask? -/
def touches (mask a n : Nat) : Bool :=
  (List.range 32).any (fun k => bitOf mask k && overlap a n (0x100000 * k) 0x100000)

/-- Descriptors that a loss frees. -/
def lostBufs (s : State) (mask : Nat) : List Nat :=
  (s.lyr.bufs.filter (fun e => !(e.2.st == 0) && touches mask e.2.addr e.2.size)).map Prod.fst

/-- Symbols that a loss frees. -/
def lostSyms (s : State) (mask : Nat) : List Nat :=
  (s.lyr.syms.filter (fun e => touches mask ((symRegion s).1 + 64 * e.2.addr) e.2.bytes)).map Prod.fst

/-- A video layer that shows a freed buffer is disabled, active and pending (R148). -/
def disableV (freed : List Nat) (s : State) (n : Nat) : State :=
  let l := s.vLayer n
  if l.showing && freed.contains (l.a n F.LYR_V0_BUF_DESC) then
    let off (w : Word) : Word := withField w n n 0
    let s1 : State := { s with tck.act := { s.tck.act with regs := Mem.write 0 s.tck.act.regs 0x4000 (off (Mem.read 0 s.tck.act.regs 0x4000)) } }
    putLayer n { regs := layerSet s1.tck.act n, tabs := s1.tck.act.tabs } (s1.setReg 0x4000 (off (s1.reg 0x4000)))
  else s

/-- BASE showing a lost slot takes PATTERN = 7, active and pending (R148). -/
def disableBase (freed : List Nat) (s : State) : State :=
  if s.baseSlot ≤ 3 && freed.contains (60 + s.baseSlot) then
    let x := F.LYR_BASE_PATTERN
    let off (w : Word) : Word := withField w x.hi x.lo 7
    let s1 : State := { s with tck.act := { s.tck.act with regs := Mem.write 0 s.tck.act.regs x.addr (off (Mem.read 0 s.tck.act.regs x.addr)) } }
    ((s1.setReg x.addr (off (s1.reg x.addr))).setF F.LYR_BASE_SHOWN 7).setB F.LYR_STATUS_BASE_WAIT false
  else s

/-- A graphic layer whose active table draws a freed symbol is disabled, active and pending (R402). -/
def disableG (freed : List Nat) (s : State) (g : Nat) : State :=
  if gEnabled s g && freed.any (tableNames (s.gLayer g).table) then
    let i := F.LYR_CTRL_G_EN.lo + g
    let off (w : Word) : Word := withField w i i 0
    let s1 : State := { s with tck.act := { s.tck.act with regs := Mem.write 0 s.tck.act.regs 0x4000 (off (Mem.read 0 s.tck.act.regs 0x4000)) } }
    s1.setReg 0x4000 (off (s1.reg 0x4000))
  else s

/-- The pool's part of a loss: banks 5 to 31. The bytes of a lost bank read 0 from here (notes/assumptions/10.md). -/
def losePool (mask : Nat) (s : State) : State :=
  let bufs := lostBufs s mask
  let syms := lostSyms s mask
  let s1 : State := { s with
    lyr.bufs := s.lyr.bufs.map (fun e =>
      if bufs.contains e.1 then (e.1, { e.2 with st := 0, release := false, filled := 0, lost := true }) else e)
    lyr.syms := s.lyr.syms.filter (fun e => !syms.contains e.1)
    lyr.store := s.lyr.store.filter (fun e => !bitOf mask (e.1 / 0x100000)) }
  (List.range 4).foldl (disableG syms) (disableBase bufs ((List.range 2).foldl (disableV bufs) s1))

/-- The registers that lie in bank 4: those of LYR, OBJ_CTRL and OBJ_GEOM (R148, R183), and those of OBJ that are kept
across IDLE only if the retention check passes (R184); the optics map and MAP_VALID follow the reload of R165. -/
def inBank4 (a : Nat) : Bool := inRange a 0x4000 0x4FFF || [0x5000, 0x5004, 0x5018, 0x5020, 0x5024, 0x502C].contains a

/-- Reset values in place of the registers of bank 4. -/
def lyrRegsReset (m : Mem 32) : Mem 32 :=
  (regRows.filter (fun r => inBank4 r.addr)).foldl
    (fun t r => Mem.write 0 t r.addr (if r.addr = F.OBJ_STATUS_MAP_VALID.addr then
      Mem.read 0 m r.addr &&& 0x200#32 else BitVec.ofNat 32 r.reset)) m

/-- The same of the set in force. -/
def lyrItemsReset (m : Mem 32) : Mem 32 :=
  (regRows.filter (fun r => r.item && inBank4 r.addr)).foldl
    (fun t r => Mem.write 0 t r.addr (BitVec.ofNat 32 r.reset)) m

/-- Bank 4's part of a loss: LYR and the objects return to reset; the pending set, the sampled sets and the journal are
discarded, but for the entry of a BIST_RUN (R458). -/
def loseBank4 (s : State) : State :=
  { s with
    regs := lyrRegsReset s.regs
    lyr := { store := s.lyr.store }
    obj := { map := s.obj.map }
    tck.act := ⟨lyrItemsReset s.tck.act.regs, []⟩
    tck.tabs := []
    tck.dirty := []
    tck.dirtyTabs := []
    tck.sets := []
    tck.herd := none
    tck.flip := none
    cmd.journal := s.cmd.journal.filter (fun e => e.op == 0x68) }

/-- Banks are LOST (R401, R402): BUF_LOST, and what lay in them. -/
def loseBanks (mask : Nat) (s : State) : State :=
  if mask = 0 then s
  else
    let nb := (lostBufs s mask).length
    let ns := (lostSyms s mask).length
    let s1 := losePool mask s
    let s2 := if bitOf mask 4 then loseBank4 s1 else s1
    let s3 : State := { s2 with pwr.reload := s2.pwr.reload ||| mask % 32 }
    (s3.setB F.PWR_FLAGS_BUF_LOST true).raise 0xC5 (q4 mask ++ q4 nb ++ q4 ns)

/-! ### The reload (R26, R96, R165, R221, R402) -/

/-- The gains are recomputed from the stored factors. -/
def reloadGains (s : State) : State :=
  { s with drv.fopt := s.nvm.fopt, drv.fel := s.nvm.fel, drv.foptNext := none, drv.felNext := none }

/-- MAP_INVALID: neither copy of the safety record is valid (R165). -/
def mapInvalid (s : State) : State := (setMap none s).raise 0x54 (q4 (maskOf [!s.saf.copyA.valid, !s.saf.copyB.valid]))

/-- The optics map is reloaded from the safety record in force (R165); with neither copy valid there is none. -/
def reloadOptics (s : State) : State :=
  match safeSource s with
  | some r => (setMap r.map s).setB F.OBJ_STATUS_MAP_RELOAD true
  | none => mapInvalid s

/-- The banks of the mask, 0 to 4, are reloaded. -/
def reloadBanks (mask : Nat) (s : State) : State :=
  let s1 := if mask % 4 = 0 then s else reloadGains s
  let s2 := if bitsOf mask 3 2 = 0 then s1 else loadFallback s1
  let s3 := if bitOf mask 4 then loadMap (reloadOptics s2) else s2
  { s3 with pwr.reload := s3.pwr.reload &&& (0x1F - mask % 32) }

/-- BANK_RELOAD (R402): what is lost and not yet reloaded. -/
def execBankReload (s : State) : Host.Outcome State Fault Refusal :=
  .next (if s.off then s else reloadBanks s.pwr.reload s)

end Sys2Proof.Machine
end

