-- ==== Sys2Proof/Machine/TestRun.lean ====
section
/-! DEFINITION. The self-tests (R449 to R458, R465): how a test starts, what a step leaves, how a run ends; the commands
BIST_RUN and SHUTDOWN. The row of a step's end is in `Boot.lean`, which goes on after the boot quick test. -/

namespace Sys2Proof.Machine

/-! ### Repairs (R452) -/

/-- The rows of the image store a step marches, by bank (R450, R456). -/
def stepBanks (type n : Nat) : Nat :=
  if type = 1 then (if n = 1 then 0xFFFF else if n = 2 then 0xFFFF0000 else 0)
  else if inRange n 1 8 then 0xF * 16 ^ (n - 1) else 0

/-- The faults of a step that lie in the banks it marches. -/
def storeFaults (banks : Nat) (found : List StepFault) : List StepFault :=
  found.filter (fun x => decide (x.addr < 0x2000000) && bitOf banks (x.addr / 0x100000))

/-- The bank and the 1 KiB row of an address. -/
def rowOf (a : Nat) : Nat × Nat := (a / 0x100000, a % 0x100000 / 1024)

/-- A failing row takes the next spare row of its bank, if one is left. A row that fails with a spare in its place takes a
further one; the failing spare stays in use and in the map, where the last entry of a row is the one that acts. -/
def spareFor (map : List (Nat × Nat × Nat)) (r : Nat × Nat) : List (Nat × Nat × Nat) :=
  let used := countP (fun e => e.1 == r.1) map
  if 8 ≤ used then map else map ++ [(r.1, used, r.2)]

/-- The spare rows in use once the faults of a step are repaired: one for each failing row. -/
def repaired (map : List (Nat × Nat × Nat)) (faults : List StepFault) : List (Nat × Nat × Nat) :=
  (faults.map (fun x => rowOf x.addr)).eraseDups.foldl spareFor map

/-- Banks left with a word that fails in two or more bits: in a row that took no spare. `taken` are the entries this step
adds to the map. -/
def badBanks (taken : List (Nat × Nat × Nat)) (faults : List StepFault) : Nat :=
  maskOf ((List.range 32).map (fun k => faults.any (fun x =>
    x.addr / 0x100000 == k && !taken.any (fun e => e.1 == k && e.2.2 == (rowOf x.addr).2) &&
      faults.any (fun y => y.addr / 8 == x.addr / 8 && !(y.bit == x.bit)))))

/-- NVM_REPAIR: spare rows in use, and the banks with all 8 used (R460). -/
def setRepair (map : List (Nat × Nat × Nat)) (s : State) : State :=
  let full := countP (fun k => decide (8 ≤ countP (fun e => e.1 == k) map)) (List.range 32)
  ({ s with nvm.repair := map }.setF F.NVM_REPAIR_USED (min 255 map.length)).setF F.NVM_REPAIR_FULL full

/-- NVM_BANK_BAD after banks were marched. -/
def setBankBad (banks bad : Nat) (s : State) : State :=
  s.setReg 0xE020 (BitVec.ofNat 32 (((s.reg 0xE020).toNat &&& (0xFFFFFFFF - banks)) ||| bad))

/-! ### A run -/

/-- The copy a run writes: the one that is not the newest valid one (R442). -/
def bistTarget (s : State) : Nat := match bistNewest s with | some (0, _) => 1 | _ => 0

/-- SEQ of the next record. -/
def bistSeq (s : State) : Nat := match bistNewest s with | some (_, r) => (r.seq + 1) % 2 ^ 32 | none => 1

/-- The record of a run as it starts (R451). -/
def newRec (s : State) (type stepsEnd origin : Nat) : BistRec :=
  ⟨true, bistSeq s, type, 0, stepsEnd, origin, s.minutes, [], s.nvm.repair.length, (s.reg 0xE020).toNat, s.nvm.repair⟩

/-- NVM_BIST: the run's origin, its steps completed and its faults (R460). -/
def showTest (t : BistRec) (s : State) : State :=
  ((s.setF F.NVM_BIST_ORIGIN t.origin).setF F.NVM_BIST_STEP t.step).setF F.NVM_BIST_FAULTS (min 65535 s.nvm.testFound)

/-- A run begins. -/
def beginTest (t : BistRec) (s : State) : State :=
  showTest t { s with nvm.test := some t, nvm.testCopy := bistTarget s, nvm.stepNow := 0, nvm.testAbort := false, nvm.testEnd := none,
                      nvm.testFound := 0, nvm.testAsked := s.time }

/-- The shut-down self-test (R449, R450): step 0 opens the record. -/
def startTest (origin : Nat) (s : State) : State :=
  let t := newRec s 0 16 origin
  nvmPush none [.bist (bistTarget s) 0 t] (beginTest t s)

/-- The step after step `n` of a run: of the boot quick test and of BIST_RUN MODE 0 four, of MODE 1 the steps 1 to 11, 14
and 15, of the shut-down test 15 (R450, R456, R457). -/
def nextStep (t : BistRec) (n : Nat) : Option Nat :=
  if t.type = 1 then (if n < 4 then some (n + 1) else none)
  else if t.origin = 2 && n == 11 then some 14
  else if n < 15 then some (n + 1) else none

/-- The words of every pixel after a march on them: what it leaves is not stated (notes/assumptions/5.md). -/
def marchedWords (s : State) (k : Nat) : Mem 16 :=
  Mem.entries 0 0 ((List.range 1048576).map (fun i => BitVec.ofNat 16 (Config.freeValue 65 (0x200000 * s.fresh + 0x100000 * k + i)).toNat))

/-- A step's march of the in-pixel memory (R450). -/
def marchPixels (t : BistRec) (n : Nat) (s : State) : State :=
  if n = (if t.type = 1 then 3 else 9) then
    { s with drv.front := marchedWords s 0, drv.back := marchedWords s 1, fresh := s.fresh + 1 }
  else s

/-- The entries a step adds to the record (R451). -/
def faultEntries (n : Nat) (found : List StepFault) : List (List Byte) :=
  found.map (fun x => bytesLE 1 n ++ bytesLE 1 x.kind ++ bytesLE 1 x.bit ++ [0] ++ bytesLE 4 x.addr)

/-- What a step that ends, complete or stopped, leaves: its faults, the repairs and the banks left bad (R451, R452). -/
def stepResult (t : BistRec) (n : Nat) (found : List StepFault) (complete : Bool) (s : State) : State :=
  let banks := stepBanks t.type n
  let fs := storeFaults banks found
  let map := repaired s.nvm.repair fs
  let s1 := setBankBad banks (badBanks (map.drop s.nvm.repair.length) fs) (setRepair map (marchPixels t n s))
  let t1 : BistRec := { t with
    step := if complete then n else t.step
    faults := (t.faults ++ faultEntries n found).take 1912
    spares := map.length
    repair := map
    bankBad := (s1.reg 0xE020).toNat }
  showTest t1 { s1 with nvm.test := some t1, nvm.testFound := s.nvm.testFound + found.length }

/-- Step 16 of the shut-down test (R450): the record and the repair map go to the opened copy, then to the other one, each
with SEQ one above the newest (R442). -/
def finishTest (t : BistRec) (s : State) : State :=
  let t1 := { t with step := t.stepsEnd }
  let c := s.nvm.testCopy
  nvmPush none (bistOps c t1 ++ bistOps (1 - c) { t1 with seq := (t1.seq + 1) % 2 ^ 32 })
    (showTest t1 { s with nvm.test := some t1, nvm.testEnd := some St.ok, nvm.stepNow := 16 })

/-- A BIST_RUN's run ends (R457): the marched banks are LOST and handled, nothing more is composed in this period, and
the record is written. -/
def endBistRun (t : BistRec) (st : Nat) (s : State) : State :=
  let t1 := if st = St.ok then { t with step := t.stepsEnd } else t
  let s1 := showTest t1 { s with nvm.test := some t1, nvm.testEnd := some st, pwr.marched := 0, drv.noSwap := true, drv.begun := false }
  nvmPush none (bistOps s.nvm.testCopy t1) (bistDone t1 st (loseBanks s.pwr.marched s1))

/-- A step of a shut-down test or of a BIST_RUN ends: the next one starts, or the run ends. -/
def runStep (t : BistRec) (found : List StepFault) (s : State) : State :=
  let n := s.nvm.stepNow
  let stopped := s.nvm.testAbort
  let s1 := stepResult t n found (!stopped) s
  match s1.nvm.test with
  | none => s1
  | some t1 =>
    if stopped then endBistRun t1 St.aborted s1
    else match nextStep t1 n with
      | some m => beginStep m s1
      | none => if t1.origin = 2 then endBistRun t1 St.ok s1 else finishTest t1 (bistDone { t1 with step := 16 } St.ok s1)

/-! ### BIST_RUN (R457, R458, R465) -/

/-- BIST_RUN: MODE, the lamp state, and THERM_SD (R425). Its first step waits for an empty queue. -/
def bistRunBody (rq : Req) : State → State × Reply :=
  withLen (len rq 4) (fun s =>
    let mode := u8 rq.payload 0
    let t := if mode = 0 then newRec s 1 4 2 else newRec s 0 16 2
    let no : BistRec := { newRec s 0 16 2 with seq := 0 }
    if 1 < mode then refuse St.badParam s
    else if !(s.lamp == Lamp.dark || s.lamp == Lamp.stopped) then (s, .final St.refusedState (bistBody no 0))
    else if s.nvm.test.isSome then (s, .final St.refusedState (bistBody no 7))
    else if s.sdActive then (s, .final St.refusedState (bistBody no 0xFF))
    else (beginTest t s, .accepted [] 0 []))

/-- The first step of a BIST_RUN starts once it is the only command and every reply has been sent (R458), outside a pause
(R450); the image in composition is not swapped in (R457). -/
def bistStart (s : State) : State :=
  match s.nvm.test with
  | some t =>
    if t.origin = 2 && s.nvm.stepNow == 0 && s.nvm.testEnd.isNone && s.executes && !s.testPaused && s.queued == 1 && !s.cmd.out.any (fun p => p.type == 1) then
      beginStep 1 (if s.drv.begun && !s.drv.written then { s with drv.noSwap := true } else s)
    else s
  | none => s

def execBistRun (rq : Req) (s : State) : Host.Outcome State Fault Refusal := .next (bistStart (command 0x68 rq (bistRunBody rq) s))

/-- BIST_RUN_WAIT_TIMEOUT (R458): 10 ms have passed and no step has run. -/
def execBistRunWaitTimeout (s : State) : Host.Outcome State Fault Refusal :=
  .next (match s.nvm.test with
    | some t =>
      if t.origin = 2 && s.nvm.stepNow == 0 && s.nvm.testEnd.isNone then
        endWaiting St.busy t { s with time := max s.time (s.nvm.testAsked + 1000000) }
      else s
    | none => s)

/-! ### SHUTDOWN (R220, R405, R449, R465) -/

/-- The record of the lamp-on minutes with c (R405, R444). -/
def saveLife (s : State) : State :=
  nvmPush none [.life ⟨s.nvm.life.seq + 1, s.minutes, s.f F.DRV_FLUX_CORR, s.nvm.boots, s.nvm.shutdowns⟩] s

/-- The saves of SHUTDOWN (R220, R405). -/
def shutSaves (s : State) : State := saveLife (if s.dia.changed then mapSave (askSave none s) else s)

/-- SHUTDOWN: key 1 with TEST. It is refused by any refuser of IDLE; else the saves start and IDLE is asked for. -/
def shutdownBody (rq : Req) : State → State × Reply :=
  withLen (len rq 4) (fun s =>
    let m := refusing s 2
    let no : BistRec := { newRec s 0 16 0 with seq := 0 }
    if m = 0 then
      (shutSaves { s with pwr.idleReq := some ⟨.shutdown, s.tck.frame, true⟩ },
        .accepted [] (b2n (bitOf (u8 rq.payload 0) 0)) [])
    else (noteRefusal 2 m s, .final St.refusedState (bistBody no (lowestBit 12 0 m))))

def execShutdown (rq : Req) (s : State) : Host.Outcome State Fault Refusal := .next (command 0x6A rq (shutdownBody rq) s)

end Sys2Proof.Machine
end

