-- ==== Sys2Proof/Machine/Packets.lean ====
section
/-! DEFINITION. Packets on the ring and on the service port (R329 to R345, R350, R356 to R358): the
reception checks, what passes, what is inserted, and the SPI operations. -/

namespace Sys2Proof.Machine

/-- A packet header (R329). -/
structure Hdr where
  dest : Nat
  type : Nat
  stream : Nat
  quiet : Bool
  op : Nat
  tag : Nat
  alive : Nat
  len : Nat
  arg : Nat
deriving DecidableEq, Repr

/-- The header fields of the first 12 bytes (R329). -/
def readHdr (bs : List Byte) : Hdr :=
  ⟨bitsOf (u8 bs 0) 4 0, bitsOf (u8 bs 0) 7 5, bitsOf (u8 bs 1) 2 0, bitOf (u8 bs 1) 3, u8 bs 2, u8 bs 3,
   u8 bs 4, u16 bs 6, leNat (slice bs 8 3)⟩

/-- HCRC over bytes 0 to 10 (R330); fewer than 12 bytes hold no header. -/
def hcrcOk (bs : List Byte) : Bool := decide (12 ≤ bs.length) && u8 bs 11 == hcrc (bs.take 11)

/-- The packet CRC over header and payload (R330). -/
def pktCrcOk (bs : List Byte) : Bool :=
  decide (16 ≤ bs.length) && u32 bs (bs.length - 4) == crc32 (bs.take (bs.length - 4))

/-- The bytes of a packet (R329, R330). -/
def encodePkt (dest type b1 op tag alive arg : Nat) (payload : List Byte) : List Byte :=
  let h := bytesLE 1 (dest + type * 32) ++ bytesLE 1 b1 ++ bytesLE 1 op ++ bytesLE 1 tag ++
    bytesLE 1 alive ++ [0] ++ bytesLE 2 payload.length ++ bytesLE 3 arg
  let hp := h ++ bytesLE 1 (hcrc h) ++ payload
  hp ++ bytesLE 4 (crc32 hp)

/-- The sender's address in ARG: 31 while unaddressed (R329). -/
def State.sender (s : State) : Nat := if s.fb F.RNG_ADDR_VALID then s.f F.RNG_ADDR_ADDR else 31

/-- The bytes of a packet of the engine (R341, R351); a LANE_NOTICE is addressed to 31 (R327). -/
def outBytesOf (s : State) (p : OutPkt) : List Byte :=
  encodePkt (if p.type = 5 && p.op = 0x02 then 31 else 0) p.type (p.stream + 16 * b2n p.final) p.op p.tag p.alive s.sender p.payload

/-- R331, R332: which TYPE may use which STREAM; SPI takes types 0 and 3 only (R335). -/
def typeAllowed (port : Port) (type stream : Nat) : Bool :=
  match type with
  | 0 => !(stream == 2 || stream == 3)
  | 3 => stream == 2 || stream == 3
  | 4 => (stream == 0 || decide (4 ≤ stream)) && port == .ring
  | _ => false

/-- Step 7: ALIVE differs from the stream's last value; the first packet of a stream is accepted (R345). -/
def aliveOk (s : State) (h : Hdr) : Bool := !s.fb (aliveValid h.stream) || !(s.f (aliveLast h.stream) == h.alive)

/-- Bytes of the video buffer in use (R336). -/
def videoUnits (s : State) : Nat :=
  ((s.cmd.inbox.filter (fun e => e.type == 3)).map (fun e => pktUnits e.rq.payload.length)).sum

/-- The video buffer in 64-byte units: what the command buffer and the 16 KiB of replies leave of the
64 KiB (R336). -/
def videoCap (s : State) : Nat := 768 - cmdBufUnits (s.f F.CMD_CTRL_CMDBUF_ACT)

/-- BIST_RUN runs: CMD takes no further command or video packet (R458). -/
def State.bistRuns (s : State) : Bool := (s.job? 0x68).isSome

/-- Step 4: the reason of a BUSY (R342), if there is no room (R335, R337). SAFE_STOP is never refused
for room (R338). -/
def roomReason (s : State) (h : Hdr) : Option Nat :=
  if h.type = 0 then
    if h.op = 0x40 then none
    else if s.bistRuns then some 1
    else if s.cmdFree < pktUnits h.len then some 0
    else if 64 ≤ s.queued then some 1
    else none
  else if h.type = 3 then (if s.bistRuns then some 1 else if videoCap s < videoUnits s + pktUnits h.len then some 2 else none)
  else none

/-- RX_ERROR at the first reception error of a period (R363). -/
def rxError (s : State) : State :=
  s.raise 0x21 (q4 (s.f F.CMD_CNT_RX_HCRC_CNT) ++ q4 (s.f F.CMD_CNT_RX_CRC_CNT))

/-- A packet refused at reception: its counters, and for a command the 4-byte refusal of R342. A
broadcast control packet is ignored and counted (R60, R326); a video packet counts under R147. An ENABLE refused because a
BIST_RUN runs ends that run (R457, R458). -/
def rxRefuse (h : Hdr) (rq : Req) (st reason : Nat) (s : State) : State :=
  let s1 :=
    if st = St.badLength then s.bump F.CMD_CNT_REF_LEN_CNT
    else if st = St.busy then s.bump F.CMD_CNT_REF_BUSY_CNT
    else if st = St.badCrc then rxError (s.bump F.CMD_CNT_RX_CRC_CNT)
    else s.bump (F.CMD_ALIVE0_REPEAT_CNT.at (8 * h.stream))
  let s2 := noteStatus st (if st = St.busy && h.type == 0 && h.op == 0x46 && s.bistRuns then abortBist s1 else s1)
  if h.type = 0 then
    noteLastRef h.op st rq (pushReply h.op rq true st (bytesLE 1 reason ++ [0, 0]) none s2)
  else if h.type = 3 then (s2.bump F.LYR_CNT_VID_DROP).setB F.LYR_STATUS_VID_DROP true
  else (s2.bump F.CMD_CNT_IGN_BCAST_CNT).setB F.CMD_STATUS_BCAST_IGN true

/-- Where an accepted packet goes (R338): the queue or the hand-over list. A type 4 packet of another
opcode, or a HERD whose LEN is not 16, is ignored and counted (R60, R355). -/
def enqueue (h : Hdr) (rq : Req) (s : State) : State :=
  if h.type = 4 && !(h.op == 0x03 || (h.op == 0x11 && h.len == 16)) then
    ((noteAlive h.stream h.alive s).bump F.CMD_CNT_IGN_BCAST_CNT).setB F.CMD_STATUS_BCAST_IGN true
  else takeIn h.type h.op rq s

/-- Does a packet pass every check of R335? -/
def rxAccepts (port : Port) (bs : List Byte) (s : State) : Bool :=
  let h := readHdr bs
  hcrcOk bs && typeAllowed port h.type h.stream && h.len % 4 == 0 && decide (h.len ≤ 4080) && (roomReason s h).isNone &&
    bs.length == 16 + h.len && pktCrcOk bs && aliveOk s h

/-- The reception checks of R335, in order, on a packet the engine takes. -/
def checkPacket (port : Port) (bs : List Byte) (s : State) : State :=
  if !hcrcOk bs then rxError ((s.bump F.CMD_CNT_RX_HCRC_CNT).setB F.CMD_STATUS_HCRC true)
  else
    let h := readHdr bs
    let rq : Req := ⟨port, h.dest == 31, h.stream, h.quiet, h.tag, h.alive, h.arg, slice bs 12 h.len⟩
    if !typeAllowed port h.type h.stream then
      (s.bump F.CMD_CNT_IGN_TYPE_CNT).setB F.CMD_STATUS_TYPE_BAD true
    else
      let lenOk := h.len % 4 == 0 && decide (h.len ≤ 4080)
      let sizeOk := bs.length == 16 + h.len
      let crcOk := pktCrcOk bs
      let alOk := aliveOk s h
      let s1 := if lenOk && sizeOk && crcOk && alOk && masterStream h.stream then noteMaster h.stream s else s
      if !lenOk then rxRefuse h rq St.badLength 3 s1
      else match roomReason s h with
        | some r => rxRefuse h rq St.busy r s1
        | none =>
          if !sizeOk then rxRefuse h rq St.badLength 3 s1
          else if !crcOk then rxRefuse h rq St.badCrc 4 s1
          else if !alOk then rxRefuse h rq St.repeatAlive 5 s1
          else enqueue h rq s1

/-- A packet the engine takes is checked (R335); the queue is served before and after as far as no row does it (R338). -/
def receive (port : Port) (bs : List Byte) (s : State) : State := serveQueue (checkPacket port bs (serveQueue s))

/-- PACKET_RECEIVE (R335). The part is out of reset (R431). -/
def execPacketReceive (port : Port) (bytes : List Byte) (s : State) : Host.Outcome State Fault Refusal :=
  .next (if s.off then s else receive port bytes s)

/-- Does the receiver stand in RUN, with the bypass open and the lane PLL locked (R31, R333)? -/
def State.ringRuns (s : State) : Bool := s.f F.RNG_STATUS_STATE == 4 && !s.fb F.RNG_STATUS_BYPASS && s.rng.pll

/-- An ENUM pass 1 of the length R326 gives. -/
def isPass1 (h : Hdr) (bs : List Byte) : Bool :=
  h.type == 4 && h.op == 0x03 && u8 bs 12 == 0 && h.len == 16 + 8 * u8 bs 15

/-- What an engine in RUN does with a passing packet (R333): the bytes that leave on DN, and whether
the engine takes the packet. ENUM pass 1 leaves extended, by `execEnumPass1`. -/
def passAction (s : State) (bs : List Byte) : List Byte × Bool :=
  if !hcrcOk bs then ([], false)
  else
    let h := readHdr bs
    let own := s.fb F.RNG_ADDR_VALID && h.dest == s.f F.RNG_ADDR_ADDR
    if h.type = 1 || h.type = 2 || h.type = 5 || h.dest = 0 then (bs, false)
    else if own && (h.type == 0 || h.type == 3 || h.type == 6 || h.type == 7) then ([], true)
    else if h.dest = 31 && isPass1 h bs then ([], true)
    else if h.dest = 31 && (h.type == 0 || h.type == 3 || h.type == 4) then (bs, true)
    else if h.dest = 31 && (h.type == 6 || h.type == 7) then ([], true)
    else (bs, false)

/-- A LANE_NOTICE beacon for this transmitter, whole (R312, R327). -/
def noticeForUs (s : State) (bs : List Byte) : Bool :=
  hcrcOk bs && pktCrcOk bs && (readHdr bs).type == 5 && (readHdr bs).op == 0x02 && (readHdr bs).len == 8 &&
    bs.length == 24 && u16 bs 12 == s.f F.RNG_TXID_TXID

/-- Transmit lanes in L0 (R317). -/
def l0Tx (s : State) : Nat := maskOf ((List.range 4).map (fun n => s.f (⟨0x1020, 2 * n + 9, 2 * n + 8⟩ : Fld) == 0))

/-- The transmitter acts on a LANE_NOTICE: at its next marker it stripes over the accepted lanes that are in L0
(R312, R327). -/
def takeNotice (bs : List Byte) (s : State) : State :=
  { s.setB F.RNG_STATUS_NOTICE_RX true with rng.txNext := some (u8 bs 14 % 16 &&& l0Tx s) }

/-- A BREAK beacon that is forwarded is counted (R316). -/
def countBreak (bs : List Byte) (s : State) : State :=
  if (readHdr bs).type = 5 && (readHdr bs).op = 0x01 then s.bump F.RNG_SILENT_BEACONS else s

/-- The transmit map has fewer lanes than the receive map, or what waited for it has not all left (R305). -/
def State.holdsTransit (s : State) : Bool :=
  laneCount (s.f F.RNG_STATUS_TX_MAP) < laneCount (s.f F.RNG_STATUS_RX_MAP) || !s.rng.transit.isEmpty

/-- The bytes the transit buffer holds. -/
def State.transitBytes (s : State) : Nat := (s.rng.transit.map List.length).sum

/-- A packet that the engine forwards leaves (R304), or goes through the transit buffer of 16 KiB: a video packet that the
buffer cannot take is discarded whole, the others wait (R305). `fits`: the narrower lanes take it at once. -/
def forward (bs : List Byte) (fits : Bool) (s : State) : State :=
  if bs.isEmpty || !s.holdsTransit || (fits && s.rng.transit.isEmpty && !(s.f F.RNG_STATUS_TX_MAP == 0)) then { s with dn := bs }
  else if (readHdr bs).type = 3 && decide (16384 < s.transitBytes + bs.length) then
    ({ s with dn := [] } : State).bump F.RNG_CNT2_VID_SHED
  else { s with dn := [], rng.transit := s.rng.transit ++ [bs] }

/-- PACKET_PASS (R333): a failed header is discarded and counted, and idle blocks go in its place; a notice for this
transmitter is taken off (R312); the rest is forwarded, taken (and then received under R335), or both. An engine not in
RUN passes the signal through its bypass, or through its far-end loop, and reads nothing (R298, R319); without its
lane PLL it passes nothing (R31). -/
def execPacketPass (bytes : List Byte) (fits : Bool) (s : State) : Host.Outcome State Fault Refusal :=
  .next (
    if !s.ringRuns then
      { s with dn := if s.fb F.RNG_STATUS_BYPASS || s.f F.RNG_STATUS_STATE == 5 then bytes else [] }
    else if noticeForUs s bytes then takeNotice bytes { s with dn := [] }
    else
      let r := passAction s bytes
      let s1 := forward r.1 fits s
      if !hcrcOk bytes then rxError ((s1.bump F.CMD_CNT_RX_HCRC_CNT).setB F.CMD_STATUS_HCRC true)
      else if r.2 then receive .ring bytes s1
      else countBreak bytes s1)

/-- The transmitter sends: with its lane PLL, connected, with a lane in the map, in no test loop (R31, R298, R317, R319). -/
def State.sends (s : State) : Bool :=
  s.rng.pll && s.fb F.RNG_STATUS_TX_ON && !(s.f F.RNG_STATUS_TX_MAP == 0) && !(s.f F.RNG_STATUS_STATE == 5)

/-- What may be inserted now: in RUN everything; while upstream-silent the engine's events and beacons (R315). -/
def insertable (s : State) (p : OutPkt) : Bool :=
  p.port == .ring && s.sends &&
    (s.f F.RNG_STATUS_STATE == 4 || (s.fb F.RNG_STATUS_SILENT && (p.kind == .beacon || p.kind == .event)))

/-- R334: the waiting ring packet of highest priority, the oldest first. -/
def nextOut (s : State) : Option OutPkt :=
  let ring := s.cmd.out.filter (insertable s)
  match ring.find? (fun p => p.kind == .beacon) with
  | some p => some p
  | none =>
    match ring.find? (fun p => p.kind == .stopReply) with
    | some p => some p
    | none =>
      match ring.find? (fun p => p.kind == .reply) with
      | some p => some p
      | none => ring.find? (fun p => p.kind == .event)

/-- A packet has been sent: it leaves the buffer, its journal entry is free (R282), EVT_LOST follows when
space returns (R352), and a RESET whose reply has gone counts its 1.0 ms (R467). -/
def sentPkt (p : OutPkt) (s : State) : State :=
  let s1 := { s with cmd.out := s.cmd.out.erase p }
  let s2 := match p.seq with
    | some q => if p.final then journalSent q s1 else s1
    | none => s1
  let s3 : State := if p.op = 0x7F && p.type == 1 && p.port == .ring then { s2 with sys.softAt := s.time + 100000 } else s2
  bistStart (lostReport s3)

/-- Into a gap long enough, whole, the packet of the engine's of highest priority (R334). -/
def insertOwn (gap : Nat) (s : State) : State :=
  match nextOut s with
  | none => s
  | some p => if gap < 16 + p.payload.length then s else sentPkt p { s with dn := outBytesOf s p }

/-- PACKET_INSERT (R334): a gap on the DN lanes. A packet that waits in the transit buffer goes first, whole (R305); then one
of the engine's own; nothing when none may go. -/
def execPacketInsert (gap : Nat) (s : State) : Host.Outcome State Fault Refusal :=
  .next (
    match s.rng.transit with
    | [] => insertOwn gap s
    | b :: t => if !s.sends || gap < b.length then s
                else { s with dn := b, rng.transit := t })

/-- The port status byte of R356. -/
def spiStatus (s : State) : Nat :=
  0x50 + 8 * b2n s.cmd.resetSeen + 4 * b2n s.cmd.lastPutOk
    + 2 * b2n (decide (pktUnits 4080 ≤ s.cmdFree) && decide (s.queued < 64))
    + b2n (decide (0 < s.spiWaiting))

/-- The service port answers only with SPI_EN and out of reset (R356). -/
def State.spiOn (s : State) : Bool := s.fb F.CMD_CTRL_SPI_EN && !s.off

/-- SPI_PUT (R357): the packet is received once its last byte has arrived and bytes beyond it are ignored;
if SPI_CS_N rises earlier it is discarded and counted. -/
def execSpiPut (bytes : List Byte) (csEarly : Bool) (s : State) : Host.Outcome State Fault Refusal :=
  .next (
    if !s.spiOn then s
    else
      let s0 := { s with spiOut := bytesLE 1 (spiStatus s) }
      if csEarly then
        ((({ s0 with cmd.lastPutOk := false } : State).bump F.CMD_SPI_ABORT_CNT).setB F.CMD_STATUS_SPI_ABORT true)
      else
        let bs := bytes.take (16 + (readHdr bytes).len)
        { receive .spi bs s0 with cmd.lastPutOk := rxAccepts .spi bs (serveQueue s0) })

/-- The oldest packet that waits for SPI (R357). -/
def nextSpi (s : State) : Option OutPkt := s.cmd.out.find? (fun p => p.port == .spi)

/-- SPI_GET (R357): `clocked` bytes of the packet are clocked out after its length; the packet goes only
when its last byte has been. -/
def execSpiGet (clocked : Nat) (s : State) : Host.Outcome State Fault Refusal :=
  .next (
    if !s.spiOn then s
    else match nextSpi s with
      | none => { s with spiOut := bytesLE 1 (spiStatus s) ++ [0] ++ bytesLE 2 0 }
      | some p =>
        let bs := outBytesOf s p
        let s1 := { s with spiOut := bytesLE 1 (spiStatus s) ++ [0] ++ bytesLE 2 bs.length ++ bs.take clocked }
        if bs.length ≤ clocked then sentPkt p s1 else s1)

/-- SPI_STAT (R357): the port counts; RESET_SEEN is cleared. -/
def execSpiStat (s : State) : Host.Outcome State Fault Refusal :=
  .next (
    if !s.spiOn then s
    else { s with
      spiOut := bytesLE 1 (spiStatus s) ++ [0] ++ bytesLE 1 (min 255 s.spiWaiting) ++ bytesLE 2 s.cmdFree ++
        bytesLE 1 (s.f F.CMD_SPI_BAD_OP_CNT)
      cmd.resetSeen := false })

/-- SPI_BAD_OP (R357): an operation other than PUT, GET and STAT is ignored and counted. -/
def execSpiBadOp (op : Nat) (s : State) : Host.Outcome State Fault Refusal :=
  .next (
    if !s.spiOn || op == 1 || op == 2 || op == 3 then s
    else ({ s with spiOut := bytesLE 1 (spiStatus s) } : State).bump F.CMD_SPI_BAD_OP_CNT)

end Sys2Proof.Machine
end

