-- ==== Sys2Proof/Machine/Power.lean ====
section
/-! DEFINITION. The power states (R386 to R414): PWR_STATE and CLK_SWITCH, the timers, HOLD, IDLE and SLEEP entry and
exit, the Rooster, the AON oscillator, the lamp minutes, the supply dips, and the loss of the core PLL (R31). -/

namespace Sys2Proof.Machine

/-! ### The state and its event -/

/-- POWER_STATE (R387, R414): old and new state, cause 0 timer, 1 command, 2 exit trigger. -/
def powerEvent (old new : PwrState) (cause : Nat) (s : State) : State :=
  s.raise 0xC0 (q4 (pwrCode old) ++ q4 (pwrCode new) ++ q4 cause)

/-- The power state changes (R387). -/
def setPower (new : PwrState) (cause : Nat) (s : State) : State := powerEvent s.pwr.state new cause { s with pwr.state := new }

/-- The cause of an entry by its request. -/
def entryCause (r : EntryReq) : Nat := if r.by_ = .timer then 0 else 1

/-- A request made now. -/
def request (by_ : EntryBy) (s : State) : Option EntryReq := some ⟨by_, s.tck.frame, false⟩

/-- TARGET of a PWR_STATE and RING_L2 (R412). -/
def psTarget (rq : Req) : Nat := u8 rq.payload 0
def psL2 (rq : Req) : Bool := bitOf (u8 rq.payload 1) 0

/-- The body of a PWR_STATE: LEN, its own TARGET, and RING_L2 only with TARGET 2 and DEST 31 (R412). -/
def pwrStateBody (target : Nat) (rq : Req) (body : State → State × Reply) : State → State × Reply :=
  withLen (len rq 4) (fun s =>
    if !(psTarget rq == target) || (psL2 rq && !(target == 2 && rq.bcast)) then refuse St.badParam s else body s)

/-- A refused entry (R395): the lowest refuser and the mask of all. -/
def pwrRefused (target mask : Nat) (s : State) : State × Reply :=
  (noteRefusal target mask s, .final St.refusedState (pwrBody (pwrCode s.pwr.state) (lowestBit 12 0 mask) mask s.tck.frame))

/-- PWR_STATE with TARGET ACTIVE (R390, R412). -/
def pwrActiveBody (rq : Req) : State → State × Reply :=
  pwrStateBody 0 rq (fun s =>
    let s1 := leaveHold { s with pwr.holdCmd := s.pwr.state == .hold }
    okReply (pwrBody (pwrCode s1.pwr.state) 0xFF 0 s1.tck.frame) s1)

def execPwrStateActive (rq : Req) (s : State) : Host.Outcome State Fault Refusal := .next (command 0x48 rq (pwrActiveBody rq) s)

/-- PWR_STATE with TARGET HOLD (R389, R412): answered at once; HOLD is entered at the next tick. -/
def pwrHoldBody (rq : Req) : State → State × Reply :=
  pwrStateBody 1 rq (fun s =>
    if s.pwr.state = .hold then okReply (pwrBody 1 0xFF 0 s.pwr.entryTick) s
    else
      let m := refusing s 1
      if m = 0 then okReply (pwrBody (pwrCode s.pwr.state) 0xFF 0 (s.tickNo 1)) { s with pwr.holdReq := request .command s }
      else pwrRefused 1 m s)

def execPwrStateHold (rq : Req) (s : State) : Host.Outcome State Fault Refusal := .next (command 0x48 rq (pwrHoldBody rq) s)

/-- PWR_STATE with TARGET IDLE (R392, R412): a request made in HOLD first ends HOLD (R387). -/
def pwrIdleBody (rq : Req) : State → State × Reply :=
  pwrStateBody 2 rq (fun s0 =>
    let s := leaveHold { s0 with pwr.holdCmd := s0.pwr.state == .hold }
    let m := refusing s 2
    if m = 0 then ({ s with pwr.idleReq := request .command s, pwr.ringL2 := psL2 rq }, .accepted [] 2 [])
    else pwrRefused 2 m s0)

def execPwrStateIdle (rq : Req) (s : State) : Host.Outcome State Fault Refusal := .next (command 0x48 rq (pwrIdleBody rq) s)

/-- PWR_STATE with TARGET SLEEP (R387, R396, R412): it passes through IDLE. -/
def pwrSleepBody (rq : Req) : State → State × Reply :=
  pwrStateBody 3 rq (fun s0 =>
    let s := leaveHold { s0 with pwr.holdCmd := s0.pwr.state == .hold }
    let m := refusing s 3
    if m = 0 then
      ({ s with pwr.idleReq := request .command s, pwr.sleepReq := request .command s }, .accepted [] 3 [])
    else pwrRefused 3 m s0)

def execPwrStateSleep (rq : Req) (s : State) : Host.Outcome State Fault Refusal := .next (command 0x48 rq (pwrSleepBody rq) s)

/-! ### CLK_SWITCH (R399, R400, R413) -/

/-- The body of a CLK_SWITCH toward `sel`: LEN, its own TARGET, a target in force, a switch in progress, and the conditions
of its direction. -/
def clkBodyOf (sel : Nat) (rq : Req) : State → State × Reply :=
  withLen (len rq 4) (fun s =>
    if !(u8 rq.payload 0 == sel) then refuse St.badParam s
    else if s.f F.PWR_CLK_SEL = sel then okReply (clkBody s 0) s
    else if s.pwr.clk.isSome then refuse St.busy s
    else if sel = 0 && !s.fb F.PWR_CLK_XTAL_OK then (s, .final St.refusedState (clkBody s 1))
    else if sel = 1 && (s.lamp == Lamp.lit || s.lamp == Lamp.fading) then (s, .final St.refusedState (clkBody s 3))
    else
      let (v, t) := s.draw 70
      ({ t with pwr.clk := some ⟨sel == 0, s.time, v % 2 == 1⟩ }, .accepted [] 0 []))

/-- CLK_SWITCH with TARGET 0 (R399). -/
def execClkSwitch (rq : Req) (s : State) : Host.Outcome State Fault Refusal := .next (command 0x49 rq (clkBodyOf 0 rq) s)

/-- CLK_SWITCH with TARGET 1 (R400). -/
def execClkSwitchFrc (rq : Req) (s : State) : Host.Outcome State Fault Refusal := .next (command 0x49 rq (clkBodyOf 1 rq) s)

/-- PLL_LOCK_TIMEOUT (R399): 1.0 ms after its start the core PLL has not locked. Whether it locks is a free value
(notes/assumptions/5.md). -/
def pllLockTimeout (s : State) : State :=
  match s.pwr.clk with
  | some c =>
    if c.toPll && !c.locks then
      let s1 : State := { s with time := max s.time (c.start + 100000), pwr.clk := none }
      finishOp 0x49 St.aborted (clkBody s1 2) s1
    else s
  | none => s

def execPllLockTimeout (s : State) : Host.Outcome State Fault Refusal := .next (pllLockTimeout s)

/-- CORE_PLL_LOSS (R31, R32, R400): the domains move to FRC; the period in progress keeps its planned length, the image in
composition is discarded, the swap at the end of the period is suppressed, and the source is raised. -/
def corePllLoss (s : State) : State :=
  if s.off || s.onFrc || s.pwr.state == .idle then s
  else
    let s1 : State := { moveToFrc s with
      tck.planned := some s.nextExact
      tck.sixty := false
      drv.noSwap := true }
    raiseSource Src.corePll s1

def execCorePllLoss (s : State) : Host.Outcome State Fault Refusal := .next (corePllLoss s)

/-! ### HOLD (R388 to R390) -/

/-- The timer's condition for HOLD. -/
def holdDue (s : State) : Bool :=
  decide (0 < s.f F.PWR_TMR_A_HOLD_N) && decide (s.f F.PWR_TMR_A_HOLD_N ≤ s.pwr.unchanged)

/-- HOLD_REQUEST (R388). -/
def holdRequest (s : State) : State :=
  if s.pwr.state == .active && s.tck.running && s.pwr.holdReq.isNone && holdDue s then { s with pwr.holdReq := request .timer s }
  else s

def execHoldRequest (s : State) : Host.Outcome State Fault Refusal := .next (holdRequest s)

/-- Pixel tests stop as the engine leaves ACTIVE (R213, R225), and a FLUX_CAL ends (R103). -/
def stopTests (s0 : State) : State :=
  let s1 := pauseTests 1 (abortCal s0)
  { s1 with dia.plan := s1.f F.DIA_SWEEP_FRAME }

/-- The instant right after a tick that came after a request made in frame `f`. -/
def atTickAfter (s : State) (f : Nat) : Bool := s.tck.running && s.drv.rows == 0 && s.tck.row == 0 && !(f == s.tck.frame)

/-- HOLD_ENTRY (R389, R395), at a tick; what would end HOLD at this tick ends it at the next (R390). -/
def holdEntry (s : State) : State :=
  match s.pwr.holdReq with
  | none => s
  | some r =>
    if !(s.pwr.state == .active) || !atTickAfter s r.frame then s
    else if r.by_ = .timer && !holdDue s then { s with pwr.holdReq := none }
    else
      let m := refusing s 1
      if m = 0 then
        let t := setPower .hold (entryCause r) (stopTests { s with
          pwr.holdReq := none, pwr.holdExit := none, pwr.holdCmd := false, pwr.entryTick := s.tck.frame, drv.readback := 0 })
        if holdMoved t then leaveHold t else t
      else if r.refused then s
      else noteRefusal 1 m { s with pwr.holdReq := some { r with refused := true } }

def execHoldEntry (s : State) : Host.Outcome State Fault Refusal := .next (holdEntry s)

/-- HOLD_EXIT (R390), at the tick after a cause. -/
def holdExit (s : State) : State :=
  match s.pwr.holdExit with
  | none => s
  | some f =>
    if s.pwr.state == .hold && atTickAfter s f then
      setPower .active (if s.pwr.holdCmd then 1 else 2) { s with pwr.holdExit := none, pwr.holdCmd := false }
    else s

def execHoldExit (s : State) : Host.Outcome State Fault Refusal := .next (holdExit s)

/-! ### IDLE entry (R391, R392, R401) -/

/-- IDLE_TIMER (R391): ELAPSED_S reaches IDLE_T. -/
def idleTimer (s : State) : State :=
  let t := s.f F.PWR_TMR_A_IDLE_T
  if (s.pwr.state == .active || s.pwr.state == .hold) && s.elapsedRuns && decide (0 < t) && s.pwr.idleReq.isNone && !s.off &&
      s.sys.phase == .run then
    let s1 := { s with time := max s.time (s.pwr.elapsed0 + 100000000 * (t - s.pwr.elapsedKept)) }
    leaveHold { s1 with pwr.idleReq := request .timer s1 }
  else s

def execIdleTimer (s : State) : Host.Outcome State Fault Refusal := .next (idleTimer s)

/-- The CRC of each retained bank is stored (R401). -/
def storeRcrc (s : State) : State :=
  { s with pwr.rcrc := (List.range 32).map (fun n =>
      if bitOf (s.reg 0xC024).toNat n then crc32c (s.storeBytes (0x100000 * n) 0x100000) else nth 0 s.pwr.rcrc n) }

/-- Steps 1 to 3 of an entry (R392): the tick stops, the core PLL stops, the retention CRCs are stored. What IDLE ends goes:
the snapshot store (R378) and the fault list (R222). -/
def idleSteps (s : State) : State :=
  let s1 := storeRcrc ((stopTests { s with
    tck.running := false, tck.corr := none, tck.pull := 0, drv.begun := false, drv.written := false }).setF F.PWR_CLK_PLL_LOCK 0)
  { s1 with snp.store := none, dia.faults := [], dia.segFail := [], dia.segPrev := [], dia.drift1 := [], dia.drift2 := [] }

/-- TIME runs on the LPO in IDLE (R392, R403). -/
def idleClock (s : State) : State :=
  (s.setF F.TCK_TIME_Q_Q (if s.reg 0xC048 = 0 then 2 else 1)).setF F.TCK_TIME_Q_SRC 2

/-- Step 4 of an entry: STATE becomes IDLE, and the command that asked for it goes on (R392, R412, R449). -/
def idleReached (r : EntryReq) (s0 : State) : State :=
  let s := setPower .idle (entryCause r) (idleClock { s0 with
    pwr.entryTick := s0.tck.frame, pwr.elapsed0 := s0.time, pwr.elapsedKept := 0, pwr.idleReq := none, pwr.idleExit := false, pwr.service := false,
    pwr.sleepStage := 0, pwr.marched := 0 })
  let s1 := finishKey 0x48 2 St.ok (pwrBody 2 0xFF 0 s.tck.frame) s
  let s2 : State := { s1 with
    rng.l2Next := s1.rng.l2Next || s1.pwr.ringL2
    rng.l2At := if s1.pwr.ringL2 then s1.time + 100000 else s1.rng.l2At
    pwr.ringL2 := false }
  if r.by_ = .shutdown then
    (if (s2.jobKey? 0x6A 1).isSome then startTest 0 s2
     else finishKey 0x6A 0 St.ok (bistBody { newRec s2 0 16 0 with seq := 0 } 0xFF) s2)
  else s2

/-- An ENABLE waits that a service request executes ahead of the queue (R454). -/
def enableWaits (s : State) : Bool := s.pwr.service && s.cmd.inbox.any (fun e => e.inQueue && e.op == 0x46)

/-- What a service exit adds (R454): banks 0 to 3 as one stream with the start image, and the fallback source, until the flip of a
COMMIT made from here on. -/
def serviceImage (lost : Nat) (s : State) : State :=
  let s1 := reloadBanks (lost % 16) s
  startImage { s1 with
    saf.fbSelect := true, saf.fbRelease := false, saf.fbUntilFlip := true, saf.fbExit := true, drv.noSwap := false
    tck.flip := s1.tck.flip.map (fun w => { w with old := true }) }

/-- An abandoned entry (R392): the clocks and the tick restart at once. In a SHUTDOWN the cause is a service request (R454). -/
def idleAbandoned (s0 : State) : State :=
  let s := (noteRefusal 2 0x20 { s0 with
    pwr.idleExit := false, pwr.service := enableWaits s0, pwr.idleReq := none, pwr.sleepReq := none, pwr.ringL2 := false }).setB
    F.PWR_FLAGS_ABANDONED true
  let body := pwrBody 0 5 0x20 s.tck.frame
  let s1 := finishKey 0x48 3 St.aborted body (finishKey 0x48 2 St.aborted body s)
  let s2 := finishOp 0x6A St.aborted (bistBody { newRec s1 0 16 0 with seq := 0 } 5) s1
  let s3 : State := { s2.setF F.PWR_CLK_PLL_LOCK (b2n !s2.onFrc) with tck.planned := some (s2.time : Rat) }
  doTick s3.pwr.vledMv none (if s0.pwr.service then serviceImage 0 s3 else s3)

/-- IDLE_ENTRY (R392, R395), at a tick. `during` is a packet that arrives before step 4 begins. -/
def idleEntry (during : Option (Port × List Byte)) (s : State) : State :=
  match s.pwr.idleReq with
  | none => s
  | some r =>
    if !(s.pwr.state == .active) || !atTickAfter s r.frame then s
    else
      let m := refusing s 2
      if !(m == 0) then (if r.refused then s else noteRefusal 2 m { s with pwr.idleReq := some { r with refused := true } })
      else
        let s1 := idleSteps s
        match during with
        | none => idleReached r s1
        | some (port, bs) =>
          let t := receive port bs { s1 with pwr.state := .idle, pwr.idleExit := false }
          if t.pwr.idleExit then idleAbandoned { t with pwr.state := .active } else idleReached r { t with pwr.state := .active }

def execIdleEntry (during : Option (Port × List Byte)) (s : State) : Host.Outcome State Fault Refusal := .next (idleEntry during s)

/-! ### IDLE exit (R393, R401, R453, R454) -/

/-- The clocks come back (R393): the core PLL if the selection names it. -/
def restoreClocks (s : State) : State :=
  let pll := b2n !s.onFrc
  ((s.setF F.PWR_CLK_PLL_LOCK pll).setF F.TCK_TIME_Q_Q (2 * (1 - pll))).setF F.TCK_TIME_Q_SRC (1 - pll)

/-- A test that runs stops (R454), with BIST_DONE (R468): its record waits for light with the STEP reached. -/
def stopTest (s : State) : State :=
  match s.nvm.test with
  | none => s
  | some t =>
    let t1 := { t with step := min t.step (t.stepsEnd - 1) }
    let keep := if s.nvm.started then s.nvm.ops.take 1 else []
    bistDone t1 St.aborted { s with
      nvm.test := some t1
      nvm.testEnd := some St.aborted
      nvm.quickRec := some (s.nvm.testCopy, t1)
      nvm.ops := keep ++ (s.nvm.ops.drop keep.length).filter (fun o => !o.kind.isBist) }

/-- The running halves whose firmware a test has lost (R453). -/
def lostHalves (s : State) : List Half := [Half.a, Half.b].filter (fun h => (s.half h).ram.isNone && inRange (s.health h) 2 3)

/-- Halves whose firmware a test has lost boot again (R453); a standby half that keeps its own becomes active (R270). -/
def rebootHalves (s : State) : State :=
  let lost := lostHalves s
  if lost.isEmpty then s
  else
    let act := s.activeHalf
    let s2 : State := if s.hlv.active && lost.contains act then
        { s with hlv.active := false,
                 hlv.ready := if lost.contains (otherHalf act) || !inRange (s.health (otherHalf act)) 2 3 then [] else [otherHalf act] }
      else s
    lost.foldl (fun t h => resetHalf h (t.f (ofHalf F.HLV_HEALTH_A_SLOT h)) t) s2

/-- The commands whose entry ends here: a PWR_STATE for SLEEP (R396), unless its test's record is still to be written. -/
def exitReplies (s : State) : State :=
  if s.nvm.test.isSome then s
  else finishKey 0x48 3 St.aborted (pwrBody 0 0xFF 0 s.tck.frame) s

/-- IDLE_EXIT (R393, R401). `badBanks` are the retained banks whose check fails. -/
def idleExit (badBanks : Nat) (s0 : State) : State :=
  if !(s0.pwr.state == .idle && s0.pwr.idleExit) then s0
  else
    let svc := s0.pwr.service
    let retain := (s0.reg 0xC024).toNat
    let lost := (badBanks % 2 ^ 32) ||| (0xFFFFFFFF - retain) ||| s0.pwr.marched
    let s1 := loseBanks lost ((restoreClocks (stopTest s0)).setReg 0xC028 (BitVec.ofNat 32 lost))
    let s2 := rebootHalves { s1 with
      pwr.idleExit := false, pwr.service := enableWaits s1, pwr.idleReq := none, pwr.sleepReq := none, pwr.ringL2 := false,
      pwr.sleepStage := 0, pwr.tested := false, pwr.marched := 0, pwr.elapsed0 := s1.time, pwr.elapsedKept := 0,
      tck.planned := some (s1.time : Rat), pwr.state := .active }
    let s3 := if svc then serviceImage lost s2 else s2
    exitReplies (powerEvent .idle .active 2 (doTick s3.pwr.vledMv none s3))

def execIdleExit (badBanks : Nat) (s : State) : Host.Outcome State Fault Refusal := .next (idleExit badBanks s)

/-! ### SLEEP (R391, R396, R404) -/

/-- SLEEP_TIMER (R391): in IDLE ELAPSED_S reaches SLEEP_T. -/
def sleepTimer (s : State) : State :=
  let t := s.f F.PWR_TMR_B_SLEEP_T
  if s.pwr.state == .idle && decide (0 < t) && s.pwr.sleepReq.isNone && !s.pwr.idleExit then
    let s1 := { s with time := max s.time (s.pwr.elapsed0 + 100000000 * (t - s.pwr.elapsedKept)) }
    { s1 with pwr.sleepReq := request .timer s1 }
  else s

def execSleepTimer (s : State) : Host.Outcome State Fault Refusal := .next (sleepTimer s)

/-- Step 2 of R396: the saves, and the shut-down self-test unless one has run. -/
def sleepSaves (s : State) : State :=
  let s1 := shutSaves { s with pwr.sleepStage := 1 }
  if s1.pwr.tested then s1 else startTest 1 s1

/-- Step 4 of R396: everything but AON goes off, SLEEP_TICKS starts at 0 (R404). -/
def enterSleep (s0 : State) : State :=
  let s := (s0.setReg 0xC040 0).setReg 0xC044 0
  let t := coldState false s
  { t with pwr := { t.pwr with state := .sleep, sleep0 := t.time, lpoStopped := false } }

/-- A stage of SLEEP entry (R396). -/
def sleepStep (s : State) : State :=
  match s.pwr.sleepReq with
  | none => s
  | some r =>
    if !(s.pwr.state == .idle) || s.pwr.idleExit then s
    else match s.pwr.sleepStage with
      | 0 =>
        let m := refusing s 3
        if m = 0 then sleepSaves s
        else if r.refused then s
        else noteRefusal 3 m { s with pwr.sleepReq := some { r with refused := true } }
      | 1 =>
        if s.nvm.test.isSome || !s.nvm.ops.isEmpty then s
        else finishKey 0x48 3 St.ok (pwrBody 3 0xFF 0 s.tck.frame) { s with pwr.sleepStage := 2, pwr.sleepTime := s.time }
      | _ => enterSleep { s with time := max s.time (s.pwr.sleepTime + 100000) }

/-- SLEEP_ENTRY (R396): one of its stages. `during` is a packet that arrives before the stage. -/
def sleepEntry (during : Option (Port × List Byte)) (s : State) : State :=
  match during with
  | none => sleepStep s
  | some (port, bs) => sleepStep (if s.pwr.state == .idle then receive port bs s else s)

def execSleepEntry (during : Option (Port × List Byte)) (s : State) : Host.Outcome State Fault Refusal :=
  .next (sleepEntry during s)

/-- LPO_STOP (R404): no AON edge for 1 ms during SLEEP. -/
def execLpoStop (s : State) : Host.Outcome State Fault Refusal :=
  .next (if s.pwr.state == .sleep then { s with pwr.lpoStopped := true } else s)

/-! ### The Rooster, the AON oscillator, the lamp minutes -/

/-- ROOSTER_EDGE (R397, R454): the comparator turns with WAKE_IN, deglitched; a rising edge acts with EN. -/
def roosterEdge (mv : Nat) (s0 : State) : State :=
  let was := s0.pwr.roosterOut
  let s := roosterTurn (roosterLevel s0 mv) { s0 with pwr.wakeMv := mv }
  if s.sys.phase == .inReset || was || !s.pwr.roosterOut || !s.fb F.PWR_ROOSTER_EN then s
  else if s.pwr.state == .sleep then deviceReset .wake s
  else if s.pwr.state == .idle then
    { s with pwr.idleExit := true,
             pwr.service := s.pwr.service || s.nvm.test.isSome || s.pwr.sleepReq.isSome || (s.job? 0x6A).isSome }
  else if (s.job? 0x6A).isSome then serviceShutdown 0 s
  else s

def execRoosterEdge (mv : Nat) (s : State) : Host.Outcome State Fault Refusal := .next (roosterEdge mv s)

/-- LPO_MEASURE (R403): while the crystal clocks CTL, the AON period in 10 ns units, u12.20. -/
def execLpoMeasure (period : Nat) (s : State) : Host.Outcome State Fault Refusal :=
  .next (if !s.off && !s.onFrc && !(s.pwr.state == .idle) then s.setReg 0xC048 (BitVec.ofNat 32 period) else s)

/-- LAMP_MINUTE (R405): a minute with the lamp LIT, FADING or in SAFE_HOLD has passed; every sixth is stored. -/
def lampMinute (s : State) : State :=
  if s.off || !lampOn s.lamp then s
  else
    let n := s.minutes + 1
    let t := max s.time (s.pwr.lampFrom + (6000000000 - s.pwr.lampPart))
    let s1 := { s with time := t, pwr.lampFrom := t, pwr.lampPart := 0 }.setF F.PWR_HOURS_MINUTES n
    if n % 6 = 0 then saveLife s1 else s1

def execLampMinute (s : State) : Host.Outcome State Fault Refusal := .next (lampMinute s)

/-! ### Supply dips (R406, R407) -/

/-- VSUP_WARN (R406, R407): VSUP falls below 1.66 V: eNVM operations are suspended. AON monitors in every reset but POR and
BOR. -/
def vsupWarn (mv : Nat) (s : State) : State :=
  if !decide (mv < 1660) || s.pwr.dip.isSome || s.sys.causes.any (fun k => k == .por || k == .bor) then s
  else nvmSuspend { s with pwr.dip := some (s.time, mv), pwr.dipBefore := 0, pwr.vsupMv := mv, pwr.vsupAt := s.time }

def execVsupWarn (mv : Nat) (s : State) : Host.Outcome State Fault Refusal := .next (vsupWarn mv s)

/-- What the dip has held goes on 1.0 ms after its end, with NVM_RESUME (R407, R443). -/
def resumeLater (s : State) : State :=
  if s.nvm.suspended.isSome || !s.nvm.ops.isEmpty || s.nvm.test.isSome then { s with nvm.resumeAt := some (s.time + 100000) } else s

/-- How long the dip in progress has lasted, in TIME units, over resets too. -/
def dipLength (s : State) (start : Nat) : Nat := s.pwr.dipBefore + (s.time - start)

/-- DIP_END (R407): the warning clears at 1.70 V; `minMv` is the lowest VSUP of the dip. -/
def dipEnd (minMv mv : Nat) (s : State) : State :=
  match s.pwr.dip with
  | none => s
  | some (t, m) =>
    if mv < 1700 then s
    else
      let low := min m minMv
      let s1 := ({ s with pwr.dip := none, pwr.vsupMv := mv, pwr.vsupAt := s.time }.bump F.PWR_DIP_DIP_CNT).setF F.PWR_DIP_MIN_MV
        (min low (s.f F.PWR_DIP_MIN_MV))
      if s.off then s1
      else
        resumeLater ((s1.setB F.PWR_FLAGS_SUPPLY_WARN true).raise 0xC2
          (q4 low ++ q4 (dipLength s t / 100) ++ q4 (s1.f F.PWR_DIP_DIP_CNT)))

def execDipEnd (minMv mv : Nat) (s : State) : Host.Outcome State Fault Refusal := .next (dipEnd minMv mv s)

end Sys2Proof.Machine
end

