-- ==== Sys2Proof/Machine/Lanes.lean ====
section
/-! DEFINITION. The ring's lanes (R296 to R319): the training states of the receiver, alignment markers, lane drops
and returns, lane notices, silence and beacons. Lane-by-lane readings come with the commands. -/

namespace Sys2Proof.Machine

/-! ### Lane masks -/

/-- The lane numbers. -/
def laneNos : List Nat := [0, 1, 2, 3]

/-- The lanes without those of a mask. -/
def lanesOff (m : Nat) : Nat := 15 ^^^ (m % 16)

/-- A field of RNG_RXn_STAT or RNG_RXn_EQ, of lane `n`. -/
def ofLane (x : Fld) (n : Nat) : Fld := x.at (8 * n)

/-- The receive lanes whose one-bit field stands at 1. -/
def laneBits (s : State) (x : Fld) : Nat := maskOf (laneNos.map (fun n => s.fb (ofLane x n)))

/-- Set a one-bit field of every receive lane from a mask. -/
def setLaneBits (x : Fld) (m : Nat) (s : State) : State :=
  laneNos.foldl (fun t n => t.setB (ofLane x n) (bitOf m n)) s

/-- Receive lanes in L1 or L2 (R317). -/
def sleepingRx (s : State) : Nat :=
  maskOf (laneNos.map (fun n => !(s.f (⟨0x1020, 2 * n + 1, 2 * n⟩ : Fld) == 0)))

/-- The power state of a receive lane, and of a transmit lane (R323). -/
def rxPower (n : Nat) : Fld := ⟨0x1020, 2 * n + 1, 2 * n⟩
def txPower (n : Nat) : Fld := ⟨0x1020, 2 * n + 9, 2 * n + 8⟩

/-- Put the transmit lanes of a mask in a power state. -/
def setTxPower (m st : Nat) (s : State) : State :=
  laneNos.foldl (fun t n => if bitOf m n then t.setF (txPower n) st else t) s

/-- Every transmit lane is in L2: the ring sleeps at this engine and the lane PLL is off (R317, R318). -/
def State.ringAsleep (s : State) : Bool := s.f F.RNG_LPWR_TX == 0xAA

/-! ### Leaving RUN and entering SEEK -/

/-- The adaptation coefficients and the FFE setting at their reset values (R309, R324). -/
def coefReset (s : State) : State :=
  let s1 := (s.setF F.RNG_TXFFE_POST 8).setF F.RNG_TXFFE_PRE 0
  laneNos.foldl (fun t n =>
    ((((((t.setF (ofLane F.RNG_RX0_EQ_CTLE n) 8).setF (ofLane F.RNG_RX0_EQ_DFE1 n) 0).setF (ofLane F.RNG_RX0_EQ_DFE2 n) 0).setF
      (ofLane F.RNG_RX0_EQ_DFE3 n) 0).setF (ofLane F.RNG_RX0_EQ_DFE4 n) 0).setF (ofLane F.RNG_RX0_EQ_DFE5 n) 0)) s1

/-- Adaptation moves the equaliser of the named lanes where it is not frozen; where it settles is not stated: a free
value (R309, notes/assumptions/5.md). -/
def adapt (m : Nat) (s : State) : State :=
  laneNos.foldl (fun t n =>
    if bitOf m n && !t.fb (ofLane F.RNG_RX0_EQ_FREEZE n) then
      let d := t.draw 68
      d.2.setReg (0x1044 + 8 * n) (BitVec.ofNat 32 (d.1 % 2 ^ 29))
    else t) s

/-- The receiver leaves RUN: RING_LOST (R328). -/
def leaveRun (why : Nat) (s : State) : State :=
  if s.f F.RNG_STATUS_STATE = 4 then ({ s with rng.leftRun := s.time } : State).raise 0x13 (q4 why) else s

/-- The receiver leaves RUN by command: which reason it reports is not stated (R324, R327): a free value. -/
def leaveRunAsked (s : State) : State :=
  if s.f F.RNG_STATUS_STATE = 4 then
    let d := s.draw 66
    leaveRun (d.1 % 4) d.2
  else s

/-- Enter SEEK (R306): RATE and LANE_EN apply (R323), a change of rate resets the coefficients (R309), and no lane
is received. -/
def enterSeek (s : State) : State :=
  let s1 := if s.rng.rate = s.f F.RNG_CTRL_RATE then s else coefReset s
  let s2 := (s1.setF F.RNG_STATUS_STATE 0).setF F.RNG_STATUS_RX_MAP 0
  let s3 := setLaneBits F.RNG_RX0_STAT_CDR_LOCK 0 (setLaneBits F.RNG_RX0_STAT_BLOCK_LOCK 0
    (setLaneBits F.RNG_RX0_STAT_DROPPED s2.rng.cmdDrop (setLaneBits F.RNG_RX0_STAT_MARGINAL 0 s2)))
  { s3 with
    rng.rate := s.f F.RNG_CTRL_RATE
    rng.laneEn := s.f F.RNG_CTRL_LANE_EN
    rng.notice := none
    rng.addAsk := 0
    rng.goodSince := []
    rng.transitFor := none
    rng.dropNext := 0
    rng.attempt := s.time
    rng.lastBlock := some (s.rng.lastBlock.getD s.time) }

/-- A test loop ends (R319): LOOP_END, and the receiver enters SEEK; the bypass that a far-end loop found closed closes
again, to open at the next entry to RUN (R298). -/
def loopEnds (errors : Nat) (s0 : State) : State :=
  let kind := s0.f F.RNG_LOOP_KIND
  let e := if kind ≤ 2 then min 65535 errors else 0
  let s := if kind = 3 && s0.rng.loopClosed then closeBypass s0 else s0
  enterSeek (((s.setF F.RNG_LOOP_ERR_CNT e).setF F.RNG_LOOP_KIND 0).raise 0x15 (q4 kind ++ q4 e))

/-- A loop that is ended early: the bits its checker found in error are not stated, a free value (R319). -/
def loopCut (s : State) : State :=
  if s.f F.RNG_LOOP_KIND = 0 then s
  else
    let d := s.draw 67
    loopEnds (d.1 % 65536) d.2

/-- The receiver is sent to SEEK (R324). A test loop that runs ends with it (DESIGN CHOICE, notes/assumptions/41.md), as one
that is ended early (R319). -/
def toSeek (s : State) : State :=
  if s.f F.RNG_LOOP_KIND = 0 then enterSeek (leaveRunAsked s) else loopCut s

/-! ### Training (R306 to R309) -/

/-- An attempt starts at once in SEEK; one in TRAIN, LOCK or ALIGN starts again (R307). -/
def restartAttempt (s : State) : State :=
  if s.f F.RNG_STATUS_STATE = 0 then { s with rng.attempt := s.time }
  else if inRange (s.f F.RNG_STATUS_STATE) 1 3 then enterSeek s
  else s

/-- SIGNAL_DETECT (R307, R318): signal detect rises on the named lanes, or their amplitude steps; on an enabled lane an attempt
starts at once, and a sleeping ring wakes. -/
def signalDetect (lanes : Nat) (s : State) : State :=
  let s1 := setLaneBits F.RNG_RX0_STAT_SIGDET (laneBits s F.RNG_RX0_STAT_SIGDET ||| lanes % 16) s
  let s2 := if lanes &&& s.rng.laneEn = 0 then s1 else restartAttempt s1
  if s.ringAsleep then
    ({ (s2.setReg 0x1020 0) with rng.pll := true, rng.txVer := (s.rng.txVer + 1) % 4, rng.lpNext := [] } : State).setF
      F.RNG_STATUS_TX_MAP 15
  else s2

def execSignalDetect (lanes : Nat) (s : State) : Host.Outcome State Fault Refusal :=
  .next (if s.off || lanes % 16 == 0 then s else signalDetect lanes s)

/-- SEEK_ATTEMPT (R307): 250 ms after the start of the attempt before. The lane PLL locks again for it (R31, DEDUCED),
unless the ring sleeps. -/
def seekAttempt (s : State) : State :=
  let t := max s.time (s.rng.attempt + 25000000)
  { s with time := t, rng.attempt := t, rng.pll := s.rng.pll || !s.ringAsleep }

def execSeekAttempt (s : State) : Host.Outcome State Fault Refusal :=
  .next (if s.off || !(s.f F.RNG_STATUS_STATE == 0) then s else seekAttempt s)

/-- While every transmit lane is in L2, a receive lane without signal is in L2 too (R318); the lane PLL is off once every lane
of the engine is (R317). -/
def restLanes (s : State) : State :=
  if !s.ringAsleep then s
  else
    let s1 := laneNos.foldl (fun t n => if t.fb (ofLane F.RNG_RX0_STAT_SIGDET n) then t else t.setF (rxPower n) 2) s
    if s1.f F.RNG_LPWR_RX = 0xAA then { s1 with rng.pll := false } else s1

/-- SIGNAL_LOST (R307, R318): signal detect is lost on every lane. -/
def signalLost (s : State) : State :=
  let s2 := restLanes (setLaneBits F.RNG_RX0_STAT_SIGDET 0 s)
  if inRange (s.f F.RNG_STATUS_STATE) 1 3 then
    enterSeek ((s2.bump F.RNG_CNT_TRAIN_ABORT_CNT).setB F.RNG_STATUS_TRAIN_ABORT true)
  else if s.f F.RNG_STATUS_STATE = 4 then enterSeek (leaveRun 0 s2)
  else s2

def execSignalLost (s : State) : Host.Outcome State Fault Refusal := .next (if s.off then s else signalLost s)

/-- The attempt of SEEK still runs: it gives the CDR 10 ms (R307). -/
def State.attempting (s : State) : Bool := decide (s.time ≤ s.rng.attempt + 1000000)

/-- CDR_LOCK (R306): the CDR of enabled lanes locks: SEEK ends. Once its attempt has failed, the next one is awaited (R307). -/
def cdrLock (lanes : Nat) (s : State) : State :=
  let m := lanes &&& s.rng.laneEn
  if m = 0 || !s.rng.pll || (s.f F.RNG_STATUS_STATE == 0 && !s.attempting) then s
  else if s.f F.RNG_STATUS_STATE ≤ 1 then
    (setLaneBits F.RNG_RX0_STAT_CDR_LOCK (laneBits s F.RNG_RX0_STAT_CDR_LOCK ||| m)
      (setLaneBits F.RNG_RX0_STAT_SIGDET (laneBits s F.RNG_RX0_STAT_SIGDET ||| m)
        { s with rng.stateAt := if s.f F.RNG_STATUS_STATE = 0 then s.time else s.rng.stateAt })).setF F.RNG_STATUS_STATE 1
  else s

def execCdrLock (lanes : Nat) (s : State) : Host.Outcome State Fault Refusal := .next (if s.off then s else cdrLock lanes s)

/-- A lane is dropped or left out: DROPPED, DROP_CNT, LANE_DROP (R306, R311). -/
def dropLane (n reason : Nat) (s : State) : State :=
  (((s.setB (ofLane F.RNG_RX0_STAT_DROPPED n) true).bump F.RNG_CNT2_DROP_CNT).setB F.RNG_STATUS_LANE_DROP true).raise 0x10
    (q4 n ++ q4 reason ++ q4 (s.f (ofLane F.RNG_RX0_STAT_EFOM n)))

/-- Drop the lanes of a mask for one reason. -/
def dropLanes (m reason : Nat) (s : State) : State :=
  laneNos.foldl (fun t n => if bitOf m n && !t.fb (ofLane F.RNG_RX0_STAT_DROPPED n) then dropLane n reason t else t) s

/-- The lanes of a mask whose EFOM is at least a bound. -/
def efomAtLeast (s : State) (m bound : Nat) : Nat :=
  maskOf (laneNos.map (fun n => bitOf m n && decide (bound ≤ s.f (ofLane F.RNG_RX0_STAT_EFOM n))))

/-- TRAIN_DONE (R306, R309): every locked lane has converged, to the EFOMs given, and one reaches 96. A lane below 32 is
left out, and so is an enabled lane without CDR lock; one of 32 to 95 is marginal. -/
def trainDone (efom : List Nat) (s : State) : State :=
  let cdr := laneBits s F.RNG_RX0_STAT_CDR_LOCK
  let s1 := laneNos.foldl (fun t n => if bitOf cdr n then t.setF (ofLane F.RNG_RX0_STAT_EFOM n) (min 255 (nth 0 efom n)) else t) s
  if efomAtLeast s1 cdr 96 = 0 then s
  else
    let fit := efomAtLeast s1 cdr 32
    let s2 := adapt cdr (setLaneBits F.RNG_RX0_STAT_MARGINAL (fit &&& lanesOff (efomAtLeast s1 cdr 96)) s1)
    (dropLanes (s2.rng.laneEn &&& lanesOff cdr) 0 (dropLanes (cdr &&& lanesOff fit) 1
      { s2 with rng.stateAt := s.time })).setF F.RNG_STATUS_STATE 2

def execTrainDone (efom : List Nat) (s : State) : Host.Outcome State Fault Refusal :=
  .next (if s.off || !(s.f F.RNG_STATUS_STATE == 1) then s else trainDone efom s)

/-- BLOCK_LOCK (R306, R308): the search ends with the named lanes locked, at the slip positions given unless SLIP set
them; a trained lane without block lock is left out. -/
def blockLock (lanes : Nat) (slips : List Nat) (s : State) : State :=
  let trained := laneBits s F.RNG_RX0_STAT_CDR_LOCK &&& lanesOff (laneBits s F.RNG_RX0_STAT_DROPPED &&& lanesOff s.rng.cmdDrop)
  let locked := lanes &&& trained
  if efomAtLeast s locked 96 = 0 then s
  else
    let s1 := if s.fb F.RNG_CTRL_SLIP_MAN then s
      else laneNos.foldl (fun t n => if bitOf trained n then t.setF (ofLane F.RNG_RX0_STAT_SLIP n) (nth 0 slips n % 66) else t) s
    let s2 := dropLanes (trained &&& lanesOff locked) 2 (setLaneBits F.RNG_RX0_STAT_BLOCK_LOCK locked s1)
    ({ s2 with rng.lastBlock := none, rng.stateAt := s.time } : State).setF F.RNG_STATUS_STATE 3

def execBlockLock (lanes : Nat) (slips : List Nat) (s : State) : Host.Outcome State Fault Refusal :=
  .next (if s.off || !(s.f F.RNG_STATUS_STATE == 2) then s else blockLock lanes slips s)

/-- The timeout of TRAIN, LOCK and ALIGN in 10 ns units (R306). -/
def stateLimit (state : Nat) : Nat := if state = 1 then 10000000 else if state = 2 then 2000000 else 500000

/-- TRAIN_TIMEOUT (R306, R307): back to SEEK; the next attempt counts from the start of this one. -/
def trainTimeout (s0 : State) : State :=
  let s : State := { s0 with time := max s0.time (s0.rng.stateAt + stateLimit (s0.f F.RNG_STATUS_STATE)) }
  let s1 := ((s.bump F.RNG_CNT_TRAIN_TO_CNT).setB F.RNG_STATUS_TRAIN_TO true).raise 0x14
    (q4 (s.f F.RNG_STATUS_STATE) ++ q4 (laneBits s F.RNG_RX0_STAT_CDR_LOCK))
  { enterSeek s1 with rng.attempt := s.rng.attempt }

def execTrainTimeout (s : State) : Host.Outcome State Fault Refusal :=
  .next (if s.off || !inRange (s.f F.RNG_STATUS_STATE) 1 3 then s else trainTimeout s)

/-! ### Markers (R301, R303) -/

/-- The CRC of an alignment marker holds (R301). -/
def markerOk (m : List Byte) : Bool := m.length == 8 && u8 m 0 == 0 && u8 m 7 == hcrc (m.take 7)

/-- MAP, MAP_VER, LP and TX_ID of a marker (R301). -/
def mkMap (m : List Byte) : Nat := bitsOf (u8 m 1) 5 2
def mkVer (m : List Byte) : Nat := bitsOf (u8 m 1) 7 6
def mkLp (m : List Byte) : Nat := bitsOf (u8 m 4) 5 2
def mkTxId (m : List Byte) : Nat := u16 m 2

/-- Lanes the receiver can use: enabled and not dropped (R312). -/
def usable (s : State) : Nat := s.rng.laneEn &&& lanesOff (laneBits s F.RNG_RX0_STAT_DROPPED)

/-- The LANE_NOTICE beacon of R327. One that still waits is replaced. DESIGN CHOICE (notes/assumptions/65.md): while a drop
and a re-add are both outstanding, one notice names the lanes of both, with the reason of the drop. -/
def pushNotice (s : State) : State :=
  if s.rng.notice.isNone && s.rng.addAsk == 0 then s
  else
    let body := bytesLE 2 (s.f F.RNG_TXID_UP_TXID) ++ bytesLE 1 (usable s ||| s.rng.addAsk) ++ bytesLE 1 s.rng.rxVer ++
      bytesLE 1 s.sender ++ bytesLE 1 (s.rng.notice.getD 4) ++ zeros 2
    { s with cmd.out := s.cmd.out.filter (fun p => !(p.kind == .beacon && p.op == 0x02)) ++
        [⟨.ring, .beacon, 5, 0, false, 0x02, 0, 0, body, none⟩] }

/-- The reason a lane that is left out is reported with (R327). -/
def leftOutReason (s : State) (m : Nat) : Nat :=
  if !(m &&& lanesOff (laneBits s F.RNG_RX0_STAT_CDR_LOCK) == 0) then 0
  else if !(m &&& lanesOff (laneBits s F.RNG_RX0_STAT_BLOCK_LOCK) == 0) then 2
  else if !(m &&& lanesOff (efomAtLeast s 15 32) == 0) then 1
  else 3

/-- What every good marker tells of the transmitter upstream (R301, R323). -/
def noteUpstream (marker : List Byte) (s : State) : State :=
  ({ s with rng.rxVer := mkVer marker } : State).setF F.RNG_TXID_UP_TXID (mkTxId marker)

/-- What RNG_TRANSIT depends on: the rate and both maps. -/
def transitKey (s : State) : Nat × Nat × Nat := (s.rng.rate, s.f F.RNG_STATUS_RX_MAP, s.f F.RNG_STATUS_TX_MAP)

/-- The transit measured in RUN; it stays as it is while the rate and both maps do (R304). -/
def noteTransit (transit : Nat) (s : State) : State :=
  if s.rng.transitFor = some (transitKey s) then s
  else ({ s with rng.transitFor := some (transitKey s) } : State).setF F.RNG_TRANSIT_TRANSIT transit

/-- The transmit map changes, and MAP_VER with it (R301). -/
def announceMap (map : Nat) (s : State) : State :=
  if map = s.f F.RNG_STATUS_TX_MAP then s
  else ({ s with rng.txVer := (s.rng.txVer + 1) % 4 } : State).setF F.RNG_STATUS_TX_MAP map

/-- RING_RUN (R306, R310, R298): the markers agree. The BREAK beacons not yet sent go (R315). The bypass opens unless BYPASS_HOLD keeps it closed; lanes of the map
that were left out are reported upstream (R306, R312). -/
def ringRun (marker : List Byte) (transit : Nat) (s : State) : State :=
  let taken := laneBits s F.RNG_RX0_STAT_BLOCK_LOCK &&& usable s
  let map := mkMap marker
  let s1 := (noteUpstream marker s).setF F.RNG_STATUS_RX_MAP (map &&& taken) |>.setF F.RNG_STATUS_STATE 4
  let opens := s.fb F.RNG_STATUS_BYPASS && !s.fb F.RNG_CTRL_BYPASS_HOLD
  let s2 := if opens then
      announceMap (l0Tx s1) ((s1.setB F.RNG_STATUS_BYPASS false).setB F.RNG_STATUS_TX_ON true)
    else s1
  let out := map &&& lanesOff (usable s)
  let s3 := { s2.setB F.RNG_STATUS_SILENT false with
    rng.beacons := 0
    rng.beaconAt := none
    rng.lastBlock := none
    rng.notice := if out = 0 then none else some (leftOutReason s out)
    rng.addAsk := 0
    cmd.out := s2.cmd.out.filter (fun p => !(p.kind == .beacon && p.op == 0x01)) }
  pushNotice (noteTransit transit (lostReport s3) |>.raise 0x12 (q4 (map &&& taken) ++ q4 ((s.time - s.rng.leftRun) / 100000)))

def execRingRun (marker : List Byte) (transit : Nat) (s : State) : Host.Outcome State Fault Refusal :=
  .next (
    if s.off || !(s.f F.RNG_STATUS_STATE == 3) || !markerOk marker ||
      (laneBits s F.RNG_RX0_STAT_BLOCK_LOCK &&& usable s) == 0 then s
    else ringRun marker transit s)

/-- RNG_RXn_STAT as a marker refreshes it (R309, R323). -/
def refreshLanes (lanes : List LaneIn) (s : State) : State :=
  laneNos.foldl (fun t n =>
    match lanes[n]? with
    | none => t
    | some l =>
      ((((t.setB (ofLane F.RNG_RX0_STAT_SIGDET n) l.sig).setB (ofLane F.RNG_RX0_STAT_CDR_LOCK n) l.cdr).setB
        (ofLane F.RNG_RX0_STAT_BLOCK_LOCK n) l.lock).setF (ofLane F.RNG_RX0_STAT_EFOM n) (min 255 l.efom)).setF
        (ofLane F.RNG_RX0_STAT_INV_HDR n) (min 255 l.invHdr)) s

/-- The receive lanes follow the transmitter's power states (R317): a lane of LP enters L1, and L2 once its signal has
stopped; a lane of MAP is in L0. -/
def followPower (marker : List Byte) (s : State) : State :=
  laneNos.foldl (fun t n =>
    let p := t.f (rxPower n)
    let sig := t.fb (ofLane F.RNG_RX0_STAT_SIGDET n)
    if bitOf (mkMap marker) n then t.setF (rxPower n) 0
    else if bitOf (mkLp marker) n || !(p == 0) then t.setF (rxPower n) (if sig && !(p == 2) then 1 else 2)
    else t) s

/-- Lanes to drop one after another for a reason that never takes the last lane (R311, R314). -/
def dropSome (cand : Nat) (left : Nat) : Nat :=
  laneNos.foldl (fun m n => if bitOf cand n && decide (1 < laneCount (left &&& lanesOff m)) then m ||| 2 ^ n else m) 0

/-- The lanes to drop at a marker, of those received: without CDR lock, without block lock, by EFOM, by command (R311,
R324). -/
def dropsOf (s : State) (cur : Nat) : Nat × Nat × Nat × Nat :=
  let cdr := cur &&& lanesOff (laneBits s F.RNG_RX0_STAT_CDR_LOCK)
  let lock := cur &&& lanesOff cdr &&& lanesOff (laneBits s F.RNG_RX0_STAT_BLOCK_LOCK)
  let left := cur &&& lanesOff (cdr ||| lock)
  let efom := dropSome (left &&& lanesOff (efomAtLeast s 15 32)) left
  let cmd := dropSome (left &&& lanesOff efom &&& s.rng.dropNext) (left &&& lanesOff efom)
  (cdr, lock, efom, cmd)

/-- A lane joins the receive map again (R314, R317, R328). -/
def addLane (n : Nat) (s : State) : State :=
  ((s.setB (ofLane F.RNG_RX0_STAT_DROPPED n) false).setB F.RNG_STATUS_LANE_ADD true).raise 0x11
    (q4 n ++ q4 (s.f (ofLane F.RNG_RX0_STAT_EFOM n)))

/-- The lanes of the announced map that join again: not received so far, locked, and either not dropped or named in a
notice (R314). -/
def joining (s : State) (map cur : Nat) : Nat :=
  let good := laneBits s F.RNG_RX0_STAT_CDR_LOCK &&& laneBits s F.RNG_RX0_STAT_BLOCK_LOCK &&& efomAtLeast s 15 32
  map &&& lanesOff cur &&& good &&& (usable s ||| s.rng.addAsk)

/-- The notices a marker leaves outstanding (R312, R314): that of a drop while MAP names a dropped lane that is not asked back,
that of a re-add until the lanes it asks for are in the map or have failed. -/
def settleNotice (map : Nat) (s : State) : State :=
  let waits := s.rng.addAsk &&& laneBits s F.RNG_RX0_STAT_DROPPED &&& laneBits s F.RNG_RX0_STAT_CDR_LOCK &&&
    laneBits s F.RNG_RX0_STAT_BLOCK_LOCK
  let out := map &&& lanesOff (usable s ||| waits)
  { s with rng.addAsk := waits
           rng.notice := if out = 0 then none else some (s.rng.notice.getD (leftOutReason s out)) }

/-- Usable lanes with CDR lock and block lock. -/
def goodLanes (s : State) : Nat :=
  usable s &&& laneBits s F.RNG_RX0_STAT_CDR_LOCK &&& laneBits s F.RNG_RX0_STAT_BLOCK_LOCK

/-- The drops of R311 at a marker, and their notice (R312). -/
def applyDrops (d : Nat × Nat × Nat × Nat) (s : State) : State :=
  let s1 := dropLanes d.2.2.2 3 (dropLanes d.2.2.1 1 (dropLanes d.2.1 2 (dropLanes d.1 0 s)))
  let reason := if !(d.1 == 0) then 0 else if !(d.2.1 == 0) then 2 else if !(d.2.2.1 == 0) then 1 else 3
  let all := d.1 ||| d.2.1 ||| d.2.2.1 ||| d.2.2.2
  let s2 : State := { s1 with rng.dropNext := 0, rng.cmdDrop := s1.rng.cmdDrop ||| d.2.2.2 }
  if all = 0 then s2 else { s2 with rng.notice := some reason }

/-- The dropped lanes of a mask that are good: CDR lock, block lock, EFOM of 96 or more (R314). -/
def addable (m : Nat) (s : State) : Nat :=
  efomAtLeast s (m &&& laneBits s F.RNG_RX0_STAT_DROPPED &&& laneBits s F.RNG_RX0_STAT_CDR_LOCK &&&
    laneBits s F.RNG_RX0_STAT_BLOCK_LOCK) 96

/-- Since when each dropped lane has been good without a break, as the markers show it (R309, R314). -/
def trackGood (s : State) : State :=
  let good := addable 15 s
  { s with rng.goodSince := (laneNos.filter (bitOf good)).map (fun n => (n, (kvGet s.rng.goodSince n).getD s.time)) }

/-- A good marker in RUN (R301, R303, R311, R312, R314, R317). -/
def markerRun (marker : List Byte) (lanes : List LaneIn) (transit : Nat) (s : State) : State :=
  let s0 := noteUpstream marker (refreshLanes lanes s)
  let cur := s.f F.RNG_STATUS_RX_MAP &&& lanesOff (mkLp marker)
  let s1 := adapt (laneBits s0 F.RNG_RX0_STAT_CDR_LOCK &&& lanesOff (sleepingRx s0)) s0
  let d := dropsOf s1 cur
  let join := joining s1 (mkMap marker) cur
  let s2 := laneNos.foldl (fun t n => if bitOf join n then addLane n t else t) (applyDrops d s1)
  let left := cur &&& lanesOff (d.1 ||| d.2.1 ||| d.2.2.1 ||| d.2.2.2) ||| join
  if (decide (cur ≠ 0) && left == 0) || goodLanes s2 == 0 then
    let why := if laneBits s1 F.RNG_RX0_STAT_SIGDET = 0 then 0 else if laneBits s1 F.RNG_RX0_STAT_CDR_LOCK = 0 then 1 else 2
    enterSeek (leaveRun why s2)
  else
    let s3 := followPower marker ({ s2 with rng.cmdDrop := s2.rng.cmdDrop &&& lanesOff join } |>.setF F.RNG_STATUS_RX_MAP (mkMap marker &&& left))
    pushNotice (settleNotice (mkMap marker) (noteTransit transit (trackGood s3)))

/-- ALIGNMENT_MARKER (R301): a marker whose CRC fails is ignored; in ALIGN it only refreshes the lanes. -/
def alignmentMarker (marker : List Byte) (lanes : List LaneIn) (transit : Nat) (s : State) : State :=
  if !markerOk marker then s
  else if s.f F.RNG_STATUS_STATE = 4 then markerRun marker lanes transit s
  else if s.f F.RNG_STATUS_STATE = 3 then noteUpstream marker (refreshLanes lanes s)
  else s

def execAlignmentMarker (marker : List Byte) (lanes : List LaneIn) (transit : Nat) (s : State) :
    Host.Outcome State Fault Refusal :=
  .next (if s.off then s else alignmentMarker marker lanes transit s)

/-- LANE_LOCK_LOSS (R311): a lane in RUN loses its signal (0), its CDR lock (1) or its block lock (2). The drop comes at
the next marker; when no lane of the map is left, the receiver enters SEEK. -/
def laneLockLoss (lane what : Nat) (s : State) : State :=
  let s1 := { s.setB (ofLane F.RNG_RX0_STAT_BLOCK_LOCK lane) false with rng.goodSince := kvErase lane s.rng.goodSince }
  let s2 := if what ≤ 1 then s1.setB (ofLane F.RNG_RX0_STAT_CDR_LOCK lane) false else s1
  let s3 := if what = 0 then restLanes (s2.setB (ofLane F.RNG_RX0_STAT_SIGDET lane) false) else s2
  let map := s3.f F.RNG_STATUS_RX_MAP
  if (decide (map ≠ 0) && map &&& laneBits s3 F.RNG_RX0_STAT_BLOCK_LOCK == 0) || goodLanes s3 == 0 then enterSeek (leaveRun (min 2 what) s3) else s3

def execLaneLockLoss (lane what : Nat) (s : State) : Host.Outcome State Fault Refusal :=
  .next (if s.off || !(s.f F.RNG_STATUS_STATE == 4) || decide (3 < lane) then s else laneLockLoss lane what s)

/-- AUTO_READD (R314): a dropped lane has been good for 1 s. -/
def autoReadd (lane : Nat) (s : State) : State :=
  match kvGet s.rng.goodSince lane with
  | none => s
  | some t => pushNotice { s with time := max s.time (t + 100000000), rng.addAsk := s.rng.addAsk ||| 2 ^ lane }

def execAutoReadd (lane : Nat) (s : State) : Host.Outcome State Fault Refusal :=
  .next (
    if s.off || !(s.f F.RNG_STATUS_STATE == 4) || !s.fb F.RNG_CTRL_AUTO_READD || decide (3 < lane) ||
      addable (2 ^ lane) s == 0 || bitOf s.rng.cmdDrop lane then s
    else autoReadd lane s)

/-! ### The transmitter -/

/-- The 8 bytes of the marker of one lane (R301). -/
def markerBytes (s : State) (map lp lane : Nat) : List Byte :=
  let b := [0] ++ bytesLE 1 (lane + 4 * map + 64 * s.rng.txVer) ++ bytesLE 2 (s.f F.RNG_TXID_TXID) ++
    bytesLE 1 (s.rng.rate + 4 * lp) ++ bytesLE 1 s.sender ++ [0]
  b ++ bytesLE 1 (hcrc b)

/-- Lanes that wait to enter a power state, or to leave theirs (R317). -/
def lpMask (s : State) (up : Bool) : Nat :=
  maskOf (laneNos.map (fun n => s.rng.lpNext.any (fun e => e.1 == n && (e.2 == 0) == up)))

/-- The map the next marker announces (R303, R312, R317). -/
def nextMap (s : State) (ready : Bool) : Nat :=
  ((s.rng.txNext.getD (s.f F.RNG_STATUS_TX_MAP)) &&& lanesOff (lpMask s false)) ||| (if ready then lpMask s true else 0)

/-- Markers go while the lane PLL is locked and a lane is awake; where every lane is in L2, once POWER brings one back, and the
lane PLL with it (R31, R317). -/
def State.marks (s : State) : Bool := if s.ringAsleep then !(lpMask s true == 0) else s.rng.pll

/-- MARKER_SEND (R301): the map, the lane power states and the FFE setting change at a marker. `ready`: the lanes that
return are ready at the receiver (R317). -/
def markerSend (ready : Bool) (s : State) : State :=
  let map := nextMap s ready
  let lp := lpMask s false
  let live := l0Tx s ||| (if ready then lpMask s true else 0)
  let ver := if map = s.f F.RNG_STATUS_TX_MAP then s.rng.txVer else (s.rng.txVer + 1) % 4
  let s1 := { s with rng.txVer := ver, rng.txNext := none, rng.ffeNext := none, rng.pll := true,
                     rng.lpNext := if ready then [] else s.rng.lpNext.filter (fun e => e.2 == 0) }
  let s2 := s1.setF F.RNG_STATUS_TX_MAP map
  let s3 := s.rng.lpNext.foldl (fun t e => t.setF (txPower e.1) e.2) s2
  let s4 := match s.rng.ffeNext with
    | some (pre, post) => (s3.setF F.RNG_TXFFE_PRE pre).setF F.RNG_TXFFE_POST post
    | none => s3
  { s4 with dn := if s.fb F.RNG_STATUS_TX_ON then (laneNos.filter (bitOf live)).flatMap (markerBytes s1 map lp) else s.dn }

def execMarkerSend (ready : Bool) (s : State) : Host.Outcome State Fault Refusal :=
  .next (if s.off || !s.marks || s.f F.RNG_STATUS_STATE == 5 then s else markerSend ready s)

/-- LANE_NOTICE (R312): the transmitter it names takes it off the ring; any other forwards it, through the transit buffer where
its map is narrower or a packet waits there (R305). -/
def execLaneNotice (bytes : List Byte) (s : State) : Host.Outcome State Fault Refusal :=
  .next (
    if !s.ringRuns then s
    else if noticeForUs s bytes then takeNotice bytes { s with dn := [] }
    else forward bytes false s)

/-- LANE_PLL_LOSS (R31): the ring stops at this engine. -/
def lanePllLoss (s : State) : State :=
  let s1 : State := { s with rng.pll := false, dn := [] }
  if s.f F.RNG_STATUS_STATE ≤ 4 then enterSeek (leaveRunAsked s1) else s1

def execLanePllLoss (s : State) : Host.Outcome State Fault Refusal := .next (if s.off then s else lanePllLoss s)

/-- UPSTREAM_SILENT (R315): 10 ms without a valid block, with the bypass open. -/
def execUpstreamSilent (s : State) : Host.Outcome State Fault Refusal :=
  .next (
    if s.off || s.fb F.RNG_STATUS_BYPASS || s.fb F.RNG_STATUS_SILENT || s.f F.RNG_STATUS_STATE == 5 then s
    else match s.rng.lastBlock with
      | none => s
      | some t => ({ s with time := max s.time (t + 1000000), rng.silentFrom := t, rng.beaconAt := none } : State).setB
          F.RNG_STATUS_SILENT true)

/-- Why no block is received (R327). -/
def silentReason (s : State) : Nat :=
  if laneBits s F.RNG_RX0_STAT_SIGDET = 0 then 0
  else if s.f F.RNG_STATUS_STATE = 0 then 1
  else if s.f F.RNG_STATUS_STATE ≤ 2 then 2
  else 3

/-- BREAK_BEACON_SEND (R315, R327): one every 1.0 ms while silent, with the bypass open and in no test loop (R319). DEDUCED (notes/assumptions/65.md): the silence it tells of
is that which set SILENT, also while the receiver stands in ALIGN again. -/
def breakBeacon (s : State) : State :=
  let t := max s.time (match s.rng.beaconAt with | some b => b + 100000 | none => s.rng.silentFrom + 1000000)
  let s1 := { s with time := t, rng.beacons := s.rng.beacons + 1, rng.beaconAt := some t }
  let body := bytesLE 1 s.sender ++ bytesLE 1 (silentReason s) ++ bytesLE 2 (s.f F.RNG_TXID_UP_TXID) ++
    bytesLE 4 ((t - s.rng.silentFrom) / 100000) ++ bytesLE 4 s.tck.frame ++ bytesLE 2 (s.rng.beacons + 1) ++ zeros 2
  ({ s1 with cmd.out := s1.cmd.out ++ [⟨.ring, .beacon, 5, 0, false, 0x01, 0, 0, body, none⟩] } : State).setB
    F.RNG_STATUS_BREAK_TX true

def execBreakBeaconSend (s : State) : Host.Outcome State Fault Refusal :=
  .next (
    if s.off || !s.fb F.RNG_STATUS_SILENT || s.fb F.RNG_STATUS_BYPASS || s.f F.RNG_STATUS_STATE == 5 ||
      s.f F.RNG_STATUS_TX_MAP == 0 || !s.rng.pll then s
    else breakBeacon s)

/-! ### What waits 1.0 ms -/

/-- SET_RATE_APPLY (R324). -/
def execSetRateApply (s : State) : Host.Outcome State Fault Refusal :=
  .next (match s.rng.rateNext with
    | none => s
    | some r => toSeek (coefReset ({ s with time := max s.time s.rng.rateAt, rng.rateNext := none } |>.setF F.RNG_CTRL_RATE r)))

/-- LANE_L2_ALL_OFF (R318): every transmit lane goes to L2 and out of the map; the receive lanes follow when their signal has
stopped. -/
def l2AllOff (s : State) : State :=
  restLanes (({ s with time := max s.time s.rng.l2At, rng.l2Next := false, rng.lpNext := [], rng.txNext := none, dn := [] } : State).setF
    F.RNG_LPWR_TX 0xAA |>.setF F.RNG_STATUS_TX_MAP 0)

def execLaneL2AllOff (s : State) : Host.Outcome State Fault Refusal :=
  .next (if s.off || !s.rng.l2Next then s else l2AllOff s)

/-- LOOP_START (R319): in the near-end loops the bypass closes, in the far-end loop it is open. -/
def loopStart (kind dur : Nat) (s0 : State) : State :=
  let s : State := { s0 with time := max s0.time s0.rng.loopAt }
  let s1 := leaveRunAsked s
  let s2 := ({ s1 with rng.loopAsk := none, rng.loopEnd := s.time + 100000000 * dur, rng.notice := none, rng.addAsk := 0,
                       rng.transitFor := none, rng.loopClosed := s.fb F.RNG_STATUS_BYPASS } : State).setF
    F.RNG_STATUS_STATE 5 |>.setF F.RNG_STATUS_RX_MAP 0 |>.setF F.RNG_LOOP_KIND kind |>.setF F.RNG_LOOP_ERR_CNT 0
  if kind ≤ 2 then closeBypass s2
  else if s.fb F.RNG_CTRL_BYPASS_HOLD then s2
  else (s2.setB F.RNG_STATUS_BYPASS false).setB F.RNG_STATUS_TX_ON true

def execLoopStart (s : State) : Host.Outcome State Fault Refusal :=
  .next (match s.rng.loopAsk with
    | some (kind, dur) => if s.off then s else loopStart kind dur s
    | none => s)

/-- LOOP_END (R319): its duration expires; `errors` are the bit errors the checker found. -/
def execLoopEnd (errors : Nat) (s : State) : Host.Outcome State Fault Refusal :=
  .next (
    if s.off || s.f F.RNG_LOOP_KIND == 0 then s
    else loopEnds errors { s with time := max s.time s.rng.loopEnd })

end Sys2Proof.Machine
end

