-- ==== Sys2Proof/Machine/LaneCtl.lean ====
section
/-! DEFINITION. LANE_CTL and RING_STATUS (R317 to R319, R324, R325). -/

namespace Sys2Proof.Machine

/-- The 4-byte reply of R324, from byte 1 on. -/
def laneReply (s : State) : List Byte :=
  bytesLE 1 (s.f F.RNG_STATUS_STATE) ++ bytesLE 1 (s.f F.RNG_STATUS_RX_MAP + 16 * s.f F.RNG_STATUS_TX_MAP) ++ [0]

/-- A LANE_CTL that is done. -/
def laneOk (s : State) : State × Reply := okReply (laneReply s) s

/-- A LANE_CTL action: LEN 8 and its own ACTION code (R324). -/
def laneCtl (action : Nat) (rq : Req) (body : State → State × Reply) (s : State) : State :=
  command 0x70 rq (withLen (len rq 8) (fun s => if u8 rq.payload 0 = action then body s else refuse St.badParam s)) s

/-- LANES, VALUE_A, VALUE_B and VALUE_C (R324). -/
def laneArg (rq : Req) : Nat := u8 rq.payload 1 % 16
def valA (rq : Req) : Nat := u8 rq.payload 2
def valB (rq : Req) : Nat := u8 rq.payload 3
def valC (rq : Req) : Nat := u16 rq.payload 4

/-- RETRAIN: the receiver to SEEK, with retained coefficients. -/
def retrainBody (s : State) : State × Reply := laneOk (toSeek s)

def execLaneCtlRetrain (rq : Req) (s : State) : Host.Outcome State Fault Refusal := .next (laneCtl 0 rq retrainBody s)

/-- 1.0 ms after the end of the packet: the TIME of its acceptance stands in the journal entry of the command (R282, R338). -/
def State.packetEnd (s : State) : Nat :=
  match s.cmd.journal.find? (fun e => e.seq == s.curSeq) with
  | some e => e.time + 100000
  | none => s.time + 100000

/-- SET_RATE: only addressed to 31; it applies 1.0 ms after the packet. -/
def setRateBody (rq : Req) : State → State × Reply :=
  guarded [(rq.bcast, St.badParam), (decide (valA rq ≤ 2), St.range)]
    (fun s => laneOk { s with rng.rateNext := some (valA rq), rng.rateAt := s.packetEnd })

def execLaneCtlSetRate (rq : Req) (s : State) : Host.Outcome State Fault Refusal := .next (laneCtl 1 rq (setRateBody rq) s)

/-- DROP: at the next marker, with reason COMMAND; one lane must remain. -/
def laneDropBody (rq : Req) (s : State) : State × Reply :=
  if s.f F.RNG_STATUS_RX_MAP &&& lanesOff (laneArg rq ||| s.rng.dropNext) = 0 then refuse St.badParam s
  else laneOk { s with rng.dropNext := s.rng.dropNext ||| laneArg rq }

def execLaneCtlDrop (rq : Req) (s : State) : Host.Outcome State Fault Refusal := .next (laneCtl 2 rq (laneDropBody rq) s)

/-- ADD: a LANE_NOTICE with reason ADD for the named lanes that are good. -/
def laneAddBody (rq : Req) (s : State) : State × Reply :=
  let m := addable (laneArg rq) s
  if m = 0 || !(s.f F.RNG_STATUS_STATE == 4) then laneOk s
  else laneOk (pushNotice { s with rng.addAsk := s.rng.addAsk ||| m })

def execLaneCtlAdd (rq : Req) (s : State) : Host.Outcome State Fault Refusal := .next (laneCtl 3 rq (laneAddBody rq) s)

/-- The lanes of a mask as requests for a power state at the next marker. -/
def askPower (m st : Nat) (l : List (Nat × Nat)) : List (Nat × Nat) :=
  laneNos.foldl (fun t n => if bitOf m n then kvPut n st t else t) l

/-- POWER: transmit lanes to L0, L1 or L2 at a marker (R317); with ALL, every lane to L2 1.0 ms after the packet (R318). A
lane already in L0 needs no return. -/
def lanePowerBody (rq : Req) : State → State × Reply :=
  guarded [(decide (valA rq ≤ 2), St.range)] (fun s =>
    if bitOf (valB rq) 0 then
      if valA rq = 2 && rq.bcast then laneOk { s with rng.l2Next := true, rng.l2At := s.packetEnd } else refuse St.badParam s
    else if valA rq = 0 then
      laneOk { s with rng.lpNext := askPower (laneArg rq &&& lanesOff (l0Tx s)) 0 (s.rng.lpNext.filter (fun e => !bitOf (laneArg rq) e.1)) }
    else if s.f F.RNG_STATUS_TX_MAP &&& lanesOff (laneArg rq ||| lpMask s false) = 0 then refuse St.badParam s
    else laneOk { s with rng.lpNext := askPower (laneArg rq) (valA rq) s.rng.lpNext })

def execLaneCtlPower (rq : Req) (s : State) : Host.Outcome State Fault Refusal := .next (laneCtl 4 rq (lanePowerBody rq) s)

/-- FFE: PRE 0 to 8 and POST 0 to 20, from the next marker. -/
def laneFfeBody (rq : Req) : State → State × Reply :=
  guarded [(decide (valA rq ≤ 8), St.range), (decide (valB rq ≤ 20), St.range)]
    (fun s => laneOk { s with rng.ffeNext := some (valA rq, valB rq) })

def execLaneCtlFfe (rq : Req) (s : State) : Host.Outcome State Fault Refusal := .next (laneCtl 5 rq (laneFfeBody rq) s)

/-- LOOP (R319): KIND 0 by the service port ends a loop early; KIND 1 to 3 is scheduled. While a loop runs or is
scheduled, another is answered BUSY. -/
def laneLoopBody (rq : Req) : State → State × Reply :=
  guarded [(decide (valA rq ≤ 3), St.range)] (fun s =>
    if valA rq = 0 then
      if rq.port = .spi then laneOk (loopCut { s with rng.loopAsk := none }) else laneOk s
    else guarded [(inRange (valC rq) 1 255, St.range), (s.lamp == Lamp.dark || s.lamp == Lamp.stopped, St.refusedState),
        (s.f F.RNG_LOOP_KIND == 0 && s.rng.loopAsk.isNone, St.busy)]
      (fun s => laneOk { s with rng.loopAsk := some (valA rq, valC rq), rng.loopAt := s.time + 100000 }) s)

def execLaneCtlLoop (rq : Req) (s : State) : Host.Outcome State Fault Refusal := .next (laneCtl 6 rq (laneLoopBody rq) s)

/-- SLIP (R308): only on stream 1, with SLIP_MAN = 1, in LOCK. -/
def laneSlipBody (rq : Req) : State → State × Reply :=
  fun s => guarded [(decide (valA rq ≤ 3), St.range), (inRange (valB rq) 1 65, St.range),
      (rq.stream == 1 && s.fb F.RNG_CTRL_SLIP_MAN && s.f F.RNG_STATUS_STATE == 2, St.refusedState)]
    (fun s =>
      let x := ofLane F.RNG_RX0_STAT_SLIP (valA rq)
      laneOk (s.setF x ((s.f x + valB rq) % 66))) s

def execLaneCtlSlip (rq : Req) (s : State) : Host.Outcome State Fault Refusal := .next (laneCtl 7 rq (laneSlipBody rq) s)

/-- The equaliser write of one lane: CTLE acts only while FREEZE is 1 (R323). -/
def laneEq (a b n : Nat) (s : State) : State :=
  let s1 := s.setB (ofLane F.RNG_RX0_EQ_FREEZE n) (bitOf a 0)
  if bitOf a 1 && bitOf a 0 then s1.setF (ofLane F.RNG_RX0_EQ_CTLE n) b else s1

/-- EQ: RNG_RXn_EQ of each lane in LANES. -/
def laneEqBody (rq : Req) : State → State × Reply :=
  guarded [(!bitOf (valA rq) 1 || decide (valB rq ≤ 15), St.range)]
    (fun s => laneOk (laneNos.foldl (fun t n => if bitOf (laneArg rq) n then laneEq (valA rq) (valB rq) n t else t) s))

def execLaneCtlEq (rq : Req) (s : State) : Host.Outcome State Fault Refusal := .next (laneCtl 8 rq (laneEqBody rq) s)

/-- Bytes 1 to 39 of the reply of RING_STATUS (R325). -/
def ringStatusBytes (s : State) : List Byte :=
  bytesLE 1 (s.f F.RNG_STATUS_STATE + 8 * s.f F.RNG_STATUS_BYPASS + 16 * s.f F.RNG_STATUS_TX_ON + 32 * s.f F.RNG_STATUS_SILENT +
      64 * b2n s.mule) ++
    bytesLE 1 (s.f F.RNG_STATUS_RX_MAP + 16 * s.f F.RNG_STATUS_TX_MAP) ++ bytesLE 1 s.rng.rate ++
    bytesLE 1 (s.f F.RNG_ADDR_ADDR + 32 * s.f F.RNG_ADDR_VALID) ++ bytesLE 1 (s.f F.RNG_ADDR_HOP) ++
    bytesLE 2 (s.f F.RNG_TXID_TXID) ++ bytesLE 4 (s.reg 0x100C).toNat ++ bytesLE 2 (s.f F.RNG_TRANSIT_TRANSIT) ++
    bytesLE 2 (s.f F.RNG_TXID_UP_TXID) ++ laneNos.flatMap (fun n => bytesLE 1 (s.f (ofLane F.RNG_RX0_STAT_EFOM n))) ++
    laneNos.flatMap (fun n => bytesLE 1 (s.f (ofLane F.RNG_RX0_EQ_CTLE n))) ++ bytesLE 2 (s.f F.RNG_CNT_TRAIN_TO_CNT) ++
    bytesLE 2 (s.f F.RNG_CNT_TRAIN_ABORT_CNT) ++ bytesLE 2 (s.f F.RNG_CNT2_DROP_CNT) ++ bytesLE 2 (s.f F.RNG_CNT2_VID_SHED) ++
    bytesLE 2 s.silentMs ++ bytesLE 1 (s.f F.RNG_TXFFE_PRE) ++ bytesLE 1 (s.f F.RNG_TXFFE_POST) ++ bytesLE 4 s.tck.frame

/-- RING_STATUS (R325). -/
def ringStatusBody (rq : Req) : State → State × Reply := withLen (len rq 0) (fun s => okReply (ringStatusBytes s) s)

def execRingStatus (rq : Req) (s : State) : Host.Outcome State Fault Refusal :=
  .next (command 0x71 rq (ringStatusBody rq) s)

end Sys2Proof.Machine
end

