-- ==== Sys2Proof/Machine/Enum.lean ====
section
/-! DEFINITION. ENUM (R320 to R322, R326): addresses in ring order and the position delay. -/

namespace Sys2Proof.Machine

/-- An ENUM pass of a wrong LEN or PHASE is ignored and counted (R326). -/
def enumIgnored (s : State) : State := (s.bump F.CMD_CNT_IGN_BCAST_CNT).setB F.CMD_STATUS_BCAST_IGN true

/-- The lowest EFOM of the receive map (R326); 255 when it is empty. -/
def efomMin (s : State) : Nat :=
  ((laneNos.filter (bitOf (s.f F.RNG_STATUS_RX_MAP))).map (fun n => s.f (ofLane F.RNG_RX0_STAT_EFOM n))).foldl min 255

/-- Step 2 of R320: under ASSIGN the engine takes NEXT_ADDR, or no address. -/
def takeAddress (p : List Byte) (s : State) : State × Nat :=
  let next := u8 p 2
  if bitOf (u8 p 1) 0 then (s, next)
  else if 30 < next || 16 < u8 p 3 + 1 then
    (((s.setF F.RNG_ADDR_ADDR 31).setB F.RNG_ADDR_VALID false).setB F.RNG_STATUS_ENUM_OVF true, next)
  else ((s.setF F.RNG_ADDR_ADDR next).setB F.RNG_ADDR_VALID true, next + 1)

/-- The 8-byte record of R326: `old` is the state before the pass. -/
def enumRecord (old s : State) : List Byte :=
  let changed := !(old.f F.RNG_ADDR_ADDR == s.f F.RNG_ADDR_ADDR && old.fb F.RNG_ADDR_VALID == s.fb F.RNG_ADDR_VALID)
  bytesLE 1 (if s.fb F.RNG_ADDR_VALID then s.f F.RNG_ADDR_ADDR else 31) ++ bytesLE 1 (s.f F.RNG_ADDR_HOP) ++
    bytesLE 2 (s.f F.RNG_TRANSIT_TRANSIT) ++ bytesLE 1 (s.f F.RNG_STATUS_RX_MAP + 16 * s.f F.RNG_STATUS_TX_MAP) ++
    bytesLE 1 (b2n changed + 2 * b2n !s.fb F.RNG_ADDR_VALID) ++ bytesLE 1 (efomMin s) ++ bytesLE 1 0x41

/-- The packet as it leaves extended; its CRC is inverted when the CRC it came with failed (R333). -/
def enumForward (rq : Req) (payload : List Byte) (crcOk : Bool) : List Byte :=
  let pkt := encodePkt 31 4 (rq.stream + 8 * b2n rq.quiet) 0x03 rq.tag rq.alive rq.arg payload
  if crcOk then pkt
  else pkt.take (pkt.length - 4) ++ (pkt.drop (pkt.length - 4)).map (fun b => ~~~ b)

/-- ENUM pass 1 (R320), as the packet passes; forwarded as any other (R305). -/
def enumPass1 (rq : Req) (crcOk : Bool) (s : State) : State :=
  let p := rq.payload
  let s1 := s.setF F.RNG_ADDR_HOP (u8 p 3 + 1)
  let a := takeAddress p s1
  let s2 := ({ a.1 with rng.acc := some (u32 p 4) } : State).setB F.RNG_POSDLY_VALID false
  let head := p.take 2 ++ bytesLE 1 a.2 ++ bytesLE 1 (u8 p 3 + 1) ++
    bytesLE 4 (u32 p 4 + s2.f F.RNG_TRANSIT_TRANSIT) ++ p.drop 8
  forward (enumForward rq (head ++ enumRecord s1 s2) crcOk) false s2

/-- Pass 1 has PHASE 0 and LEN 16 + 8 × COUNT (R326). -/
def pass1Ok (rq : Req) : Bool := u8 rq.payload 0 == 0 && rq.payload.length == 16 + 8 * u8 rq.payload 3

/-- An ENUM that passes an engine in RUN, and whose CRC holds, is accepted (R335, R338). -/
def enumAccept (rq : Req) (crcOk : Bool) (s : State) : State := if s.ringRuns && rq.bcast && crcOk then accept 4 0x03 rq s else s

/-- ENUM_PASS1 (R320): only in RUN, only as a broadcast. An engine out of RUN takes no part in the pass (R321). -/
def execEnumPass1 (rq : Req) (crcOk : Bool) (s : State) : Host.Outcome State Fault Refusal :=
  .next (
    if s.off then s
    else
      let s1 := unpark 0x03 rq (enumAccept rq crcOk s)
      if !s.ringRuns then { s1 with rng.acc := none }
      else if !rq.bcast then s1
      else if pass1Ok rq then enumPass1 rq crcOk s1
      else enumIgnored s1)

/-- The weights W_0 to W_(HOPS − 1); all 1 when every one is 0 (R321). -/
def hopWeights (p : List Byte) (hops : Nat) : List Nat :=
  let w := (List.range hops).map (fun j => u16 p (12 + 2 * j))
  if w.all (· == 0) then w.map (fun _ => 1) else w

/-- POSDLY of R321. -/
def posDelay (p : List Byte) (a hop : Nat) : Nat :=
  let w := hopWeights p (u8 p 2)
  a + roundDiv (u32 p 4 * (w.take hop).sum) w.sum

/-- Pass 2 has PHASE 1 and LEN 12 + 2 × HOPS, rounded up to a multiple of 4 (R326). -/
def pass2Ok (rq : Req) : Bool :=
  u8 rq.payload 0 == 1 && rq.payload.length == (12 + 2 * u8 rq.payload 2 + 3) / 4 * 4

/-- ENUM pass 2 (R321): an engine that took part in pass 1 and stands below HOPS takes its position delay. -/
def enumPass2 (rq : Req) (s : State) : State :=
  let hops := u8 rq.payload 2
  let hop := s.f F.RNG_ADDR_HOP
  match s.rng.acc with
  | none => s
  | some a =>
    if hop < hops then
      let d := posDelay rq.payload a hop
      let s1 := ((s.setF F.RNG_POSDLY_POSDLY d).setB F.RNG_POSDLY_VALID true).setF F.RNG_ADDR_COUNT (hops - 1)
      s1.raise 0x16 (q4 (s1.f F.RNG_POSDLY_POSDLY) ++ q4 hop)
    else s

/-- ENUM_PASS2 (R321). -/
def execEnumPass2 (rq : Req) (s : State) : Host.Outcome State Fault Refusal :=
  .next (
    if s.off then s
    else
      let s1 := unpark 0x03 rq (enumAccept rq true s)
      if !s.ringRuns || !rq.bcast then s1
      else if pass2Ok rq then enumPass2 rq s1
      else enumIgnored s1)

end Sys2Proof.Machine
end

