-- ==== Sys2Proof/Machine/Ecc.lean ====
section
/-! DEFINITION. Errors of the image store: single-bit errors, and uncorrectable ones by reader (R36). -/

namespace Sys2Proof.Machine

/-- The tile of a pixel in a table takes the stored factor, at the next tick (R36, R96). -/
def reloadTile (p : Nat) (soon stored : Mem 16) : Mem 16 :=
  let t := tileOf p
  Mem.write 0x8000 soon t (Mem.read 0x8000 stored t)

/-- DRV meets one in a gain word: its four pixels are driven dark in this image, and the gains are reloaded from eNVM before
the next one: their tile's factors are the stored ones again (R36). The word lies at 2 bytes a pixel (R96). -/
def gainEcc (pixel : Nat) (s : State) : State :=
  let p := pixel % 0x100000 / 4 * 4
  (({ s with
      drv.dark := setInsert p s.drv.dark
      drv.foptNext := some (reloadTile p (s.drv.foptNext.getD s.drv.fopt) s.nvm.fopt)
      drv.felNext := some (reloadTile p (s.drv.felNext.getD s.drv.fel) s.nvm.fel) }.setB F.DRV_STATUS_CAL_ECC true).bump F.DRV_CNT_CAL_ECC_CNT).raise 0x61
    (q4 (2 * p))

/-- The command at the head of the queue is answered BAD_CRC (R36); a CHK_RUN that is not long ends before the word (R368). -/
def commandEcc (addr : Nat) (s : State) : State :=
  match s.cmd.inbox.filter QEntry.inQueue with
  | [] => s
  | e :: _ =>
    if s.mustWait e.op e.rq then s
    else if e.op = 0x58 then runBody 0x58 false e.rq (chkRunWith (some addr) e.rq) s
    else lostReport (finalReply e.op e.rq s.cmd.seq St.badCrc [] (unpark e.op e.rq (openEntry e.op e.rq (!reqClassN e.op e.rq) s)))

/-- A single-bit error is corrected and counted, per bank and for the half whose read met it (R36, R291). -/
def eccCorrected (bank : Nat) (half : Option Half) (s : State) : State :=
  let b := bank % 32
  let s1 : State := { s with hlv.corrected := kvPut b ((kvGet s.hlv.corrected b).getD 0 + 1) s.hlv.corrected }
  match half with
  | some h => s1.bump (ofHalf F.HLV_HEALTH_A_ECC_CORR h)
  | none => s1

/-- ECC_UNCORRECTABLE (R36). DIA's map is reloaded from the newer valid copy; the image in composition keeps the map it began
with (R210). -/
def eccUncorrectable (r : EccReader) (s : State) : State :=
  match r with
  | .half h => halfFault h 2 s
  | .gains p => gainEcc p s
  | .fallback _ => loadFallback (copiesFail (s.setB F.SAF_FB_VALID false))
  | .map => loadMap s
  | .chk n addr => if n < 4 then chkEcc n addr s else s
  | .command addr => commandEcc addr s
  | .corrected bank half => eccCorrected bank half s

def execEccUncorrectable (r : EccReader) (s : State) : Host.Outcome State Fault Refusal :=
  .next (if s.off then s else eccUncorrectable r s)

end Sys2Proof.Machine
end

