-- ==== Sys2Proof/Machine/Takeover.lean ====
section
/-! DEFINITION. The takeover of the active half and the journal sweep (R276, R278, R284 to R286). -/

namespace Sys2Proof.Machine

/-! ### Step 1: the object sample (R276) -/

/-- The sample of the period before, if it was not taken: placed for that period, with the set now in force. -/
def lateSample (s : State) : State :=
  let t : State := { s with tck.tickTime := s.tck.tickTime - (ratRound s.periodAct).toNat }
  let s1 := sampleWith t s.tck.act s
  staleEvent s.obj.cur s1.obj.next { s1 with obj.cur := s1.obj.next, obj.taken := false }

/-! ### Step 3: the sweep -/

/-- Bytes 1 to 15 of a FAILED_SWITCH reply (R286). -/
def failedBody (e : JEntry) (progress : Nat) (a : Abdicated) : List Byte :=
  bytesLE 1 e.op ++ bytesLE 2 e.seq ++ bytesLE 4 progress ++ bytesLE 4 a.frame ++ bytesLE 1 a.cause ++ zeros 3

/-- PROGRESS of an executing command of class N (R285). -/
def progressOf (s : State) (e : JEntry) : Nat :=
  if e.op = 0x68 then s.f F.NVM_BIST_STEP
  else if e.op = 0x6A then (if s.nvm.test.any (fun t => t.origin == 0) then s.f F.NVM_BIST_STEP else 0)
  else if e.op = 0x09 then (wrWords e.rq).length
  else if e.op = 0x0A then 1
  else e.progress

/-- The eNVM operations of a command that is not carried on: the one in progress completes (R290), the rest go. -/
def dropOps (q : Nat) (s : State) : State :=
  match s.nvm.ops with
  | [] => s
  | o :: t =>
    let rest := t.filter (fun x => !(x.owner == some q))
    let ops := if o.owner = some q then (if s.nvm.started then { o with owner := none } :: rest else rest) else o :: rest
    syncLog { s with nvm.ops := ops }

/-- A self-test that its command no longer carries on (R284, R457). -/
def dropTest (s : State) : State :=
  match s.nvm.test with
  | none => s
  | some t =>
    if !(t.origin == 2) || s.nvm.testEnd.isSome then s
    else if s.nvm.stepNow = 0 then endWaiting St.failedSwitch t s
    else { s with nvm.testAbort := true }

/-- What ends with a command of class N that is not executed again. -/
def dropWork (e : JEntry) (s : State) : State :=
  let s1 := lockAfter (dropOps e.seq s)
  if e.op = 0x58 then chkEnd (bitsOf (u8 e.rq.payload 0) 1 0) St.failedSwitch s1
  else if e.op = 0x68 then dropTest s1
  else if e.op = 0x6A then
    { s1 with pwr.idleReq := match s1.pwr.idleReq with
        | some r => if r.by_ = .shutdown then none else some r
        | none => none }
  else s1

/-- Answer an entry FAILED_SWITCH; its own reply, if it stood ready, does not go. -/
def failEntry (a : Abdicated) (e : JEntry) (progress : Nat) (s : State) : State :=
  let s1 := { s with
    cmd.jobs := s.cmd.jobs.filter (fun j => !(j.seq == e.seq))
    cmd.out := s.cmd.out.filter (fun p => !(p.seq == some e.seq && p.final)) }
  finalReply e.op e.rq e.seq St.failedSwitch (failedBody e progress a) s1

/-- A command in flight that is not carried on, its reply aside: what it had under way ends. -/
def endInFlight (e : JEntry) (s t : State) : State :=
  if s.cmd.jobs.any (fun j => j.seq == e.seq) then dropWork e t else t

/-- Nothing of a command is left to be answered: no command in flight, no packet that waits, no journal entry. -/
def forgetEntry (e : JEntry) (s : State) : State :=
  { s with
    cmd.jobs := s.cmd.jobs.filter (fun j => !(j.seq == e.seq))
    cmd.out := s.cmd.out.filter (fun p => !(p.seq == some e.seq))
    cmd.journal := s.cmd.journal.filter (fun x => !(x.seq == e.seq)) }

/-- An entry whose CRC fails (R284): with its request readable it is answered; else HALF_JOURNAL_BAD, and no reply. -/
def badEntry (a : Abdicated) (badPkt : List Nat) (e : JEntry) (s0 : State) : State :=
  let s := s0.bump F.HLV_JOURNAL_BAD
  if badPkt.contains e.seq then
    ((endInFlight e s (forgetEntry e s)).setB F.HLV_STATUS_JOURNAL_BAD true).raise 0x95 (q4 e.seq)
  else (endInFlight e s (failEntry a e 0xFFFFFFFF s)).bump F.HLV_JOURNAL_FAILED

/-- A PWR_STATE replayed while HALF_SWITCH is asserted is refused, naming that refuser (R285, R395). -/
def replayPower (j : Job) (s : State) : State :=
  let target := psTarget j.rq
  let m := refusing s target ||| 4
  let s1 := noteRefusal target m { s with pwr.idleReq := none, pwr.sleepReq := none }
  finishJob j St.refusedState (pwrBody (pwrCode s.pwr.state) 2 m s.tck.frame) s1

/-- A PATTERN_LOAD by its TARGET (R155). Of those into a slot only a copy of the fallback can be in flight. -/
def patternReplay (rq : Req) : State → State × Reply := if plTarget rq = 4 then toneMapLoadBody rq else patternCopyBody rq

/-- A DIAG_RUN by its ACTION (R225); a REPORT restarts on the next sweep. -/
def diagReplay (rq : Req) : State → State × Reply :=
  match u8 rq.payload 0 with
  | 1 => diagRunSuspendBody rq
  | 2 => diagRunResumeBody rq
  | 4 => fun s => (s, .accepted [] 6 [])
  | _ => diagRunSaveBody rq

/-- The body of a command of class I that can be in flight. -/
def replayBody (op : Nat) (rq : Req) : State → State × Reply :=
  match op with
  | 0x28 => patternReplay rq
  | 0x31 => diagReplay rq
  | 0x32 => pixelIsolateBody rq
  | 0x33 => diagClearBody rq
  | 0x49 => clkBodyOf (u8 rq.payload 0) rq
  | 0x63 => fwActivateBody rq
  | _ => halfResetCmd rq

/-- What the first execution had under way no longer belongs to the command: its eNVM operations, the copy of the fallback,
its share in a save of the map. -/
def releaseWork (e : JEntry) (s0 : State) : State :=
  let s := dropOps e.seq s0
  { s with
    cmd.jobs := s.cmd.jobs.filter (fun j => !(j.seq == e.seq))
    lyr.copies := if e.op = 0x28 then s.lyr.copies.filter (fun c => !(c == plTarget e.rq)) else s.lyr.copies
    dia.saveReq := s.dia.saveReq.map (fun l => l.filter (fun q => !(q == e.seq)))
    dia.save := s.dia.save.map (fun v => { v with owners := v.owners.filter (fun q => !(q == e.seq)) }) }

/-- What a command that is executed again answers (R284): DONE_REPLAYED in place of OK; of a long-running one only the
final reply. -/
def closeReplay (e : JEntry) : State × Reply → State
  | (s, .final st body) => finalReply e.op e.rq e.seq (replayStatus st) body (countReplayed (replayStatus st) s)
  | (s, .both _ st body) => finalReply e.op e.rq e.seq (replayStatus st) body (countReplayed (replayStatus st) s)
  | (s, .accepted _ key fin) => { s with cmd.jobs := s.cmd.jobs ++ [⟨e.seq, e.op, e.rq, true, key, fin, true⟩] }
  | (s, .later key fin) => { s with cmd.jobs := s.cmd.jobs ++ [⟨e.seq, e.op, e.rq, false, key, fin, true⟩] }
  | (s, .silent) => s

/-- A command is executed again from the start, in the state found, under its own SEQ (R284, R285). -/
def executeAgain (e : JEntry) (s : State) : State :=
  let r := replayBody e.op e.rq { releaseWork e s with cmd.seq := (e.seq + 1) % 65536 }
  lockAfter (closeReplay e ({ r.1 with cmd.seq := s.cmd.seq }, r.2))

/-- A FLUX_CAL goes on from its first tile whose result was not written (R102, R285). -/
def resumeCal (e : JEntry) (s : State) : State :=
  { s with drv.calMeas := []
           cmd.jobs := s.cmd.jobs.map (fun k => if k.seq = e.seq then { k with replayed := true } else k) }

/-- An entry of class I (R284, R285). A HALF_SWITCH that the abdication itself completes is done (R287). -/
def replayEntry (e : JEntry) (s : State) : State :=
  match s.cmd.jobs.find? (fun j => j.seq == e.seq) with
  | none => s
  | some j =>
    if e.op = 0x79 then finishJob j St.doneReplayed (halfSwitchBody s false s.tck.frame) s
    else if e.op = 0x48 then replayPower j s
    else if e.op = 0x2C then resumeCal e s
    else executeAgain e s

/-- One entry of the sweep (R284): DONE and QUEUED ones stay, one whose CRC fails is answered or lost, an EXECUTING one of class I is
executed again, one of class N is answered FAILED_SWITCH. -/
def sweepEntry (a : Abdicated) (badCrc badPkt : List Nat) (s : State) (e : JEntry) : State :=
  if !e.inUse then s
  else if badCrc.contains e.seq then badEntry a badPkt e s
  else if !(e.state == JState.executing) then s
  else if e.idemp then replayEntry e s
  else
    let s1 := failEntry a e (progressOf s e) s
    (dropWork e s1).bump F.HLV_JOURNAL_FAILED

/-- The sweep (R284), in SEQ order. -/
def sweep (a : Abdicated) (badCrc badPkt : List Nat) (s : State) : State :=
  let s1 := ((s.setF F.HLV_JOURNAL_BAD 0).setF F.HLV_JOURNAL_FAILED 0).setF F.HLV_JOURNAL_REPLAYED 0
  s.cmd.journal.foldl (sweepEntry a badCrc badPkt) s1

/-! ### The takeover -/

/-- The other half takes control, if it is GOOD still; a half that became active under R278 has it already. -/
def takeRole (a : Abdicated) (s : State) : Option State :=
  let other := otherHalf a.half
  if s.activeHalf == a.half && s.hlv.active && !(s.health a.half == Health.good) then
    (if s.health other == Health.good then some (changeActive other s) else none)
  else some s

/-- TAKEOVER at its tick (R276): the object sample, the sweep of the journal, and from here the commands of the queue.
What the sweep takes out of the buffer is space again (R352). -/
def takeover (badCrc badPkt : List Nat) (a : Abdicated) (s : State) : State :=
  match takeRole a s with
  | none => noHalf s
  | some t =>
    let t1 := if a.sampled then t else lateSample t
    let t2 := sweep a badCrc badPkt t1
    lostReport { t2 with hlv.abdicated := none }

def execTakeover (badCrc badPkt : List Nat) (s : State) : Host.Outcome State Fault Refusal :=
  .next (match s.hlv.abdicated with
    | some a => if s.off || !(a.tick == some s.tck.frame) then s else takeover badCrc badPkt a s
    | none => s)

end Sys2Proof.Machine
end

