-- ==== Sys2Proof/Machine/Boot.lean ====
section
/-! DEFINITION. The release of a device reset and the boot that follows (R432 to R438, R456), and the end of a step of a
self-test (R450, R454, R457). What the part finds at the release comes with the command. -/

namespace Sys2Proof.Machine

/-! ### The reset cause (R404, R410, R430, R432) -/

/-- The KIND and HIST code of a reset kind (R430). -/
def kindCode : ResetKind → Nat
  | .por => 0
  | .bor => 1
  | .pin => 2
  | .soft => 3
  | .wake => 4
  | .thermal => 5

/-- The order in which one of several causes is taken (R432). -/
def kindOrder : List ResetKind := [.por, .bor, .thermal, .pin, .wake, .soft]

/-- The kind of a reset with these causes. -/
def kindOf (causes : List ResetKind) : ResetKind := (kindOrder.find? causes.contains).getD .por

/-- PWR_RSTPIN.BUCKET (R410). -/
def bucketOf (ms : Nat) : Nat := if ms < 100 then 0 else if ms ≤ 1000 then 1 else if ms ≤ 10000 then 2 else 3

/-- SYS_RSTCAUSE and PWR_RSTPIN (R410, R432). -/
def recordCause (lowMs : Nat) (s : State) : State :=
  let causes := s.sys.causes
  let hist := causes.foldl (fun m k => m ||| 2 ^ kindCode k) (s.f F.SYS_RSTCAUSE_HIST)
  let s1 := ((s.setF F.SYS_RSTCAUSE_KIND (kindCode (kindOf causes))).setF F.SYS_RSTCAUSE_HIST hist).setB
    F.SYS_RSTCAUSE_FROM_SLEEP s.sys.fromSleep
  if causes.contains .pin then
    (s1.setF F.PWR_RSTPIN_BUCKET (bucketOf lowMs)).setF F.SYS_RSTCAUSE_BUCKET (bucketOf lowMs)
  else s1

/-! ### Copies that fail (R438, R442) -/

/-- The address of the first page of a copy, or of the page, that NVM_COPY_BAD names (R438, R468). DEDUCED
(notes/assumptions/62.md): a copy is named by that address. -/
def copyPlace (s : State) : NvmCopy → Nat
  | .slot n => 0x80000 * n
  | .gains pg => 0x100000 + 4096 * pg
  | .tile c => 0x280000 + 4096 * c
  | .factor c => 0x282000 + 4096 * c
  | .diode c => 0x284000 + 4096 * c
  | .fallback => 0x300000
  | .map c => 0x500000 + 0x20000 * c
  | .bist c => 0x540000 + 0x4000 * c
  | .safety c => 0x548000 + 4096 * c
  | .life => 0x54C000 + 4096 * (s.nvm.life.seq / 128 % 16)

/-- NVM_COPY_BAD (R438). -/
def copyBad (a : Nat) (s : State) : State := (s.setB F.NVM_STATUS_COPY_BAD true).raise 0xE1 (q4 (nvmRegion a) ++ q4 a)

/-- A copy found bad at this boot is invalid. -/
def spoil (s : State) : NvmCopy → State
  | .safety 0 => { s with saf.copyA := { s.saf.copyA with valid := false } }
  | .safety _ => { s with saf.copyB := { s.saf.copyB with valid := false } }
  | .map 0 => { s with nvm.mapA := { s.nvm.mapA with valid := false } }
  | .map _ => { s with nvm.mapB := { s.nvm.mapB with valid := false } }
  | .bist c => setBist c { bistCopy s c with valid := false } s
  | .factor c =>
    if c = s.nvm.factorCopy then { s with nvm.factorOk := false } else { s with nvm.factorOldOk := false }
  | .fallback => { s with nvm.fbValid := false }
  | .slot n => setSlot n { s.fwSlot n with valid := false } s
  | .life => { s with nvm.lifeOk := false, nvm.lifeRing := [] }
  | .gains _ => s
  | .tile _ => s
  | .diode _ => s

/-- Is a slot to be named (R438, R446)? It is invalid, and its activation number is the higher one or both are invalid. -/
def slotBad (s : State) (n : Nat) : Bool := !(s.fwSlot n).valid && (highSlot s == n || (bootSlot s).isNone)

/-- Is the copy of the factor table valid? -/
def factorValid (s : State) (c : Nat) : Bool := if c = s.nvm.factorCopy then s.nvm.factorOk else s.nvm.factorOldOk

/-- Every copy or page that fails at this boot, whether it fails now or was left so, by its address in the order of R439. -/
def badPlaces (bad : List NvmCopy) (s : State) : List Nat :=
  let two (p : Nat → Bool) (k : Nat → NvmCopy) : List NvmCopy := ([0, 1].filter p).map k
  let one (b : Bool) (k : NvmCopy) : List NvmCopy := if b then [k] else []
  let copies := two (slotBad s) .slot ++
    ((List.range 384).filter (fun pg => bad.contains (.gains pg))).map .gains ++
    two (fun c => bad.contains (.tile c)) .tile ++ two (fun c => !factorValid s c) .factor ++
    two (fun c => bad.contains (.diode c)) .diode ++ one (!s.nvm.fbValid) .fallback ++
    two (fun c => !(if c = 0 then s.nvm.mapA else s.nvm.mapB).valid) .map ++ two (fun c => !(bistCopy s c).valid) .bist ++
    two (fun c => !(if c = 0 then s.saf.copyA.valid else s.saf.copyB.valid)) .safety
  let life := (List.range 16).map (fun k => 0x54C + k)
  copies.map (copyPlace s) ++ (life.filter (fun pg => (kvGet s.nvm.badPages pg).isSome ||
    (bad.contains .life && pg == copyPlace s .life / 4096))).map (fun pg => 4096 * pg)

/-! ### The safety record (R165, R252, R254) -/

/-- A stored parameter takes its value: pending and in force (R246, R252). -/
def loadParam (s : State) (e : Nat × Word) : State :=
  match regRow e.1 with
  | none => s
  | some r =>
    let m := BitVec.ofNat 32 r.rwl
    let put (w : Word) : Word := (w &&& ~~~ m) ||| (e.2 &&& m)
    let s1 := s.setReg e.1 (put (s.reg e.1))
    if r.item then
      { s1 with tck.act := { s1.tck.act with regs := Mem.write 0 s1.tck.act.regs e.1 (put (Mem.read 0 s1.tck.act.regs e.1)) } }
    else s1

/-- An entry of the log that counts for the record and is newer than it (R254). -/
def entryAhead (logSeq : Nat) (b : List Byte) : Bool :=
  let p := u16 b 18
  u16 b 30 == crc16 (b.take 30) && (isStored p || p == 0xF000 || p == 0xF008) && decide (logSeq < u16 b 0)

/-- A stored parameter takes its reset value (R252). -/
def resetParam (s : State) (a : Nat) : State :=
  match regRow a with
  | some r => loadParam s (a, BitVec.ofNat 32 r.reset)
  | none => s

/-- The safety record in force is loaded (R252). A parameter it does not list, and every one with neither copy valid, takes
its reset value. -/
def loadSafety (s0 : State) : State :=
  let s := storedAddrs.foldl resetParam s0
  let bad := maskOf [!s.saf.copyA.valid, !s.saf.copyB.valid]
  let s1 := if bad = 0 then s else s.raise 0x87 (q4 bad)
  match safeSource s1 with
  | some r =>
    let s2 := r.regs.foldl loadParam s1
    (setMap r.map { s2 with saf.password := r.password, saf.logStored := r.logSeq }).setB F.SAF_LOCK_LOG_AHEAD
      (s.saf.log.any (entryAhead r.logSeq))
  | none =>
    mapInvalid ({ s1 with saf.password := List.replicate 8 0, saf.logStored := 0 }.setB F.SAF_LOCK_CFG_INVALID true)

/-! ### The self-test record (R434, R451, R456) -/

/-- The newest complete record: its copy and itself. -/
def bistComplete (s : State) : Option (Nat × BistRec) :=
  let l := [(0, s.nvm.bistA), (1, s.nvm.bistB)].filter (fun e => e.2.valid && e.2.complete)
  match l with
  | [a, b] => some (if seqNewer b.2.seq a.2.seq then b else a)
  | [a] => some a
  | _ => none

/-- The repair map of the newest complete record is applied. -/
def loadRepair (s : State) : State :=
  match bistComplete s with
  | some (c, r) => (setRepair r.repair s).setF F.SYS_BOOT_REPAIR_SRC (c + 1) |>.setReg 0xE020 (BitVec.ofNat 32 r.bankBad)
  | none => setRepair [] s

/-- Why the quick test runs: 0 it does not (R456). The record of a shut-down test that was torn is absent (R455; DEDUCED,
notes/assumptions/47.md). -/
def quickWhy (s : State) : Nat :=
  match bistNewest s with
  | none => 2
  | some (_, r) => if !r.complete then 1 else if s.nvm.recTorn then 2 else if s.sys.quickAsked then 3 else 0

/-! ### Counters, factors, slots -/

/-- The lifetime counters are loaded, and the reset is counted (R438, R444). -/
def loadLife (bad : Bool) (s : State) : State :=
  if bad || !s.nvm.lifeOk then
    let r : LifeRec := ⟨0, 0, 0x800000, 0, 0⟩
    ((setLife r { s with nvm.life := r, nvm.lifeRing := [], nvm.boots := 1, nvm.shutdowns := 0 }).setB F.NVM_STATUS_LIFE_RESET
      true).setF F.PWR_HOURS_MINUTES 0 |>.setF F.DRV_FLUX_CORR 0x800000
  else
    let r := s.nvm.life
    (setLife r { s with nvm.boots := s.nvm.boots + 1 }).setF F.PWR_HOURS_MINUTES r.minutes |>.setF F.DRV_FLUX_CORR r.c

/-- The factor table in force: the newer valid copy; 1.0 everywhere with neither (R438, R442). -/
def loadFactors (s0 : State) : State :=
  let s : State :=
    if s0.nvm.factorOk then s0
    else if s0.nvm.factorOldOk then
      { s0 with nvm.fopt := s0.nvm.foptOld, nvm.fel := s0.nvm.felOld, nvm.factorCopy := 1 - s0.nvm.factorCopy,
                nvm.factorSeq := s0.nvm.factorOldSeq, nvm.factorOldSeq := s0.nvm.factorSeq,
                nvm.factorOk := true, nvm.factorOldOk := false }
    else { s0 with nvm.fopt := [], nvm.fel := [] }
  reloadGains s

/-- DRV_BIN: the lowest and the highest bin of the field (R97). -/
def loadBins (s : State) : State :=
  let bins := (List.range 1024).map s.binOf
  (s.setF F.DRV_BIN_BIN_MIN (bins.foldl min 15)).setF F.DRV_BIN_BIN_MAX (bins.foldl max 0)

/-- DRV_PDn.REF (R98, R440). With both copies of the photodiode page bad they are not stated: free values. -/
def loadDiodes (bad : Bool) (s0 : State) : State :=
  [0, 1, 2, 3].foldl (fun s n =>
    if bad then
      let d := s.draw 69
      d.2.setF (F.DRV_PD0_REF.at (4 * n)) d.1
    else s.setF (F.DRV_PD0_REF.at (4 * n)) (Config.pdRef n).toNat) s0

/-- The boot slot, and both halves start BOOT from it (R434, R446); with neither slot valid none boots, and HALVES is
raised (R438). -/
def bootHalves (s : State) : State :=
  match bootSlot s with
  | none =>
    let fail (h : Half) (t : State) : State := setHealth h Health.failed (t.setF (ofHalf F.HLV_HEALTH_A_LAST_CAUSE h) 7)
    raiseSource Src.halves (fail .b (fail .a s))
  | some n =>
    let s1 := (s.setF F.SYS_BOOT_SLOT n).setB F.SYS_BOOT_SLOT_FALLBACK (!(n == highSlot s))
    resetHalf .b n (resetHalf .a n s1)

/-! ### The end of the boot -/

/-- What follows the quick test, or the load of the records without one (R434, R435): the map, the tables, the banks, and
the start image. -/
def finishBoot (s0 : State) : State :=
  let s1 := loadMap (loadBins (loadFactors s0))
  let s2 := if s1.lamp = Lamp.safeHold then vledOnNow { s1 with saf.awaitArm := true } else s1
  let s3 := loadFallback (s2.setReg 0x4020 (BitVec.ofNat 32 (toneCrc toneIdentity)))
  startImage (startComp 0x8000 (dTick { s3 with pwr.marched := 0, nvm.stepNow := 0 }))

/-- The boot quick test begins (R456). -/
def startQuick (s : State) : State := beginStep 1 (beginTest (newRec s 1 4 3) (vledOff s))

/-- The boot quick test ends: its record waits for first light (R456). 25 ms of the boot have passed in it (R434, R468;
notes/assumptions/36.md). -/
def quickDone (t : BistRec) (s : State) : State :=
  let t1 := { t with step := t.stepsEnd }
  let s1 := bistDone t1 St.ok (showTest t1 { s with nvm.quickRec := some (s.nvm.testCopy, t1), nvm.test := none })
  finishBoot (bootDoneCheck { s1 with time := max s.time 2500000 })

/-! ### The release (R432, R434) -/

/-- The judgement of one direction of the pad test against two thresholds in 0.1 mV (R472): `none` untested, else whether it fails.
DEDUCED (notes/assumptions/7.md): one whose driven pad does not reach both levels is untested whatever the sensed pad does. -/
def padJudge (hi lo : Nat) (r : PadRead) : Option Bool :=
  if 10 * r.drivenHigh < hi || lo < 10 * r.drivenLow then none else some (decide (hi < 10 * r.sensedHigh) && decide (10 * r.sensedLow < lo))

/-- The directions of the pad pairs 0 to 7, by their place in the readings (R472). -/
def padDirs : List (List Nat) := [[0, 1], [2, 3], [4, 5], [6], [7, 8], [9, 10], [11, 12], [13]]

/-- A pair's directions judged: against 0.7 and 0.3 of VSUP, the TS pads against 0.84 V and 0.36 V. -/
def padPair (env : BootEnv) (k : Nat) : List (Option Bool) :=
  (nth [] padDirs k).map (fun i =>
    padJudge (if k < 4 then 7 * env.vsupMv else 8400) (if k < 4 then 3 * env.vsupMv else 3600) (nth ⟨0, 0, 0, 0⟩ env.pads i))

/-- The pairs that fail: either direction does. -/
def padFails (env : BootEnv) : Nat := maskOf ((List.range 8).map (fun k => (padPair env k).contains (some true)))

/-- The pairs that are untested: no direction was tested. -/
def padUntested (env : BootEnv) : Nat := maskOf ((List.range 8).map (fun k => (padPair env k).all Option.isNone))

/-- What the pins, the supplies and the crystal show at the release (R398, R406, R472). -/
def senseBoot (env : BootEnv) (s : State) : State :=
  let both := env.pinA && env.pinB
  let s1 : State := { s with
    saf.pinA := env.pinA
    saf.pinB := env.pinB
    saf.discStart := if env.pinA == env.pinB then none else some 0
    saf.active := if both then [] else [Src.pinStop]
    pwr.vsupMv := env.vsupMv
    pwr.vsupAt := s.time
    pwr.vledMv := env.vledMv
    pwr.wakeMv := env.wakeMv
    pwr.roosterOut := roosterLevel s env.wakeMv }
  ((((s1.setF F.SYS_PAD_FAIL (padFails env)).setF F.SYS_PAD_UNTESTED (padUntested env)).setB F.SYS_BOOT_PAD_FAIL
    (!(padFails env == 0))).setB F.PWR_CLK_XTAL_OK env.xtalOk).setF F.RNG_TXID_TXID env.txId

/-- WAKE and POWER_STATE after SLEEP (R387, R398). -/
def wakeEvents (s : State) : State :=
  let s1 := if s.sys.fromSleep then s.raise 0xC0 (q4 3 ++ q4 0 ++ q4 2) else s
  if s.sys.causes.contains .wake then
    s1.raise 0xC6 (q4 (s.reg 0xC040).toNat ++ q4 (s.reg 0xC044).toNat ++ q4 s.pwr.wakeMv)
  else s1

/-- What the eNVM gives the boot (R434, R438, R446). -/
def loadRecords (bad : List NvmCopy) (s0 : State) : State :=
  let s1 := bad.foldl spoil s0
  let s2 : State := (badPlaces bad s1).foldl (fun t a => copyBad a t) { s1 with
    drv.tileBad := bad.contains (.tile 0) && bad.contains (.tile 1)
    drv.gainBad := bad.filterMap (fun k => match k with | .gains p => some p | _ => none) }
  let s3 := [0, 1].foldl bootVersion s2
  loadDiodes (bad.contains (.diode 0) && bad.contains (.diode 1)) (bootHalves (loadLife (bad.contains .life) (setRec s3)))

/-- RESET_RELEASE (R430, R432, R434): the cause is recorded and the boot runs up to its quick test, or to its start
image. The first temperature round ends within it (R419); it is judged by the parameters that the boot loads. -/
def resetRelease (env : BootEnv) (s0 : State) : State :=
  let s1 := wakeEvents (senseBoot env (recordCause env.lowMs { s0 with time := 0 }))
  let s2 := loadSafety (loadRecords env.bad s1)
  let s3 := roundOf env.die env.ts (loadRepair s2)
  let why := quickWhy s3
  let s4 := enterR231 (s3.setF F.SYS_BOOT_QUICK_WHY why)
  let s5 : State := { s4 with
    sys := { s4.sys with phase := .boot, causes := [], pinLow := none, softAsked := false, quickAsked := false, fromSleep := false }
    rng := { s4.rng with pll := true, rate := s4.f F.RNG_CTRL_RATE, laneEn := s4.f F.RNG_CTRL_LANE_EN } }
  if why = 0 then finishBoot s5 else startQuick s5

/-- A device reset may be released: no THERMAL hold (R426), RESET_N high, and after POR or BOR VSUP above 1.70 V (R430). -/
def mayRelease (env : BootEnv) (s : State) : Bool :=
  s.sys.phase == .inReset && s.thm.trip.isNone && !s.sys.causes.isEmpty &&
    (decide (1700 < env.vsupMv) || !(s.sys.causes.contains .por || s.sys.causes.contains .bor))

def execResetRelease (env : BootEnv) (s : State) : Host.Outcome State Fault Refusal :=
  .next (if mayRelease env s then resetRelease env s else s)

/-! ### The end of a self-test step (R450, R454, R456, R457) -/

/-- A step of the boot quick test ends. -/
def quickStep (t : BistRec) (found : List StepFault) (s : State) : State :=
  let s1 := stepResult t s.nvm.stepNow found true s
  match s1.nvm.test with
  | none => s1
  | some t1 =>
    match nextStep t1 s.nvm.stepNow with
    | some m => beginStep m s1
    | none => quickDone t1 s1

/-- SELF_TEST_STEP_DONE: the step that runs ends with the faults found. A dip (R407) and THERM_SD (R425) hold it back; a
BIST_RUN that has run no step may start (R458). -/
def selfTestStepDone (found : List StepFault) (s : State) : State :=
  match s.nvm.test with
  | none => s
  | some t =>
    if s.nvm.testEnd.isSome || s.testPaused then s
    else if s.nvm.stepNow = 0 then (if t.origin ≤ 1 then testCheck s else bistStart s)
    else if t.origin = 3 then quickStep t found s
    else runStep t found s

def execSelfTestStepDone (found : List StepFault) (s : State) : Host.Outcome State Fault Refusal :=
  .next (if s.off then s else selfTestStepDone found s)

end Sys2Proof.Machine
end

