-- ==== Sys2Proof/Machine/Flux.lean ====
section
/-! DEFINITION. FLUX_CAL (R101 to R103, R110, R111). -/

namespace Sys2Proof.Machine

/-- FLUX_CAL fields (R110). -/
def fcMode (rq : Req) : Nat := u8 rq.payload 0
def fcRepeats (rq : Req) : Nat := u8 rq.payload 1 % 16
def fcStore (rq : Req) : Bool := bitOf (u8 rq.payload 2) 0
def fcTile (rq : Req) : Nat := u16 rq.payload 4 % 1024
def fcCount (rq : Req) : Nat := u16 rq.payload 6 % 2048
def fcFactor (rq : Req) (i : Nat) : Nat := u16 rq.payload (8 + 2 * i)

/-- LEN of a mode (R110); a LEN without room for the fields fits no mode. -/
def fcLenOk (rq : Req) : Bool :=
  decide (8 ≤ rq.payload.length) && (fcMode rq != 1 && len rq 8 || fcMode rq == 1 && len rq ((8 + 2 * fcCount rq + 3) / 4 * 4))

/-- COUNT and TILE (R103, R110). -/
def fcTilesOk (rq : Req) : Bool := inRange (fcCount rq) 1 1024 && decide (fcTile rq + fcCount rq ≤ 1024)

/-- The tables as the next tick will have them (R101). -/
def State.foptSoon (s : State) : Mem 16 := s.drv.foptNext.getD s.drv.fopt
def State.felSoon (s : State) : Mem 16 := s.drv.felNext.getD s.drv.fel

/-- CRC-32C of an f_opt table (R255). -/
def foptCrc (t : Mem 16) : Nat := crc32c ((Mem.readRun 0x8000 t 0 1024).flatMap (fun v => bytesLE 2 v.toNat))

/-- The f_opt table with the supplied factors (R101). -/
def suppliedTable (rq : Req) (t : Mem 16) : Mem 16 :=
  Mem.writeRun 0x8000 t (fcTile rq) ((List.range (fcCount rq)).map (fun i => BitVec.ofNat 16 (fcFactor rq i)))

/-- A FLUX_CAL starts; its ACCEPTED reply (R111). -/
def fcStart (rq : Req) (supplied : Bool) (est : Nat) (s : State) : State × Reply :=
  ({ s with
     drv.cal := some ⟨s.curSeq, supplied, fcStore rq, fcRepeats rq, fcTile rq, fcCount rq, 0, 0, 0, 0⟩
     drv.calMeas := [] },
   .accepted (zeros 3 ++ bytesLE 4 est) 0 [])

/-- FLUX_CAL in mode 0 (R101, R103, R110). -/
def fluxCalBody (rq : Req) : State → State × Reply :=
  withLen (fcLenOk rq) (fun s =>
    guarded [(fcMode rq == 0, St.badParam), (s.drv.cal.isNone, St.busy),
        (fcTilesOk rq && inRange (fcRepeats rq) 1 8, St.range),
        (s.lamp == Lamp.lit || s.lamp == Lamp.fading || s.lamp == Lamp.safeHold, St.refusedState),
        (!fcStore rq || !s.sdActive, St.refusedState)]
      (fcStart rq false (fcRepeats rq * 64 * fcCount rq)) s)

def execFluxCal (rq : Req) (s : State) : Host.Outcome State Fault Refusal :=
  .next (command 0x2C rq (fluxCalBody rq) s)

/-- FLUX_CAL in mode 1 (R101, R103, R254): a change of the safety configuration, logged under 0xF010 when it is
accepted. -/
def fluxCalSuppliedBody (rq : Req) : State → State × Reply :=
  withLen (fcLenOk rq) (fun s =>
    guarded ([(fcMode rq == 1, St.badParam), (!rq.bcast, St.badParam), (s.unlocked rq.stream, St.locked),
        (s.drv.cal.isNone, St.busy),
        (fcTilesOk rq && fcRepeats rq == 0 &&
          (List.range (fcCount rq)).all (fun i => inRange (fcFactor rq i) 0x4000 0xC000), St.range)] ++ changeChecks s 1)
      (fun s =>
        let s1 := logChange rq.stream (some s.curSeq)
          [⟨0xF010, foptCrc s.foptSoon, foptCrc (suppliedTable rq s.foptSoon)⟩] false s
        fcStart rq true (fcCount rq) s1) s)

def execFluxCalSupplied (rq : Req) (s : State) : Host.Outcome State Fault Refusal :=
  .next (command 0x2C rq (fluxCalSuppliedBody rq) s)

/-- What a tile's measurements give (R101): f_el and whether it was bounded; none with fewer than 256 pixels. `nf` is
n_fact, `ms` the normalised currents, `px` how many pixels they are of. -/
def electrical (nf px : Nat) (ms : List Nat) : Option (Nat × Bool) :=
  if px < 256 then none
  else
    let m := medianR (ms.map (fun (v : Nat) => (v : Rat)))
    let q : Rat := if m = 0 then 2 else (nf : Rat) / m
    let b := maxR (9 / 10) (minR (11 / 10) q)
    some (ratSteps 0x8000 b, !(b == q))

/-- The factor table goes to both eNVM copies, the older first (R102, R442). -/
def factorOps (s : State) : List NvmKind :=
  let c := 1 - s.nvm.factorCopy
  [.factor c ((s.nvm.factorSeq + 1) % 2 ^ 32) s.foptSoon s.felSoon, .factor (1 - c) ((s.nvm.factorSeq + 2) % 2 ^ 32) s.foptSoon s.felSoon]

/-- RESULT of a tile (R111). -/
def tileResult : Option (Nat × Bool) → Nat
  | none => 2
  | some (_, true) => 1
  | some (_, false) => 0

/-- Count a tile done (R111, R285). -/
def tileDone (c : FluxCal) (res : Nat) (s : State) : State :=
  noteProgress c.seq (c.done + 1) { s with
    drv.calMeas := []
    drv.cal := some { c with
      done := c.done + 1
      applied := c.applied + b2n (decide (res < 2))
      clipped := c.clipped + b2n (res == 1)
      unmeasured := c.unmeasured + b2n (res == 2) } }

/-- The PROGRESS reply of a tile (R111). -/
def tileProgress (c : FluxCal) (res t px : Nat) (s : State) : State :=
  match s.cmd.jobs.find? (fun j => j.seq == c.seq) with
  | some j => progressReply j (bytesLE 1 res ++ bytesLE 2 t ++ bytesLE 2 px ++
      bytesLE 2 (Mem.read 0x8000 s.felSoon t).toNat ++ bytesLE 4 (s.tickNo 2)) s
  | none => s

/-- A tile of mode 0: its REPEATS sweeps are over. -/
def electricalTile (c : FluxCal) (s : State) : State :=
  let t := c.first + c.done
  let ms := s.drv.calMeas.filter (fun e => !s.dia.map.contains e.1)
  let px := (ms.foldl (fun l e => setInsert e.1 l) []).length
  let r := electrical (s.nFactOf t) px (ms.map Prod.snd)
  let s1 := match r with
    | some (f, _) => { s with drv.felNext := some (Mem.write 0x8000 s.felSoon t (BitVec.ofNat 16 f)) }
    | none => s
  let s2 := tileProgress c (tileResult r) t px (tileDone c (tileResult r) s1)
  if c.store then nvmPush (some c.seq) (factorOps s2) s2 else s2

/-- The request of a FLUX_CAL in flight. -/
def calReq (s : State) (c : FluxCal) : Option Req :=
  match s.cmd.jobs.find? (fun j => j.seq == c.seq) with
  | some j => some j.rq
  | none => none

/-- A tile of mode 1. -/
def suppliedTile (c : FluxCal) (s : State) : State :=
  match calReq s c with
  | none => s
  | some rq =>
    let f := BitVec.ofNat 16 (fcFactor rq c.done)
    let s1 := tileDone c 0 { s with drv.foptNext := some (Mem.write 0x8000 s.foptSoon (c.first + c.done) f) }
    if c.store && c.done + 1 == c.count then nvmPush (some c.seq) (factorOps s1) s1 else s1

/-- FLUX_CAL_TILE (R101): the tile in progress ends; its gains take effect at the next tick. The command ends with its
last tile, or with the last program that it still owns. -/
def fluxCalTile (s : State) : State :=
  match s.drv.cal with
  | none => s
  | some c =>
    if c.count ≤ c.done then s
    else
      let s1 := if c.supplied then suppliedTile c s else electricalTile c s
      if c.done + 1 == c.count && !s1.ownsOps c.seq then endCal St.ok s1 else s1

def execFluxCalTile (s : State) : Host.Outcome State Fault Refusal := .next (fluxCalTile s)

end Sys2Proof.Machine
end

