-- ==== Sys2Proof/Machine/Dispatch.lean ====
section
/-! DEFINITION. Which meaning a command has: one arm per row of the command table. -/

namespace Sys2Proof.Machine

/-- The effect of a command on everything but the queue of waiting commands. -/
def exec (i : Instr) (s : State) : Host.Outcome State Fault Refusal :=
  match i with
  | .nop rq => Sys2Proof.Machine.execNop rq s
  | .ping rq => Sys2Proof.Machine.execPing rq s
  | .idRead rq => Sys2Proof.Machine.execIdRead rq s
  | .enumPass1 rq crcOk => Sys2Proof.Machine.execEnumPass1 rq crcOk s
  | .enumPass2 rq => Sys2Proof.Machine.execEnumPass2 rq s
  | .regRd rq => Sys2Proof.Machine.execRegRd rq s
  | .regWr rq => Sys2Proof.Machine.execRegWr rq s
  | .regRmw rq => Sys2Proof.Machine.execRegRmw rq s
  | .registerWrite stream addr value => Sys2Proof.Machine.execRegisterWrite stream addr value s
  | .drvFluxRestart => Sys2Proof.Machine.execDrvFluxRestart s
  | .lyrSymWrite value => Sys2Proof.Machine.execLyrSymWrite value s
  | .bypassHoldWrite value => Sys2Proof.Machine.execBypassHoldWrite value s
  | .cmdbufApply => Sys2Proof.Machine.execCmdbufApply s
  | .eventCfg rq => Sys2Proof.Machine.execEventCfg rq s
  | .commit rq => Sys2Proof.Machine.execCommit rq s
  | .herd rq => Sys2Proof.Machine.execHerd rq s
  | .herdSetFrame rq => Sys2Proof.Machine.execHerdSetFrame rq s
  | .frameSet rq => Sys2Proof.Machine.execFrameSet rq s
  | .timeRead rq => Sys2Proof.Machine.execTimeRead rq s
  | .layerCfg rq => Sys2Proof.Machine.execLayerCfg rq s
  | .layerCfgRead rq => Sys2Proof.Machine.execLayerCfgRead rq s
  | .layerBuf rq => Sys2Proof.Machine.execLayerBuf rq s
  | .bufWrite rq => Sys2Proof.Machine.execBufWrite rq s
  | .bufRelease rq => Sys2Proof.Machine.execBufRelease rq s
  | .bufDefine rq => Sys2Proof.Machine.execBufDefine rq s
  | .videoPacket rq => Sys2Proof.Machine.execVideoPacket rq s
  | .objSet rq => Sys2Proof.Machine.execObjSet rq s
  | .objSetRead rq => Sys2Proof.Machine.execObjSetRead rq s
  | .objMove rq => Sys2Proof.Machine.execObjMove rq s
  | .objClear rq => Sys2Proof.Machine.execObjClear rq s
  | .objBulk rq => Sys2Proof.Machine.execObjBulk rq s
  | .objBulkEnd rq => Sys2Proof.Machine.execObjBulkEnd rq s
  | .objBulkAbort rq => Sys2Proof.Machine.execObjBulkAbort rq s
  | .geomSet rq => Sys2Proof.Machine.execGeomSet rq s
  | .opticsMap rq => Sys2Proof.Machine.execOpticsMap rq s
  | .opticsMapRead rq => Sys2Proof.Machine.execOpticsMapRead rq s
  | .patternLoad rq => Sys2Proof.Machine.execPatternLoad rq s
  | .patternLoadCopy rq => Sys2Proof.Machine.execPatternLoadCopy rq s
  | .patternCopyDone => Sys2Proof.Machine.execPatternCopyDone s
  | .toneMapLoad rq => Sys2Proof.Machine.execToneMapLoad rq s
  | .symbolLoad rq => Sys2Proof.Machine.execSymbolLoad rq s
  | .symbolDelete rq => Sys2Proof.Machine.execSymbolDelete rq s
  | .animSet rq => Sys2Proof.Machine.execAnimSet rq s
  | .fluxCal rq => Sys2Proof.Machine.execFluxCal rq s
  | .fluxCalSupplied rq => Sys2Proof.Machine.execFluxCalSupplied rq s
  | .fluxCalTile => Sys2Proof.Machine.execFluxCalTile s
  | .diagMapRead rq => Sys2Proof.Machine.execDiagMapRead rq s
  | .diagRunStatus rq => Sys2Proof.Machine.execDiagRunStatus rq s
  | .diagRunSuspend rq => Sys2Proof.Machine.execDiagRunSuspend rq s
  | .diagRunResume rq => Sys2Proof.Machine.execDiagRunResume rq s
  | .diagRunRestart rq => Sys2Proof.Machine.execDiagRunRestart rq s
  | .diagRunReport rq => Sys2Proof.Machine.execDiagRunReport rq s
  | .diagRunSave rq => Sys2Proof.Machine.execDiagRunSave rq s
  | .pixelIsolate rq => Sys2Proof.Machine.execPixelIsolate rq s
  | .diagClear rq => Sys2Proof.Machine.execDiagClear rq s
  | .thermRead rq => Sys2Proof.Machine.execThermRead rq s
  | .safeStop rq => Sys2Proof.Machine.execSafeStop rq s
  | .safeRestart rq => Sys2Proof.Machine.execSafeRestart rq s
  | .safeUnlock rq => Sys2Proof.Machine.execSafeUnlock rq s
  | .safeLock rq => Sys2Proof.Machine.execSafeLock rq s
  | .safeWrite rq => Sys2Proof.Machine.execSafeWrite rq s
  | .logRead rq => Sys2Proof.Machine.execLogRead rq s
  | .enable rq => Sys2Proof.Machine.execEnable rq s
  | .switchOff rq => Sys2Proof.Machine.execSwitchOff rq s
  | .pwrStateActive rq => Sys2Proof.Machine.execPwrStateActive rq s
  | .pwrStateHold rq => Sys2Proof.Machine.execPwrStateHold rq s
  | .pwrStateIdle rq => Sys2Proof.Machine.execPwrStateIdle rq s
  | .pwrStateSleep rq => Sys2Proof.Machine.execPwrStateSleep rq s
  | .clkSwitch rq => Sys2Proof.Machine.execClkSwitch rq s
  | .clkSwitchFrc rq => Sys2Proof.Machine.execClkSwitchFrc rq s
  | .snapArm rq => Sys2Proof.Machine.execSnapArm rq s
  | .snapRead rq => Sys2Proof.Machine.execSnapRead rq s
  | .chkRun rq => Sys2Proof.Machine.execChkRun rq s
  | .chkRunPiece => Sys2Proof.Machine.execChkRunPiece s
  | .chkCtxRead rq => Sys2Proof.Machine.execChkCtxRead rq s
  | .chkCtxWrite rq => Sys2Proof.Machine.execChkCtxWrite rq s
  | .chkCtxAbort rq => Sys2Proof.Machine.execChkCtxAbort rq s
  | .nvmRead rq => Sys2Proof.Machine.execNvmRead rq s
  | .nvmWrite rq => Sys2Proof.Machine.execNvmWrite rq s
  | .nvmErase rq => Sys2Proof.Machine.execNvmErase rq s
  | .fwStage rq => Sys2Proof.Machine.execFwStage rq s
  | .fwActivate rq => Sys2Proof.Machine.execFwActivate rq s
  | .bistRun rq => Sys2Proof.Machine.execBistRun rq s
  | .bistResult rq => Sys2Proof.Machine.execBistResult rq s
  | .shutdown rq => Sys2Proof.Machine.execShutdown rq s
  | .laneCtlRetrain rq => Sys2Proof.Machine.execLaneCtlRetrain rq s
  | .laneCtlSetRate rq => Sys2Proof.Machine.execLaneCtlSetRate rq s
  | .setRateApply => Sys2Proof.Machine.execSetRateApply s
  | .laneCtlDrop rq => Sys2Proof.Machine.execLaneCtlDrop rq s
  | .laneCtlAdd rq => Sys2Proof.Machine.execLaneCtlAdd rq s
  | .laneCtlPower rq => Sys2Proof.Machine.execLaneCtlPower rq s
  | .laneL2AllOff => Sys2Proof.Machine.execLaneL2AllOff s
  | .laneCtlFfe rq => Sys2Proof.Machine.execLaneCtlFfe rq s
  | .laneCtlLoop rq => Sys2Proof.Machine.execLaneCtlLoop rq s
  | .loopStart => Sys2Proof.Machine.execLoopStart s
  | .loopEnd errors => Sys2Proof.Machine.execLoopEnd errors s
  | .laneCtlSlip rq => Sys2Proof.Machine.execLaneCtlSlip rq s
  | .laneCtlEq rq => Sys2Proof.Machine.execLaneCtlEq rq s
  | .ringStatus rq => Sys2Proof.Machine.execRingStatus rq s
  | .halfStatus rq => Sys2Proof.Machine.execHalfStatus rq s
  | .halfSwitch rq => Sys2Proof.Machine.execHalfSwitch rq s
  | .halfExchange => Sys2Proof.Machine.execHalfExchange s
  | .halfReset rq => Sys2Proof.Machine.execHalfReset rq s
  | .reset rq => Sys2Proof.Machine.execReset rq s
  | .softReset => Sys2Proof.Machine.execSoftReset s
  | .packetReceive port bytes => Sys2Proof.Machine.execPacketReceive port bytes s
  | .packetPass bytes fits => Sys2Proof.Machine.execPacketPass bytes fits s
  | .packetInsert gap => Sys2Proof.Machine.execPacketInsert gap s
  | .laneNotice bytes => Sys2Proof.Machine.execLaneNotice bytes s
  | .alignmentMarker marker lanes transit => Sys2Proof.Machine.execAlignmentMarker marker lanes transit s
  | .markerSend ready => Sys2Proof.Machine.execMarkerSend ready s
  | .spiPut bytes csEarly => Sys2Proof.Machine.execSpiPut bytes csEarly s
  | .spiGet clocked => Sys2Proof.Machine.execSpiGet clocked s
  | .spiStat => Sys2Proof.Machine.execSpiStat s
  | .spiBadOp op => Sys2Proof.Machine.execSpiBadOp op s
  | .tick env => Sys2Proof.Machine.execTick env s
  | .layerMissLimit => Sys2Proof.Machine.execLayerMissLimit s
  | .layerDisabled => Sys2Proof.Machine.execLayerDisabled s
  | .takeover badCrc badPkt => Sys2Proof.Machine.execTakeover badCrc badPkt s
  | .holdLimit => Sys2Proof.Machine.execHoldLimit s
  | .alignTimeout => Sys2Proof.Machine.execAlignTimeout s
  | .tickInEdge => Sys2Proof.Machine.execTickInEdge s
  | .tickInTimeout => Sys2Proof.Machine.execTickInTimeout s
  | .composeRow => Sys2Proof.Machine.execComposeRow s
  | .objectSample => Sys2Proof.Machine.execObjectSample s
  | .imageWriteDone clampFault => Sys2Proof.Machine.execImageWriteDone clampFault s
  | .rowUnderrun => Sys2Proof.Machine.execRowUnderrun s
  | .photodiodeRead readings => Sys2Proof.Machine.execPhotodiodeRead readings s
  | .referenceRefresh => Sys2Proof.Machine.execReferenceRefresh s
  | .segmentOffCurrentCheck currents => Sys2Proof.Machine.execSegmentOffCurrentCheck currents s
  | .darkTest x y vRest vDark vRight vLower => Sys2Proof.Machine.execDarkTest x y vRest vDark vRight vLower s
  | .litTest x y vLit pA => Sys2Proof.Machine.execLitTest x y vLit pA s
  | .zoneCount => Sys2Proof.Machine.execZoneCount s
  | .mapSave => Sys2Proof.Machine.execMapSave s
  | .currentRefUpdate => Sys2Proof.Machine.execCurrentRefUpdate s
  | .envelopeCheck imeas => Sys2Proof.Machine.execEnvelopeCheck imeas s
  | .class1FadeEnd => Sys2Proof.Machine.execClass1FadeEnd s
  | .class2FadeEnd => Sys2Proof.Machine.execClass2FadeEnd s
  | .switchOffEnd => Sys2Proof.Machine.execSwitchOffEnd s
  | .fallbackCrcCheck fbOk toneOk => Sys2Proof.Machine.execFallbackCrcCheck fbOk toneOk s
  | .graze errs finished => Sys2Proof.Machine.execGraze errs finished s
  | .selfTestSlice pass => Sys2Proof.Machine.execSelfTestSlice pass s
  | .quickSelfTest passA passB => Sys2Proof.Machine.execQuickSelfTest passA passB s
  | .lockstepMiscompare half => Sys2Proof.Machine.execLockstepMiscompare half s
  | .eccUncorrectable reader => Sys2Proof.Machine.execEccUncorrectable reader s
  | .watchdogExpiry expiry => Sys2Proof.Machine.execWatchdogExpiry expiry s
  | .halfBootDone half crcOk => Sys2Proof.Machine.execHalfBootDone half crcOk s
  | .safeStopPin a b => Sys2Proof.Machine.execSafeStopPin a b s
  | .pinDisc => Sys2Proof.Machine.execPinDisc s
  | .masterLoss => Sys2Proof.Machine.execMasterLoss s
  | .unlockTimeout => Sys2Proof.Machine.execUnlockTimeout s
  | .vledUvArm mv => Sys2Proof.Machine.execVledUvArm mv s
  | .vledNoRise => Sys2Proof.Machine.execVledNoRise s
  | .vledUv mv => Sys2Proof.Machine.execVledUv mv s
  | .vledUvRelease mv => Sys2Proof.Machine.execVledUvRelease mv s
  | .vledOv mv => Sys2Proof.Machine.execVledOv mv s
  | .vledOvRelease mv => Sys2Proof.Machine.execVledOvRelease mv s
  | .corePllLoss => Sys2Proof.Machine.execCorePllLoss s
  | .lanePllLoss => Sys2Proof.Machine.execLanePllLoss s
  | .thermalRound die ts => Sys2Proof.Machine.execThermalRound die ts s
  | .fastCadenceEnd => Sys2Proof.Machine.execFastCadenceEnd s
  | .thermalTrip sensor => Sys2Proof.Machine.execThermalTrip sensor s
  | .tripHoldMonitor die => Sys2Proof.Machine.execTripHoldMonitor die s
  | .holdRequest => Sys2Proof.Machine.execHoldRequest s
  | .holdEntry => Sys2Proof.Machine.execHoldEntry s
  | .holdExit => Sys2Proof.Machine.execHoldExit s
  | .idleTimer => Sys2Proof.Machine.execIdleTimer s
  | .idleEntry during => Sys2Proof.Machine.execIdleEntry during s
  | .idleExit badBanks => Sys2Proof.Machine.execIdleExit badBanks s
  | .bankReload => Sys2Proof.Machine.execBankReload s
  | .sleepTimer => Sys2Proof.Machine.execSleepTimer s
  | .sleepEntry during => Sys2Proof.Machine.execSleepEntry during s
  | .roosterEdge mv => Sys2Proof.Machine.execRoosterEdge mv s
  | .lpoMeasure period => Sys2Proof.Machine.execLpoMeasure period s
  | .lampMinute => Sys2Proof.Machine.execLampMinute s
  | .vsupWarn mv => Sys2Proof.Machine.execVsupWarn mv s
  | .dipEnd minMv mv => Sys2Proof.Machine.execDipEnd minMv mv s
  | .nvmResume => Sys2Proof.Machine.execNvmResume s
  | .nvmOpDone ok => Sys2Proof.Machine.execNvmOpDone ok s
  | .por => Sys2Proof.Machine.execPor s
  | .bor mv => Sys2Proof.Machine.execBor mv s
  | .resetNLow => Sys2Proof.Machine.execResetNLow s
  | .resetRelease env => Sys2Proof.Machine.execResetRelease env s
  | .snapIoEdge => Sys2Proof.Machine.execSnapIoEdge s
  | .signalDetect lanes => Sys2Proof.Machine.execSignalDetect lanes s
  | .seekAttempt => Sys2Proof.Machine.execSeekAttempt s
  | .signalLost => Sys2Proof.Machine.execSignalLost s
  | .cdrLock lanes => Sys2Proof.Machine.execCdrLock lanes s
  | .trainDone efom => Sys2Proof.Machine.execTrainDone efom s
  | .blockLock lanes slips => Sys2Proof.Machine.execBlockLock lanes slips s
  | .ringRun marker transit => Sys2Proof.Machine.execRingRun marker transit s
  | .trainTimeout => Sys2Proof.Machine.execTrainTimeout s
  | .autoReadd lane => Sys2Proof.Machine.execAutoReadd lane s
  | .upstreamSilent => Sys2Proof.Machine.execUpstreamSilent s
  | .breakBeaconSend => Sys2Proof.Machine.execBreakBeaconSend s
  | .stopPinRelease a b => Sys2Proof.Machine.execStopPinRelease a b s
  | .halfBootTimeout half => Sys2Proof.Machine.execHalfBootTimeout half s
  | .pipelineParityError error => Sys2Proof.Machine.execPipelineParityError error s
  | .laneLockLoss lane what => Sys2Proof.Machine.execLaneLockLoss lane what s
  | .pllLockTimeout => Sys2Proof.Machine.execPllLockTimeout s
  | .selfTestStepDone found => Sys2Proof.Machine.execSelfTestStepDone found s
  | .lpoStop => Sys2Proof.Machine.execLpoStop s
  | .bistRunWaitTimeout => Sys2Proof.Machine.execBistRunWaitTimeout s

end Sys2Proof.Machine
end

