-- ==== Sys2Proof/Safety.lean ====
section
/-! DEFINITION. The terms the claims are stated in: which parts of the state a step leaves alone, how a command is
answered, and what a dark and a sound part are. -/

namespace Sys2Proof.Machine

/-! ### Frames -/

/-- The parts of the state, one per field. -/
inductive Part where
  | pending | fresh | time | regs | latch | cmd | tck | hlv | chk | chkTurn | snp | saf | lyr | obj | dia | drv
  | nvm | rng | thm | sys | pwr | dn | spiOut
deriving DecidableEq, Repr

/-- A part is the same in two states. -/
def Part.same (s t : State) : Part → Prop
  | .pending => t.pending = s.pending
  | .fresh => t.fresh = s.fresh
  | .time => t.time = s.time
  | .regs => t.regs = s.regs
  | .latch => t.latch = s.latch
  | .cmd => t.cmd = s.cmd
  | .tck => t.tck = s.tck
  | .hlv => t.hlv = s.hlv
  | .chk => t.chk = s.chk
  | .chkTurn => t.chkTurn = s.chkTurn
  | .snp => t.snp = s.snp
  | .saf => t.saf = s.saf
  | .lyr => t.lyr = s.lyr
  | .obj => t.obj = s.obj
  | .dia => t.dia = s.dia
  | .drv => t.drv = s.drv
  | .nvm => t.nvm = s.nvm
  | .rng => t.rng = s.rng
  | .thm => t.thm = s.thm
  | .sys => t.sys = s.sys
  | .pwr => t.pwr = s.pwr
  | .dn => t.dn = s.dn
  | .spiOut => t.spiOut = s.spiOut

/-- Every part is the same but those listed. -/
def Keeps (but : List Part) (s t : State) : Prop := ∀ p : Part, p ∉ but → p.same s t

/-- Every register word is the same but those at the addresses listed. -/
def KeepsRegs (but : List Nat) (s t : State) : Prop := ∀ a : Nat, a ∉ but → t.reg a = s.reg a

/-- The words an event may write: CMD_STATUS and CMD_EVT_CNT (R352), SNP_CTRL and SNP_CNT (R373, R374). -/
def eventRegs : List Nat := [0x2004, 0x2020, 0xB000, 0xB018]

/-- The words that sending an event writes, and no snapshot with it: CMD_STATUS and CMD_EVT_CNT (R352). -/
def sendRegs : List Nat := [0x2004, 0x2020]

/-- The words that the end of a command may write: the sticky bits of CMD_STATUS and CMD_LASTREF (R363), and CMD_EVT_CNT with the
EVT_LOST that follows when space for events returns (R352). -/
def replyRegs : List Nat := [0x20C4, 0x2004, 0x2020]

/-- A command's frame: beside the front end itself, only the parts and register words listed and what its reply
writes may change. -/
def CmdFrame (parts : List Part) (words : List Nat) (s t : State) : Prop :=
  Keeps (Part.cmd :: Part.regs :: parts) s t ∧ KeepsRegs (replyRegs ++ words) s t

/-- The frame of what happens of itself and raises events: also what an event writes, and the snapshot it may take. -/
def EvFrame (parts : List Part) (words : List Nat) (s t : State) : Prop :=
  Keeps (Part.cmd :: Part.regs :: Part.snp :: parts) s t ∧ KeepsRegs (eventRegs ++ words) s t

/-- The bytes `bs` stand in a memory from address `a`, and every byte outside them reads as before. -/
def Stores (a : Nat) (bs : List Byte) (m m' : Mem 8) : Prop :=
  (∀ i < bs.length, Mem.read 0 m' (a + i) = bs.getD i 0) ∧
    ∀ b, b < a ∨ a + bs.length ≤ b → Mem.read 0 m' b = Mem.read 0 m b

/-- The parts and the words a stop may change (R230 to R243): the sequencer, the timers of the power states, a self-test and a
FLUX_CAL that it ends, the pixel tests that it pauses (R213); SAF_STATE, SAF_CAUSE, the stamps, I_START, and CMD_LASTREF of a command it ends. -/
abbrev stopParts : List Part := [.saf, .pwr, .nvm, .drv, .dia]
abbrev stopWords : List Nat := [0x20C4, 0x8000, 0x801C, 0x8024, 0x8028, 0x802C, 0x8020]

/-- The words of the receive lanes: status, and equaliser with RNG_TXFFE (R323). -/
abbrev laneStatRegs : List Nat := [0x1040, 0x1048, 0x1050, 0x1058]
abbrev laneEqRegs : List Nat := [0x101C, 0x1044, 0x104C, 0x1054, 0x105C]

/-- The words of HLV (R291). -/
abbrev hlvRegs : List Nat := (List.range 14).map (fun i => 0x9000 + 4 * i)

/-! ### Command rows -/

/-- The opcode and the request of a row that executes a command of the queue; none of a row that is no such command: an event, a
register access of a test tool, HERD and ENUM (R60), SAFE_STOP (R338), a video packet. -/
def commandOf : Instr → Option (Nat × Req)
  | .nop rq => some (0x00, rq)
  | .ping rq => some (0x01, rq)
  | .idRead rq => some (0x02, rq)
  | .regRd rq => some (0x08, rq)
  | .regWr rq => some (0x09, rq)
  | .regRmw rq => some (0x0A, rq)
  | .eventCfg rq => some (0x0B, rq)
  | .commit rq => some (0x10, rq)
  | .frameSet rq => some (0x12, rq)
  | .timeRead rq => some (0x13, rq)
  | .layerCfg rq | .layerCfgRead rq => some (0x18, rq)
  | .layerBuf rq => some (0x19, rq)
  | .bufWrite rq => some (0x1A, rq)
  | .bufRelease rq => some (0x1B, rq)
  | .bufDefine rq => some (0x1C, rq)
  | .objSet rq | .objSetRead rq => some (0x20, rq)
  | .objMove rq => some (0x21, rq)
  | .objClear rq => some (0x22, rq)
  | .objBulk rq | .objBulkEnd rq | .objBulkAbort rq => some (0x23, rq)
  | .geomSet rq => some (0x24, rq)
  | .opticsMap rq | .opticsMapRead rq => some (0x25, rq)
  | .patternLoad rq | .patternLoadCopy rq | .toneMapLoad rq => some (0x28, rq)
  | .symbolLoad rq | .symbolDelete rq => some (0x29, rq)
  | .animSet rq => some (0x2A, rq)
  | .fluxCal rq | .fluxCalSupplied rq => some (0x2C, rq)
  | .diagMapRead rq => some (0x30, rq)
  | .diagRunStatus rq | .diagRunSuspend rq | .diagRunResume rq | .diagRunRestart rq | .diagRunReport rq
    | .diagRunSave rq => some (0x31, rq)
  | .pixelIsolate rq => some (0x32, rq)
  | .diagClear rq => some (0x33, rq)
  | .thermRead rq => some (0x38, rq)
  | .safeRestart rq => some (0x41, rq)
  | .safeUnlock rq => some (0x42, rq)
  | .safeLock rq => some (0x43, rq)
  | .safeWrite rq => some (0x44, rq)
  | .logRead rq => some (0x45, rq)
  | .enable rq | .switchOff rq => some (0x46, rq)
  | .pwrStateActive rq | .pwrStateHold rq | .pwrStateIdle rq | .pwrStateSleep rq => some (0x48, rq)
  | .clkSwitch rq | .clkSwitchFrc rq => some (0x49, rq)
  | .snapArm rq => some (0x50, rq)
  | .snapRead rq => some (0x51, rq)
  | .chkRun rq => some (0x58, rq)
  | .chkCtxRead rq | .chkCtxWrite rq | .chkCtxAbort rq => some (0x59, rq)
  | .nvmRead rq => some (0x60, rq)
  | .nvmWrite rq | .nvmErase rq => some (0x61, rq)
  | .fwStage rq => some (0x62, rq)
  | .fwActivate rq => some (0x63, rq)
  | .bistRun rq => some (0x68, rq)
  | .bistResult rq => some (0x69, rq)
  | .shutdown rq => some (0x6A, rq)
  | .ringStatus rq => some (0x71, rq)
  | .halfStatus rq => some (0x78, rq)
  | .halfSwitch rq => some (0x79, rq)
  | .halfReset rq => some (0x7A, rq)
  | .reset rq => some (0x7F, rq)
  | _ => none

/-- The words a write of a register may change beside its own (R127, R213, R298, R397): RNG_STATUS by RNG_CTRL; by DIA_CTRL the words
that an event and the end of a REPORT write; PWR_FLAGS by PWR_ROOSTER. -/
def effectWords (a : Nat) : List Nat :=
  match a with
  | 0x1000 => [0x1004]
  | 0x7000 => 0x20C4 :: eventRegs
  | 0xC020 => [0xC004]
  | _ => []

/-- The parts a write of a register may change beside the words and the pending set (R51, R100, R127, R213, R397). -/
def effectParts (a : Nat) : List Part :=
  match a with
  | 0x4014 => [.lyr]
  | 0x6028 => [.drv]
  | 0x7000 => [.dia, .cmd, .snp]
  | 0xC020 => [.pwr]
  | _ => []

/-! ### Replies -/

/-- The command runs now (R338, R339, R348), and its reply is not suppressed (R343). -/
def Runs (op : Nat) (rq : Req) (s : State) : Prop := s.mustWait op rq = false ∧ rq.quiet = false

/-- A reply packet of R341: TYPE, STREAM, FINAL, OPCODE, TAG and ALIVE, and the payload STATUS and body filled to a
multiple of 4. -/
def replyOf (op : Nat) (rq : Req) (final : Bool) (st : Nat) (body : List Byte) (seq : Nat) : OutPkt :=
  ⟨rq.port, if op = 0x40 then .stopReply else .reply, 1, rq.stream, final, op, rq.tag, rq.alive,
    pad4 (BitVec.ofNat 8 st :: body), some seq⟩

/-- The packets of the engine that wait in `t` are those of `s`, then these, with events between and around them. -/
def SendsAll (ps : List OutPkt) (s t : State) : Prop :=
  ∃ evs evs' : List OutPkt, (∀ e ∈ evs ++ evs', e.kind = .event) ∧ t.cmd.out = s.cmd.out ++ evs ++ ps ++ evs'

/-- One packet waits behind those that waited before, with events around it: those of the command's effect, and the EVT_LOST
for which its end made room (R352). -/
def Sends (p : OutPkt) (s t : State) : Prop := SendsAll [p] s t

/-- Only packets of the kinds listed were added to those that wait. -/
def SendsOf (k : List OutKind) (s t : State) : Prop :=
  ∃ ps : List OutPkt, (∀ p ∈ ps, p.kind ∈ k) ∧ t.cmd.out = s.cmd.out ++ ps

/-- The packet waits behind those that waited before and those sent on the way (another command's final reply among them);
nothing but events follows it. -/
def SendsLast (p : OutPkt) (s t : State) : Prop :=
  ∃ ps evs : List OutPkt, (∀ e ∈ evs, e.kind = .event) ∧ t.cmd.out = s.cmd.out ++ ps ++ p :: evs

/-- Only events were added to the packets that wait. -/
def SendsEvents (s t : State) : Prop :=
  ∃ evs : List OutPkt, (∀ e ∈ evs, e.kind = .event) ∧ t.cmd.out = s.cmd.out ++ evs

/-- The command's one reply, or its final one, is sent. -/
def Answers (op : Nat) (rq : Req) (st : Nat) (body : List Byte) (s t : State) : Prop :=
  Sends (replyOf op rq true st body s.cmd.seq) s t

/-- The command is refused with a status and no further bytes, and nothing but the front end changes (R342). -/
def Refuses (op : Nat) (rq : Req) (st : Nat) (s t : State) : Prop := Answers op rq st [] s t ∧ CmdFrame [] [] s t

/-- The command is answered ACCEPTED and stays in flight, its final reply still to come (R341). -/
def Accepts (op : Nat) (rq : Req) (body : List Byte) (s t : State) : Prop :=
  Sends (replyOf op rq false St.accepted body s.cmd.seq) s t ∧
    ∃ j : Job, t.cmd.jobs = s.cmd.jobs ++ [j] ∧ j.seq = s.cmd.seq ∧ j.op = op ∧ j.rq = rq ∧ j.long = true

/-- The command has no reply yet and stays in flight; its one reply comes later. -/
def Defers (op : Nat) (rq : Req) (s t : State) : Prop :=
  SendsEvents s t ∧ ∃ j : Job, t.cmd.jobs = s.cmd.jobs ++ [j] ∧ j.seq = s.cmd.seq ∧ j.op = op ∧ j.rq = rq ∧ j.long = false

/-! ### Soundness and darkness -/

/-- No light leaves the part: the supply of the array is off and every segment switch is open (R229, R234). -/
def Dark (s : State) : Prop := s.fb F.SAF_STATE_VLED_EN = false ∧ s.saf.switches = false

/-- The stop latches: STOPPED, with the light removed (R230, R233, R234). -/
def Stopped (s : State) : Prop := s.lamp = Lamp.stopped ∧ s.fb F.SAF_STATE_LATCHED = true ∧ Dark s

/-- The words of a configuration set and of the video layers stand in the canonical form of `Mem.wf`. -/
def SetCanonical (c : CfgSet) (v : Vector VLayer 2) : Prop :=
  Mem.wf 0 c.regs = true ∧ ∀ n < 2, Mem.wf 0 (vnth {} v n).regs = true

/-- The factors of the tiles stand in it: f_opt and f_el. -/
def FactorsCanonical (fopt fel : Mem 16) : Prop := Mem.wf 0x8000 fopt = true ∧ Mem.wf 0x8000 fel = true

/-- The memories of the eNVM: the bytes of the slots and the user area, the fallback pattern and what its marker was programmed
over, the two copies of the factor table, and the factors on their way into it. -/
def NvmCanonical (n : NvmSt) : Prop :=
  Mem.wf 0xFF n.bytes = true ∧ Mem.wf 0 n.fb = true ∧ (∀ x, n.fbMark = some x → Mem.wf 0 x.2 = true) ∧
    FactorsCanonical n.fopt n.fel ∧ FactorsCanonical n.foptOld n.felOld ∧
    ∀ o ∈ n.ops, ∀ c q fo fe, o.kind = .factor c q fo fe → FactorsCanonical fo fe

/-- The memories of DRV: the fallback copy, the two words of the pixels, the factors in force and those of the next tick. -/
def DrvCanonical (d : DrvSt) : Prop :=
  Mem.wf 0 d.fb = true ∧ Mem.wf 0 d.front = true ∧ Mem.wf 0 d.back = true ∧
    FactorsCanonical d.fopt d.fel ∧ FactorsCanonical (d.foptNext.getD []) (d.felNext.getD [])

/-- Every memory of the part stands in its one canonical form: keys strictly rising, no entry that equals what an unlisted
address reads as. The register words, the set in force and what the last images were composed from, the image store, a snapshot,
the firmware in the local RAM of each half, and the memories of DRV and of the eNVM. A sampled set that waits holds its items as a
list of writes, no memory. -/
def StoresCanonical (s : State) : Prop :=
  Mem.wf 0 s.regs = true ∧ SetCanonical s.tck.act s.lyr.v ∧ SetCanonical s.obj.lastIn.act s.obj.lastIn.v ∧
    SetCanonical s.obj.grazeIn.act s.obj.grazeIn.v ∧ Mem.wf 0 s.lyr.store = true ∧
    (∀ p, s.snp.store = some p → Mem.wf 0 p.words = true) ∧ Mem.wf 0xFF s.hlv.halfA.image = true ∧
    Mem.wf 0xFF s.hlv.halfB.image = true ∧ DrvCanonical s.drv ∧ NvmCanonical s.nvm

/-- The next state of an outcome satisfies a property; a fault or a refusal says nothing. -/
def Next (p : State → Prop) : Host.Outcome State Fault Refusal → Prop
  | .next t => p t
  | _ => True

end Sys2Proof.Machine
end

