-- ==== Sys2Proof/Certificates/Slice0/Obligations.lean ====
section
/-! DEFINITION. The statements for the provers, by family of commands: what each command does when it completes, what it
leaves alone, what it refuses; then the frames, invariants and round trips of the whole part. -/

open Sys2Proof Sys2Proof.Machine

/-! ### The front end -/

/-- One step takes the command at the front of the queue and runs it on the queue's rest; every command answers a next state. The
model's choice (notes/assumptions/1.md): with no command waiting TIME moves on by its unit of 10 ns (R15, R70), and only TIME where
every packet received waits for a row of its own; a command that no row executes is answered in its turn (R338, R355).
R335, R338, R348: a command row given with no packet received stands for a packet accepted at once (the model's choice,
notes/assumptions/13.md), and acts as the same row after that acceptance, which puts the packet at the queue's end with TIME, the frame
and the row, and notes its stream's ALIVE. Out of the queue's turn, with no room for its reply, or while the part executes nothing, it
waits there and has no effect; only an ENABLE that serves a request of R454 goes ahead. A received packet is not accepted again. -/
def Obligations.StepRunsTheFrontCommand : Prop :=
  (∀ (c : Instr) (rest : List Instr) (s : State),
    step { s with pending := c :: rest } = exec c { s with pending := rest }) ∧
  (∀ (c : Instr) (s : State), ∃ t, exec c s = .next t) ∧
  (∀ s : State, s.pending = [] → ∃ t, step s = .next t ∧ t.time = s.time + 1 ∧ CmdFrame [.time] [] s t ∧
    ((∀ e ∈ s.cmd.inbox, noRow e.op = none) → Keeps [.time] s t)) ∧
  (∀ (c : Instr) (op : Nat) (rq : Req) (s u : State), commandOf c = some (op, rq) → u = accept 0 op rq s →
    exec c s = exec c u ∧
    (s.off = true ∨ s.holds 0 op rq = true → u = s) ∧
    (s.off = false → s.holds 0 op rq = false →
      u.cmd.inbox = s.cmd.inbox ++ [⟨0, op, rq, s.time, s.tck.frame, s.tck.row⟩] ∧ u.f (aliveLast rq.stream) = rq.alive % 256 ∧
        (rq.stream ≠ 1 → u.cmd.masterTime = s.time) ∧ Keeps [.cmd, .regs, .saf, .pwr] s u) ∧
    ((∀ e ∈ u.cmd.inbox, noRow e.op = none) → u.mustWait op rq = true → (c = .enable rq → enableAhead u = false) →
      (c = .bistRun rq → u.nvm.test = none) → exec c s = .next u))

/-- R360, R75: NOP, PING, ID_READ and TIME_READ, at the length the spec gives each. NOP has no effect and no reply; as after every
command, events that were lost are reported once space for events has returned (R352). The others answer OK with the bytes their rule
lists. Nothing but the front end changes. -/
def Obligations.PlainReadsAnswer : Prop :=
  ∀ (rq : Req) (s : State),
    (s.mustWait 0x00 rq = false → rq.payload = [] →
      ∃ t, exec (.nop rq) s = .next t ∧ SendsEvents s t ∧ t.cmd.jobs = s.cmd.jobs ∧ CmdFrame [] [] s t ∧
        (s.cmd.lost = 0 → t.cmd.out = s.cmd.out ∧ Keeps [.cmd] s t)) ∧
    (Runs 0x01 rq s → rq.payload.length ≤ 4076 →
      ∃ t, exec (.ping rq) s = .next t ∧ CmdFrame [] [] s t ∧
        Answers 0x01 rq St.ok (bytesLE 1 (startCommand 0x01 true rq s).queued ++
          bytesLE 2 (startCommand 0x01 true rq s).cmdFree ++ rq.payload) s t) ∧
    (Runs 0x02 rq s → rq.payload = [] →
      ∃ t, exec (.idRead rq) s = .next t ∧ CmdFrame [] [] s t ∧
        Answers 0x02 rq St.ok ([0x5D, 0x48, 0x10, 0x41] ++
          bytesLE 1 (s.f (ofHalf F.HLV_FWVER_A_MAJOR s.activeHalf)) ++
          bytesLE 1 (s.f (ofHalf F.HLV_FWVER_A_MINOR s.activeHalf)) ++ [0] ++
          bytesLE 2 (s.f (ofHalf F.HLV_FWVER_A_BUILD s.activeHalf)) ++ bytesLE 1 (s.f F.HLV_ROLE_ACTIVE) ++
          bytesLE 1 (s.f F.RNG_ADDR_ADDR + 32 * s.f F.RNG_ADDR_VALID) ++ bytesLE 8 Config.dieId.toNat) s t) ∧
    (Runs 0x13 rq s → rq.payload = [] →
      ∃ t, exec (.timeRead rq) s = .next t ∧ CmdFrame [] [] s t ∧
        Answers 0x13 rq St.ok (bytesLE 1 (s.f F.TCK_TIME_Q_Q + 4 * s.f F.TCK_TIME_Q_MOFS_VALID) ++ bytesLE 2 s.tck.row ++
          bytesLE 8 s.time ++ bytesLE 4 s.tck.frame ++ bytesLE 8 s.tck.tickTime ++ bytesLE 8 s.tck.flipTime ++
          bytesLE 4 (s.f F.TCK_FLIP_FRAME_FRAME) ++ bytesLE 8 (encSigned 64 s.tck.mofs)) s t)

/-- R336, R362: EVENT_CFG reads what is in force, or writes the routing, the stream and the 256 enable bits where STREAM and
ENABLE are legal; CMDBUF_APPLY puts CMDBUF in force once the queue is empty. -/
def Obligations.EventRoutingIsSet : Prop :=
  ∀ (rq : Req) (s : State),
    (Runs 0x0B rq s → rq.payload.length = 36 → bitOf (u8 rq.payload 0) 0 = false →
      ∃ t, exec (.eventCfg rq) s = .next t ∧ Answers 0x0B rq St.ok (eventCfgReply s) s t ∧ CmdFrame [] [] s t) ∧
    (Runs 0x0B rq s → rq.payload.length = 36 → bitOf (u8 rq.payload 0) 0 = true →
      evtStreamOk (u8 rq.payload 1 % 8) = true → enableLegal rq.payload = true →
      ∃ t, exec (.eventCfg rq) s = .next t ∧ Answers 0x0B rq St.ok (eventCfgReply t) s t ∧
        t.f F.CMD_EVT_CTRL_STREAM = u8 rq.payload 1 % 8 ∧ t.f F.CMD_EVT_CTRL_RING = u8 rq.payload 2 % 2 ∧
        t.f F.CMD_EVT_CTRL_SPI = bitsOf (u8 rq.payload 2) 1 1 ∧
        (∀ r < 8, t.reg (0x2040 + 4 * r) = BitVec.ofNat 32 (u32 rq.payload (4 + 4 * r))) ∧
        CmdFrame [] [0x201C, 0x2040, 0x2044, 0x2048, 0x204C, 0x2050, 0x2054, 0x2058, 0x205C] s t) ∧
    (s.queued = 0 →
      ∃ t, exec .cmdbufApply s = .next t ∧ t.f F.CMD_CTRL_CMDBUF_ACT = s.f F.CMD_CTRL_CMDBUF ∧
        t.f F.CMD_CTRL_CMDBUF = s.f F.CMD_CTRL_CMDBUF ∧ t.f F.CMD_CTRL_SPI_EN = s.f F.CMD_CTRL_SPI_EN ∧
        Keeps [.regs] s t ∧ KeepsRegs [0x2000] s t)

/-! ### Register access -/

/-- R10, R361: REG_RD of a run of registers answers OK with the words read in order, pairs latched; nothing but the
latches changes. A run that breaks R5 at any word is refused whole. Reading the low word of a 64-bit pair latches its high
word, and the next read of the high word gives the latched value, whatever it has become since; a read of any other word
with no latch gives the live value and leaves no trace. -/
def Obligations.RegistersAreReadAndHighWordsLatched : Prop :=
  (∀ (rq : Req) (s : State), Runs 0x08 rq s → rq.payload.length = 8 → inRange (u32 rq.payload 4) 1 1019 = true →
    (regRunCheck (u16 rq.payload 0) (u32 rq.payload 4) = none →
      ∃ t, exec (.regRd rq) s = .next t ∧ CmdFrame [.latch] [] s t ∧
        t.latch = (readRegs (u16 rq.payload 0) (u32 rq.payload 4) (startCommand 0x08 true rq s)).2.latch ∧
        Answers 0x08 rq St.ok (zeros 3 ++
          (readRegs (u16 rq.payload 0) (u32 rq.payload 4) (startCommand 0x08 true rq s)).1.flatMap (bytesLE 4)) s t) ∧
    (∀ st, regRunCheck (u16 rq.payload 0) (u32 rq.payload 4) = some st →
      ∃ t, exec (.regRd rq) s = .next t ∧ Answers 0x08 rq st [] s t ∧ CmdFrame [] [] s t)) ∧
  (∀ (a : Nat) (s u : State),
    (a ∈ lowWords → a + 4 ∉ lowWords → u.latch = (readReg a s).2.latch →
      (readReg a s).1 = (s.peek a).toNat ∧ (readReg (a + 4) u).1 = (s.peek (a + 4)).toNat ∧
        kvGet (readReg (a + 4) u).2.latch (a + 4) = none) ∧
    (a ∉ lowWords → kvGet s.latch a = none → readReg a s = ((s.peek a).toNat, s)))

/-- R6, R9, R51: what the write of one word leaves in it. A bit of code RW or RWL takes the written value, a bit of code W1C
is cleared by a 1, every other bit stays (the CTLE bits of an equaliser register are taken only with FREEZE, R323), and a
set item joins the pending set. Beside the word and the pending set only what `effectWords` and `effectParts` list for the address
may move: the bypass bits of RNG_STATUS and SILENT (R298, R315), what a pause of the pixel tests ends (R213), PWR_FLAGS.ROOSTER (R397). -/
def Obligations.WrittenBitsFollowTheirAccessCodes : Prop :=
  ∀ (a : Nat) (r : RegRow) (v : Word) (s : State), regRow a = some r →
    (∀ i < 32, ((writeOne a v s).reg a).getLsbD i =
      if (BitVec.ofNat 32 r.w1c).getLsbD i && v.getLsbD i then false
      else if (BitVec.ofNat 32 (r.rw ||| r.rwl)).getLsbD i then (eqValue a (s.reg a) v).getLsbD i
      else (s.reg a).getLsbD i) ∧
    (¬ (0x1040 ≤ a ∧ a ≤ 0x105F) → eqValue a (s.reg a) v = v) ∧
    (r.item = true → a ∈ (writeOne a v s).tck.dirty) ∧
    KeepsRegs (a :: effectWords a) s (writeOne a v s) ∧ Keeps (.regs :: .tck :: effectParts a) s (writeOne a v s)

/-- R5, R8, R254, R283, R361: REG_WR and REG_RMW. With every word legal and none a safety parameter, the words are written in order
and the reply is OK; REG_RMW also gives the old and the new value. With safety parameters among the words and the stream unlocked they
are written, each change is logged and a stored one recorded as SAFE_WRITE's are, and the one reply comes with the last program; the
journal entry of a single-register REG_WR is DONE with its write. Without room in the log or with THERM_SD active the command is refused.
On any other stream the word with a safety parameter is LOCKED; a command with a word refused writes nothing, and REG_WR names its
address. An EVT_LOST that follows the reply writes its two words (R352). -/
def Obligations.RegisterCommandsWriteAllOrNothing : Prop :=
  ∀ (rq : Req) (s : State),
    (Runs 0x09 rq s → inRange rq.payload.length 8 4080 = true → wrRefused s rq.stream (wrWords rq) = none →
      ∀ u safe, u = (wrWords rq).foldl (fun v w => writeOne w.1 w.2 v) (startCommand 0x09 (!reqClassN 0x09 rq) rq s) →
      safe = (wrWords rq).filter (fun w => rwlWrite w.1 0xFFFFFFFF) →
      (safe = [] →
        ∃ t, exec (.regWr rq) s = .next t ∧ SendsLast (replyOf 0x09 rq true St.ok (zeros 3 ++ bytesLE 4 0xFFFFFFFF) s.cmd.seq) s t ∧
          KeepsRegs sendRegs u t ∧ (u.cmd.lost = 0 → t.regs = u.regs) ∧
          Keeps (.cmd :: .regs :: .tck :: (wrWords rq).flatMap (fun w => effectParts w.1)) s t) ∧
      (safe ≠ [] → logRoom s safe.length = true → s.sdActive = false →
        ∃ t w, exec (.regWr rq) s = .next t ∧
          w = logChange rq.stream (some (s.cmd.seq % 65536)) (safe.map (fun x => regItem s x.1 x.2))
            (safe.any (fun x => isStored x.1)) u ∧
          t.saf = w.saf ∧ t.nvm = w.nvm ∧ t.saf.logNext = s.saf.logNext + safe.length ∧ t.saf.unlockTime = s.time ∧
          t.cmd.jobs = u.cmd.jobs ++ [⟨s.cmd.seq, 0x09, rq, false, 0, zeros 3 ++ bytesLE 4 0xFFFFFFFF, false⟩] ∧
          (rq.payload.length = 8 → ∀ e ∈ t.cmd.journal, e.seq = s.cmd.seq → e.state = .done) ∧
          KeepsRegs sendRegs u t ∧ (u.cmd.lost = 0 → t.regs = u.regs) ∧
          Keeps (.cmd :: .regs :: .tck :: .saf :: .nvm :: (wrWords rq).flatMap (fun w => effectParts w.1)) s t) ∧
      (safe ≠ [] → (logRoom s safe.length && !s.sdActive) = false →
        ∃ t, exec (.regWr rq) s = .next t ∧ Answers 0x09 rq St.refusedState (zeros 3 ++ bytesLE 4 0xFFFFFFFF) s t ∧ CmdFrame [] [] s t)) ∧
    (Runs 0x09 rq s → inRange rq.payload.length 8 4080 = true →
      ∀ a st, wrRefused s rq.stream (wrWords rq) = some (a, st) →
      ∃ t, exec (.regWr rq) s = .next t ∧ Answers 0x09 rq st (zeros 3 ++ bytesLE 4 a) s t ∧
        CmdFrame [] [F.LYR_CNT_IN_USE.addr] s t) ∧
    (∀ a mask v, a % 4 = 0 → rwlWrite a mask = true → s.unlocked rq.stream = false → wordStatus s rq.stream a mask v = some St.locked) ∧
    (Runs 0x0A rq s → rq.payload.length = 12 →
      ∀ w a mask, a = u32 rq.payload 0 → mask = u32 rq.payload 4 →
      w = rmwValue s a (BitVec.ofNat 32 mask) (BitVec.ofNat 32 (u32 rq.payload 8)) →
      (∀ st, wordStatus s rq.stream a mask w.toNat = some st →
        ∃ t, exec (.regRmw rq) s = .next t ∧ Answers 0x0A rq st [] s t ∧ CmdFrame [] [F.LYR_CNT_IN_USE.addr] s t) ∧
      (wordStatus s rq.stream a mask w.toNat = none →
        ∀ u v body, u = startCommand 0x0A (!reqClassN 0x0A rq) rq s → v = writeOne a w u →
        body = zeros 3 ++ bytesLE 4 (u.peek a).toNat ++ bytesLE 4 (v.peek a).toNat →
        (rwlWrite a mask = false →
          ∃ t, exec (.regRmw rq) s = .next t ∧ SendsLast (replyOf 0x0A rq true St.ok body s.cmd.seq) s t ∧
            KeepsRegs sendRegs v t ∧ (v.cmd.lost = 0 → t.regs = v.regs) ∧ Keeps (.cmd :: .regs :: .tck :: effectParts a) s t) ∧
        (rwlWrite a mask = true → logRoom s 1 = true → s.sdActive = false →
          ∃ t x, exec (.regRmw rq) s = .next t ∧
            x = logChange rq.stream (some (s.cmd.seq % 65536)) [regItem s a w] (isStored a) v ∧
            t.saf = x.saf ∧ t.nvm = x.nvm ∧ t.saf.logNext = s.saf.logNext + 1 ∧ t.saf.unlockTime = s.time ∧
            t.cmd.jobs = v.cmd.jobs ++ [⟨s.cmd.seq, 0x0A, rq, false, 0, body, false⟩] ∧
            KeepsRegs sendRegs v t ∧ (v.cmd.lost = 0 → t.regs = v.regs) ∧
            Keeps (.cmd :: .regs :: .tck :: .saf :: .nvm :: effectParts a) s t) ∧
        (rwlWrite a mask = true → (logRoom s 1 && !s.sdActive) = false →
          ∃ t, exec (.regRmw rq) s = .next t ∧ Answers 0x0A rq St.refusedState [] s t ∧ CmdFrame [] [] s t)))

/-- R6, R100, R127, R298, R315: the single register writes with an effect of their own. A write of a legal word with no safety
parameter takes; DRV_FLUX_CTRL.RESTART is kept for the next tick; a write of LYR_SYM frees every symbol; setting BYPASS_HOLD
closes the bypass, takes the transmitter off DN and ends SILENT, clearing it leaves all three as they are. -/
def Obligations.SingleRegisterWritesAct : Prop :=
  ∀ (stream a : Nat) (v : Word) (s : State),
    (wordStatus s stream a 0xFFFFFFFF v.toNat = none → rwlWrite a 0xFFFFFFFF = false →
      exec (.registerWrite stream a v) s = .next (writeOne a v s)) ∧
    (∃ t, exec .drvFluxRestart s = .next t ∧ t.drv = { s.drv with restart := true } ∧ Keeps [.drv] s t) ∧
    (wordStatus s 0 0x4014 0xFFFFFFFF v.toNat = none →
      ∃ t, exec (.lyrSymWrite v) s = .next t ∧ t.lyr = { s.lyr with syms := [] } ∧
        t.f F.LYR_SYM_BANKS = bitsOf v.toNat 10 8 ∧ t.f F.LYR_SYM_BASE_BANK = bitsOf v.toNat 4 0 ∧
        Keeps [.regs, .lyr] s t ∧ KeepsRegs [0x4014] s t) ∧
    (∃ t, exec (.bypassHoldWrite true) s = .next t ∧ t.fb F.RNG_CTRL_BYPASS_HOLD = true ∧
      t.fb F.RNG_STATUS_BYPASS = true ∧ t.fb F.RNG_STATUS_TX_ON = false ∧ t.fb F.RNG_STATUS_SILENT = false ∧ Keeps [.regs] s t ∧
      KeepsRegs [0x1000, 0x1004] s t) ∧
    (∃ t, exec (.bypassHoldWrite false) s = .next t ∧ t.fb F.RNG_CTRL_BYPASS_HOLD = false ∧ Keeps [.regs] s t ∧
      KeepsRegs [0x1000] s t)

/-! ### Configuration sets, HERD and ENUM -/

/-- R53, R55, R56, R72: a COMMIT that no HERD target holds up and no layer refuses. Started in a row below the cut-off it joins
the set of the next tick and is answered OK; later it joins the set of the tick after it, sets COMMIT_LATE, counts, and is
answered LATE. The set holds every pending item with its register's value, and nothing stays pending. -/
def Obligations.CommitJoinsTheSetOfItsRow : Prop :=
  ∀ (rq : Req) (s : State), Runs 0x10 rq s → rq.payload = [] → s.tck.herd = none → refusedLayers s = [] →
    ∀ n late, late = (!decide (s.tck.row < s.cutoff)) → n = (if late then 2 else 1) →
    ∀ tabs reduced, tabs = (checkSet s n).tabs → reduced = layerMask (checkSet s n).reduced →
    ∃ t, exec (.commit rq) s = .next t ∧
      t.tck.sets = s.tck.sets ++ [⟨s.tickNo n, s.tck.dirty.map (fun a => (a, s.reg a)), tabs, bitsOf rq.arg 15 0, false⟩] ∧
      t.tck.dirty = [] ∧ t.tck.dirtyTabs = [] ∧
      Answers 0x10 rq (if late then St.late else St.ok) (bytesLE 1 (b2n late + 2 * b2n (!(checkSet s n).reduced.isEmpty)) ++
        bytesLE 2 s.tck.row ++ bytesLE 4 (s.tickNo n) ++ bytesLE 4 (s.tickNo n + 1) ++ [0] ++ bytesLE 1 reduced ++ [0, 0]) s t ∧
      (late = true → t.fb F.TCK_STATUS_COMMIT_LATE = true ∧
        t.f F.TCK_LATE_CNT_COMMIT_LATE_CNT = satAdd F.TCK_LATE_CNT_COMMIT_LATE_CNT.top (s.f F.TCK_LATE_CNT_COMMIT_LATE_CNT) 1) ∧
      CmdFrame [.tck] (if late then [F.TCK_STATUS_COMMIT_LATE.addr, F.TCK_LATE_CNT_COMMIT_LATE_CNT.addr] else []) s t

/-- R55, R62, R72, R143: while a HERD target is pending a COMMIT is answered BUSY with nothing committed. A COMMIT with
refused video layers is answered RANGE and names them; the set it samples holds no item of theirs, and those stay pending. -/
def Obligations.CommitIsBusyOrKeepsRefusedLayers : Prop :=
  ∀ (rq : Req) (s : State), Runs 0x10 rq s → rq.payload = [] →
    (s.tck.herd.isSome = true → ∃ t, exec (.commit rq) s = .next t ∧ Answers 0x10 rq St.busy [] s t ∧ CmdFrame [] [] s t) ∧
    (s.tck.herd = none → refusedLayers s ≠ [] →
      ∀ n late, late = (!decide (s.tck.row < s.cutoff)) → n = (if late then 2 else 1) →
      ∃ t x, exec (.commit rq) s = .next t ∧ t.tck.sets = s.tck.sets ++ [x] ∧ x.applyAt = s.tickNo n ∧ x.herd = false ∧
        (∀ e ∈ x.items, ∀ l, layerOfItem e.1 = some l → l ∉ refusedLayers s) ∧
        (∀ a ∈ s.tck.dirty, ∀ l, layerOfItem a = some l → (a ∈ t.tck.dirty ↔ l ∈ refusedLayers s)) ∧
        (∀ a ∈ s.tck.dirty, layerOfItem a = none → a ≠ 0x4000 → (a, s.reg a) ∈ x.items ∧ a ∉ t.tck.dirty) ∧
        Answers 0x10 rq St.range (bytesLE 1 (b2n late + 2 * b2n (!(checkSet s n).reduced.isEmpty) + 4) ++ bytesLE 2 s.tck.row ++
          bytesLE 4 (s.tickNo n) ++ bytesLE 4 (s.tickNo n + 1) ++ bytesLE 1 (layerMask (refusedLayers s)) ++
          bytesLE 1 (layerMask (checkSet s n).reduced) ++ [0, 0]) s t ∧
        CmdFrame [.tck] [F.TCK_STATUS_COMMIT_LATE.addr, F.TCK_LATE_CNT_COMMIT_LATE_CNT.addr] s t)

/-- R44, R60 to R66: a HERD of LEN 16 to address 31, out of reset. The model's reading (notes/assumptions/18.md): it acts by the frame
and the row of its arrival, which its entry `x` keeps. Without SET_FRAME it sets the target: at F when F has not been missed (the frame
numbers compared modulo 2^32), else at the earliest tick, with HERD_LATE; with SET_FRAME it numbers that earliest tick F, and the sampled
sets of the next two ticks take their new numbers. Either way a target that was pending is dropped with RESULT 3 (R62), and, by the
model's choice (notes/assumptions/18.md), a set sampled for it, which `kept` leaves out, is no longer applied but pending again. A HERD
that arrived before the cut-off row and is taken after it samples the pending set as it stood there, `added` (R61): an item written again
since stays pending. Both rows set the master time offset, from the instant the packet came and the position delay in whole 10 ns
(notes/assumptions/55.md: the model's choice while POSDLY is not valid). With ALIGN_TICK either row takes the phase error e against the grid
of R65, rounded to nearest into TCK_ALIGN_ERR (notes/assumptions/20.md: the model's choice); its correction waits for the same tick, and the
trim follows R66 (the model's reading of a correction in between: notes/assumptions/55.md); on TICK_IN and on FRC, and by the model's choice
with the tick stopped on INTERNAL (notes/assumptions/55.md), it is ignored. -/
def Obligations.HerdSetsTargetNumberAndOffset : Prop :=
  ∀ (rq : Req) (s : State), rq.bcast = true → rq.payload.length = 16 → s.off = false →
    ∀ (u : State) (x : QEntry) (early : Nat) (kept : List Sampled) (words : List Nat),
    u = accept 4 0x11 rq s → x = herdEntry rq u → early = u.tickNo (herdTicks x u) →
    kept = s.tck.sets.filter (fun y => !(s.tck.herd.any (fun h => y.herd && y.applyAt == h.applyAt))) →
    words = [0x3008, 0x3014, 0x3020, 0x3048, 0x304C, 0x3050] →
    ((∀ e ∈ s.cmd.inbox, e.matches 0x11 rq = false) → x = ⟨4, 0x11, rq, s.time, s.tck.frame, s.tck.row⟩ ∧
      early = s.tickNo (if s.tck.row < s.cutoff then 1 else 2)) ∧
    (bitOf rq.arg 17 = false →
      ∀ (late : Bool) (applyAt : Nat) (added : List Sampled),
      late = decide (2 ^ 31 ≤ (u32 rq.payload 0 + 2 ^ 32 - early) % 2 ^ 32) → applyAt = (if late then early else u32 rq.payload 0) →
      added = (match s.tck.cut with
        | some c => if applyAt = s.tickNo 1 then [⟨s.tickNo 1, c.items, c.tabs, bitsOf rq.arg 15 0, true⟩] else []
        | none => []) →
      ∃ t, exec (.herd rq) s = .next t ∧
        t.tck.herd = some ⟨u32 rq.payload 0, applyAt, bitsOf rq.arg 15 0, bitOf rq.arg 18, late⟩ ∧
        (late = true → t.fb F.TCK_STATUS_HERD_LATE = true) ∧
        t.tck.mofs = 100 * (u64 rq.payload 4 : Int) - (x.time : Int) + (s.f F.RNG_POSDLY_POSDLY / 100 : Nat) ∧
        t.tck.mofsValid = true ∧ t.f F.TCK_HERD_INFO_ARR_ROW = x.row % 1024 ∧
        t.tck.sets = kept ++ added ∧ (s.tck.herd.isSome = true → t.f F.TCK_HERD_INFO_RESULT = 3) ∧
        (∀ a, a ∉ eventRegs ++ words → (a ∈ t.tck.dirty ↔
          (a ∈ s.tck.dirty ∨ ∃ y ∈ s.tck.sets, y ∉ kept ∧ ∃ i ∈ y.items, i.1 = a) ∧
            ∀ y ∈ added, ∀ i ∈ y.items, i.1 = a → i.2 ≠ u.reg a)) ∧
        SendsEvents u t ∧ EvFrame [.tck, .pwr] words u t) ∧
    (∀ c, (bitOf rq.arg 17 = false ∧ c = .herd rq) ∨ (bitOf rq.arg 17 = true ∧ c = .herdSetFrame rq) → bitOf rq.arg 16 = true →
      ∀ (grid e : Rat) (trim : Int), grid = x.time - u.posDly + u32 rq.payload 12 → e = phaseError u grid → trim = newTrim u x.time e →
      ∃ t, exec c s = .next t ∧
        ((u.onFrc || u.a F.TCK_CTRL_SRC == 1 || !u.tck.running) = true →
          t.fb F.TCK_STATUS_ALIGN_IGNORED = true ∧ t.tck.corr = s.tck.corr) ∧
        ((u.onFrc || u.a F.TCK_CTRL_SRC == 1 || !u.tck.running) = false →
          t.tck.corr = some (herdTicks x u, correction (trimmedPeriod u trim) e) ∧ t.tck.alignErr = e ∧ t.tck.alignAt = s.tck.exact ∧
          t.tck.alignTime = some x.time ∧ t.f F.TCK_ALIGN_ERR_ERR = encSigned 32 (ratRound (e * 10)) ∧
          t.f F.TCK_TRIM_TRIM = encSigned 24 trim)) ∧
    (bitOf rq.arg 17 = true →
      ∃ t, exec (.herdSetFrame rq) s = .next t ∧ t.tck.herd = none ∧
        t.tck.setFrame = some ⟨herdTicks x u, u32 rq.payload 0, bitsOf rq.arg 15 0, bitOf rq.arg 18⟩ ∧
        (∀ m : Nat → Nat, m = (fun n => if n = s.tickNo 1 then t.tickNo 1 else if n = s.tickNo 2 then t.tickNo 2 else n) →
          t.tck.sets = kept.map (fun y => { y with applyAt := m y.applyAt })) ∧
        (∀ a, a ∈ t.tck.dirty ↔ a ∈ s.tck.dirty ∨ ∃ y ∈ s.tck.sets, y ∉ kept ∧ ∃ i ∈ y.items, i.1 = a) ∧
        t.tck.mofs = 100 * (u64 rq.payload 4 : Int) - (x.time : Int) + (s.f F.RNG_POSDLY_POSDLY / 100 : Nat) ∧
        t.tck.mofsValid = true ∧ (s.tck.herd.isSome = true → t.f F.TCK_HERD_INFO_RESULT = 3) ∧ SendsEvents u t ∧
        EvFrame [.tck, .pwr, .hlv] words u t)

/-- R66, R74: FRAME_SET with a legal rate, source and cut-off writes TCK_CTRL and TCK_CUTOFF as pending items and answers OK;
100 ms after the last ALIGN_TICK HERD ALIGNED is cleared. -/
def Obligations.FrameSettingsAndAlignment : Prop :=
  ∀ (rq : Req) (s : State),
    (Runs 0x12 rq s → rq.payload.length = 8 → rangesOk 0x3000 (frameCtrl rq.payload) = true →
      rangesOk 0x3004 (bitsOf (u16 rq.payload 2) 8 0) = true →
      ∃ t, exec (.frameSet rq) s = .next t ∧ Answers 0x12 rq St.ok [] s t ∧
        t.f F.TCK_CTRL_RATE = bitsOf (u8 rq.payload 0) 2 0 ∧ t.f F.TCK_CTRL_SRC = bitsOf (u8 rq.payload 1) 1 0 ∧
        t.f F.TCK_CUTOFF_ROW = bitsOf (u16 rq.payload 2) 8 0 ∧
        0x3000 ∈ t.tck.dirty ∧ 0x3004 ∈ t.tck.dirty ∧ t.tck.act = s.tck.act ∧
        CmdFrame [.tck] [0x3000, 0x3004] s t) ∧
    (∀ t0, s.tck.alignTime = some t0 →
      ∃ t, exec .alignTimeout s = .next t ∧ t.fb F.TCK_STATUS_ALIGNED = false ∧ t.tck.alignRun = 0 ∧
        t.time = max s.time (t0 + 10000001) ∧ Keeps [.regs, .tck, .time] s t ∧ KeepsRegs [0x3008] s t)

/-- R305, R320, R321, R326, R333, R335: ENUM pass 1 in RUN, at every COUNT. HOP is COUNT + 1, in the five bits of its field; under
ASSIGN the engine takes NEXT_ADDR and raises it, or takes no address, with ENUM_OVF, when NEXT_ADDR is above 30 or HOP above 16; under
MEASURE its address stays. It keeps ACC, clears POSDLY.VALID, and the packet leaves encoded anew with COUNT raised, its own TRANSIT added to
ACC and its 8-byte record appended, its CRC inverted if it came with a failed one; it waits in the transit buffer where the transmit map is
narrower or packets wait there. The packet is accepted as it passes if its CRC held, which `u` names. An engine out of RUN takes no part in
the pass, and forgets any it took part in before; that it counts nothing then is the model's choice (notes/assumptions/40.md). -/
def Obligations.EnumPass1Numbers : Prop :=
  (∀ (rq : Req) (ok : Bool) (s : State), s.off = false → s.ringRuns = false →
    ∃ t, exec (.enumPass1 rq ok) s = .next t ∧ t.rng.acc = none ∧ t.regs = s.regs ∧ Keeps [.cmd, .rng] s t) ∧
  ∀ (rq : Req) (s : State), s.off = false → s.ringRuns = true → rq.bcast = true → pass1Ok rq = true →
    ∀ (ok : Bool) (u : State), u = unpark 0x03 rq (enumAccept rq ok s) →
    ∃ t head nx pkt out, exec (.enumPass1 rq ok) s = .next t ∧ t.f F.RNG_ADDR_HOP = (u8 rq.payload 3 + 1) % 32 ∧
      t.fb F.RNG_POSDLY_VALID = false ∧
      (bitOf (u8 rq.payload 1) 0 = false → u8 rq.payload 2 ≤ 30 → u8 rq.payload 3 + 1 ≤ 16 →
        t.f F.RNG_ADDR_ADDR = u8 rq.payload 2 ∧ t.fb F.RNG_ADDR_VALID = true) ∧
      (bitOf (u8 rq.payload 1) 0 = false → (30 < u8 rq.payload 2 ∨ 16 < u8 rq.payload 3 + 1) →
        t.f F.RNG_ADDR_ADDR = 31 ∧ t.fb F.RNG_ADDR_VALID = false ∧ t.fb F.RNG_STATUS_ENUM_OVF = true) ∧
      (bitOf (u8 rq.payload 1) 0 = true → t.f F.RNG_ADDR_ADDR = s.f F.RNG_ADDR_ADDR ∧ t.fb F.RNG_ADDR_VALID = s.fb F.RNG_ADDR_VALID) ∧
      pkt = encodePkt 31 4 (rq.stream + 8 * b2n rq.quiet) 0x03 rq.tag rq.alive rq.arg head ∧
      out = (if ok then pkt else pkt.take (pkt.length - 4) ++ (pkt.drop (pkt.length - 4)).map (fun b => ~~~ b)) ∧
      (u.holdsTransit = false → t.dn = out ∧ t.rng = { s.rng with acc := some (u32 rq.payload 4) }) ∧
      (u.holdsTransit = true → t.dn = [] ∧
        t.rng = { s.rng with acc := some (u32 rq.payload 4), transit := s.rng.transit ++ [out] }) ∧
      nx = u8 rq.payload 2 + (if bitOf (u8 rq.payload 1) 0 = false ∧ u8 rq.payload 2 ≤ 30 ∧ u8 rq.payload 3 + 1 ≤ 16 then 1 else 0) ∧
      head = rq.payload.take 2 ++ bytesLE 1 nx ++ bytesLE 1 (u8 rq.payload 3 + 1) ++
        bytesLE 4 (u32 rq.payload 4 + s.f F.RNG_TRANSIT_TRANSIT) ++ rq.payload.drop 8 ++ enumRecord s t ∧
      head.length = rq.payload.length + 8 ∧
      Keeps [.regs, .rng, .dn] u t ∧ KeepsRegs [0x1004, 0x1008, 0x100C] u t

/-- R321, R326, R335, R338: ENUM pass 2. An engine that took part in pass 1 and whose HOP is below HOPS sets POSDLY to A_k plus its share
of F by the weights, halves rounded up, and VALID; any other engine ignores the pass. R326 gives HOPS 2 to 17; that another HOPS is taken as
it comes is the model's choice (notes/assumptions/19.md). The packet is accepted as it passes, which `u` names. -/
def Obligations.EnumPass2SetsThePositionDelay : Prop :=
  ∀ (rq : Req) (s : State), s.off = false → s.ringRuns = true → rq.bcast = true → pass2Ok rq = true →
    (∀ a, s.rng.acc = some a → s.f F.RNG_ADDR_HOP < u8 rq.payload 2 →
      ∀ (w : List Nat) (u : State), w = hopWeights rq.payload (u8 rq.payload 2) → u = unpark 0x03 rq (enumAccept rq true s) →
      ∃ t, exec (.enumPass2 rq) s = .next t ∧ t.fb F.RNG_POSDLY_VALID = true ∧
        t.f F.RNG_POSDLY_POSDLY = (a + (2 * (u32 rq.payload 4 * (w.take (s.f F.RNG_ADDR_HOP)).sum) + w.sum) / (2 * w.sum)) % 2 ^ 24 ∧
        SendsEvents u t ∧ EvFrame [] [0x1008, 0x100C] u t) ∧
    (s.rng.acc = none ∨ u8 rq.payload 2 ≤ s.f F.RNG_ADDR_HOP →
      exec (.enumPass2 rq) s = .next (unpark 0x03 rq (enumAccept rq true s)))


/-! ### Layers, buffers, patterns, symbols -/

/-- R124, R130, R150, R151, R157: LAYER_CFG writes the registers of section 0, or a coefficient table whose words are
sign-extended s1.10 and whose phase sums lie in 512 to 2,047, with its CRC-32C; with READ it answers the section of the
pending set. LAYER_BUF writes the descriptor of a layer and answers its state; ANIM_SET writes an animation table. All are
pending items. -/
def Obligations.LayerSettingsJoinThePendingSet : Prop :=
  ∀ (rq : Req) (s : State),
    (Runs 0x18 rq s → lcValid rq = true → lcRead rq = false → rq.payload.length = lcLen rq → lcSection rq = 0 →
      (∀ e ∈ lcPairs rq, rangesOk e.1 e.2 = true) →
      ∃ t, exec (.layerCfg rq) s = .next t ∧ Answers 0x18 rq St.ok [] s t ∧
        (∀ e ∈ lcPairs rq, e.1 ∈ t.tck.dirty ∧
          ∀ r, regRow e.1 = some r → t.reg e.1 = writeValue r (s.reg e.1) (BitVec.ofNat 32 e.2)) ∧
        t.tck.act = s.tck.act ∧ t.tck.sets = s.tck.sets ∧ CmdFrame [.tck] (lcRegs (lcLayer rq)) s t) ∧
    (Runs 0x18 rq s → lcValid rq = true → lcRead rq = false → rq.payload.length = lcLen rq → lcSection rq ≠ 0 →
      (words16 rq.payload).all coefOk = true → phasesOk (if lcSection rq = 1 then 8 else 4) (words16 rq.payload) = true →
      ∃ t, exec (.layerCfg rq) s = .next t ∧ Answers 0x18 rq St.ok [] s t ∧
        t.tck = { s.tck with tabs := tabSet s.tck.tabs (coefKey (lcLayer rq) (lcSection rq)) (words16 rq.payload)
                             dirtyTabs := setInsert (coefKey (lcLayer rq) (lcSection rq)) s.tck.dirtyTabs } ∧
        t.reg (0x413C + 0x80 * lcLayer rq) = BitVec.ofNat 32
          (crc32c ((pendingCoef t (lcLayer rq) 1 ++ pendingCoef t (lcLayer rq) 2).flatMap (bytesLE 2))) ∧
        CmdFrame [.tck] [0x413C + 0x80 * lcLayer rq] s t) ∧
    (Runs 0x18 rq s → lcValid rq = true → lcRead rq = true → rq.payload = [] →
      ∃ t, exec (.layerCfgRead rq) s = .next t ∧ CmdFrame [] [] s t ∧
        Answers 0x18 rq St.ok (zeros 3 ++
          (if lcSection rq = 0 then (lcRegs (lcLayer rq)).flatMap (fun a => bytesLE 4 (s.reg a).toNat)
           else (pendingCoef s (lcLayer rq) (lcSection rq)).flatMap (bytesLE 2))) s t) ∧
    (Runs 0x19 rq s → rq.payload.length = 4 → u8 rq.payload 0 ≤ 1 → ∀ d, d = bitsOf (u8 rq.payload 1) 5 0 → d ≤ 59 →
      ∃ t, exec (.layerBuf rq) s = .next t ∧
        Answers 0x19 rq St.ok (bytesLE 1 (s.bufState d) ++ [0, 0]) s t ∧
        (t.reg (0x4104 + 0x80 * u8 rq.payload 0)).toNat % 64 = d ∧ 0x4104 + 0x80 * u8 rq.payload 0 ∈ t.tck.dirty ∧
        CmdFrame [.tck] [0x4104 + 0x80 * u8 rq.payload 0] s t) ∧
    (Runs 0x2A rq s → animLenOk rq = true →
      ∀ es, es = (List.range (bitsOf (u8 rq.payload 1) 4 0)).map (animEntry rq.payload) →
      es.length ≤ 16 → bitsOf (u8 rq.payload 2) 1 0 ≠ 3 → u16 rq.payload 4 ≠ 0 →
      es.all (animEntryOk (u16 rq.payload 4)) = true →
      ∃ t k, exec (.animSet rq) s = .next t ∧ k = 4 + bitsOf (u8 rq.payload 0) 1 0 ∧ Answers 0x2A rq St.ok [] s t ∧
        t.tck = { s.tck with tabs := tabSet s.tck.tabs k (bitsOf (u8 rq.payload 2) 1 0 :: u16 rq.payload 4 :: es.flatten)
                             dirtyTabs := setInsert k s.tck.dirtyTabs } ∧ CmdFrame [.tck] [] s t)

/-- R140, R141, R146, R147, R152 to R154: BUF_DEFINE of a free descriptor defines it FREE, or takes it away; BUF_WRITE and
the video packet of an accepted fill store their data in the buffer, count them, and at END leave the buffer COMPLETE when
every byte was counted, else FREE; BUF_RELEASE of a buffer on show marks it, else frees it. A video packet given unreceived stands
for one accepted at once (`u`; the model's choice, notes/assumptions/13.md), and waits while the part executes nothing (R340, R348) and
while an older one waits (R338). -/
def Obligations.BuffersAreDefinedFilledAndReleased : Prop :=
  ∀ (rq : Req) (s : State),
    (Runs 0x1C rq s → rq.payload.length = 16 → ∀ d, d = bitsOf (u8 rq.payload 0) 5 0 → bufBusy s d = false →
      ∀ kind, kind = bitsOf (u8 rq.payload 1) 1 0 → ∀ size, size = u16 rq.payload 10 * u32 rq.payload 12 →
      (bitOf (u8 rq.payload 1) 7 = false →
        defineOk d kind (bitsOf (u8 rq.payload 2) 2 0) (u16 rq.payload 8) (u16 rq.payload 10) (u32 rq.payload 12) = true →
        placeOk s d (u32 rq.payload 4) size = true →
        ∃ t, exec (.bufDefine rq) s = .next t ∧
          SendsLast (replyOf 0x1C rq true St.ok (zeros 3 ++ bytesLE 4 size) s.cmd.seq) s t ∧
          t.buf? d = some ⟨kind, bitsOf (u8 rq.payload 2) 2 0, u32 rq.payload 4, u16 rq.payload 8, u16 rq.payload 10,
            u32 rq.payload 12, 0, 0, 0, false, false⟩ ∧
          (∀ e, e ≠ d → t.buf? e = s.buf? e) ∧ t.lyr.store = s.lyr.store ∧ CmdFrame [.lyr] [] s t) ∧
      (bitOf (u8 rq.payload 1) 7 = true →
        ∃ t, exec (.bufDefine rq) s = .next t ∧
          SendsLast (replyOf 0x1C rq true St.ok (zeros 7) s.cmd.seq) s t ∧
          t.buf? d = none ∧ (∀ e, e ≠ d → t.buf? e = s.buf? e) ∧ t.lyr.store = s.lyr.store ∧ CmdFrame [.lyr] [] s t)) ∧
    (∀ d b start fin off data, d = bitsOf (u8 rq.payload 0) 5 0 → s.buf? d = some b → start = bitOf (u8 rq.payload 1) 0 →
      fin = bitOf (u8 rq.payload 1) 1 → off = u32 rq.payload 4 → data = rq.payload.drop 8 →
      inRange rq.payload.length 12 4080 = true → off % 4 = 0 → off + data.length ≤ b.size →
      writeRefusal s d b start rq.stream = none →
      ∀ filled, filled = (if start then 0 else b.filled) + data.length →
      ∀ b', b' = { b with st := if fin then (if filled = b.size then 2 else 0) else 1
                          stream := rq.stream, filled := filled, lost := b.lost && !start } →
      (Runs 0x1A rq s →
        ∃ t, exec (.bufWrite rq) s = .next t ∧
          SendsLast (replyOf 0x1A rq true St.ok (bytesLE 1 b'.st ++ [0, 0] ++ bytesLE 4 filled) s.cmd.seq) s t ∧
          t.buf? d = some b' ∧ (∀ e, e ≠ d → t.buf? e = s.buf? e) ∧
          Stores (b.addr + off) data s.lyr.store t.lyr.store ∧
          (fin = true → filled ≠ b.size → t.fb F.LYR_STATUS_BUF_INCOMPLETE = true) ∧
          CmdFrame [.lyr, .snp] (eventRegs ++ [F.LYR_STATUS_BUF_INCOMPLETE.addr]) s t) ∧
      (∀ u, u = accept 3 0x1A rq s → s.executes = true → videoFirst rq u = true →
        ∃ t, exec (.videoPacket rq) s = .next t ∧ t.buf? d = some b' ∧ (∀ e, e ≠ d → t.buf? e = s.buf? e) ∧
          Stores (b.addr + off) data s.lyr.store t.lyr.store ∧
          CmdFrame [.lyr, .snp] (eventRegs ++ [F.LYR_STATUS_BUF_INCOMPLETE.addr]) u t) ∧
      (∀ u, u = accept 3 0x1A rq s → s.executes = false ∨ videoFirst rq u = false → exec (.videoPacket rq) s = .next u)) ∧
    (Runs 0x1B rq s → rq.payload.length = 4 → ∀ d b, d = bitsOf (u8 rq.payload 0) 5 0 → s.buf? d = some b →
      ∃ t, exec (.bufRelease rq) s = .next t ∧ (∀ e, e ≠ d → t.buf? e = s.buf? e) ∧ t.lyr.store = s.lyr.store ∧
        CmdFrame [.lyr] [] s t ∧
        ((b.st = 3 ∨ b.st = 4) → t.buf? d = some { b with release := true } ∧
          Answers 0x1B rq St.ok ([1] ++ bytesLE 1 b.st ++ [0]) s t) ∧
        (b.st ≠ 3 → b.st ≠ 4 → t.buf? d = some { b with st := 0, filled := 0 } ∧
          SendsLast (replyOf 0x1B rq true St.ok (zeros 3) s.cmd.seq) s t))

/-- R135, R139, R155: PATTERN_LOAD of data fills the buffer of its slot exactly as BUF_WRITE does; of the fallback copy it is
accepted, and joins the copies under way; PATTERN_COPY_DONE leaves the slot of the one accepted first holding the copy and COMPLETE,
or FREE where the copy is not valid, and answers its load. A load
of the tone map waits for the next tick, is a logged change of the unlocked stream, and is answered when it is stored. -/
def Obligations.PatternSlotsAndToneMapLoad : Prop :=
  ∀ (rq : Req) (s : State),
    (Runs 0x28 rq s → plSource rq = 0 → plTarget rq ≤ 3 → inRange rq.payload.length 12 4080 = true →
      ∀ d b start fin off data, d = 60 + plTarget rq → s.buf? d = some b → start = bitOf (u8 rq.payload 2) 0 →
      fin = bitOf (u8 rq.payload 2) 1 → off = u32 rq.payload 4 → data = rq.payload.drop 8 → off % 4 = 0 →
      off + data.length ≤ b.size → writeRefusal s d b start rq.stream = none →
      ∀ filled, filled = (if start then 0 else b.filled) + data.length →
      ∀ st, st = (if fin then (if filled = b.size then 2 else 0) else 1) →
      ∃ t, exec (.patternLoad rq) s = .next t ∧
        SendsLast (replyOf 0x28 rq true St.ok (bytesLE 1 st ++ [0, 0] ++ bytesLE 4 filled) s.cmd.seq) s t ∧
        t.buf? d = some { b with st := st, stream := rq.stream, filled := filled, lost := b.lost && !start } ∧
        (∀ e, e ≠ d → t.buf? e = s.buf? e) ∧ Stores (b.addr + off) data s.lyr.store t.lyr.store ∧
        CmdFrame [.lyr, .snp] (eventRegs ++ [F.LYR_STATUS_BUF_INCOMPLETE.addr]) s t) ∧
    (Runs 0x28 rq s → plSource rq = 1 → plTarget rq ≤ 3 → rq.payload.length = 8 → s.longRunning < 8 →
      ∀ d b, d = 60 + plTarget rq → s.buf? d = some b → writeRefusal s d b true rq.stream = none →
      ∃ t, exec (.patternLoadCopy rq) s = .next t ∧
        SendsLast (replyOf 0x28 rq false St.accepted [] s.cmd.seq) s t ∧
        t.lyr.copies = s.lyr.copies.filter (fun c => !(c == plTarget rq)) ++ [plTarget rq] ∧
        t.buf? d = some { b with st := 1, stream := rq.stream, filled := 0, lost := false } ∧
        (∀ e, e ≠ d → t.buf? e = s.buf? e) ∧ t.lyr.store = s.lyr.store ∧ CmdFrame [.lyr] [] s t) ∧
    (∀ slot rest b, s.lyr.copies = slot :: rest → s.buf? (60 + slot) = some b →
      ∃ t, exec .patternCopyDone s = .next t ∧ t.lyr.copies = rest ∧
        (∀ j, s.jobKey? 0x28 slot = some j → j.rq.quiet = false →
          SendsLast (replyOf j.op j.rq true (if s.fb F.SAF_FB_VALID = true then (if j.replayed = true then St.doneReplayed else St.ok)
            else St.badCrc) [] j.seq) s t) ∧
        (∀ e, e ≠ 60 + slot → t.buf? e = s.buf? e) ∧
        (s.fb F.SAF_FB_VALID = true → t.buf? (60 + slot) = some { b with st := 2, filled := b.size } ∧
          Stores b.addr (Mem.readRun 0 s.drv.fb 0 b.size) s.lyr.store t.lyr.store) ∧
        (s.fb F.SAF_FB_VALID = false → t.buf? (60 + slot) = some { b with st := 0 } ∧ t.lyr.store = s.lyr.store) ∧
        CmdFrame [.lyr] [F.HLV_JOURNAL_REPLAYED.addr] s t) ∧
    (Runs 0x28 rq s → plTarget rq = 4 →
      (plSource rq = 0 ∧ rq.payload.length = 524 ∧ bitOf (u8 rq.payload 2) 0 = true ∧ bitOf (u8 rq.payload 2) 1 = true ∧
          u32 rq.payload 4 = 0 ∨ plSource rq = 2 ∧ rq.payload.length = 8) →
      s.unlocked rq.stream = true → logRoom s 1 = true → s.sdActive = false →
      ∃ t, exec (.toneMapLoad rq) s = .next t ∧ Defers 0x28 rq s t ∧ t.lyr = { s.lyr with toneNext := some (toneCurve rq) } ∧
        t.saf = { s.saf with logNext := s.saf.logNext + 1, unlockTime := s.time } ∧
        (∃ e : List Byte, t.nvm.ops = s.nvm.ops ++ [⟨.append [e], some (s.cmd.seq % 65536), false⟩] ∧ u16 e 0 = (s.saf.logNext + 1) % 65536 ∧
          u16 e 18 = 0xF00C ∧ u32 e 20 = toneCrc s.toneLoaded % 2 ^ 32 ∧ u32 e 24 = toneCrc t.toneLoaded % 2 ^ 32) ∧
        CmdFrame [.lyr, .saf, .nvm] [] s t)

/-- R129, R131, R156: SYMBOL_LOAD. A START takes the lowest place with room for the symbol; every part stores its data
there and counts them; END leaves the symbol COMPLETE when every byte was counted, else takes it away. DELETE takes away
a symbol that is not in use. -/
def Obligations.SymbolsAreLoadedAndDeleted : Prop :=
  ∀ (rq : Req) (s : State), Runs 0x29 rq s → ∀ sym, sym = bitsOf (u16 rq.payload 0) 9 0 →
    (∀ start fin off data, start = bitOf (u8 rq.payload 2) 0 → fin = bitOf (u8 rq.payload 2) 1 →
      off = u32 rq.payload 8 → data = rq.payload.drop 12 → bitOf (u8 rq.payload 2) 2 = false →
      inRange rq.payload.length 12 4080 = true → off % 4 = 0 →
      ∀ d, (start = false ∧ kvGet s.lyr.syms sym = some d ∧ d.st = 1 ∧ d.stream = rq.stream ∨
        start = true ∧ inRange (bitsOf (u16 rq.payload 4) 9 0) 1 512 = true ∧ inRange (bitsOf (u16 rq.payload 6) 8 0) 1 256 = true ∧
          (∀ o, kvGet s.lyr.syms sym = some o → (o.st = 1 → o.stream = rq.stream) ∧ (o.st = 2 → symInUse s sym = false)) ∧
          d = ⟨1, bitsOf (u8 rq.payload 3) 1 0, bitsOf (u16 rq.payload 4) 9 0, bitsOf (u16 rq.payload 6) 8 0, d.addr, rq.stream, 0⟩ ∧
          allocSym (kvErase sym s.lyr.syms) ((symRegion s).2 / 64) d.units = some d.addr) →
      off + data.length ≤ d.bytes →
      ∀ n, n = d.filled + data.length →
      ∃ t, exec (.symbolLoad rq) s = .next t ∧
        Answers 0x29 rq St.ok (bytesLE 1 (symState t sym) ++ bytesLE 2 d.addr ++ bytesLE 4 n) s t ∧
        kvGet t.lyr.syms sym = (if fin then (if n = d.bytes then some { d with filled := n, st := 2 } else none)
          else some { d with filled := n }) ∧
        (∀ k, k ≠ sym → kvGet t.lyr.syms k = kvGet s.lyr.syms k) ∧
        Stores ((symRegion s).1 + 64 * d.addr + off) data s.lyr.store t.lyr.store ∧
        (fin = true → n ≠ d.bytes → t.fb F.LYR_STATUS_BUF_INCOMPLETE = true) ∧
        CmdFrame [.lyr, .snp] (eventRegs ++ [F.LYR_STATUS_BUF_INCOMPLETE.addr]) s t) ∧
    (rq.payload.length = 12 → bitsOf (u8 rq.payload 2) 2 0 = 4 →
      (∀ o, kvGet s.lyr.syms sym = some o → o.st = 2 → symInUse s sym = false) →
      ∃ t, exec (.symbolDelete rq) s = .next t ∧ kvGet t.lyr.syms sym = none ∧
        (∀ k, k ≠ sym → kvGet t.lyr.syms k = kvGet s.lyr.syms k) ∧ t.lyr.store = s.lyr.store ∧
        (∃ a n, Answers 0x29 rq St.ok ([0] ++ bytesLE 2 a ++ bytesLE 4 n) s t) ∧ CmdFrame [.lyr] [] s t)

/-! ### Objects, the optics map, flux calibration -/

/-- R179, R180, R186 to R189: OBJ_SET puts a checked body into its slot, OBJ_MOVE replaces the motion fields of an occupied
slot, both at the time of their execution and with the gap of the ALIVE values counted; OBJ_CLEAR empties its slots; a READ
answers the slot. An update that repeats the slot's ALIVE value is refused with REPEAT and only flagged, and an OBJ_MOVE of an
empty slot is refused with BAD_PARAM. -/
def Obligations.ObjectSlotsTakeUpdates : Prop :=
  ∀ (rq : Req) (s : State),
    (Runs 0x20 rq s → rq.payload.length = 76 → bitOf rq.arg 8 = false → checkAll (bodyChecks rq.payload) = none →
      ∀ slot, slot = u8 rq.payload 0 →
      (∀ g, slotAlive s slot (obAlive rq.payload) = some g →
        ∃ t, exec (.objSet rq) s = .next t ∧ Answers 0x20 rq St.ok (updateReply s (decide (0 < g))) s t ∧
          kvGet t.obj.slots slot = some ⟨rq.payload, s.time, true⟩ ∧
          (∀ k, k ≠ slot → kvGet t.obj.slots k = kvGet s.obj.slots k) ∧
          t.f F.OBJ_CNT_GAP_CNT = satAdd F.OBJ_CNT_GAP_CNT.top (s.f F.OBJ_CNT_GAP_CNT) g ∧
          t.f F.OBJ_CNT_REPEAT_CNT = s.f F.OBJ_CNT_REPEAT_CNT ∧ CmdFrame [.obj] [F.OBJ_CNT_GAP_CNT.addr] s t) ∧
      (slotAlive s slot (obAlive rq.payload) = none →
        ∃ t, exec (.objSet rq) s = .next t ∧ Answers 0x20 rq St.repeatAlive [] s t ∧ t.obj = s.obj ∧
          t.fb F.OBJ_STATUS_REPEAT = true ∧
          t.f F.OBJ_CNT_REPEAT_CNT = satAdd F.OBJ_CNT_REPEAT_CNT.top (s.f F.OBJ_CNT_REPEAT_CNT) 1 ∧
          t.f F.OBJ_CNT_GAP_CNT = s.f F.OBJ_CNT_GAP_CNT ∧
          CmdFrame [] [F.OBJ_STATUS_REPEAT.addr, F.OBJ_CNT_REPEAT_CNT.addr] s t)) ∧
    (Runs 0x20 rq s → rq.payload.length = 4 → bitOf rq.arg 8 = true →
      ∃ t, exec (.objSetRead rq) s = .next t ∧ CmdFrame [] [] s t ∧
        Answers 0x20 rq St.ok (bytesLE 1 (b2n (kvGet s.obj.slots (u8 rq.payload 0)).isSome +
            2 * b2n ((sampled s (u8 rq.payload 0)).any ObjPlaced.stale) +
            4 * b2n ((sampled s (u8 rq.payload 0)).any ObjPlaced.offMap)) ++ zeros 2 ++
          (match kvGet s.obj.slots (u8 rq.payload 0) with | some o => o.body | none => zeros 76) ++
          bytesLE 4 (ageUs (sampled s (u8 rq.payload 0)))) s t) ∧
    (Runs 0x21 rq s → rq.payload.length = 24 → ∀ slot o g, slot = u8 rq.payload 0 → kvGet s.obj.slots slot = some o →
      slotAlive s slot (bitsOf (u8 rq.payload 1) 3 0) = some g →
      ∃ t, exec (.objMove rq) s = .next t ∧ Answers 0x21 rq St.ok (updateReply s (decide (0 < g))) s t ∧
        kvGet t.obj.slots slot =
          some ⟨moveBody o.body (slice rq.payload 4 12) (u64 rq.payload 16) (bitsOf (u8 rq.payload 1) 3 0), s.time, true⟩ ∧
        (∀ k, k ≠ slot → kvGet t.obj.slots k = kvGet s.obj.slots k) ∧
        t.f F.OBJ_CNT_GAP_CNT = satAdd F.OBJ_CNT_GAP_CNT.top (s.f F.OBJ_CNT_GAP_CNT) g ∧
        t.f F.OBJ_CNT_REPEAT_CNT = s.f F.OBJ_CNT_REPEAT_CNT ∧ CmdFrame [.obj] [F.OBJ_CNT_GAP_CNT.addr] s t) ∧
    (Runs 0x21 rq s → rq.payload.length = 24 → ∀ slot o, slot = u8 rq.payload 0 → kvGet s.obj.slots slot = some o →
      slotAlive s slot (bitsOf (u8 rq.payload 1) 3 0) = none →
      ∃ t, exec (.objMove rq) s = .next t ∧ Answers 0x21 rq St.repeatAlive [] s t ∧ t.obj = s.obj ∧ t.fb F.OBJ_STATUS_REPEAT = true ∧
        t.f F.OBJ_CNT_REPEAT_CNT = satAdd F.OBJ_CNT_REPEAT_CNT.top (s.f F.OBJ_CNT_REPEAT_CNT) 1 ∧
        t.f F.OBJ_CNT_GAP_CNT = s.f F.OBJ_CNT_GAP_CNT ∧ CmdFrame [] [F.OBJ_STATUS_REPEAT.addr, F.OBJ_CNT_REPEAT_CNT.addr] s t) ∧
    (Runs 0x21 rq s → rq.payload.length = 24 → kvGet s.obj.slots (u8 rq.payload 0) = none →
      ∃ t, exec (.objMove rq) s = .next t ∧ Refuses 0x21 rq St.badParam s t) ∧
    (Runs 0x22 rq s → rq.payload.length = 4 → bitOf (u8 rq.payload 1) 0 = true →
      ∃ t, exec (.objClear rq) s = .next t ∧ Answers 0x22 rq St.ok (updateReply s false) s t ∧
        (∀ k < 256, kvGet t.obj.slots k = none) ∧ t.obj.bulk = none ∧
        CmdFrame [.obj, .snp] (eventRegs ++ [F.OBJ_STATUS_BULK_DROP.addr]) s t) ∧
    (Runs 0x22 rq s → rq.payload.length = 4 → bitOf (u8 rq.payload 1) 0 = false →
      ∀ first n, first = u8 rq.payload 0 → n = bitsOf (u16 rq.payload 2) 8 0 → n ≠ 0 → first + n ≤ 256 →
      ∃ t, exec (.objClear rq) s = .next t ∧ Answers 0x22 rq St.ok (updateReply s false) s t ∧
        (∀ k, kvGet t.obj.slots k = if first ≤ k ∧ k < first + n then none else kvGet s.obj.slots k) ∧
        t.obj.bulk = s.obj.bulk ∧ CmdFrame [.obj] [] s t)

/-- R181, R182, R190: OBJ_BULK. A packet that starts a staging or carries its ID, whose entries are whole and legal and no
more than 512 with those staged, joins them; END applies the staged entries in order and answers the tally; ABORT discards
them. An entry puts, moves or empties its slot; a repeated ALIVE value and a MOVE of an empty slot are skipped. A packet whose entries
do not fill its LEN, an ABORT with more than its header, and (notes/assumptions/59.md: the model's reading) a packet shorter than its
header are refused with BAD_LENGTH, and the staging is discarded. -/
def Obligations.BulkUpdatesAreStagedAndApplied : Prop :=
  (∀ (rq : Req) (s : State), Runs 0x23 rq s → 16 ≤ rq.payload.length → bkAbort rq = false →
    (bkStart rq = true ∨ ∃ es, s.obj.bulk = some (bkId rq, es)) →
    ∀ es prior, parseEntries (u64 rq.payload 8) (bkCount rq) (rq.payload.drop 16) = .ok (some es) →
    prior = (if bkStart rq then [] else staged s) → prior.length + es.length ≤ 512 → entriesStatus es = none →
    (bkEnd rq = false →
      ∃ t, exec (.objBulk rq) s = .next t ∧ Answers 0x23 rq St.ok ([0] ++ bytesLE 2 (prior.length + es.length)) s t ∧
        t.obj = { s.obj with bulk := some (bkId rq, prior ++ es) } ∧
        CmdFrame [.obj, .snp] (eventRegs ++ [F.OBJ_STATUS_BULK_DROP.addr]) s t) ∧
    (bkEnd rq = true → ∀ r, r = (prior ++ es).foldl applyEntry (s, ({} : BulkTally)) →
      ∃ t, exec (.objBulkEnd rq) s = .next t ∧
        Answers 0x23 rq St.ok (updateReply s r.2.gap ++ bytesLE 2 r.2.applied ++ bytesLE 2 r.2.repeated ++
          bytesLE 2 r.2.empty ++ bytesLE 2 (r.2.first.getD 0xFFFF)) s t ∧
        t.obj = { s.obj with bulk := none, slots := r.1.obj.slots } ∧
        CmdFrame [.obj, .snp] (eventRegs ++ [0x5018, F.OBJ_CNT_GAP_CNT.addr, F.OBJ_CNT_REPEAT_CNT.addr]) s t)) ∧
  (∀ (rq : Req) (s : State), Runs 0x23 rq s → rq.payload.length = 16 → bkAbort rq = true → bkStart rq = false →
    bkEnd rq = false → bkCount rq = 0 → (∃ es, s.obj.bulk = some (bkId rq, es)) →
    ∃ t, exec (.objBulkAbort rq) s = .next t ∧ Answers 0x23 rq St.ok (zeros 3) s t ∧ t.obj = { s.obj with bulk := none } ∧
      t.fb F.OBJ_STATUS_BULK_DROP = true ∧ CmdFrame [.obj, .snp] (eventRegs ++ [F.OBJ_STATUS_BULK_DROP.addr]) s t) ∧
  (∀ (c : Instr) (rq : Req) (s : State), Runs 0x23 rq s →
    (rq.payload.length < 16 ∧ (c = .objBulk rq ∨ c = .objBulkEnd rq ∨ c = .objBulkAbort rq) ∨
      16 < rq.payload.length ∧ c = .objBulkAbort rq ∧ bkAbort rq = true ∧ bkStart rq = false ∧ bkEnd rq = false ∧ bkCount rq = 0 ∧
        (∃ es, s.obj.bulk = some (bkId rq, es)) ∨
      16 ≤ rq.payload.length ∧ bkAbort rq = false ∧ (bkEnd rq = false ∧ c = .objBulk rq ∨ bkEnd rq = true ∧ c = .objBulkEnd rq) ∧
        (bkStart rq = true ∨ ∃ es, s.obj.bulk = some (bkId rq, es)) ∧
        parseEntries (u64 rq.payload 8) (bkCount rq) (rq.payload.drop 16) = .ok none) →
    ∃ t, exec c s = .next t ∧ Answers 0x23 rq St.badLength [] s t ∧ t.obj = { s.obj with bulk := none } ∧
      CmdFrame [.obj, .snp] (eventRegs ++ [F.OBJ_STATUS_BULK_DROP.addr]) s t) ∧
  (∀ (s : State) (t : BulkTally) (e : BulkEntry),
    (∀ k, k ≠ e.slot → kvGet (applyEntry (s, t) e).1.obj.slots k = kvGet s.obj.slots k) ∧
    (e.kind = 2 → kvGet (applyEntry (s, t) e).1.obj.slots e.slot = none) ∧
    (e.kind = 0 → (slotAlive s e.slot (obAlive e.bytes)).isSome = true →
      kvGet (applyEntry (s, t) e).1.obj.slots e.slot = some ⟨e.bytes, s.time, true⟩ ∧ (applyEntry (s, t) e).2.applied = t.applied + 1) ∧
    (e.kind = 0 → slotAlive s e.slot (obAlive e.bytes) = none →
      (applyEntry (s, t) e).1.obj = s.obj ∧ (applyEntry (s, t) e).2.repeated = t.repeated + 1) ∧
    (e.kind = 1 → ∀ o, kvGet s.obj.slots e.slot = some o → (slotAlive s e.slot (bitsOf (u8 e.bytes 0) 3 0)).isSome = true →
      kvGet (applyEntry (s, t) e).1.obj.slots e.slot =
        some ⟨moveBody o.body (e.bytes.drop 2) e.tMeas (bitsOf (u8 e.bytes 0) 3 0), s.time, true⟩) ∧
    (e.kind = 1 → kvGet s.obj.slots e.slot = none →
      (applyEntry (s, t) e).1 = s ∧ (applyEntry (s, t) e).2.empty = t.empty + 1))

/-- R164, R165, R167, R191, R254: GEOM_SET writes OBJ_GEOM as a pending item. OPTICS_MAP of a good map on the unlocked
stream puts the map into force, is a logged change of the safety configuration whose record goes to both copies, and is
accepted; with READ it answers the map in force. Addressed to 31 both are refused (R344). -/
def Obligations.GeometryAndOpticsMapAreSet : Prop :=
  ∀ (rq : Req) (s : State),
    (Runs 0x24 rq s → rq.payload.length = 4 → rangesOk 0x5004 (u32 rq.payload 0) = true →
      ∃ t, exec (.geomSet rq) s = .next t ∧ Answers 0x24 rq St.ok [] s t ∧ 0x5004 ∈ t.tck.dirty ∧
        (∀ r, regRow 0x5004 = some r → t.reg 0x5004 = writeValue r (s.reg 0x5004) (BitVec.ofNat 32 (u32 rq.payload 0))) ∧
        t.tck.act = s.tck.act ∧ CmdFrame [.tck] [0x5004] s t) ∧
    (Runs 0x25 rq s → rq.payload.length = 2256 → bitOf rq.arg 8 = false → rq.bcast = false → s.unlocked rq.stream = true →
      s.job? 0x25 = none → s.longRunning < 8 → ∀ m, m = mapOf rq.payload → m.crc = crc32c (rq.payload.drop 12) →
      gridOk m = true → foldOk m = true → logRoom s 1 = true → s.sdActive = false →
      ∃ t, exec (.opticsMap rq) s = .next t ∧
        Accepts 0x25 rq (zeros 3 ++ bytesLE 4 (s.tickNo (if s.tck.row < s.cutoff then 1 else 2))) s t ∧
        t.obj = { s.obj with map := some m } ∧
        t.f F.OBJ_MAP_AZ_STEP = m.azStep ∧ t.f F.OBJ_MAP_AZ_ORIGIN = encSigned 16 m.azMin ∧
        t.f F.OBJ_MAP_EL_STEP = m.elStep ∧ t.f F.OBJ_MAP_EL_ORIGIN = encSigned 16 m.elMax ∧
        t.f F.OBJ_MAP_CRC_CRC = m.crc ∧ t.fb F.OBJ_STATUS_MAP_VALID = true ∧
        t.saf = { s.saf with logNext := s.saf.logNext + 1, logStored := s.saf.logNext + 1, unlockTime := s.time } ∧
        (∃ (e : List Byte) (r : SafeRec) (a : Nat), t.nvm.ops = s.nvm.ops ++
            ([.append [e], .record a r, .record (1 - a) { r with seq := (recSeq s + 2) % 2 ^ 32 }] : List NvmKind).map
              (fun k => ⟨k, some (s.cmd.seq % 65536), false⟩) ∧
          a = (if s.saf.copyA.valid && recA s then 1 else 0) ∧ r.map = some m ∧ r.seq = (recSeq s + 1) % 2 ^ 32 ∧
          u16 e 18 = 0xF008 ∧ u32 e 20 = mapCrc s % 2 ^ 32 ∧ u32 e 24 = m.crc) ∧
        CmdFrame [.obj, .saf, .nvm] [0x500C, 0x5010, 0x5014, 0x5018] s t) ∧
    (Runs 0x25 rq s → rq.payload = [] → (bitOf rq.arg 8 = false ∨ rq.bcast = true) →
      ∃ t, exec (.opticsMapRead rq) s = .next t ∧ Refuses 0x25 rq St.badParam s t) ∧
    (Runs 0x25 rq s → rq.payload = [] → bitOf rq.arg 8 = true → rq.bcast = false →
      ∃ t, exec (.opticsMapRead rq) s = .next t ∧ CmdFrame [] [] s t ∧
        Answers 0x25 rq St.ok (zeros 3 ++ (match s.obj.map with | some m => mapBytes m | none => zeros 2256)) s t)

/-- R101, R103, R110, R111: FLUX_CAL of mode 0, and on the unlocked stream of mode 1 as a logged change, is accepted with the
frames it will take and starts at its first tile. FLUX_CAL_TILE ends the tile in progress: the electrical factor comes from
the median of the normalised currents of at least 256 pixels not in the failed-pixel map, a supplied factor from the payload;
it stands in the table of the next tick and the tile counts as done. -/
def Obligations.FluxCalibrationMakesFactors : Prop :=
  ∀ (rq : Req) (s : State),
    (Runs 0x2C rq s → rq.payload.length = 8 → fcMode rq = 0 → s.drv.cal = none → fcTilesOk rq = true →
      inRange (fcRepeats rq) 1 8 = true → (s.lamp = Lamp.lit ∨ s.lamp = Lamp.fading ∨ s.lamp = Lamp.safeHold) →
      (fcStore rq = true → s.sdActive = false) → s.longRunning < 8 →
      ∃ t, exec (.fluxCal rq) s = .next t ∧
        Accepts 0x2C rq (zeros 3 ++ bytesLE 4 (fcRepeats rq * 64 * fcCount rq)) s t ∧
        t.drv = { s.drv with cal := some ⟨s.cmd.seq % 65536, false, fcStore rq, fcRepeats rq, fcTile rq, fcCount rq, 0, 0, 0, 0⟩
                             calMeas := [] } ∧ CmdFrame [.drv] [] s t) ∧
    (Runs 0x2C rq s → fcMode rq = 1 → rq.payload.length = (8 + 2 * fcCount rq + 3) / 4 * 4 → rq.bcast = false →
      s.unlocked rq.stream = true → s.drv.cal = none → fcTilesOk rq = true → fcRepeats rq = 0 →
      (∀ i < fcCount rq, inRange (fcFactor rq i) 0x4000 0xC000 = true) → logRoom s 1 = true → s.sdActive = false →
      s.longRunning < 8 →
      ∃ t, exec (.fluxCalSupplied rq) s = .next t ∧ Accepts 0x2C rq (zeros 3 ++ bytesLE 4 (fcCount rq)) s t ∧
        t.drv = { s.drv with cal := some ⟨s.cmd.seq % 65536, true, fcStore rq, 0, fcTile rq, fcCount rq, 0, 0, 0, 0⟩
                             calMeas := [] } ∧
        t.saf = { s.saf with logNext := s.saf.logNext + 1, unlockTime := s.time } ∧
        (∃ e : List Byte, t.nvm.ops = s.nvm.ops ++ [⟨.append [e], some (s.cmd.seq % 65536), false⟩] ∧ u16 e 18 = 0xF010 ∧
          u32 e 20 = foptCrc s.foptSoon % 2 ^ 32 ∧ u32 e 24 = foptCrc (suppliedTable rq s.foptSoon) % 2 ^ 32) ∧
        CmdFrame [.drv, .saf, .nvm] [] s t) ∧
    (∀ c, s.drv.cal = some c → c.done < c.count →
      (c.supplied = false → ∀ ms px, ms = s.drv.calMeas.filter (fun e => !s.dia.map.contains e.1) →
        px = (ms.foldl (fun l e => setInsert e.1 l) []).length →
        ∃ t, exec .fluxCalTile s = .next t ∧
          (∀ fac cl, electrical (s.nFactOf (c.first + c.done)) px (ms.map Prod.snd) = some (fac, cl) →
            t.drv.felNext = some (Mem.write 0x8000 s.felSoon (c.first + c.done) (BitVec.ofNat 16 fac))) ∧
          (px < 256 → t.drv.felNext = s.drv.felNext) ∧
          (∀ d, t.drv.cal = some d → d.done = c.done + 1) ∧ t.drv.calMeas = [] ∧ t.drv.foptNext = s.drv.foptNext ∧
          CmdFrame [.drv, .nvm] [F.HLV_JOURNAL_REPLAYED.addr] s t) ∧
      (c.supplied = true → ∀ r, calReq s c = some r →
        ∃ t, exec .fluxCalTile s = .next t ∧
          t.drv.foptNext = some (Mem.write 0x8000 s.foptSoon (c.first + c.done) (BitVec.ofNat 16 (fcFactor r c.done))) ∧
          (∀ d, t.drv.cal = some d → d.done = c.done + 1) ∧ t.drv.calMeas = [] ∧ t.drv.felNext = s.drv.felNext ∧
          CmdFrame [.drv, .nvm] [F.HLV_JOURNAL_REPLAYED.addr] s t))

/-! ### Diagnosis -/

/-- R220, R224, R225: DIAG_MAP_READ answers a run of the chosen map or of the fault list, a copy's with a torn or failed page as the
eNVM reads (`copyRun`); DIAG_RUN reports its status, suspends (unlocked) and resumes as a logged change that acts from the next tick, asks
for a restart, waits for the report of the sweep, or asks for a save of the map. A SUSPEND or RESUME that is refused answers the status reply
with its STATUS. -/
def Obligations.DiagnosisCommandsAct : Prop :=
  ∀ (rq : Req) (s : State),
    (Runs 0x30 rq s → rq.payload.length = 12 → ∀ src o n, src = bitsOf (u8 rq.payload 0) 1 0 → o = u32 rq.payload 4 →
      n = u16 rq.payload 8 → o % 4 = 0 → n % 4 = 0 → inRange n 4 4064 = true →
      o + n ≤ (if src = 3 then 65536 else 131072) → (∀ sv, s.dia.save = some sv → src ≠ sv.copy + 1) →
      ∃ t valid seq, exec (.diagMapRead rq) s = .next t ∧ CmdFrame [] [] s t ∧
        Answers 0x30 rq St.ok (bytesLE 1 (b2n valid) ++ zeros 2 ++ bytesLE 4 seq ++ bytesLE 4 o ++
          (if src = 0 then mapRun s.dia.map o n else if src = 3 then faultRun s.dia.faults o n
           else copyRun s (src - 1) o n)) s t ∧
        ((∀ e ∈ s.nvm.badPages, e.1 < 0x500 + 0x20 * (src - 1) ∨ 0x51F + 0x20 * (src - 1) < e.1) →
          copyRun s (src - 1) o n = mapRun (if src - 1 = 0 then s.nvm.mapA else s.nvm.mapB).pixels o n) ∧
        (src = 1 → valid = s.nvm.mapA.valid ∧ seq = s.nvm.mapA.seq) ∧
        (src = 2 → valid = s.nvm.mapB.valid ∧ seq = s.nvm.mapB.seq) ∧
        (src = 0 ∨ src = 3 → valid = true ∧
          seq = seqNewest s.nvm.mapA.valid s.nvm.mapB.valid s.nvm.mapA.seq s.nvm.mapB.seq)) ∧
    (Runs 0x31 rq s → rq.payload.length = 4 →
      (u8 rq.payload 0 = 0 →
        ∃ t, exec (.diagRunStatus rq) s = .next t ∧ Answers 0x31 rq St.ok (diagStatus s) s t ∧ CmdFrame [] [] s t) ∧
      (∀ on c, (on = true ∧ u8 rq.payload 0 = 1 ∧ c = .diagRunSuspend rq ∧ s.unlocked rq.stream = true ∨
          on = false ∧ u8 rq.payload 0 = 2 ∧ c = .diagRunResume rq) → logRoom s 1 = true → s.sdActive = false →
        ∃ t, exec c s = .next t ∧ Defers 0x31 rq s t ∧ t.dia = { s.dia with suspNext := some on } ∧
          t.saf = { s.saf with logNext := s.saf.logNext + 1, unlockTime := s.time } ∧
          (∃ e : List Byte, t.nvm.ops = s.nvm.ops ++ [⟨.append [e], some (s.cmd.seq % 65536), false⟩] ∧ u16 e 18 = 0xF014 ∧
            u32 e 20 = b2n (s.dia.suspNext.getD s.dia.susp) ∧ u32 e 24 = b2n on) ∧
          CmdFrame [.dia, .saf, .nvm] [] s t) ∧
      (∀ st, (u8 rq.payload 0 = 1 ∧ s.unlocked rq.stream = false ∧ st = St.locked ∨
          u8 rq.payload 0 = 1 ∧ s.unlocked rq.stream = true ∧ (logRoom s 1 && !s.sdActive) = false ∧ st = St.refusedState) →
        ∃ t, exec (.diagRunSuspend rq) s = .next t ∧ Answers 0x31 rq st (diagStatus s) s t ∧ CmdFrame [] [] s t) ∧
      (u8 rq.payload 0 = 2 → (logRoom s 1 && !s.sdActive) = false →
        ∃ t, exec (.diagRunResume rq) s = .next t ∧ Answers 0x31 rq St.refusedState (diagStatus s) s t ∧ CmdFrame [] [] s t) ∧
      (u8 rq.payload 0 = 3 →
        ∃ t, exec (.diagRunRestart rq) s = .next t ∧ Answers 0x31 rq St.ok (diagStatus s) s t ∧
          t.dia = { s.dia with restart := true } ∧ CmdFrame [.dia] [] s t) ∧
      (u8 rq.payload 0 = 4 → s.longRunning < 8 →
        ∃ t, exec (.diagRunReport rq) s = .next t ∧ Accepts 0x31 rq [] s t ∧ CmdFrame [] [] s t) ∧
      (u8 rq.payload 0 = 5 → s.longRunning < 8 → s.sdActive = false →
        ∃ t, exec (.diagRunSave rq) s = .next t ∧ Accepts 0x31 rq [] s t ∧
          t.dia = { s.dia with saveReq := some (s.dia.saveReq.getD [] ++ [s.cmd.seq % 65536]) } ∧ CmdFrame [.dia] [] s t))

/-- R210, R226, R227: PIXEL_ISOLATE maps the pixels of its rectangle, DIAG_CLEAR on the unlocked stream takes those of its
rectangle, or all, out of the map and the fault list; both answer how many changed and the frame from which it shows. With
SAVE they are accepted and ask for a save. -/
def Obligations.PixelsAreIsolatedAndCleared : Prop :=
  ∀ (rq : Req) (s : State), rq.payload.length = 12 → (bitOf (u8 rq.payload 8) 0 = true → s.sdActive = false ∧ s.longRunning < 8) →
    (Runs 0x32 rq s → rectOk rq.payload = true →
      ∃ t n, exec (.pixelIsolate rq) s = .next t ∧ n = ((rectOf rq.payload).filter (fun p => !s.dia.map.contains p)).length ∧
        (∀ p, p ∈ t.dia.map ↔ p ∈ s.dia.map ∨ p ∈ rectOf rq.payload) ∧ (n = 0 → t.dia.faults = s.dia.faults) ∧
        (bitOf (u8 rq.payload 8) 0 = false → Answers 0x32 rq St.ok (zeros 3 ++ bytesLE 4 n ++ bytesLE 4 (s.tickNo 2)) s t) ∧
        (bitOf (u8 rq.payload 8) 0 = true → Accepts 0x32 rq (zeros 3 ++ bytesLE 4 n ++ bytesLE 4 (s.tickNo 2)) s t ∧
          t.dia.saveReq.isSome = true) ∧
        CmdFrame [.dia] [F.DIA_NEWCNT_NEW.addr] s t) ∧
    (Runs 0x33 rq s → s.unlocked rq.stream = true → (bitOf (u8 rq.payload 8) 1 = true ∨ rectOk rq.payload = true) →
      ∀ drop : Nat → Bool, drop = (fun p => bitOf (u8 rq.payload 8) 1 ||
        (inRange (pixX p) (u16 rq.payload 0) (u16 rq.payload 4) && inRange (pixY p) (u16 rq.payload 2) (u16 rq.payload 6))) →
      ∀ body, body = zeros 3 ++ bytesLE 4 (s.dia.map.filter drop).length ++ bytesLE 4 (s.tickNo 2) →
      ∃ t, exec (.diagClear rq) s = .next t ∧
        t.dia.map = s.dia.map.filter (fun p => !drop p) ∧
        t.dia.faults = s.dia.faults.filter (fun e => !drop (pixIdx e.2.x e.2.y)) ∧
        (bitOf (u8 rq.payload 8) 0 = false → Answers 0x33 rq St.ok body s t) ∧
        (bitOf (u8 rq.payload 8) 0 = true → Accepts 0x33 rq body s t ∧ t.dia.saveReq.isSome = true) ∧
        CmdFrame [.dia] [] s t)

/-- R199 to R210: what a pixel's result does. With no suspect a fault class becomes a new suspect; a suspect is confirmed by
a second fault class in a row, which maps its pixel, and cleared by a Pass; a pair's read of 600 codes or more does the same for the two
pixels of the pair. DARK_TEST and LIT_TEST run on a pixel of the slice, each once in a frame: the readings are kept; a result that fails
decides, one that does not waits for the other test where that is still to come, else decides; after a decision the other test of the frame
decides nothing. What each leaves is `decidePixel` of that result, `next`, on the state with the test noted; the dark test then reads the
pixel's pairs. A dark test that the drive leaves no slot is deferred; that its pairs count in NB_SKIP is the model's reading of R202 and R223
(notes/assumptions/54.md). -/
def Obligations.PixelTestsJudge : Prop :=
  (∀ (p res test reading : Nat) (s : State), p < 1048576 →
    (∀ i e, suspectOf s p none = some (i, e) → res ≠ resPass → res ≠ resDrift →
      p ∈ (decidePixel p res test reading s).dia.map ∧ (decidePixel p res test reading s).fb F.DIA_STATUS_FAULT = true ∧
      (decidePixel p res test reading s).reg 0x7028 = BitVec.ofNat 32 s.tck.frame) ∧
    (∀ i e, suspectOf s p none = some (i, e) → res = resPass →
      kvGet (decidePixel p res test reading s).dia.faults i = none ∧ (decidePixel p res test reading s).dia.map = s.dia.map ∧
      (decidePixel p res test reading s).f F.DIA_CNT_A_UNCONFIRMED =
        satAdd F.DIA_CNT_A_UNCONFIRMED.top (s.f F.DIA_CNT_A_UNCONFIRMED) 1) ∧
    (∀ i, suspectOf s p none = none → res ≠ resPass → res ≠ resDrift → entryPos s.dia.faults = some i →
      kvGet (decidePixel p res test reading s).dia.faults i =
        some ⟨pixX p, pixY p, res, 1, test, 0, reading, s.tck.frame, 0, s.dia.nextOrd⟩ ∧
      (decidePixel p res test reading s).dia.map = s.dia.map)) ∧
  (∀ (p q nb v : Nat) (s : State), p < 1048576 → q = (if nb = 0 then p + 1 else p + 2048) →
    (s.fb F.DIA_CTRL_NB_EN = true → q ∉ s.dia.map → nbOff s p q = true → nbRead p q nb v s = decidePair p nb v s) ∧
    (s.fb F.DIA_CTRL_NB_EN = false ∨ q ∈ s.dia.map ∨ nbOff s p q = false → nbRead p q nb v s = s.bump F.DIA_CNT_B_NB_SKIP) ∧
    (∀ i e, suspectOf s p (some nb) = some (i, e) →
      (600 ≤ v → p ∈ (decidePair p nb v s).dia.map ∧ q ∈ (decidePair p nb v s).dia.map ∧
        (decidePair p nb v s).fb F.DIA_STATUS_FAULT = true) ∧
      (v < 600 → kvGet (decidePair p nb v s).dia.faults i = none ∧ (decidePair p nb v s).dia.map = s.dia.map)) ∧
    (suspectOf s p (some nb) = none → v < 600 → decidePair p nb v s = s) ∧
    (∀ i, suspectOf s p (some nb) = none → 600 ≤ v → entryPos s.dia.faults = some i →
      kvGet (decidePair p nb v s).dia.faults i = some ⟨pixX p, pixY p, 3, 1, 0, nb, v, s.tck.frame, 0, s.dia.nextOrd⟩ ∧
      (decidePair p nb v s).dia.map = s.dia.map)) ∧
  (∀ (x y vRest vDark vRight vLower : Nat) (s : State), x ≤ 2047 → y ≤ 511 → ∀ p, p = pixIdx x y → tests s p = true →
    (p ∈ s.dia.darkDone ∨ p ∈ s.dia.deferred → exec (.darkTest x y vRest vDark vRight vLower) s = .next s) ∧
    (p ∉ s.dia.darkDone → p ∉ s.dia.deferred → 4087 ≤ pwWidth (s.frontWord p) →
      exec (.darkTest x y vRest vDark vRight vLower) s =
        .next (({ s with dia.deferred := setInsert p s.dia.deferred }.bump F.DIA_CNT_A_DEFERRED).addF F.DIA_CNT_B_NB_SKIP
          (b2n (decide (x < 2047)) + b2n (decide (y < 511))))) ∧
    (p ∉ s.dia.darkDone → p ∉ s.dia.deferred → pwWidth (s.frontWord p) < 4087 →
      ∀ (res reading : Nat) (good waits : Prop) (u : State) (next : State → State), res = darkResult s p vRest vDark →
        reading = (if res = 4 then vRest else vDark) → good = (res = resPass ∨ res = resDrift) →
        waits = (good ∧ kvGet s.dia.wait p = none ∧ wMin s.rate ≤ pwWidth (s.frontWord p) ∧ p ∉ s.dia.litDone) →
        u = noteTested false p { s with dia.readV := kvPut p (min 4095 vRest, min 4095 vDark) s.dia.readV } →
        next = (fun v => (fun w => if y < 511 then nbRead p (p + 2048) 1 vLower w else w)
          (if x < 2047 then nbRead p (p + 1) 0 vRight v else v)) →
      ∃ t, exec (.darkTest x y vRest vDark vRight vLower) s = .next t ∧
        kvGet t.dia.readV p = some (min 4095 vRest, min 4095 vDark) ∧ p ∈ t.dia.darkDone ∧ t.dia.darkRun = s.dia.darkRun + 1 ∧
        t.dia.testedN = s.dia.testedN + (if s.hadTest p then 0 else 1) ∧
        (p ∈ s.dia.decided → t.dia.decided = s.dia.decided ∧ t.dia.wait = s.dia.wait ∧ t = next u) ∧
        (p ∉ s.dia.decided → waits → kvGet t.dia.wait p = some (res, 0, vDark) ∧ t.dia.decided = s.dia.decided ∧
          t = next { u with dia.wait := kvPut p (res, 0, vDark) u.dia.wait }) ∧
        (p ∉ s.dia.decided → ¬ waits → p ∈ t.dia.decided) ∧
        (p ∉ s.dia.decided → ¬ good → t = next (decidePixel p res 0 reading { u with dia.wait := kvErase p u.dia.wait })) ∧
        (p ∉ s.dia.decided → good → ¬ waits → kvGet s.dia.wait p = none → t = next (decidePixel p res 0 reading u)) ∧
        (∀ r k v, p ∉ s.dia.decided → good → kvGet s.dia.wait p = some (r, k, v) →
          ∀ w, w = { u with dia.wait := kvErase p u.dia.wait } →
          t = next (if res = resPass ∧ r = resDrift then decidePixel p r k v w else decidePixel p res 0 reading w)) ∧
        Keeps [.regs, .dia] s t ∧
        KeepsRegs [0x7004, F.DIA_NEWCNT_NEW.addr, 0x701C, 0x7020, F.DIA_LAST_CLASS.addr, 0x7028] s t)) ∧
  (∀ (x y vLit pA : Nat) (s : State), x ≤ 2047 → y ≤ 511 → ∀ p, p = pixIdx x y → tests s p = true →
    wMin s.rate ≤ pwWidth (s.frontWord p) → p ∉ s.dia.litDone → ∀ i, i = normCurrent s (pwRange (s.frontWord p)) pA →
    ∀ (res reading : Nat) (good waits : Prop) (u : State), res = litResult s p (pwRange (s.frontWord p)) vLit i →
      reading = (if res = 0 then roundDiv (1000 * i) 0x8000 else vLit) → good = (res = resPass ∨ res = resDrift) →
      waits = (good ∧ kvGet s.dia.wait p = none ∧ pwWidth (s.frontWord p) < 4087 ∧ p ∉ s.dia.darkDone) →
      u = calTake p i (noteTested true p { s with dia.readI := kvPut p (min 4095 vLit, i) s.dia.readI }) →
    ∃ t, exec (.litTest x y vLit pA) s = .next t ∧
      kvGet t.dia.readI p = some (min 4095 vLit, i) ∧ p ∈ t.dia.litDone ∧ t.dia.litRun = s.dia.litRun + 1 ∧
      (p ∈ s.dia.decided → t.dia.decided = s.dia.decided ∧ t.dia.wait = s.dia.wait ∧ t.dia.faults = s.dia.faults ∧ t = u) ∧
      (p ∉ s.dia.decided → waits → kvGet t.dia.wait p = some (res, 1, vLit) ∧ t.dia.decided = s.dia.decided ∧
        t = { u with dia.wait := kvPut p (res, 1, vLit) u.dia.wait }) ∧
      (p ∉ s.dia.decided → ¬ waits → p ∈ t.dia.decided) ∧
      (p ∉ s.dia.decided → ¬ good → t = decidePixel p res 1 reading { u with dia.wait := kvErase p u.dia.wait }) ∧
      (p ∉ s.dia.decided → good → ¬ waits → kvGet s.dia.wait p = none → t = decidePixel p res 1 reading u) ∧
      (∀ r k v, p ∉ s.dia.decided → good → kvGet s.dia.wait p = some (r, k, v) →
        ∀ w, w = { u with dia.wait := kvErase p u.dia.wait } →
        t = (if res = resPass ∧ r = resDrift then decidePixel p r k v w else decidePixel p res 1 reading w)) ∧
      (∀ c, s.drv.cal = some c → c.supplied = false → c.first + c.done = tileOf p → t.drv.calMeas = s.drv.calMeas ++ [(p, i)]) ∧
      (s.drv.cal = none → t.drv = s.drv) ∧ Keeps [.regs, .dia, .drv] s t ∧
      KeepsRegs [0x7004, F.DIA_NEWCNT_NEW.addr, 0x701C, 0x7020, F.DIA_LAST_CLASS.addr, 0x7028] s t)

/-- R207, R208, R218, R220: SEGMENT_OFF_CURRENT_CHECK with the array switched on, once in a period: a segment that exceeds its threshold
is noted with its frame; one that did so in the period before too is a STUCK_ON fault: its switch opens at the next tick and its pixels are
mapped; one that passes is forgotten. What failed in a period stands as the period before from its tick on (`switchesAtTick`);
current through an isolated segment asks for a stop. ZONE_COUNT counts the mapped pixels of every enabled zone and tells of
one over its limit; MAP_SAVE writes the map to the older copy in 32 pages, with the SEQ after the newest (R442). -/
def Obligations.SegmentsZonesAndMapSaves : Prop :=
  ∀ (s : State),
    (∀ (currents : List (Nat × List Nat)), s.saf.switches = true → s.dia.segDone = false → (currents.map Prod.fst).Nodup →
      (∀ e ∈ currents, e.1 < 32768) →
      ∃ t, exec (.segmentOffCurrentCheck currents) s = .next t ∧ t.dia.segDone = true ∧
        (∀ g, (∀ nA, (g, nA) ∈ currents → segFails s g nA = false) → kvGet t.dia.segPrev g = none) ∧
        (∀ g nA, (g, nA) ∈ currents → g ∉ s.dia.isolated → segFails s g nA = true →
          (kvGet s.dia.segPrev g = none → kvGet t.dia.segFail g = some s.tck.frame) ∧
          (∀ f, kvGet s.dia.segPrev g = some f →
            g ∈ t.dia.openNext ∧ kvGet t.dia.segPrev g = none ∧ t.fb F.DIA_STATUS_FAULT = true ∧ ∀ p ∈ segPixels g, p ∈ t.dia.map)) ∧
        (∀ g nA, (g, nA) ∈ currents → g ∈ s.dia.isolated → isoFails s nA = true →
          t.fb F.DIA_STATUS_ISO_FAIL = true ∧ (t.reg 0x801C).getLsbD Src.segIso = true) ∧
        EvFrame (.dia :: stopParts) (0x7004 :: F.DIA_NEWCNT_NEW.addr :: 0x701C :: 0x7020 :: F.DIA_LAST_CLASS.addr :: 0x7028 ::
          stopWords) s t) ∧
    (∀ currents, s.saf.switches = false ∨ s.dia.segDone = true → exec (.segmentOffCurrentCheck currents) s = .next s) ∧
    (∀ swapped, (switchesAtTick swapped s).dia.segPrev = s.dia.segFail ∧ (switchesAtTick swapped s).dia.segFail = [] ∧
      (switchesAtTick swapped s).dia.segDone = false) ∧
    (∃ t, exec .zoneCount s = .next t ∧
      (∀ n < 8, s.fb (F.DIA_CZ0_A_EN.at (8 * n)) = true →
        t.f (F.DIA_CZ0_B_COUNT.at (8 * n)) = min 65535 (zoneMapped s n) ∧
        (n ∈ t.dia.zonesOver ↔ s.f (F.DIA_CZ0_B_LIMIT.at (8 * n)) < zoneMapped s n)) ∧
      (∀ n < 8, s.fb (F.DIA_CZ0_A_EN.at (8 * n)) = false → n ∉ t.dia.zonesOver) ∧
      t.dia.map = s.dia.map ∧ t.dia.faults = s.dia.faults ∧
      EvFrame (.dia :: stopParts) (0x7004 :: 0x7084 :: 0x708C :: 0x7094 :: 0x709C :: 0x70A4 :: 0x70AC :: 0x70B4 :: 0x70BC ::
        stopWords) s t) ∧
    (∀ owners, s.dia.saveReq = some owners → s.dia.save = none →
      ∃ t sv, exec .mapSave s = .next t ∧ t.dia = { s.dia with saveReq := none, save := some sv, saveOwn := false, changed := false } ∧
        sv.pixels = s.dia.map ∧ sv.owners = owners ∧ sv.newBits = s.f F.DIA_NEWCNT_NEW ∧ t.f F.DIA_NEWCNT_NEW = 0 ∧
        (s.nvm.mapA.valid = false → sv.copy = 0) ∧
        (s.nvm.mapA.valid = true → s.nvm.mapB.valid = false → sv.copy = 1 ∧ sv.seq = (s.nvm.mapA.seq + 1) % 2 ^ 32) ∧
        (s.nvm.mapA.valid = true → s.nvm.mapB.valid = true → sv.copy = (if seqNewer s.nvm.mapB.seq s.nvm.mapA.seq then 0 else 1) ∧
          sv.seq = ((if seqNewer s.nvm.mapB.seq s.nvm.mapA.seq then s.nvm.mapB.seq else s.nvm.mapA.seq) + 1) % 2 ^ 32) ∧
        t.nvm.ops = s.nvm.ops ++ (List.range 32).map (fun pg => ⟨.map sv.copy pg sv.seq s.dia.map, none, false⟩) ∧
        Keeps [.regs, .dia, .nvm] s t ∧ KeepsRegs [F.DIA_NEWCNT_NEW.addr] s t)

/-! ### Composition and the drive -/

/-- R82: the drive map of stage 8. The code X lies below 2^18 and is 4 × the value leaving stage 7; it gives RANGE r, m = 4^r and
WIDTH w = floor(X / m) below 4,096, in the highest range that keeps the width at 1,024 or more; what is lost is below one width
step, and above 4,096 less than X / 1,024. R77, R210: a mapped pixel's word is ISOLATE alone; a pixel whose code is 0, or under a
ceiling of 0, is dark; any other word draws WIDTH × m. -/
def Obligations.PixelWordsFollowTheDriveMap : Prop :=
  (∀ x < 262144, ∀ r w m, driveMap x = (r, w, m) → r ≤ 3 ∧ w < 4096 ∧ m = 4 ^ r ∧ w = x / m ∧ w * m ≤ x ∧ x < (w + 1) * m ∧
    (1 ≤ r → 1024 ≤ w) ∧ (∀ q ≤ 3, r < q → x / 4 ^ q < 1024) ∧ (4096 < x → 1024 * (x - w * m) < x)) ∧
  (∀ (k : DrvPass) (g v : Nat), k.code g v ≤ 262143 ∧
    (k.d = 0x8000 → k.gp = 0x8000 → g * k.c = 2 ^ 37 → v ≤ 65535 → k.code g v = 4 * v)) ∧
  (∀ (s : State) (k : DrvPass) (zs : List Zone) (m0 mu md : List Nat) (p v : Nat),
    (p ∈ m0 → drvPixel s k zs m0 mu md p v = ⟨0x8000, 0, false⟩) ∧
    (p ∉ m0 → (v = 0 ∨ ceilAt zs (pixX p) = some 0) → drvPixel s k zs m0 mu md p v = ⟨0, 0, false⟩) ∧
    (∀ o, drvPixel s k zs m0 mu md p v = o → k.coldMin < 4096 → p ∉ m0 → o.share = pwWidth o.word * 4 ^ pwRange o.word))

/-- R18, R25, R27, R137, R265, R271: COMPOSE_ROW takes the next row slot. With the fallback source driving, the row's words come from the
fallback copy through the tone map, without geometry; with the active half composing they come from its row, whose CRC-32C joins the row-CRC table, and the half's line-buffer pool holds the lines it read; an image that is discarded, or
a row behind a row not written, leaves the back words alone. No register changes. -/
def Obligations.RowSlotsComposeInOrder : Prop :=
  ∀ s : State, s.tck.running = true → s.drv.rows < 512 →
    ∀ u, u = { s with drv.rows := s.drv.rows + 1, tck.row := max s.tck.row s.drv.rows } →
    ∃ t, exec .composeRow s = .next t ∧ t.drv.rows = s.drv.rows + 1 ∧ t.tck = { s.tck with row := max s.tck.row s.drv.rows } ∧
      t.drv.front = s.drv.front ∧
      (fallbackDrives u = true → s.drv.noSwap = false → s.bistTests = false → s.drv.comp.rowCrc.length = s.drv.rows →
        ∀ v, v = fallbackRow u s.drv.rows → ∀ w : State, w = drvRow (drvPass u true) s.drv.rows v u →
        t.drv.back = w.drv.back ∧ t.drv.comp.s = w.drv.comp.s ∧ t.drv.comp.rowCrc = w.drv.comp.rowCrc ∧ t.drv.sig = w.drv.sig) ∧
      (halfComposes u = true → s.drv.comp.rowIn.length = s.drv.rows → ∀ v : Array Nat, v = (halfRow u s.drv.rows).1 →
        t.drv.comp.rowIn = s.drv.comp.rowIn ++
          [crc32c ((v.toList.take 2048 ++ List.replicate (2048 - v.size) 0).flatMap (bytesLE 2))] ∧
        t.hlv = (setHalf s.activeHalf { s.half s.activeHalf with pool := linePool u s.drv.rows } s).hlv ∧
        (fallbackDrives u = false → s.bistTests = false → s.drv.comp.rowCrc.length = s.drv.rows →
          ∀ w : State, w = drvRow (drvPass u false) s.drv.rows v u →
          t.drv.back = w.drv.back ∧ t.drv.comp.s = w.drv.comp.s ∧ t.drv.comp.rowCrc = w.drv.comp.rowCrc ∧
            t.drv.sig = w.drv.sig)) ∧
      (halfComposes u = false ∨ s.drv.comp.rowIn.length ≠ s.drv.rows → t.hlv = s.hlv ∧ t.drv.comp.rowIn = s.drv.comp.rowIn) ∧
      ((s.drv.noSwap = true ∨ s.drv.comp.rowCrc.length ≠ s.drv.rows) → t.drv.back = s.drv.back ∧ t.saf = s.saf) ∧
      Keeps [.drv, .tck, .obj, .saf, .hlv] s t

/-- R22, R91, R108, R271: IMAGE_WRITE_DONE behind the last row slot. An image with all its 512 rows gives DRV_IPRED the current of
its sum, DRV_SIG the CRC-32 of its words and the frame of its flip, the number of the tick that comes, and waits for the flip; what it was
composed from is kept for Grazing. -/
def Obligations.TheEndOfAnImageIsSigned : Prop :=
  ∀ (cf : Option Nat) (s : State), s.tck.running = true → s.drv.rows = 512 → s.tck.row < 512 →
    ∃ t, exec (.imageWriteDone cf) s = .next t ∧ t.tck = { s.tck with row := 512 } ∧
      (s.drv.comp.rowCrc.length = 512 →
        t.f F.DRV_IPRED_LAST = min 65535 ((s.drv.comp.s + 6553599) / 6553600) ∧
        t.reg 0x6048 = BitVec.ofNat 32 (s.drv.sig ^^^ 0xFFFFFFFF) ∧ t.reg 0x604C = BitVec.ofNat 32 (tickNumber s) ∧
        t.fb F.DRV_STATUS_SIG_SHOWN = false ∧ t.drv.written = true ∧
        (∀ p, cf = some p → s.saf.viol = none → t.saf.viol = some (pixX p, pixY p))) ∧
      (s.drv.comp.rowIn.length = 512 → t.obj.last = s.obj.cur ∧ t.obj.lastReset = false ∧ t.obj.lastIn = composeInputs s ∧ t.drv.prevIn = s.drv.comp.rowIn ∧
        t.f F.OBJ_OVL_OVL_ROWS = s.obj.fillRows % 1024 ∧
        (s.tck.itemsApplied = false → s.drv.comp.rowIn = s.drv.prevIn → t.pwr.unchanged = min 65535 (s.pwr.unchanged + 1)) ∧
        (s.tck.itemsApplied = true ∨ s.drv.comp.rowIn ≠ s.drv.prevIn → t.pwr.unchanged = 0)) ∧
      t.drv.front = s.drv.front ∧ t.drv.back = s.drv.back ∧
      EvFrame [.tck, .drv, .saf, .pwr, .obj, .lyr] [0x6010, 0x6048, 0x604C, 0x6050, 0x5018, 0x5024, 0x4018, 0x4024, 0x4138,
        0x41B8, F.LYR_G0_ANIM_F.addr, F.LYR_G0_ANIM_F.addr + 0x10, F.LYR_G0_ANIM_F.addr + 0x20, F.LYR_G0_ANIM_F.addr + 0x30] s t

/-- R98 to R100, R104, R105: PHOTODIODE_READ keeps each reading, on less off, and which photodiodes are valid; with the loop
enabled and two of them valid, the correction moves by a tenth of a second's share towards the bounded inverse of their
mean, else it stays. REFERENCE_REFRESH, when its interval is over, charges the idle cells and takes the interval of the band. Two clauses are
the model's choice (notes/assumptions/28.md): the correction is taken to u1.23 exactly in every period, and a refresh is due once the periods
since the last one reach INTERVAL. -/
def Obligations.FluxAndReferenceFollowTheirLoops : Prop :=
  ∀ s : State, s.tck.running = true →
    (∀ readings : List (Nat × Nat),
      ∃ t, exec (.photodiodeRead readings) s = .next t ∧
        (∀ n < 4, t.f (F.DRV_PD0_READ.at (4 * n)) = min 4095 ((nth (0, 0) readings n).2 - (nth (0, 0) readings n).1)) ∧
        t.f F.DRV_FLUX_PD_VALID = ((pdValid t).map (fun n => 2 ^ n)).sum ∧
        (∀ n ∈ pdValid t, ∃ q, pdQ t n = some q ∧ (1 / 2 : Rat) ≤ q ∧ q ≤ 3 / 2) ∧
        ((pdValid t).length < 4 → t.fb F.DRV_STATUS_PD_REJECT = true) ∧
        (s.fb F.DRV_FLUX_CTRL_EN = false ∨ (pdValid t).length < 2 → t.f F.DRV_FLUX_CORR = s.f F.DRV_FLUX_CORR) ∧
        (s.fb F.DRV_FLUX_CTRL_EN = true → 2 ≤ (pdValid t).length → ∀ mean target c : Rat,
          mean = ((pdValid t).filterMap (pdQ t)).sum / (((pdValid t).filterMap (pdQ t)).length : Rat) →
          target = maxR (17 / 20) (minR (23 / 20) (if mean = 0 then 0 else 1 / mean)) →
          c = (s.f F.DRV_FLUX_CORR : Rat) / 8388608 →
          t.f F.DRV_FLUX_CORR = ratSteps 8388608 (c + (target - c) / (10 * (rateHz s.rate : Rat))) % 2 ^ 24) ∧
        EvFrame [.drv] [0x6030, 0x6034, 0x6038, 0x603C, 0x602C, 0x6050] s t) ∧
    (s.f F.DRV_REFRESH_INTERVAL ≤ s.drv.sinceRefresh →
      ∃ t, exec .referenceRefresh s = .next t ∧ t.drv = { s.drv with cells := true, sinceRefresh := 0 } ∧
        t.f F.DRV_REFRESH_LAST_FRAME = s.tck.frame % 65536 ∧ t.f F.DRV_REFRESH_INTERVAL = refreshFrames s.band ∧
        Keeps [.regs, .drv] s t ∧ KeepsRegs [0x6044] s t) ∧
    (s.drv.sinceRefresh < s.f F.DRV_REFRESH_INTERVAL → exec .referenceRefresh s = .next s)

/-- R26, R36, R135, R139: FALLBACK_CRC_CHECK. With both good only SAF_FB is refreshed; a fallback copy that failed is loaded again
from eNVM with its validity, and every copy of it into a pattern slot that is under way ends with BAD_CRC and its slot FREE; a tone map that
failed is reset to the identity, with TONE_RESET. -/
def Obligations.FallbackCopyAndToneMapAreChecked : Prop :=
  ∀ s : State, s.tck.running = true → ∀ fbOk toneOk : Bool,
    ∃ t, exec (.fallbackCrcCheck fbOk toneOk) s = .next t ∧
      (fbOk = true → t.drv.fb = s.drv.fb ∧ t.fb F.SAF_FB_VALID = s.fb F.SAF_FB_VALID ∧ t.f F.SAF_FB_IPRED = fallbackIpred s ∧
        t.lyr = (if toneOk then s.lyr else { s.lyr with tone := none })) ∧
      (fbOk = false → t.drv.fb = s.nvm.fb ∧ t.fb F.SAF_FB_VALID = s.nvm.fbValid ∧ t.lyr.copies = [] ∧ t.lyr.store = s.lyr.store ∧
        t.lyr.tone = (if toneOk then s.lyr.tone else none) ∧
        (∀ slot ∈ s.lyr.copies, ∀ b, s.buf? (60 + slot) = some b → t.buf? (60 + slot) = some { b with st := 0 }) ∧
        (∀ e, (∀ slot ∈ s.lyr.copies, e ≠ 60 + slot) → t.buf? e = s.buf? e) ∧
        ((s.cmd.jobs.map Job.seq).Nodup → ∀ slot ∈ s.lyr.copies, ∀ j, s.jobKey? 0x28 slot = some j →
          replyOf j.op j.rq true St.badCrc [] j.seq ∈ t.cmd.out)) ∧
      (toneOk = true → t.fresh = s.fresh) ∧
      (toneOk = false → t.fb F.LYR_STATUS_TONE_RESET = true ∧ t.reg 0x4020 = BitVec.ofNat 32 (toneCrc toneIdentity)) ∧
      EvFrame [.drv, .lyr, .fresh] [0x8038, 0x4018, 0x4020, 0x20C4] s t

/-! ### The tick -/

/-- R16, R22, R45, R48, R49, R56, R68, R80: TICK, while the tick runs or as the first of a boot. It takes its number and its
instant, TICK_OUT goes high where it is enabled, ROW reads 0, the image that stands whole in the back words is swapped in, else the image on show stays; the sets
of its number are applied and leave; the image of the period that starts has no row yet, and the buffers, rings and the
queue stay as they are. Only the snapshot of a HERD whose tick this is stands 20 ns after it (R374). The model's choices: TCK_TICK_TIME is
the floor of an exact instant (notes/assumptions/20.md), and the row brings VSUP_MV, measured at the tick (notes/assumptions/63.md). -/
def Obligations.TheTickSwapsAndApplies : Prop :=
  ∀ (env : TickEnv) (s : State), s.off = false → s.pwr.state ≠ .idle →
    (s.tck.running = true ∨ s.sys.phase = .boot ∧ s.nvm.test = none) →
    ∃ t, exec (.tick env) s = .next t ∧ t.tck.frame = tickNumber s ∧ t.tck.tickTime = (tickInstant s).floor.toNat ∧
      t.tck.exact = tickInstant s ∧ (t.time = t.tck.tickTime ∨ snapsDue s ≠ [] ∧ t.time = t.tck.tickTime + 2) ∧
      t.pwr.vsupMv = env.vsupMv ∧ t.pwr.vsupAt = t.tck.tickTime ∧ t.tck.row = 0 ∧ t.tck.running = true ∧ t.tck.started = true ∧
      t.tickOut = (t.a F.TCK_CTRL_TICK_OUT_EN == 1) ∧
      t.tck.pull = 0 ∧
      (swapOk s = true → t.drv.front = s.drv.back ∧ t.drv.back = s.drv.front ∧ t.drv.shown = s.drv.comp ∧
        t.dia.mapShown = s.dia.mapComp ∧ t.f F.DRV_IPRED_SHOWN = ipredShown s.drv.comp.s (gcOf s.drv.comp)) ∧
      (swapOk s = false → t.drv.front = s.drv.front ∧ t.drv.back = s.drv.back ∧ t.drv.shown = s.drv.shown ∧
        t.dia.mapShown = s.dia.mapShown) ∧
      ((s.tck.started && herdSampleDue s) = false → t.tck.act = s.tck.act.putAt s.tck.sets (tickNumber s) ∧
        t.tck.sets = s.tck.sets.filter (fun x => !(x.applyAt == tickNumber s)) ∧ t.tck.dirty = s.tck.dirty) ∧
      t.drv.rows = 0 ∧ t.drv.begun = false ∧ t.drv.written = false ∧ t.drv.sig = 0xFFFFFFFF ∧
      t.pending = s.pending ∧ t.latch = s.latch ∧ t.rng = s.rng ∧ t.chk = s.chk ∧ t.dn = s.dn ∧ t.spiOut = s.spiOut ∧
      t.lyr.store = s.lyr.store ∧ t.obj.slots = s.obj.slots ∧ t.tck.mofs = s.tck.mofs

/-- R45, R46: a tick that runs free comes one period after the tick before, moved by the correction it makes, which shortens
the period, as planned, by 2 % at most; the first tick
of a boot comes 20 ms after the release, 80 ms with the quick test (R434), and is numbered by TCK_FRAME unless a HERD with
SET_FRAME names its number. -/
def Obligations.TickInstantsAndNumbers : Prop :=
  ∀ s : State,
    (s.tck.started = true → (s.time : Rat) ≤ s.nextExact + tickCorr s → tickInstant s = s.nextExact + tickCorr s) ∧
    0 < s.periodAct ∧ -(s.periodLen / 50) ≤ tickCorr s ∧ s.periodLen = s.nextExact - s.tck.exact ∧
    (s.tck.planned = none → s.nextExact = s.tck.exact + s.periodAct ∧ s.periodLen = s.periodAct) ∧
    (0 ≤ s.periodLen → s.tck.corr = none → s.tck.pull = 0 → tickCorr s = 0) ∧
    (∀ c, s.tck.corr = some (1, c) → s.tck.pull = 0 → -(s.periodLen / 50) ≤ c → tickCorr s = c) ∧
    (∀ n c, 0 ≤ s.periodLen → s.tck.corr = some (n, c) → n ≠ 1 → s.tck.pull = 0 → tickCorr s = 0) ∧
    (s.tck.started = false → (s.time : Rat) ≤ firstTick s → tickInstant s = firstTick s) ∧
    (s.f F.SYS_BOOT_QUICK_WHY = 0 → firstTick s = 2000000) ∧ (s.f F.SYS_BOOT_QUICK_WHY ≠ 0 → firstTick s = 8000000) ∧
    (s.tck.started = true → s.tck.setFrame = none → tickNumber s = (s.tck.frame + 1) % 2 ^ 32) ∧
    (s.tck.started = false → s.tck.setFrame = none → tickNumber s = s.tck.frame) ∧
    (∀ x, s.tck.setFrame = some x → x.ticks = 1 → tickNumber s = x.f % 2 ^ 32)

/-- R145: LAYER_MISS_LIMIT begins the fade of a waiting layer whose misses have reached its limit; LAYER_DISABLED clears the
enable bit of a layer four ticks into its fade, active and pending, and tells of it. R61, R178: OBJECT_SAMPLE, at the
cut-off row, samples the set of a HERD whose tick ends the period, and the objects with the geometry of the next set; what the pending set
holds there is kept for a HERD that has arrived and is not taken yet. -/
def Obligations.LayersFadeAndObjectsAreSampled : Prop :=
  ∀ s : State,
    (∃ t, exec .layerMissLimit s = .next t ∧ Keeps [.lyr] s t ∧ t.lyr.bufs = s.lyr.bufs ∧ t.lyr.store = s.lyr.store ∧
      ∀ n < 2, t.vLayer n = (if (s.vLayer n).waiting = true ∧ (s.vLayer n).fade = none ∧
          max 1 ((s.vLayer n).a n F.LYR_V0_CTRL_MISS_LIMIT) ≤ (s.vLayer n).misses
        then { s.vLayer n with fade := some 0 } else s.vLayer n)) ∧
    (∃ t, exec .layerDisabled s = .next t ∧ EvFrame [.tck, .lyr] [0x4000, 0x4018] s t ∧
      (∀ n < 2, (s.vLayer n).fade = some 4 → (t.reg 0x4000).getLsbD n = false ∧
        (Mem.read 0 t.tck.act.regs 0x4000).getLsbD n = false ∧ bitOf (t.f F.LYR_STATUS_LAYER_DISABLED) n = true ∧
        (t.vLayer n).showing = false ∧ (t.vLayer n).fade = none) ∧
      (∀ i < 32, (∀ n < 2, (s.vLayer n).fade = some 4 → i ≠ n) → (t.reg 0x4000).getLsbD i = (s.reg 0x4000).getLsbD i) ∧
      ((∀ n < 2, (s.vLayer n).fade ≠ some 4) → t = s)) ∧
    (s.tck.running = true → ∀ u, u = { s with tck.row := max s.tck.row s.cutoff, tck.cut := some (cutSet s) } →
      ∃ t, exec .objectSample s = .next t ∧ EvFrame [.tck, .obj, .pwr] [F.OBJ_STATUS_FUTURE.addr] s t ∧
        (herdSampleDue u = false → t.tck = u.tck ∧
          (s.executes = true → t.obj.next = takeSample u (setAt u 1) ∧ t.obj.taken = true ∧
            t.obj.slots = s.obj.slots.map (fun e => (e.1, { e.2 with updated := false })))) ∧
        (herdSampleDue u = true → ∃ x, t.tck.sets = s.tck.sets ++ [x] ∧ x.applyAt = s.tickNo 1 ∧ x.herd = true) ∧
        (s.executes = false → t.obj = s.obj) ∧ t.tck.row = max s.tck.row s.cutoff ∧ t.tck.act = s.tck.act)

/-- R47: a rising edge on TICK_IN, with TICK_IN the source and the tick running. Within 2 % of the configured period of the
edge before, it lengthens the run, measures the period and pulls the next tick by at most 2 % of the period; outside it the
run starts again and the lock is lost. TICK_IN_TIMEOUT, 1.25 periods after the last edge, ends the lock and the tick runs on.
The model's choice (notes/assumptions/55.md): the edge that begins a run counts among the four that give lock. -/
def Obligations.TickInLocksAndHoldsOver : Prop :=
  ∀ s : State, s.onFrc = false → s.a F.TCK_CTRL_SRC = 1 → s.tck.running = true →
    (s.tck.tickInEdge = none →
      exec .tickInEdge s = .next { s with tck.tickInEdge := some s.time, tck.tickInRun := 1 }) ∧
    (∀ prev, s.tck.tickInEdge = some prev → inLockRange s (s.time - prev) = true →
      ∃ t, exec .tickInEdge s = .next t ∧ t.tck.tickInEdge = some s.time ∧ t.tck.tickInRun = s.tck.tickInRun + 1 ∧
        t.tck.tickInPeriod = s.time - prev ∧ absR t.tck.pull ≤ t.periodAct / 50 ∧
        (s.fb F.TCK_STATUS_LOCKED = true ∨ 3 ≤ s.tck.tickInRun ∧ inRange s.tck.tickTime (prev + 3) (prev + 5) = true →
          t.fb F.TCK_STATUS_LOCKED = true) ∧
        (s.fb F.TCK_STATUS_LOCKED = false → s.tck.tickInRun < 3 → t.fb F.TCK_STATUS_LOCKED = false) ∧
        EvFrame [.tck] [0x3008] s t) ∧
    (∀ prev, s.tck.tickInEdge = some prev → inLockRange s (s.time - prev) = false →
      ∃ t, exec .tickInEdge s = .next t ∧ t.tck.tickInEdge = some s.time ∧ t.tck.tickInRun = 1 ∧ t.tck.pull = 0 ∧
        t.fb F.TCK_STATUS_LOCKED = false ∧ (s.fb F.TCK_STATUS_LOCKED = true → t.fb F.TCK_STATUS_TICK_UNLOCK = true) ∧
        EvFrame [.tck] [0x3008] s t) ∧
    (∃ t, exec .tickInTimeout s = .next t ∧ t.tck.tickInEdge = none ∧ t.tck.tickInRun = 0 ∧ t.tck.pull = 0 ∧
      t.fb F.TCK_STATUS_LOCKED = false ∧ (s.fb F.TCK_STATUS_LOCKED = true → t.fb F.TCK_STATUS_TICK_UNLOCK = true) ∧
      (∀ e, s.tck.tickInEdge = some e →
        t.time = max s.time (e + (periodR (s.a F.TCK_CTRL_RATE) * (5 / 4)).floor.toNat)) ∧ EvFrame [.time, .tck] [0x3008] s t)

/-! ### Safe stop and the safety configuration -/

/-- R230, R234 to R236, R259: SAFE_STOP is taken at once in every state out of reset, whatever waits. Class 0 with light on
latches STOPPED and removes the light; class 1 begins the class-1 fade of T1 unless one runs; class 2 begins the
class-2 fade from LIT while the fallback copy is valid, and a class-1 fade while it is not; without light nothing moves.
The reply gives the lamp state, the class in force and the frame of the stamp; a CLASS above 2 is answered BAD_PARAM with the same bytes and
does nothing. `u` is the part with the packet accepted (R335). -/
def Obligations.SafeStopActsAtOnce : Prop :=
  ∀ (rq : Req) (s : State), s.off = false → rq.quiet = false → rq.payload.length = 4 → ∀ u, u = accept 0 0x40 rq s →
    (2 < u8 rq.payload 0 →
      ∃ t, exec (.safeStop rq) s = .next t ∧ Answers 0x40 rq St.badParam (bytesLE 1 u.lamp ++ bytesLE 1 (u.f F.SAF_STATE_CLASS) ++ [0] ++
        bytesLE 4 (u.reg 0x8024).toNat) u t ∧ CmdFrame [] [] u t) ∧
    ∀ cls, cls = u8 rq.payload 0 → cls ≤ 2 →
    ∃ t, exec (.safeStop rq) s = .next t ∧
      SendsLast (replyOf 0x40 rq true St.ok (bytesLE 1 t.lamp ++ bytesLE 1 (t.f F.SAF_STATE_CLASS) ++ [0] ++
        bytesLE 4 (t.reg 0x8024).toNat) u.cmd.seq) u t ∧
      (cls = 0 → (u.lamp = Lamp.lit ∨ u.lamp = Lamp.fading ∨ u.lamp = Lamp.safeHold) → Stopped t ∧ t.saf.fade = none ∧
        t.f F.SAF_STATE_CLASS = 0 ∧ t.f F.SAF_STATE_SOURCE = Src.command ∧ t.reg 0x8024 = BitVec.ofNat 32 u.tck.frame) ∧
      (cls = 1 ∧ (u.lamp = Lamp.lit ∨ u.lamp = Lamp.safeHold ∨ u.lamp = Lamp.fading ∧ fadeClass u ≠ 1) ∨ cls = 2 ∧ u.lamp = Lamp.lit ∧ u.fb F.SAF_FB_VALID = false →
        t.lamp = Lamp.fading ∧ t.f F.SAF_STATE_CLASS = 1 ∧ t.f F.SAF_STATE_SOURCE = Src.command ∧
        t.saf.fade = some ⟨.class1, u.time, msUnits (u.f F.SAF_FADE_T1), u.time + msUnits (u.f F.SAF_FADE_T1), iStart u, 0, false⟩) ∧
      (cls = 2 → u.lamp = Lamp.lit → u.fb F.SAF_FB_VALID = true →
        t.lamp = Lamp.fading ∧ t.f F.SAF_STATE_CLASS = 2 ∧ t.f F.SAF_STATE_SOURCE = Src.command ∧ t.saf.fbSelect = true ∧
        t.saf.fade = some ⟨.class2, u.time, msUnits (u.f F.SAF_FADE_T2), u.time + msUnits (u.f F.SAF_FADE_T2), iStart u, iSafe u, false⟩) ∧
      (cls = 1 → u.lamp = Lamp.fading → fadeClass u = 1 → t.lamp = u.lamp ∧ t.saf = u.saf) ∧
      (cls = 2 → (u.lamp = Lamp.fading ∨ u.lamp = Lamp.safeHold) → t.lamp = u.lamp ∧ t.saf = u.saf) ∧
      ((u.lamp = Lamp.stopped ∨ u.lamp = Lamp.dark) → t.lamp = u.lamp ∧ t.saf = u.saf) ∧
      (t.reg 0x801C).getLsbD Src.command = true ∧ CmdFrame (.snp :: stopParts) (eventRegs ++ stopWords) u t

/-- R231 to R233, R240, R260: SAFE_RESTART out of STOPPED, with both pins released and no source of class 0 or 1 active, goes
to SAFE_HOLD with AUTO_FALLBACK and a valid configuration, else to DARK. ENABLE with LIGHT lights the lamp from DARK, where
VLED_EN rises, and from SAFE_HOLD, when nothing blocks it, and is answered OK when it is lit; without LIGHT the switch-off
fade begins, with no stop in force (R258). Each answers the lamp state; a blocked one is refused with REFUSED_STATE and names what
blocks it. An ENABLE that serves a request of R454 does not wait; `u` is the part with its packet accepted. -/
def Obligations.LampCommandsAct : Prop :=
  ∀ (rq : Req) (s : State),
    (Runs 0x41 rq s → rq.payload = [] →
      (s.lamp = Lamp.stopped → s.pinsReleased = true → blockingSource s 1 = none →
        ∃ t, exec (.safeRestart rq) s = .next t ∧ t.lamp = (if autoFallback s then Lamp.safeHold else Lamp.dark) ∧
          SendsLast (replyOf 0x41 rq true St.ok (bytesLE 1 t.lamp ++ [0xFF, 0]) s.cmd.seq) s t ∧
          t.fb F.SAF_STATE_LATCHED = false ∧ t.f F.SAF_STATE_CLASS = 3 ∧ t.saf.fade = none ∧
          (autoFallback s = true → t.fb F.SAF_STATE_VLED_EN = true ∧ t.saf.fbSelect = true) ∧
          (autoFallback s = false → t.fb F.SAF_STATE_VLED_EN = s.fb F.SAF_STATE_VLED_EN ∧ t.saf.fbRelease = !s.saf.fbUntilFlip) ∧
          CmdFrame (.snp :: stopParts) (eventRegs ++ [0x8000]) s t) ∧
      (∀ b, (s.lamp ≠ Lamp.stopped ∧ b = 0xFB ∨ s.lamp = Lamp.stopped ∧ s.pinsReleased = false ∧ b = 0xFD ∨
          s.lamp = Lamp.stopped ∧ s.pinsReleased = true ∧ blockingSource s 1 = some b) →
        ∃ t, exec (.safeRestart rq) s = .next t ∧ Answers 0x41 rq St.refusedState (bytesLE 1 s.lamp ++ bytesLE 1 b ++ [0]) s t ∧
          CmdFrame [] [] s t)) ∧
    (∀ u, u = accept 0 0x46 rq s → rq.quiet = false → (u.mustWait 0x46 rq = false ∨ enableAhead u = true) →
      rq.payload.length = 4 → bitOf (u8 rq.payload 0) 0 = true →
      ∀ service, service = (if enableAhead u then u.pwr.state == .idle else u.pwr.service) →
      (enableBlocker u = none → (u.lamp = Lamp.dark ∨ u.lamp = Lamp.safeHold) →
        ∃ t, exec (.enable rq) s = .next t ∧ t.lamp = Lamp.lit ∧ t.f F.SAF_STATE_CLASS = 3 ∧ t.pwr.service = service ∧
          SendsLast (replyOf 0x46 rq true St.ok (bytesLE 1 Lamp.lit ++ [0xFF, 0]) u.cmd.seq) u t ∧
          (u.lamp = Lamp.dark → t.fb F.SAF_STATE_VLED_EN = true ∧ t.saf.awaitArm = true) ∧
          (u.lamp = Lamp.safeHold → t.saf.fbRelease = !u.saf.fbUntilFlip) ∧
          CmdFrame (.snp :: stopParts) (eventRegs ++ [0x8000]) u t) ∧
      (u.lamp = Lamp.lit →
        ∃ t, exec (.enable rq) s = .next t ∧ Answers 0x46 rq St.ok (bytesLE 1 Lamp.lit ++ [0xFF, 0]) u t ∧
          t.pwr = { u.pwr with service := service } ∧ CmdFrame [.pwr] [] u t) ∧
      (∀ b, (u.lamp = Lamp.stopped ∧ b = 0xFE ∨ u.lamp = Lamp.fading ∧ b = 0xFB ∨
          (u.lamp = Lamp.dark ∨ u.lamp = Lamp.safeHold) ∧ enableBlocker u = some b) →
        ∃ t, exec (.enable rq) s = .next t ∧ Answers 0x46 rq St.refusedState (bytesLE 1 u.lamp ++ bytesLE 1 b ++ [0]) u t ∧
          t.pwr = { u.pwr with service := service } ∧ CmdFrame [.pwr] [] u t)) ∧
    (Runs 0x46 rq s → rq.payload.length = 4 → bitOf (u8 rq.payload 0) 0 = false →
      (s.lamp = Lamp.lit ∨ s.lamp = Lamp.safeHold →
        ∃ t, exec (.switchOff rq) s = .next t ∧ t.lamp = Lamp.fading ∧ t.f F.SAF_STATE_CLASS = 3 ∧
          t.saf.fade = some ⟨.switchOff, s.time, msUnits (s.f F.SAF_FADE_T1), s.time + msUnits (s.f F.SAF_FADE_T1), iStart s, 0, false⟩ ∧
          SendsLast (replyOf 0x46 rq true St.ok (bytesLE 1 Lamp.fading ++ [0xFF, 0]) s.cmd.seq) s t ∧
          CmdFrame (.snp :: stopParts) (eventRegs ++ [0x8000, 0x8020]) s t) ∧
      (s.lamp = Lamp.dark →
        ∃ t, exec (.switchOff rq) s = .next t ∧ Answers 0x46 rq St.ok (bytesLE 1 s.lamp ++ [0xFF, 0]) s t ∧ CmdFrame [] [] s t) ∧
      (s.lamp = Lamp.fading ∨ s.lamp = Lamp.stopped →
        ∃ t, exec (.switchOff rq) s = .next t ∧ Answers 0x46 rq St.refusedState (bytesLE 1 s.lamp ++ [0xFB, 0]) s t ∧
          CmdFrame [] [] s t))

/-- R252 to R255, R261 to R263, and that each of the five rows completes. SAFE_UNLOCK with the password unlocks for its stream and
clears the fails; a wrong one counts a fail and locks out at the fifth; SAFE_LOCK locks again, at once or when the storing of a change
ends, as 600 s after the last unlock or change do. SAFE_WRITE of legal entries on the unlocked stream applies them in order, logs each
register it writes once, before and after (notes/assumptions/57.md), and the password as one, and for a stored parameter writes the
record to both copies, the failed or older one first (R254, R442); LOG_READ answers a run of the log. -/
def Obligations.TheSafetyConfigurationIsGuarded : Prop :=
  ∀ (rq : Req) (s : State),
    (Runs 0x42 rq s → rq.payload.length = 8 → s.fb F.SAF_LOCK_LOCKOUT = true →
      ∃ t, exec (.safeUnlock rq) s = .next t ∧ Answers 0x42 rq St.locked (unlockReply s) s t ∧ CmdFrame [] [] s t) ∧
    (Runs 0x42 rq s → rq.payload.length = 8 → s.fb F.SAF_LOCK_LOCKOUT = false →
      (rq.payload = s.saf.password → rq.stream < 8 →
        ∃ t, exec (.safeUnlock rq) s = .next t ∧ t.fb F.SAF_LOCK_UNLOCKED = true ∧ t.f F.SAF_LOCK_STREAM = rq.stream ∧
          t.f F.SAF_LOCK_FAILS = 0 ∧ t.saf = { s.saf with unlockTime := s.time, lockPending := false } ∧
          Answers 0x42 rq St.ok ([5] ++ bytesLE 1 rq.stream ++ [0]) s t ∧ CmdFrame [.saf] [0x8008] s t) ∧
      (rq.payload ≠ s.saf.password → s.f F.SAF_LOCK_FAILS ≤ 4 →
        ∃ t, exec (.safeUnlock rq) s = .next t ∧ t.f F.SAF_LOCK_FAILS = s.f F.SAF_LOCK_FAILS + 1 ∧
          t.fb F.SAF_LOCK_LOCKOUT = decide (s.f F.SAF_LOCK_FAILS = 4) ∧ t.fb F.SAF_LOCK_UNLOCKED = s.fb F.SAF_LOCK_UNLOCKED ∧
          Answers 0x42 rq St.badPassword (bytesLE 1 (4 - s.f F.SAF_LOCK_FAILS) ++ bytesLE 1 (s.f F.SAF_LOCK_STREAM) ++ [0]) s t ∧
          CmdFrame [.snp] (eventRegs ++ [0x8008]) s t)) ∧
    (Runs 0x43 rq s → rq.payload = [] →
      (storing s = false → ∃ t, exec (.safeLock rq) s = .next t ∧ t.fb F.SAF_LOCK_UNLOCKED = false ∧ t.f F.SAF_LOCK_STREAM = 0 ∧
        Answers 0x43 rq St.ok [] s t ∧ CmdFrame [.saf] [0x8008] s t) ∧
      (storing s = true → ∃ t, exec (.safeLock rq) s = .next t ∧ t.saf = { s.saf with lockPending := true } ∧
        Answers 0x43 rq St.ok [] s t ∧ CmdFrame [.saf] [] s t)) ∧
    (s.fb F.SAF_LOCK_UNLOCKED = true →
      ∃ t, exec .unlockTimeout s = .next t ∧ t.fb F.SAF_LOCK_UNLOCKED = false ∧ t.f F.SAF_LOCK_STREAM = 0 ∧
        t.time = max s.time (s.saf.unlockTime + 60000000000) ∧ t.saf = { s.saf with lockPending := false } ∧
        Keeps [.regs, .saf, .time] s t ∧ KeepsRegs [0x8008] s t) ∧
    (s.fb F.SAF_LOCK_UNLOCKED = false → exec .unlockTimeout s = .next s) ∧
    (∀ es u items stored, es = swEntries rq.payload → u = startCommand 0x44 false rq s → items = swItems u es →
      stored = es.any (fun e => decide (0xF000 ≤ e.1) || isStored e.1) →
      Runs 0x44 rq s → rq.payload.length = 4 + 8 * bitsOf (u8 rq.payload 0) 5 0 → rq.bcast = false → s.unlocked rq.stream = true →
      swAddrsOk es = true → es ≠ [] → swValuesOk s rq.stream es = true → logRoom s items.length = true → s.sdActive = false →
      s.longRunning < 8 →
      ∃ t, exec (.safeWrite rq) s = .next t ∧
        SendsLast (replyOf 0x44 rq false St.accepted [] s.cmd.seq) s t ∧
        (∃ j ∈ t.cmd.jobs, j.seq = s.cmd.seq ∧ j.op = 0x44 ∧ j.rq = rq ∧ j.long = true) ∧
        ((∀ e ∈ es, e.1 ≠ 0x7000) → Accepts 0x44 rq [] s t) ∧
        (∀ w, w = (es.filter (fun e => decide (e.1 < 0xF000))).foldl (fun v e => writeOne e.1 (BitVec.ofNat 32 e.2) v) u →
          KeepsRegs sendRegs w t ∧ (w.cmd.lost = 0 → t.regs = w.regs)) ∧
        (∀ a v, es.getLast? = some (a, v) → a < 0xF000 → ∀ r, regRow a = some r → ¬ (0x1040 ≤ a ∧ a ≤ 0x105F) →
          ∀ i < 32, (BitVec.ofNat 32 r.rwl).getLsbD i = true → (BitVec.ofNat 32 r.w1c).getLsbD i = false →
          (t.reg a).getLsbD i = (BitVec.ofNat 32 v).getLsbD i) ∧
        t.saf.password = (swPassword es).getD s.saf.password ∧ t.saf.logNext = s.saf.logNext + items.length ∧
        t.saf.unlockTime = s.time ∧
        (∃ (log : List (List Byte)) (r : SafeRec) (a : Nat), log.length = items.length ∧
          (∀ i x, items[i]? = some x → ∃ e, log[i]? = some e ∧ u16 e 0 = (s.saf.logNext + 1 + i) % 65536 ∧
            u16 e 18 = x.param % 65536 ∧ u32 e 20 = x.old % 2 ^ 32 ∧ u32 e 24 = x.new % 2 ^ 32) ∧
          a = (if s.saf.copyA.valid && recA s then 1 else 0) ∧ r.password = t.saf.password ∧
          r.seq = (recSeq s + 1) % 2 ^ 32 ∧ (stored = true → r.logSeq = s.saf.logNext + items.length) ∧
          t.nvm.ops = s.nvm.ops ++ (appendOps s.saf.logNext log ++
            (if stored then [NvmKind.record a r, NvmKind.record (1 - a) { r with seq := (recSeq s + 2) % 2 ^ 32 }] else [])).map
              (fun k => ⟨k, some (s.cmd.seq % 65536), false⟩)) ∧
        Keeps (.cmd :: .regs :: .saf :: .nvm :: .tck :: es.flatMap (fun e => effectParts e.1)) s t) ∧
    (Runs 0x45 rq s → rq.payload.length = 4 → u16 rq.payload 0 ≤ 255 → inRange (u8 rq.payload 2) 1 127 = true →
      ∀ es, es = (s.saf.log.drop (u16 rq.payload 0)).take (u8 rq.payload 2) →
      ∃ t, exec (.logRead rq) s = .next t ∧ CmdFrame [] [] s t ∧
        Answers 0x45 rq St.ok (bytesLE 1 es.length ++ bytesLE 2 s.saf.log.length ++ es.flatten) s t)

/-- R241 to R243, R248, R350: the fault sources. A fall of a stop pin, a discrepancy of the pins for 10 ms, the loss of the master and
VLED overvoltage become active and ask for their mapped class; the release of both pins ends PIN_STOP and PIN_DISC. A source
mapped to class 0, or a hardware one, that comes with light on stops the part dark. -/
def Obligations.FaultSourcesAskForStops : Prop :=
  ∀ s : State, s.off = false →
    (∀ a b : Bool, (a || b) = true →
      ∃ t, exec (.safeStopPin a b) s = .next t ∧ t.saf.pinA = (s.saf.pinA && !a) ∧ t.saf.pinB = (s.saf.pinB && !b) ∧
        Src.pinStop ∈ t.saf.active ∧ (t.reg 0x801C).getLsbD Src.pinStop = true ∧
        (classOf s Src.pinStop = 0 → (s.lamp = Lamp.lit ∨ s.lamp = Lamp.fading ∨ s.lamp = Lamp.safeHold) → Stopped t) ∧
        EvFrame stopParts (F.SAF_PINS_STOP_CNT.addr :: stopWords) s t) ∧
    (∀ a b : Bool, ∃ t, exec (.stopPinRelease a b) s = .next t ∧ t.saf.pinA = (s.saf.pinA || a) ∧ t.saf.pinB = (s.saf.pinB || b) ∧
      (t.saf.pinA = true → t.saf.pinB = true → Src.pinStop ∉ t.saf.active ∧ Src.pinDisc ∉ t.saf.active ∧ t.saf.discStart = none) ∧
      t.saf.fade = s.saf.fade ∧ t.saf.switches = s.saf.switches ∧ Keeps [.saf] s t) ∧
    (s.saf.pinA ≠ s.saf.pinB → ∃ t, exec .pinDisc s = .next t ∧ Src.pinDisc ∈ t.saf.active ∧
      (t.reg 0x801C).getLsbD Src.pinDisc = true ∧
      (classOf s Src.pinDisc = 0 → (s.lamp = Lamp.lit ∨ s.lamp = Lamp.fading ∨ s.lamp = Lamp.safeHold) → Stopped t) ∧
      (∀ t0, s.saf.discStart = some t0 → t.time = max s.time (t0 + 1000000)) ∧ EvFrame (.time :: stopParts) stopWords s t) ∧
    (s.saf.pinA = s.saf.pinB → exec .pinDisc s = .next s) ∧
    (s.fb F.CMD_STATUS_MLOSS_RUN = false → ∃ t, exec .masterLoss s = .next t ∧ t.fb F.CMD_STATUS_MLOSS_RUN = true ∧
      Src.mloss ∈ t.saf.active ∧ (t.reg 0x801C).getLsbD Src.mloss = true ∧
      (classOf s Src.mloss = 0 → (s.lamp = Lamp.lit ∨ s.lamp = Lamp.fading ∨ s.lamp = Lamp.safeHold) → Stopped t) ∧
      t.time = max s.time (s.cmd.masterTime + 1000000 * s.f F.SAF_LIMITS_MLOSS) ∧ EvFrame (.time :: stopParts) stopWords s t) ∧
    (s.fb F.CMD_STATUS_MLOSS_RUN = true → exec .masterLoss s = .next s) ∧
    (∀ mv, 4500 ≤ mv → s.pwr.state ≠ .sleep → s.pwr.ovActive = false →
      ∃ t, exec (.vledOv mv) s = .next t ∧ t.pwr.ovActive = true ∧ t.pwr.vledMv = mv ∧ t.fb F.PWR_FLAGS_VLED_OV = true ∧
        t.f F.PWR_VLED_STAT_OV_CNT = satAdd F.PWR_VLED_STAT_OV_CNT.top (s.f F.PWR_VLED_STAT_OV_CNT) 1 ∧
        Src.vledOv ∈ t.saf.active ∧
        ((s.lamp = Lamp.lit ∨ s.lamp = Lamp.fading ∨ s.lamp = Lamp.safeHold) → Stopped t) ∧ EvFrame stopParts (F.PWR_VLED_STAT_OV_CNT.addr :: F.PWR_FLAGS_VLED_OV.addr :: stopWords) s t) ∧
    (∀ mv, mv < 4400 → s.pwr.ovActive = true → ∃ t, exec (.vledOvRelease mv) s = .next t ∧
      t.pwr = { s.pwr with vledMv := mv, ovActive := false } ∧ Src.vledOv ∉ t.saf.active ∧ Keeps [.pwr, .saf] s t)

/-- R232, R408: the undervoltage warning arms once VLED_SENSE has exceeded UV + 50 mV under VLED_EN; armed and below UV it
is active, counts and tells, once per episode, and pixel tests pause (R213); at UV + 50 mV it ends. VLED that has not risen 50 ms
after VLED_EN rose from DARK is told of, once. -/
def Obligations.TheUndervoltageWarningHasHysteresis : Prop :=
  ∀ (mv : Nat) (s : State),
    (s.fb F.SAF_STATE_VLED_EN = true → 10 * s.f F.PWR_VLED_CFG_UV + 50 < mv →
      exec (.vledUvArm mv) s = .next { s with pwr.vledMv := mv, pwr.uvArmed := true }) ∧
    (s.fb F.SAF_STATE_VLED_EN = true → s.saf.awaitArm = true → s.pwr.uvArmed = false → s.pwr.noRise = false →
      exec .vledNoRise s =
        .next ({ s with time := max s.time (s.pwr.vledOn + 5000000), pwr.noRise := true }.raise 0x85 (q4 s.pwr.vledMv))) ∧
    ((s.fb F.SAF_STATE_VLED_EN = false ∨ s.saf.awaitArm = false ∨ s.pwr.uvArmed = true ∨ s.pwr.noRise = true) →
      exec .vledNoRise s = .next s) ∧
    (s.pwr.uvArmed = true → s.pwr.uvActive = false → mv < 10 * s.f F.PWR_VLED_CFG_UV →
      ∃ t, exec (.vledUv mv) s = .next t ∧ t.pwr = { s.pwr with vledMv := mv, uvActive := true } ∧
        t.fb F.PWR_FLAGS_VLED_UV = true ∧
        t.f F.PWR_VLED_STAT_UV_CNT = satAdd F.PWR_VLED_STAT_UV_CNT.top (s.f F.PWR_VLED_STAT_UV_CNT) 1 ∧
        t.dia.running = false ∧
        EvFrame [.pwr, .dia] [F.PWR_VLED_STAT_UV_CNT.addr, F.PWR_FLAGS_VLED_UV.addr, 0x20C4] s t) ∧
    (10 * s.f F.PWR_VLED_CFG_UV + 50 ≤ mv →
      exec (.vledUvRelease mv) s = .next { s with pwr.vledMv := mv, pwr.uvActive := false })

/-- R23, R24, R235 to R237, R240: every CURRENT_REF_UPDATE of a fade sets the scale to G_c × F(t) / F_img, never above G_c;
ENVELOPE_CHECK keeps the measured current and, above the envelope and its tolerance in a fade, or above the budget and its
tolerance in SAFE_HOLD, takes the light away. The end of a class-1 fade is the class-0 removal; that of a class-2 fade is
SAFE_HOLD; that of a switch-off is DARK, with VLED_EN low. -/
def Obligations.FadesFollowTheirEnvelope : Prop :=
  ∀ s : State,
    (∀ f, s.saf.fade = some f →
      ∃ t, exec .currentRefUpdate s = .next t ∧ Keeps [.regs] s t ∧ KeepsRegs [F.DRV_SCALE_SCALE.addr] s t ∧
        t.f F.DRV_SCALE_SCALE ≤ s.f F.DRV_GOV_STAT_GC ∧
        (s.drv.shown.f ≠ 0 → t.f F.DRV_SCALE_SCALE = min (min 0x8000 (s.f F.DRV_GOV_STAT_GC * (fadeF s s.time).1 * 0x8000 /
          ((fadeF s s.time).2 * s.drv.shown.f))) (s.f F.DRV_GOV_STAT_GC)) ∧
        (s.drv.shown.f = 0 → t.f F.DRV_SCALE_SCALE = 0)) ∧
    (s.saf.fade = none → exec .currentRefUpdate s = .next s) ∧
    (∀ imeas e, (s.saf.fade.isSome = true ∨ s.lamp = Lamp.safeHold) →
      e = (match s.saf.fade with | some f => f.env s.time | none => s.budgetMa) →
      ∃ t, exec (.envelopeCheck imeas) s = .next t ∧ t.f F.DRV_IMEAS_IMEAS = min 65535 imeas ∧
        (e * (100 + s.f F.SAF_ENV_TOL) + 100 * s.f F.SAF_ENV_OFS < imeas * 100 →
          (s.lamp = Lamp.lit ∨ s.lamp = Lamp.fading ∨ s.lamp = Lamp.safeHold) →
          Stopped t ∧ t.f F.SAF_STATE_CLASS = 0 ∧ t.f F.SAF_STATE_SOURCE = Src.envelope) ∧
        (imeas * 100 ≤ e * (100 + s.f F.SAF_ENV_TOL) + 100 * s.f F.SAF_ENV_OFS →
          Keeps [.regs] s t ∧ KeepsRegs [0x6014, 0x8020] s t) ∧
        EvFrame stopParts (0x6014 :: stopWords) s t) ∧
    (∀ f, s.saf.fade = some f → f.kind = .class1 →
      ∃ t, exec .class1FadeEnd s = .next t ∧ Stopped t ∧ t.saf.fade = none ∧ t.time = max s.time f.stop ∧
        EvFrame (.time :: stopParts) [0x20C4, 0x8000] s t) ∧
    (∀ f, s.saf.fade = some f → f.kind = .class2 →
      ∃ t, exec .class2FadeEnd s = .next t ∧ t.lamp = Lamp.safeHold ∧ t.saf = { s.saf with fade := none } ∧
        t.time = max s.time f.stop ∧ t.f F.DRV_SCALE_SCALE = s.f F.DRV_GOV_STAT_GC ∧
        EvFrame (.time :: stopParts) [0x20C4, 0x8000, 0x605C] s t) ∧
    (∀ f, s.saf.fade = some f → f.kind = .switchOff →
      ∃ t, exec .switchOffEnd s = .next t ∧ t.lamp = Lamp.dark ∧ Dark t ∧ t.saf.fade = none ∧
        t.fb F.SAF_STATE_LATCHED = s.fb F.SAF_STATE_LATCHED ∧ t.time = max s.time f.stop ∧
        EvFrame (.time :: stopParts) [0x20C4, 0x8000] s t)

/-! ### Power states and clocks -/

/-- R387, R389, R390, R395, R399, R400, R412, R413: PWR_STATE. ACTIVE leaves HOLD at the next tick and is answered at once;
HOLD is asked for at the next tick, IDLE and SLEEP wait for their entry after ACCEPTED; a refuser refuses with the lowest and
the mask, is recorded, and changes nothing else. CLK_SWITCH toward the source in force is answered OK, toward the other it starts,
unless the crystal has failed or the lamp is lit. -/
def Obligations.PowerCommandsAct : Prop :=
  ∀ (rq : Req) (s : State),
    (Runs 0x48 rq s → rq.payload.length = 4 → ∀ target, target = u8 rq.payload 0 →
      (bitOf (u8 rq.payload 1) 0 = true → target = 2 ∧ rq.bcast = true) →
      ∀ u, u = leaveHold { startCommand 0x48 true rq s with pwr.holdCmd := s.pwr.state == .hold } →
      (target = 0 →
        ∃ t, exec (.pwrStateActive rq) s = .next t ∧ t.pwr = u.pwr ∧ CmdFrame [.pwr] [] s t ∧
          Answers 0x48 rq St.ok (pwrBody (pwrCode s.pwr.state) 0xFF 0 s.tck.frame) s t) ∧
      (target = 1 → s.pwr.state ≠ .hold → refusing (startCommand 0x48 true rq s) 1 = 0 →
        ∃ t, exec (.pwrStateHold rq) s = .next t ∧ t.pwr = { s.pwr with holdReq := some ⟨.command, s.tck.frame, false⟩ } ∧
          CmdFrame [.pwr] [] s t ∧ Answers 0x48 rq St.ok (pwrBody (pwrCode s.pwr.state) 0xFF 0 (s.tickNo 1)) s t) ∧
      (target = 1 → s.pwr.state = .hold →
        ∃ t, exec (.pwrStateHold rq) s = .next t ∧ CmdFrame [] [] s t ∧
          Answers 0x48 rq St.ok (pwrBody 1 0xFF 0 s.pwr.entryTick) s t) ∧
      (target = 2 → refusing u 2 = 0 → s.longRunning < 8 →
        ∃ t, exec (.pwrStateIdle rq) s = .next t ∧ Accepts 0x48 rq [] s t ∧ CmdFrame [.pwr] [] s t ∧
          t.pwr = { u.pwr with idleReq := some ⟨.command, s.tck.frame, false⟩, ringL2 := bitOf (u8 rq.payload 1) 0 }) ∧
      (target = 3 → refusing u 3 = 0 → s.longRunning < 8 →
        ∃ t, exec (.pwrStateSleep rq) s = .next t ∧ Accepts 0x48 rq [] s t ∧ CmdFrame [.pwr] [] s t ∧
          t.pwr = { u.pwr with idleReq := some ⟨.command, s.tck.frame, false⟩, sleepReq := some ⟨.command, s.tck.frame, false⟩ }) ∧
      (∀ m c, (target = 1 ∧ c = .pwrStateHold rq ∧ s.pwr.state ≠ .hold ∧ m = refusing (startCommand 0x48 true rq s) 1 ∨
          target = 2 ∧ c = .pwrStateIdle rq ∧ m = refusing u 2 ∨ target = 3 ∧ c = .pwrStateSleep rq ∧ m = refusing u 3) → m ≠ 0 →
        ∃ t, exec c s = .next t ∧ t.pwr = s.pwr ∧ t.fb F.PWR_FLAGS_REFUSED = true ∧ t.f F.PWR_REFUSE_LAST_TARGET = target ∧
          Answers 0x48 rq St.refusedState (pwrBody (pwrCode s.pwr.state) (lowestBit 12 0 m) m s.tck.frame) s t ∧
          CmdFrame [.snp] (eventRegs ++ [0xC004, 0xC010, 0xC014, 0xC018, 0xC01C]) s t)) ∧
    (Runs 0x49 rq s → rq.payload.length = 4 → ∀ sel c, (sel = 0 ∧ c = .clkSwitch rq ∨ sel = 1 ∧ c = .clkSwitchFrc rq) →
      u8 rq.payload 0 = sel →
      (s.f F.PWR_CLK_SEL = sel →
        ∃ t, exec c s = .next t ∧ CmdFrame [] [] s t ∧ Answers 0x49 rq St.ok (clkBody s 0) s t) ∧
      (s.f F.PWR_CLK_SEL ≠ sel → s.pwr.clk = none → (sel = 0 → s.fb F.PWR_CLK_XTAL_OK = true) →
        (sel = 1 → s.lamp ≠ Lamp.lit ∧ s.lamp ≠ Lamp.fading) → s.longRunning < 8 →
        ∃ t, exec c s = .next t ∧ Accepts 0x49 rq [] s t ∧ (∃ locks, t.pwr = { s.pwr with clk := some ⟨sel == 0, s.time, locks⟩ }) ∧
          CmdFrame [.pwr, .fresh] [] s t) ∧
      (s.f F.PWR_CLK_SEL ≠ sel → s.pwr.clk = none → sel = 0 → s.fb F.PWR_CLK_XTAL_OK = false →
        ∃ t, exec c s = .next t ∧ CmdFrame [] [] s t ∧ Answers 0x49 rq St.refusedState (clkBody s 1) s t) ∧
      (s.f F.PWR_CLK_SEL ≠ sel → s.pwr.clk = none → sel = 1 → (s.lamp = Lamp.lit ∨ s.lamp = Lamp.fading) →
        ∃ t, exec c s = .next t ∧ CmdFrame [] [] s t ∧ Answers 0x49 rq St.refusedState (clkBody s 3) s t))

/-- R388 to R393, R396, R397, R401, R404: the timers ask for their states; at a tick after the request, with no refuser, HOLD
freezes composition; a request for IDLE made in HOLD ends HOLD first, and IDLE is entered at the tick at which HOLD ends; IDLE stops the tick and the core PLL, stores the retention CRCs and drops the snapshot and the fault
list; a cause ends HOLD at its tick and IDLE at once, with the clocks, the tick and the banks that were LOST; SLEEP runs its
saves, waits for them, and 1.0 ms later switches off everything but AON; the Rooster ends IDLE. -/
def Obligations.PowerStatesAreEnteredAndLeft : Prop :=
  ∀ s : State,
    (s.pwr.state = .active → s.tck.running = true → s.pwr.holdReq = none → holdDue s = true →
      exec .holdRequest s = .next { s with pwr.holdReq := some ⟨.timer, s.tck.frame, false⟩ }) ∧
    (∀ r, s.pwr.holdReq = some r → s.pwr.state = .active → atTickAfter s r.frame = true →
      (r.by_ ≠ .timer ∨ holdDue s = true) → refusing s 1 = 0 →
      ∃ t, exec .holdEntry s = .next t ∧ t.pwr.state = .hold ∧ t.pwr.holdReq = none ∧ t.pwr.entryTick = s.tck.frame ∧
        t.dia.running = false ∧ t.tck = s.tck ∧ t.lyr = s.lyr ∧ t.obj = s.obj ∧ t.saf = s.saf ∧ t.hlv = s.hlv ∧ t.drv.front = s.drv.front ∧
        EvFrame [.pwr, .dia, .drv] [0x20C4] s t) ∧
    (∀ f, s.pwr.holdExit = some f → s.pwr.state = .hold → atTickAfter s f = true →
      ∃ t, exec .holdExit s = .next t ∧ t.pwr = { s.pwr with state := .active, holdExit := none, holdCmd := false } ∧
        EvFrame [.pwr] [] s t) ∧
    (∀ n, n = s.f F.PWR_TMR_A_IDLE_T → n ≠ 0 → (s.pwr.state = .active ∨ s.pwr.state = .hold) → s.elapsedRuns = true →
      s.pwr.idleReq = none → s.off = false → s.sys.phase = .run →
      ∃ t, exec .idleTimer s = .next t ∧ t.time = max s.time (s.pwr.elapsed0 + 100000000 * (n - s.pwr.elapsedKept)) ∧
        t.pwr.idleReq = some ⟨.timer, s.tck.frame, false⟩ ∧
        (s.pwr.state = .hold → t.pwr.holdExit = some (s.pwr.holdExit.getD s.tck.frame)) ∧ Keeps [.time, .pwr] s t) ∧
    (∀ r f, s.pwr.idleReq = some r → s.pwr.state = .hold → s.pwr.holdExit = some f → atTickAfter s f = true →
      exec (.idleEntry none) s = .next s ∧
      ∃ u, exec .holdExit s = .next u ∧ u.pwr.state = .active ∧ u.pwr.idleReq = some r ∧
        (atTickAfter s r.frame = true → refusing u 2 = 0 → ∃ t, exec (.idleEntry none) u = .next t ∧ t.pwr.state = .idle ∧
          t.tck.running = false ∧ t.pwr.entryTick = s.tck.frame ∧ t.lyr = s.lyr ∧ t.saf = s.saf)) ∧
    (∀ r, s.pwr.idleReq = some r → s.pwr.state = .active → atTickAfter s r.frame = true → refusing s 2 = 0 →
      ∃ t, exec (.idleEntry none) s = .next t ∧ t.pwr.state = .idle ∧ t.tck.running = false ∧ t.fb F.PWR_CLK_PLL_LOCK = false ∧
        t.f F.TCK_TIME_Q_SRC = 2 ∧ t.pwr.entryTick = s.tck.frame ∧ t.pwr.elapsed0 = s.time ∧ t.pwr.idleReq = none ∧
        t.dia.faults = [] ∧ t.dia.map = s.dia.map ∧
        t.lyr = s.lyr ∧ t.obj = s.obj ∧ t.saf = s.saf ∧ t.hlv = s.hlv ∧ t.thm = s.thm ∧ t.time = s.time) ∧
    (∀ bad lost, s.pwr.state = .idle → s.pwr.idleExit = true →
      lost = ((bad % 2 ^ 32) ||| (0xFFFFFFFF - (s.reg 0xC024).toNat) ||| s.pwr.marched) →
      ∃ t, exec (.idleExit bad) s = .next t ∧ t.pwr.state = .active ∧ t.tck.running = true ∧ t.pwr.idleExit = false ∧
        t.reg 0xC028 = BitVec.ofNat 32 lost ∧ t.pwr.idleReq = none ∧ t.pwr.sleepReq = none) ∧
    (∀ n, n = s.f F.PWR_TMR_B_SLEEP_T → n ≠ 0 → s.pwr.state = .idle → s.pwr.sleepReq = none → s.pwr.idleExit = false →
      exec .sleepTimer s = .next { s with time := max s.time (s.pwr.elapsed0 + 100000000 * (n - s.pwr.elapsedKept)),
                                          pwr.sleepReq := some ⟨.timer, s.tck.frame, false⟩ }) ∧
    (∀ r, s.pwr.sleepReq = some r → s.pwr.state = .idle → s.pwr.idleExit = false →
      (s.pwr.sleepStage = 0 → refusing s 3 = 0 → ∃ t, exec (.sleepEntry none) s = .next t ∧ t.pwr.sleepStage = 1 ∧
        t.pwr.state = .idle ∧ t.time = s.time ∧ (s.pwr.tested = false → t.nvm.test.isSome = true)) ∧
      (s.pwr.sleepStage = 1 → s.nvm.test = none → s.nvm.ops = [] → ∃ t, exec (.sleepEntry none) s = .next t ∧
        t.pwr = { s.pwr with sleepStage := 2, sleepTime := s.time } ∧ CmdFrame [.pwr] [F.HLV_JOURNAL_REPLAYED.addr] s t) ∧
      (s.pwr.sleepStage = 2 → ∃ t, exec (.sleepEntry none) s = .next t ∧ t.pwr.state = .sleep ∧ t.pending = s.pending ∧
        t.lamp = Lamp.dark ∧ t.saf.switches = false ∧ t.tck.running = false ∧ t.drv.front = [] ∧ t.cmd.inbox = [] ∧
        t.saf.password = s.saf.password)) ∧
    (∀ mv, s.pwr.state = .idle → s.sys.phase ≠ .inReset → s.pwr.roosterOut = false → roosterLevel s mv = true →
      s.fb F.PWR_ROOSTER_EN = true →
      ∃ t, exec (.roosterEdge mv) s = .next t ∧ t.pwr.idleExit = true ∧ t.pwr.wakeMv = mv ∧ t.pwr.roosterOut = true ∧ Keeps [.pwr] s t) ∧
    (s.pwr.state = .sleep → exec .lpoStop s = .next { s with pwr.lpoStopped := true })

/-- R31, R399, R403, R405 to R407: the loss of the core PLL moves the domains to FRC, keeps the instant of the next tick,
suppresses the swap and raises its source; a PLL that has not locked in 1.0 ms (whether it locks is a free value, notes/assumptions/5.md) ends its CLK_SWITCH; LPO_MEASURE keeps the AON period; a lamp minute
counts, and every sixth is stored; VSUP below 1.66 V suspends a running eNVM operation, the dip is counted with its
lowest voltage at 1.70 V, and what it held goes on 1.0 ms later; that the value a row brings is the one VSUP_MV shows, for 100 µs, is
the model's choice (notes/assumptions/63.md). -/
def Obligations.ClocksAndSuppliesAreWatched : Prop :=
  ∀ s : State,
    (s.off = false → s.onFrc = false → s.pwr.state ≠ .idle →
      ∃ t, exec .corePllLoss s = .next t ∧ t.onFrc = true ∧ t.fb F.PWR_CLK_PLL_LOCK = false ∧ t.f F.TCK_TIME_Q_Q = 2 ∧
        t.f F.TCK_STATUS_SRC_ACT = 2 ∧ t.fb F.TCK_STATUS_LOCKED = false ∧
        t.tck.planned = some s.nextExact ∧ Src.corePll ∈ t.saf.active ∧ (t.reg 0x801C).getLsbD Src.corePll = true ∧
        t.drv.noSwap = true ∧
        EvFrame (.tck :: stopParts) (0xC050 :: 0x3020 :: F.TCK_STATUS_LOCKED.addr :: stopWords) s t) ∧
    (∀ c, s.pwr.clk = some c → c.toPll = true → c.locks = false →
      ∃ t, exec .pllLockTimeout s = .next t ∧ t.pwr = { s.pwr with clk := none } ∧ t.time = max s.time (c.start + 100000) ∧
        CmdFrame [.time, .pwr] [] s t) ∧
    (s.pwr.clk = none → exec .pllLockTimeout s = .next s) ∧
    (∀ p, s.off = false → s.onFrc = false → s.pwr.state ≠ .idle →
      exec (.lpoMeasure p) s = .next (s.setReg 0xC048 (BitVec.ofNat 32 p))) ∧
    (s.off = false → (s.lamp = Lamp.lit ∨ s.lamp = Lamp.fading ∨ s.lamp = Lamp.safeHold) →
      ∃ t, exec .lampMinute s = .next t ∧ t.f F.PWR_HOURS_MINUTES = (s.minutes + 1) % 2 ^ 32 ∧
        ((s.minutes + 1) % 6 ≠ 0 → t.nvm = s.nvm) ∧
        ((s.minutes + 1) % 6 = 0 → ∃ d, t.nvm.ops = s.nvm.ops ++ [⟨.life d, none, false⟩] ∧ d.seq = s.nvm.life.seq + 1) ∧
        t.time = max s.time (s.pwr.lampFrom + (6000000000 - s.pwr.lampPart)) ∧
        t.pwr = { s.pwr with lampFrom := t.time, lampPart := 0 } ∧
        Keeps [.regs, .nvm, .time, .pwr] s t ∧ KeepsRegs [F.PWR_HOURS_MINUTES.addr] s t) ∧
    (∀ mv, mv < 1660 → s.pwr.dip = none → ResetKind.por ∉ s.sys.causes → ResetKind.bor ∉ s.sys.causes →
      ∃ t, exec (.vsupWarn mv) s = .next t ∧ t.pwr = { s.pwr with dip := some (s.time, mv), dipBefore := 0, vsupMv := mv, vsupAt := s.time } ∧
        (s.nvm.started = true → s.nvm.suspended = none → t.nvm.suspended = some s.time) ∧ t.nvm.ops = s.nvm.ops ∧
        Keeps [.pwr, .nvm] s t) ∧
    (∀ t0 m minMv mv, s.pwr.dip = some (t0, m) → 1700 ≤ mv →
      ∃ t, exec (.dipEnd minMv mv) s = .next t ∧ t.pwr = { s.pwr with dip := none, vsupMv := mv, vsupAt := s.time } ∧
        t.f F.PWR_DIP_DIP_CNT = satAdd F.PWR_DIP_DIP_CNT.top (s.f F.PWR_DIP_DIP_CNT) 1 ∧
        t.f F.PWR_DIP_MIN_MV = min (min m minMv) (s.f F.PWR_DIP_MIN_MV) ∧
        (s.off = false → t.fb F.PWR_FLAGS_SUPPLY_WARN = true) ∧
        (s.off = true ∨ (s.nvm.suspended = none ∧ s.nvm.ops = [] ∧ s.nvm.test = none) → t.nvm = s.nvm) ∧
        (s.off = false → s.nvm.suspended ≠ none ∨ s.nvm.ops ≠ [] ∨ s.nvm.test ≠ none →
          t.nvm = { s.nvm with resumeAt := some (s.time + 100000) }) ∧
        EvFrame [.pwr, .nvm] [0xC030, 0xC004] s t)

/-! ### Check-value engines and snapshots -/

/-- R364 to R369, R381, R382: CHK_RUN on an idle engine. A short one feeds its bytes at once, from the running value as it
stands or, with INIT, from the initial value, and answers OK; a long one is accepted and fed piece by piece, whose last piece
answers it; a busy engine and a source that names nothing, a FREE buffer among them, are refused; a run over registers reads its first word as the latch of R10 holds it, and sets and uses up
no latch (the model's choice, notes/assumptions/61.md); CHK_CTX reads the context, writes it while nothing runs, and aborts a run. -/
def Obligations.CheckEnginesFeedTheirBytes : Prop :=
  ∀ (rq : Req) (s : State) (n : Nat), n = u8 rq.payload 0 % 4 →
    (∀ src a base L, Runs 0x58 rq s → chkLenOk rq.payload = true → (chkEng s n).run = none → src = u8 rq.payload 1 % 4 →
      a = u32 rq.payload 4 → chkSource s src (u8 rq.payload 2 % 64) a (u32 rq.payload 8) = .ok (base, L) →
      ∀ p v, p = (if bitOf (u8 rq.payload 0) 4 then s.f (chkF F.CHK_0_CTRL_POLY n) else (chkEng s n).poly) →
      v = (if bitOf (u8 rq.payload 0) 4 then
            (if s.fb (chkF F.CHK_0_CTRL_INIT_SEL n) then s.f (chkF F.CHK_0_INIT_INIT n) else (crcAlg p).init)
          else s.f (chkF F.CHK_0_RUN_RUN n)) % 2 ^ (crcAlg p).width →
      ∀ c0, c0 = (if bitOf (u8 rq.payload 0) 4 then 0 else s.f (chkF F.CHK_0_COUNT_COUNT n)) →
      (chkLong src a (u32 rq.payload 8) = false →
        ∃ t bs, exec (.chkRun rq) s = .next t ∧ Answers 0x58 rq St.ok (chkReply t n L) s t ∧ bs.length = L ∧
          (src = 3 → bs = (rq.payload.drop 16).take L) ∧
          (src < 2 → bs = (startCommand 0x58 false rq s).storeBytes base L) ∧
          (src = 2 → bs = regBytes (startCommand 0x58 false rq s) base (L / 4)) ∧
          t.f (chkF F.CHK_0_RUN_RUN n) = crcFeed (crcAlg p) v bs % 2 ^ 32 ∧
          t.f (chkF F.CHK_0_COUNT_COUNT n) = (c0 + L) % 2 ^ 32 ∧ (chkEng t n).poly = p ∧
          t.f (chkF F.CHK_0_STAT_SOURCE n) = src ∧ t.f (chkF F.CHK_0_STAT_STREAM n) = rq.stream % 8 ∧
          t.f (chkF F.CHK_0_STAT_LAST_STATUS n) = St.ok ∧ (∀ m, m ≠ n → chkEng t m = chkEng s m) ∧
          CmdFrame [.chk, .fresh] [0xA008 + 0x20 * n, 0xA010 + 0x20 * n, 0xA014 + 0x20 * n] s t) ∧
      (chkLong src a (u32 rq.payload 8) = true → s.longRunning < 8 →
        ∃ t, exec (.chkRun rq) s = .next t ∧ Accepts 0x58 rq [] s t ∧ chkEng t n = ⟨some ⟨src, base, L, 0⟩, p⟩ ∧
          (∀ m, m ≠ n → chkEng t m = chkEng s m) ∧
          (bitOf (u8 rq.payload 0) 4 = true → t.f (chkF F.CHK_0_RUN_RUN n) = v % 2 ^ 32 ∧ t.f (chkF F.CHK_0_COUNT_COUNT n) = 0) ∧
          CmdFrame [.chk] [0xA008 + 0x20 * n, 0xA010 + 0x20 * n, 0xA014 + 0x20 * n] s t)) ∧
    (∀ st, Runs 0x58 rq s → chkLenOk rq.payload = true →
      ((chkEng s n).run ≠ none ∧ st = St.busy ∨ (chkEng s n).run = none ∧ st ≠ St.bufLost ∧
        chkSource s (u8 rq.payload 1 % 4) (u8 rq.payload 2 % 64) (u32 rq.payload 4) (u32 rq.payload 8) = .error st) →
      ∃ t, exec (.chkRun rq) s = .next t ∧ Refuses 0x58 rq st s t) ∧
    (∀ d, d < 64 → s.bufState d = 0 → s.bufLost d = false → ∀ a len, chkSource s 1 d a len = .error St.badParam) ∧
    (∀ r k, s.executes = true → chkNext s = some n → (chkEng s n).run = some r → k = min 4096 (r.length - r.fed) →
      ∃ t bs, exec .chkRunPiece s = .next t ∧ bs.length ≤ k ∧ t.chkTurn = n ∧
        (r.source < 2 → bs = s.storeBytes (r.addr + r.fed) k) ∧
        (r.source = 2 → bs = ((regBytes s r.addr (r.length / 4)).drop r.fed).take k) ∧
        t.f (chkF F.CHK_0_RUN_RUN n) = crcFeed (crcAlg (chkEng s n).poly)
          (s.f (chkF F.CHK_0_RUN_RUN n) % 2 ^ (crcAlg (chkEng s n).poly).width) bs % 2 ^ 32 ∧
        t.f (chkF F.CHK_0_COUNT_COUNT n) = (s.f (chkF F.CHK_0_COUNT_COUNT n) + bs.length) % 2 ^ 32 ∧
        (r.fed + k < r.length → chkEng t n = ⟨some { r with fed := r.fed + k }, (chkEng s n).poly⟩ ∧ t.cmd.out = s.cmd.out) ∧
        (r.fed + k = r.length → chkEng t n = ⟨none, (chkEng s n).poly⟩ ∧ t.f (chkF F.CHK_0_STAT_LAST_STATUS n) = St.ok) ∧
        (∀ m, m ≠ n → chkEng t m = chkEng s m) ∧
        EvFrame [.chk, .chkTurn, .fresh] [0x20C4, F.HLV_JOURNAL_REPLAYED.addr, 0xA008 + 0x20 * n, 0xA010 + 0x20 * n, 0xA014 + 0x20 * n] s t) ∧
    (Runs 0x59 rq s → rq.payload.length = 20 →
      (u8 rq.payload 1 % 4 = 0 →
        ∃ t, exec (.chkCtxRead rq) s = .next t ∧ CmdFrame [] [] s t ∧ Answers 0x59 rq St.ok (chkCtx s n 0) s t) ∧
      (u8 rq.payload 1 % 4 = 1 → (chkEng s n).run = none →
        ∃ t, exec (.chkCtxWrite rq) s = .next t ∧ t.f (chkF F.CHK_0_RUN_RUN n) = u32 rq.payload 4 ∧
          t.f (chkF F.CHK_0_COUNT_COUNT n) = u32 rq.payload 8 ∧
          t.reg (0xA000 + 0x20 * n) = BitVec.ofNat 32 (u8 rq.payload 12 &&& 0x33) ∧
          t.f (chkF F.CHK_0_INIT_INIT n) = u32 rq.payload 16 ∧ chkEng t n = ⟨none, u8 rq.payload 12 % 4⟩ ∧
          Answers 0x59 rq St.ok (chkCtx t n 1) s t ∧
          CmdFrame [.chk] [0xA000 + 0x20 * n, 0xA004 + 0x20 * n, 0xA008 + 0x20 * n, 0xA010 + 0x20 * n] s t) ∧
      (u8 rq.payload 1 % 4 = 2 →
        ∃ t, exec (.chkCtxAbort rq) s = .next t ∧ (chkEng t n).run = none ∧ SendsLast (replyOf 0x59 rq true St.ok (chkCtx t n 2) s.cmd.seq) s t ∧
          ((chkEng s n).run = none → t.chk = s.chk ∧ KeepsRegs replyRegs s t) ∧
          ((chkEng s n).run ≠ none → t.f (chkF F.CHK_0_STAT_LAST_STATUS n) = St.aborted) ∧
          t.f (chkF F.CHK_0_RUN_RUN n) = s.f (chkF F.CHK_0_RUN_RUN n) ∧ t.f (chkF F.CHK_0_COUNT_COUNT n) = s.f (chkF F.CHK_0_COUNT_COUNT n) ∧
          CmdFrame [.chk, .snp] ((0xA014 + 0x20 * n) :: eventRegs) s t))

/-- R373 to R377, R383, R384: SNAP_ARM writes the arming and, with NOW, takes a snapshot and leaves the unit armed as asked;
an edge on SNAP_IO takes one where the unit is armed for it and counts as missed where not; a snapshot holds the words of the
copied ranges, its header the instant; with DRIVE the pull on SNAP_IO is noted from its instant (`snp.pull`); SNAP_READ answers them. -/
def Obligations.SnapshotsAreArmedTakenAndRead : Prop :=
  ∀ (rq : Req) (s : State),
    (∀ a, Mem.read 0 (snapWords s) a = if isReg a = true ∧ inSnap a = true then s.peek a else 0) ∧
    (Runs 0x50 rq s → rq.payload.length = 8 →
      ∃ t, exec (.snapArm rq) s = .next t ∧ t.f F.SNP_ID_ARM_ID = u16 rq.payload 0 ∧
        t.f F.SNP_CTRL_TRIGGERS = u8 rq.payload 2 % 8 ∧ t.f F.SNP_CTRL_DRIVE = u8 rq.payload 3 % 2 ∧
        t.f F.SNP_CTRL_FAULTS = u8 rq.payload 4 ∧
        Answers 0x50 rq St.ok (bytesLE 1 (snpState t) ++ [0, 0] ++ bytesLE 4 (t.peek 0xB00C).toNat) s t ∧
        (bitOf (u8 rq.payload 2) 3 = false → t.snp = s.snp ∧ CmdFrame [] [0xB000, 0xB004] s t) ∧
        (bitOf (u8 rq.payload 2) 3 = true →
          ∃ w, t.snp.store = some ⟨u16 rq.payload 0, 3, s.tck.frame, s.tck.row, s.time, 0, w⟩ ∧
            t.snp.pull = (if u8 rq.payload 3 % 2 = 1 then some s.time else s.snp.pull) ∧
            t.f F.SNP_CNT_TAKEN_CNT = satAdd F.SNP_CNT_TAKEN_CNT.top (s.f F.SNP_CNT_TAKEN_CNT) 1 ∧
            CmdFrame [.snp] (0xB004 :: eventRegs) s t)) ∧
    (s.off = true → exec .snapIoEdge s = .next s) ∧
    (s.off = false → bitOf (s.f F.SNP_CTRL_TRIGGERS) 0 = true →
      ∃ t, exec .snapIoEdge s = .next t ∧ t.f F.SNP_CTRL_TRIGGERS = 0 ∧
        t.snp = { s.snp with store := some ⟨s.f F.SNP_ID_ARM_ID, 0, s.tck.frame, s.tck.row, s.time, 0, snapWords s⟩ } ∧
        t.f F.SNP_CNT_TAKEN_CNT = satAdd F.SNP_CNT_TAKEN_CNT.top (s.f F.SNP_CNT_TAKEN_CNT) 1 ∧ EvFrame [] [] s t) ∧
    (s.off = false → bitOf (s.f F.SNP_CTRL_TRIGGERS) 0 = false → exec .snapIoEdge s = .next (s.bump F.SNP_CNT_MISSED_CNT)) ∧
    (∀ a n, Runs 0x51 rq s → rq.payload.length = 8 → a = u32 rq.payload 0 → n = u16 rq.payload 4 → a % 4 = 0 → n ≤ 1014 →
      (∀ p, s.snp.store = some p →
        ∃ t, exec (.snapRead rq) s = .next t ∧ CmdFrame [] [] s t ∧
          Answers 0x51 rq St.ok (bytesLE 1 (snpState s) ++ [0, 0] ++ bytesLE 2 p.id ++ bytesLE 1 p.src ++ [0] ++
            bytesLE 4 p.frame ++ bytesLE 8 p.time ++ bytesLE 2 p.row ++ bytesLE 2 p.srcId ++
            (List.range n).flatMap (fun i => bytesLE 4 (Mem.read 0 p.words (a + 4 * i)).toNat)) s t) ∧
      (s.snp.store = none → ∃ t, exec (.snapRead rq) s = .next t ∧ Refuses 0x51 rq St.refusedState s t))

/-! ### The eNVM, firmware and the self-tests -/

/-- R461, R462, R466: NVM_READ and BIST_RESULT answer their bytes; NVM_WRITE queues one program for each page its data falls
in, and the marker with END in the fallback region, NVM_ERASE the erase of a page: the command is accepted until the last of
them ends. A range that leaves the writable regions, and an active THERM_SD, program nothing. -/
def Obligations.EnvmIsReadAndWritten : Prop :=
  ∀ (rq : Req) (s : State) (a n : Nat), a = u32 rq.payload 0 →
    (Runs 0x60 rq s → rq.payload.length = 8 → nvmReadWaits rq s = false → n = u16 rq.payload 4 → a % 4 = 0 → n % 4 = 0 →
      inRange n 4 4064 = true → a + n ≤ 0x800000 →
      ∃ t, exec (.nvmRead rq) s = .next t ∧ CmdFrame [] [] s t ∧
        Answers 0x60 rq St.ok (zeros 3 ++ bytesLE 4 a ++ (natsFrom a n).map (nvmByte s)) s t) ∧
    (∀ o src, Runs 0x69 rq s → rq.payload.length = 8 → src = u8 rq.payload 0 → o = u16 rq.payload 4 → n = u16 rq.payload 6 → src ≤ 2 →
      o % 4 = 0 → n % 4 = 0 → inRange n 4 4064 = true → o + n ≤ 16384 →
      ∀ c, (src = 1 → c = 0) → (src = 2 → c = 1) → (src = 0 → c = (match bistNewest s with | some e => e.1 | none => 0)) →
      ∀ r, r = (if c = 0 then s.nvm.bistA else s.nvm.bistB) →
      ∃ t, exec (.bistResult rq) s = .next t ∧ CmdFrame [] [] s t ∧
        (r.valid = true → bistStands s c r = (r.complete, r.seq)) ∧
        Answers 0x69 rq St.ok (bytesLE 1 (b2n r.valid) ++ bytesLE 1 (b2n (bistStands s c r).1) ++ [0] ++
          bytesLE 4 (bistStands s c r).2 ++ bytesLE 4 o ++ (natsFrom (0x540000 + 0x4000 * c + o) n).map (nvmByte s)) s t) ∧
    (∀ (d : List Byte), d.length ≤ 4072 → (pagePieces 2 a d).flatMap Prod.snd = d ∧
      ∀ e ∈ pagePieces 2 a d, e.2 ≠ [] ∧ e.1 % 4096 + e.2.length ≤ 4096) ∧
    (∀ c ks, Runs 0x61 rq s → rq.bcast = false → a % 4 = 0 →
      (c = .nvmWrite rq ∧ inRange rq.payload.length 8 4080 = true ∧ bitOf (u8 rq.payload 4) 0 = false ∧
          writableRange a (max 1 (rq.payload.length - 8)) = true ∧
          ks = (pagePieces 2 a (rq.payload.drop 8)).map (fun e => .page e.1 e.2) ++
            (if a < 0x500000 ∧ bitOf (u8 rq.payload 4) 1 = true then [.marker] else []) ∨
        c = .nvmErase rq ∧ rq.payload.length = 8 ∧ bitOf (u8 rq.payload 4) 0 = true ∧ writableRange a 1 = true ∧
          ks = [.erase (a / 4096 * 4096)]) →
      (s.sdActive = false → ks ≠ [] → s.longRunning < 8 →
        ∃ t, exec c s = .next t ∧ Accepts 0x61 rq [] s t ∧ CmdFrame [.nvm] [] s t ∧
          t.nvm = { s.nvm with ops := s.nvm.ops ++ ks.map (fun k => ⟨k, some (s.cmd.seq % 65536), false⟩),
                               started := s.nvm.started || !s.dipHolds }) ∧
      (s.sdActive = false → ks = [] → s.longRunning < 8 →
        ∃ t, exec c s = .next t ∧ CmdFrame [] [] s t ∧ SendsLast (replyOf 0x61 rq true St.ok (zeros 7) s.cmd.seq) s t) ∧
      (s.sdActive = true → ∃ t, exec c s = .next t ∧ CmdFrame [] [] s t ∧ Answers 0x61 rq St.refusedState (zeros 7) s t)) ∧
    (Runs 0x61 rq s → rq.bcast = false → a % 4 = 0 → inRange rq.payload.length 8 4080 = true →
      bitOf (u8 rq.payload 4) 0 = false → writableRange a (max 1 (rq.payload.length - 8)) = false →
      ∃ t, exec (.nvmWrite rq) s = .next t ∧ Refuses 0x61 rq St.range s t)

/-- R447, R448, R463, R464: FW_STAGE with START on the idle slot opens the fill: the slot's first page is programmed with
activation number 0, and its bytes wait until a page is covered; END with nothing left to program checks the slot (R445); a slot
that is not idle is refused. FW_ACTIVATE programs the first page of a valid slot with the number one above the higher one,
modulo 2^32; it programs nothing for the boot slot, and refuses an invalid one. -/
def Obligations.FirmwareIsStagedAndActivated : Prop :=
  ∀ (rq : Req) (s : State) (n : Nat), n = u8 rq.payload 0 → n < 2 → rq.bcast = false → s.sdActive = false →
    (∀ o start fin data, Runs 0x62 rq s → inRange rq.payload.length 8 4080 = true → start = bitOf (u8 rq.payload 1) 0 →
      fin = bitOf (u8 rq.payload 1) 1 → o = u32 rq.payload 4 → data = rq.payload.drop 8 → o % 4 = 0 →
      (start = true → o = 0) → o + data.length ≤ 524288 →
      (slotIdle s n = true → (start = true ∨ (s.fwSlot n).staging.isSome = true) → s.longRunning < 8 →
        ∀ buf pages ks, buf = fwFill (0x80000 * n + o) data (if start then [] else s.nvm.fwBuf) →
        pages = (fwTouched buf).filter (fun pg => fin || fwCovered buf pg) →
        ks = (if start then [NvmKind.fwAct n 0] else []) ++ pages.map (fun pg => .fw n (pg - 128 * n) (fwPage s buf pg)) →
        ∀ top, top = max (if start then 0 else (s.fwSlot n).staging.getD 0) (if data.isEmpty then 0 else o + data.length) →
        ∃ t, exec (.fwStage rq) s = .next t ∧ CmdFrame [.nvm] [] s t ∧
          (ks ≠ [] → Accepts 0x62 rq [] s t ∧ (t.fwSlot n).valid = (s.fwSlot n).valid ∧
            (t.fwSlot n).staging = some top ∧
            t.nvm.ops = s.nvm.ops ++ ks.map (fun k => ⟨k, some (s.cmd.seq % 65536), false⟩)) ∧
          (ks = [] → fin = true → slotPending s n = false →
            (t.fwSlot n).valid = slotOk s n ∧ (t.fwSlot n).staging = none ∧
            SendsLast (replyOf 0x62 rq true St.ok (fwStageFin (slotOk s n) top) s.cmd.seq) s t) ∧
          (ks = [] → fin = false → (t.fwSlot n).staging = some top ∧
            SendsLast (replyOf 0x62 rq true St.ok (fwStageFin false top) s.cmd.seq) s t) ∧
          (∀ x, kvGet t.nvm.fwBuf x = if x / 4096 ∈ pages then none else kvGet buf x) ∧
          (t.fwSlot (1 - n) = s.fwSlot (1 - n))) ∧
      ((slotIdle s n = false ∨ start = false ∧ (s.fwSlot n).staging = none) →
        ∃ t, exec (.fwStage rq) s = .next t ∧ Refuses 0x62 rq St.refusedState s t)) ∧
    (∀ body : Nat → List Byte, body = (fun act => bytesLE 1 n ++ zeros 2 ++ bytesLE 4 act) →
      Runs 0x63 rq s → rq.payload.length = 4 →
      ((s.fwSlot n).valid = true → bootSlot s ≠ some n → s.longRunning < 8 → ∀ act, act = ((s.fwSlot (highSlot s)).act + 1) % 2 ^ 32 →
        ∃ t, exec (.fwActivate rq) s = .next t ∧ Accepts 0x63 rq [] s t ∧ CmdFrame [.nvm] [] s t ∧
          t.nvm.ops = s.nvm.ops ++ [⟨.fwAct n act, some (s.cmd.seq % 65536), false⟩] ∧
          (∃ j ∈ t.cmd.jobs, j.seq = s.cmd.seq ∧ j.fin = body act)) ∧
      ((s.fwSlot n).valid = true → bootSlot s = some n → s.longRunning < 8 →
        ∃ t, exec (.fwActivate rq) s = .next t ∧ CmdFrame [] [] s t ∧
          SendsLast (replyOf 0x63 rq true St.ok (body (s.fwSlot n).act) s.cmd.seq) s t) ∧
      ((s.fwSlot n).valid = false →
        ∃ t, exec (.fwActivate rq) s = .next t ∧ CmdFrame [] [] s t ∧
          Answers 0x63 rq St.refusedState (body (s.fwSlot n).act) s t))

/-- R254, R407, R441 to R443, R460, R462: NVM_OP_DONE of the operation that runs. Done, it leaves what its kind says and is counted, and the next
one starts; failed once it stays to be run again, failed twice it is counted, sets FAIL, leaves a page that
fails its PCRC and is dropped. A record of the safety configuration that comes to run takes its copy and its SEQ as the copies
then stand. NVM_RESUME, 1.0 ms after the cause cleared, lets a suspended one run again once no cause holds it, or the next one start; BANK_RELOAD reloads what the lost banks of the mask held. -/
def Obligations.EnvmOperationsRunInOrder : Prop :=
  ∀ (s : State),
    (∀ o rest, s.nvm.ops = o :: rest → s.nvm.started = true → s.nvm.suspended = none →
      (∃ t, exec (.nvmOpDone true) s = .next t ∧ t.nvm.ops = (if t.nvm.started then aimHead t rest else rest) ∧
        t.nvm.started = (!rest.isEmpty && !t.sdActive && !t.dipHolds) ∧
        ((∀ es, o.kind ≠ .append es) → kvGet t.nvm.badPages (o.kind.addr 0 / 4096) = none) ∧ t.nvm.suspended = none ∧
        ((∀ es, o.kind ≠ .append es) →
          t.f F.NVM_CNT_PROG_CNT = satAdd F.NVM_CNT_PROG_CNT.top (s.f F.NVM_CNT_PROG_CNT) 1) ∧
        (∀ es, o.kind = .append es → t.f F.NVM_CNT_PROG_CNT = s.f F.NVM_CNT_PROG_CNT) ∧
        (∀ a d, o.kind = .page a d → 0x500000 ≤ a → t.nvm.fb = s.nvm.fb ∧
          (∀ i < d.length, Mem.read 0xFF t.nvm.bytes (a + i) = d.getD i 0) ∧
          (∀ b, b < a ∨ a + d.length ≤ b → Mem.read 0xFF t.nvm.bytes b = Mem.read 0xFF s.nvm.bytes b)) ∧
        (∀ a d, o.kind = .page a d → 0x300000 ≤ a → a < 0x500000 → t.nvm.bytes = s.nvm.bytes ∧ t.nvm.fbValid = false ∧
          Stores (a - 0x300000) d s.nvm.fb t.nvm.fb) ∧
        (∀ a, o.kind = .erase a → 0x500000 ≤ a → ∀ b, Mem.read 0xFF t.nvm.bytes b =
          (if a ≤ b ∧ b < a + 4096 then 0xFF else Mem.read 0xFF s.nvm.bytes b)) ∧
        (o.kind = .marker → t.nvm.fbValid = s.nvm.badPages.all (fun e => e.1 == 0x4FF || !inRange e.1 0x300 0x4FF)) ∧
        (∀ es, o.kind = .append es → t.saf.log = s.saf.log ++ renumberEntries (s.saf.log.length + 1) es) ∧
        (∀ c d, o.kind = .record c d → (if c = 0 then t.saf.copyA else t.saf.copyB) =
            ⟨true, { d with logSeq := min d.logSeq s.saf.log.length }⟩ ∧
          t.fb F.SAF_LOCK_CFG_INVALID = false) ∧
        t.drv.front = s.drv.front ∧ t.lyr = s.lyr ∧ t.obj = s.obj ∧ t.tck = s.tck ∧ t.time = s.time ∧ t.pending = s.pending) ∧
      (o.retry = false → exec (.nvmOpDone false) s = .next { s with nvm.ops := { o with retry := true } :: rest }) ∧
      (o.retry = true → ∃ t, exec (.nvmOpDone false) s = .next t ∧ t.fb F.NVM_STATUS_FAIL = true ∧
        t.f F.NVM_CNT_FAIL_CNT = satAdd F.NVM_CNT_FAIL_CNT.top (s.f F.NVM_CNT_FAIL_CNT) 1 ∧
        (∀ p ∈ t.nvm.ops, (∀ es, p.kind ≠ .append es) → p ∈ rest ∨ ∃ q ∈ rest, ∃ c d, q.kind = .record c d ∧
          p = { q with kind := .record (recTarget t) { d with seq := (recSeq t + 1) % 2 ^ 32 } }) ∧
        ((∀ es, o.kind ≠ .append es) → (kvGet t.nvm.badPages (o.kind.addr 0 / 4096)).isSome = true) ∧
        (∀ b, b / 4096 ≠ o.kind.addr 0 / 4096 → Mem.read 0xFF t.nvm.bytes b = Mem.read 0xFF s.nvm.bytes b ∧
          (0x300000 ≤ b → Mem.read 0 t.nvm.fb (b - 0x300000) = Mem.read 0 s.nvm.fb (b - 0x300000))) ∧
        t.saf.log = s.saf.log)) ∧
    (∀ t0, s.nvm.resumeAt = some t0 →
      (nvmHeld s = false → ∃ t, exec .nvmResume s = .next t ∧ t.time = max s.time t0 ∧ t.nvm.resumeAt = none ∧
        t.nvm.suspended = none ∧
        (s.nvm.suspended ≠ none → s.nvm.test = none → t.nvm = { s.nvm with suspended := none, resumeAt := none }) ∧
        (s.nvm.suspended = none → t.nvm.started = (!s.nvm.ops.isEmpty && !s.sdActive) ∧
          t.nvm.ops = if t.nvm.started then aimHead t s.nvm.ops else s.nvm.ops) ∧
        (s.nvm.test = none → EvFrame [.nvm, .time] [] s t)) ∧
      (nvmHeld s = true → exec .nvmResume s = .next s)) ∧
    (s.nvm.resumeAt = none → exec .nvmResume s = .next s) ∧
    (∀ m, m = s.pwr.reload → s.off = false →
      ∃ t, exec .bankReload s = .next t ∧ t.pwr = { s.pwr with reload := m &&& (0x1F - m % 32) } ∧
        (m % 4 ≠ 0 → t.drv.fopt = s.nvm.fopt ∧ t.drv.fel = s.nvm.fel) ∧
        (bitsOf m 3 2 ≠ 0 → t.drv.fb = s.nvm.fb ∧ t.fb F.SAF_FB_VALID = s.nvm.fbValid) ∧
        (bitOf m 4 = true → t.dia.faults = [] ∧ (∀ c, mapSource s = some c → t.dia.map = c.pixels)) ∧
        (m = 0 → t = { s with pwr.reload := 0 }) ∧
        t.nvm = s.nvm ∧ t.lyr = s.lyr ∧ t.tck = s.tck ∧ t.saf.log = s.saf.log)

/-- R449 to R453, R457, R458, R465: BIST_RUN in DARK or STOPPED opens a record and waits for its first step; a lit lamp
refuses it, and 10 ms of waiting end it BUSY. SHUTDOWN with no refuser saves, asks for IDLE and stays in flight. The replies of
a BIST_RUN and a SHUTDOWN for which no record is written carry SEQ 0 (the model's choice, notes/assumptions/37.md). The end of a
step records its faults, gives their rows spares, and starts the next step of the run. -/
def Obligations.SelfTestsRunTheirSteps : Prop :=
  ∀ (rq : Req) (s : State), rq.payload.length = 4 →
    (Runs 0x68 rq s → u8 rq.payload 0 ≤ 1 →
      ((s.lamp = Lamp.dark ∨ s.lamp = Lamp.stopped) → s.nvm.test = none → s.sdActive = false → s.longRunning < 8 →
        ∀ r, r = (if u8 rq.payload 0 = 0 then newRec s 1 4 2 else newRec s 0 16 2) →
        ∃ t, exec (.bistRun rq) s = .next t ∧ Accepts 0x68 rq [] s t ∧ CmdFrame [.nvm] [F.NVM_BIST_ORIGIN.addr] s t ∧
          t.nvm = { s.nvm with test := some r, testCopy := bistTarget s, stepNow := 0, testAbort := false, testEnd := none,
                               testFound := 0, testAsked := s.time } ∧
          t.f F.NVM_BIST_ORIGIN = 2 ∧ t.f F.NVM_BIST_STEP = 0 ∧ t.f F.NVM_BIST_FAULTS = 0) ∧
      (s.lamp ≠ Lamp.dark → s.lamp ≠ Lamp.stopped → s.nvm.test = none →
        ∃ t, exec (.bistRun rq) s = .next t ∧ CmdFrame [] [] s t ∧
          Answers 0x68 rq St.refusedState (bistBody { newRec s 0 16 2 with seq := 0 } 0) s t)) ∧
    (∀ r, s.nvm.test = some r → r.origin = 2 → s.nvm.stepNow = 0 → s.nvm.testEnd = none →
      ∃ t, exec .bistRunWaitTimeout s = .next t ∧ t.nvm = { s.nvm with test := none, testAbort := false } ∧
        t.time = max s.time (s.nvm.testAsked + 1000000) ∧ EvFrame [.nvm, .time] [0x20C4] s t ∧
        (∀ j, s.job? 0x68 = some j → j.rq.quiet = false → j.replayed = false →
          SendsLast (replyOf 0x68 j.rq true St.busy (bistBody { r with seq := 0 } 0xFF) j.seq) s t)) ∧
    (Runs 0x6A rq s →
      (refusing (startCommand 0x6A false rq s) 2 = 0 → s.longRunning < 8 →
        ∃ t d, exec (.shutdown rq) s = .next t ∧ Accepts 0x6A rq [] s t ∧
          t.pwr = { s.pwr with idleReq := some ⟨.shutdown, s.tck.frame, true⟩ } ∧
          (∃ ks, t.nvm.ops = s.nvm.ops ++ ks ++ [⟨.life d, none, false⟩]) ∧ d.seq = s.nvm.life.seq + 1 ∧ d.minutes = s.minutes ∧
          (s.dia.changed = false → t.dia = s.dia) ∧ (s.dia.changed = true → s.dia.save = none → t.dia.save.isSome = true) ∧
          CmdFrame [.pwr, .nvm, .dia] [F.DIA_NEWCNT_NEW.addr] s t) ∧
      (∀ m, m = refusing (startCommand 0x6A false rq s) 2 → m ≠ 0 →
        ∃ t, exec (.shutdown rq) s = .next t ∧ t.pwr = s.pwr ∧ t.nvm = s.nvm ∧
          Answers 0x6A rq St.refusedState (bistBody { newRec s 0 16 0 with seq := 0 } (lowestBit 12 0 m)) s t ∧
          CmdFrame [.snp] (eventRegs ++ [0xC004, 0xC010, 0xC014, 0xC018, 0xC01C]) s t)) ∧
    (∀ r found n, s.off = false → s.nvm.test = some r → s.nvm.testEnd = none → s.testPaused = false →
      n = s.nvm.stepNow → n ≠ 0 →
      (∀ m, nextStep r n = some m → s.nvm.testAbort = false ∨ r.origin = 3 →
        ∃ t r', exec (.selfTestStepDone found) s = .next t ∧ t.nvm.test = some r' ∧ r'.step = n ∧ r'.seq = r.seq ∧
          r'.faults = (r.faults ++ faultEntries n found).take 1912 ∧ t.nvm.stepNow = m ∧
          t.nvm.repair = repaired s.nvm.repair (storeFaults (stepBanks r.type n) found) ∧ r'.repair = t.nvm.repair ∧
          t.f F.NVM_BIST_STEP = n % 256 ∧ t.f F.NVM_BIST_FAULTS = min 65535 (s.nvm.testFound + found.length) ∧
          t.pwr.marched = s.pwr.marched ||| stepBanks r.type m ∧ t.nvm.ops = s.nvm.ops ∧ t.cmd = s.cmd ∧ t.lyr = s.lyr ∧
          KeepsRegs [F.NVM_BIST_STEP.addr, F.NVM_REPAIR_USED.addr, 0xE020] s t) ∧
      (r.origin ≤ 1 → nextStep r n = none → s.nvm.testAbort = false →
        ∃ t r', exec (.selfTestStepDone found) s = .next t ∧ t.nvm.test = some r' ∧ r'.step = r.stepsEnd ∧ t.nvm.stepNow = 16 ∧
          t.nvm.testEnd = some St.ok ∧ ∃ r₂, t.nvm.ops = s.nvm.ops ++
            ((bistOps s.nvm.testCopy r₂ ++ bistOps (1 - s.nvm.testCopy) { r₂ with seq := (r₂.seq + 1) % 2 ^ 32 }).map
              (fun k => ⟨k, none, false⟩)) ∧ r₂.complete = true)) ∧
    (∀ found, s.nvm.test = none → exec (.selfTestStepDone found) s = .next s)

/-! ### The lanes of the ring -/

/-- R308, R314, R317 to R319, R324: what each action of LANE_CTL leaves, with the reply of R324; what waits for a marker or for
1.0 ms waits in the lanes' own state, and SET_RATE_APPLY and LANE_L2_ALL_OFF carry it out; the 1.0 ms of SET_RATE and of POWER with
ALL count from the end of the packet. An action that would leave no lane, or
that is not allowed as it was sent, is refused and changes nothing. That a second LOOP is answered BUSY, that a RETRAIN or a SET_RATE
ends a loop that runs, and that KIND 0 asked from the ring is answered OK and does nothing, is the model's choice
(notes/assumptions/41.md); so is that CTLE is taken with the FREEZE of the same command (notes/assumptions/49.md). -/
def Obligations.LaneCommandsAct : Prop :=
  ∀ (rq : Req) (s : State),
    (Runs 0x70 rq s → rq.payload.length = 8 → ∀ act m A B, act = u8 rq.payload 0 → m = u8 rq.payload 1 % 16 → A = u8 rq.payload 2 →
      B = u8 rq.payload 3 →
      ∀ done : Instr → RngSt → List Nat → Prop, done = (fun c r words => ∃ t, exec c s = .next t ∧ t.rng = r ∧
        Answers 0x70 rq St.ok (laneReply t) s t ∧ CmdFrame [.rng] words s t) →
      ∀ due, due = (startCommand 0x70 true rq s).packetEnd →
      ((∀ e ∈ s.cmd.journal, e.seq ≠ s.cmd.seq) → s.cmd.seq < 65536 → due = acceptedAt 0x70 rq s + 100000) ∧
      ∀ refused : Instr → Nat → Prop, refused = (fun c st => ∃ t, exec c s = .next t ∧ Refuses 0x70 rq st s t) →
      (act = 0 →
        ∃ t, exec (.laneCtlRetrain rq) s = .next t ∧ Answers 0x70 rq St.ok (laneReply t) s t ∧ t.f F.RNG_STATUS_STATE = 0 ∧
          t.f F.RNG_STATUS_RX_MAP = 0 ∧ t.f F.RNG_LOOP_KIND = 0 ∧ t.rng.rate = s.f F.RNG_CTRL_RATE ∧
          t.rng.laneEn = s.f F.RNG_CTRL_LANE_EN ∧ t.rng.attempt = s.time ∧
          (s.rng.rate = s.f F.RNG_CTRL_RATE → ∀ a ∈ laneEqRegs, t.reg a = s.reg a) ∧
          CmdFrame [.rng, .fresh, .snp] (eventRegs ++ [0x1004, 0x1024] ++ laneStatRegs ++ laneEqRegs) s t) ∧
      (act = 1 → (rq.bcast = true → A ≤ 2 → done (.laneCtlSetRate rq) { s.rng with rateNext := some A, rateAt := due } []) ∧
        (rq.bcast = false → refused (.laneCtlSetRate rq) St.badParam) ∧
        (rq.bcast = true → 2 < A → refused (.laneCtlSetRate rq) St.range)) ∧
      (act = 2 →
        (s.f F.RNG_STATUS_RX_MAP &&& lanesOff (m ||| s.rng.dropNext) ≠ 0 →
          done (.laneCtlDrop rq) { s.rng with dropNext := s.rng.dropNext ||| m } []) ∧
        (s.f F.RNG_STATUS_RX_MAP &&& lanesOff (m ||| s.rng.dropNext) = 0 → refused (.laneCtlDrop rq) St.badParam)) ∧
      (act = 3 →
        (addable m s = 0 ∨ s.f F.RNG_STATUS_STATE ≠ 4 → done (.laneCtlAdd rq) s.rng []) ∧
        (addable m s ≠ 0 → s.f F.RNG_STATUS_STATE = 4 →
          ∃ t acc b evs, exec (.laneCtlAdd rq) s = .next t ∧ t.rng = { s.rng with addAsk := s.rng.addAsk ||| addable m s } ∧
            CmdFrame [.rng] [] s t ∧ acc = usable s ||| t.rng.addAsk ∧
            t.cmd.out = s.cmd.out.filter (fun p => !(p.kind == .beacon && p.op == 0x02)) ++
              [b, replyOf 0x70 rq true St.ok (laneReply t) s.cmd.seq] ++ evs ∧ (∀ e ∈ evs, e.kind = .event) ∧
            b.kind = .beacon ∧ b.op = 0x02 ∧ b.payload = bytesLE 2 (s.f F.RNG_TXID_UP_TXID) ++ bytesLE 1 acc ++
              bytesLE 1 s.rng.rxVer ++ bytesLE 1 s.sender ++ bytesLE 1 (s.rng.notice.getD 4) ++ zeros 2)) ∧
      (act = 4 → A ≤ 2 →
        (bitOf B 0 = true → A = 2 → rq.bcast = true → done (.laneCtlPower rq) { s.rng with l2Next := true, l2At := due } []) ∧
        (bitOf B 0 = true → A ≠ 2 ∨ rq.bcast = false → refused (.laneCtlPower rq) St.badParam) ∧
        (bitOf B 0 = false → A ≠ 0 → s.f F.RNG_STATUS_TX_MAP &&& lanesOff (m ||| lpMask s false) = 0 →
          refused (.laneCtlPower rq) St.badParam) ∧
        (bitOf B 0 = false → A ≠ 0 → s.f F.RNG_STATUS_TX_MAP &&& lanesOff (m ||| lpMask s false) ≠ 0 →
          ∃ l, done (.laneCtlPower rq) { s.rng with lpNext := l } [] ∧
            ∀ n < 4, kvGet l n = if bitOf m n then some A else kvGet s.rng.lpNext n) ∧
        (bitOf B 0 = false → A = 0 →
          ∃ l, done (.laneCtlPower rq) { s.rng with lpNext := l } [] ∧
            ∀ n < 4, kvGet l n = if bitOf m n then (if s.f (txPower n) = 0 then none else some 0) else kvGet s.rng.lpNext n)) ∧
      (act = 5 → (A ≤ 8 → B ≤ 20 → done (.laneCtlFfe rq) { s.rng with ffeNext := some (A, B) } []) ∧
        (8 < A ∨ 20 < B → refused (.laneCtlFfe rq) St.range)) ∧
      (act = 6 → ∀ C, C = u16 rq.payload 4 →
        (inRange A 1 3 = true → inRange C 1 255 = true →
          ((s.lamp = Lamp.dark ∨ s.lamp = Lamp.stopped) → s.f F.RNG_LOOP_KIND = 0 → s.rng.loopAsk = none →
            done (.laneCtlLoop rq) { s.rng with loopAsk := some (A, C), loopAt := s.time + 100000 } []) ∧
          ((s.lamp = Lamp.dark ∨ s.lamp = Lamp.stopped) → (s.f F.RNG_LOOP_KIND ≠ 0 ∨ s.rng.loopAsk ≠ none) →
            refused (.laneCtlLoop rq) St.busy) ∧
          (s.lamp ≠ Lamp.dark → s.lamp ≠ Lamp.stopped → refused (.laneCtlLoop rq) St.refusedState)) ∧
        (A = 0 → rq.port ≠ .spi → done (.laneCtlLoop rq) s.rng []) ∧
        (A = 0 → rq.port = .spi →
          ∃ t, exec (.laneCtlLoop rq) s = .next t ∧ t.f F.RNG_LOOP_KIND = 0 ∧ t.rng.loopAsk = none ∧
            Answers 0x70 rq St.ok (laneReply t) s t ∧ (s.f F.RNG_LOOP_KIND ≠ 0 → t.f F.RNG_STATUS_STATE = 0))) ∧
      (act = 7 → A ≤ 3 → inRange B 1 65 = true →
        (rq.stream = 1 → s.fb F.RNG_CTRL_SLIP_MAN = true → s.f F.RNG_STATUS_STATE = 2 →
          ∃ t, exec (.laneCtlSlip rq) s = .next t ∧ Answers 0x70 rq St.ok (laneReply t) s t ∧
            t.f (ofLane F.RNG_RX0_STAT_SLIP A) = (s.f (ofLane F.RNG_RX0_STAT_SLIP A) + B) % 66 ∧ CmdFrame [] [0x1040 + 8 * A] s t) ∧
        (rq.stream ≠ 1 ∨ s.fb F.RNG_CTRL_SLIP_MAN = false ∨ s.f F.RNG_STATUS_STATE ≠ 2 →
          refused (.laneCtlSlip rq) St.refusedState)) ∧
      (act = 8 → (bitOf A 1 = true → B ≤ 15) →
        ∃ t, exec (.laneCtlEq rq) s = .next t ∧ Answers 0x70 rq St.ok (laneReply t) s t ∧
          (∀ n < 4, bitOf m n = true → t.fb (ofLane F.RNG_RX0_EQ_FREEZE n) = bitOf A 0 ∧
            (bitOf A 0 = true → bitOf A 1 = true → t.f (ofLane F.RNG_RX0_EQ_CTLE n) = B)) ∧
          (∀ n < 4, bitOf m n = false → t.reg (0x1044 + 8 * n) = s.reg (0x1044 + 8 * n)) ∧
          CmdFrame [] [0x1044, 0x104C, 0x1054, 0x105C] s t)) ∧
    (∀ r, s.rng.rateNext = some r → r ≤ 2 →
      ∃ t, exec .setRateApply s = .next t ∧ t.time = max s.time s.rng.rateAt ∧ t.rng.rateNext = none ∧ t.f F.RNG_CTRL_RATE = r ∧ t.rng.rate = r ∧
        t.f F.RNG_STATUS_STATE = 0 ∧ t.f F.RNG_STATUS_RX_MAP = 0 ∧ t.f F.RNG_TXFFE_PRE = 0 ∧ t.f F.RNG_TXFFE_POST = 8 ∧
        (∀ n < 4, t.f (ofLane F.RNG_RX0_EQ_CTLE n) = 8 ∧
          t.fb (ofLane F.RNG_RX0_EQ_FREEZE n) = s.fb (ofLane F.RNG_RX0_EQ_FREEZE n)) ∧
        EvFrame [.rng, .fresh, .time] ([0x1000, 0x1004, 0x1024] ++ laneStatRegs ++ laneEqRegs) s t) ∧
    (s.rng.l2Next = true → s.off = false →
      ∃ t, exec .laneL2AllOff s = .next t ∧ t.f F.RNG_LPWR_TX = 0xAA ∧ t.f F.RNG_STATUS_TX_MAP = 0 ∧ t.dn = [] ∧
        t.time = max s.time s.rng.l2At ∧
        (∀ n < 4, t.f (rxPower n) = if s.fb (ofLane F.RNG_RX0_STAT_SIGDET n) then s.f (rxPower n) else 2) ∧
        t.rng = { s.rng with l2Next := false, lpNext := [], txNext := none, pll := s.rng.pll && !(t.f F.RNG_LPWR_RX == 0xAA) } ∧
        Keeps [.regs, .rng, .dn, .time] s t ∧ KeepsRegs [0x1004, 0x1020] s t)

/-- R306 to R311, R314, R315, R318: the receiver's way through SEEK, TRAIN, LOCK, ALIGN and RUN. Signal starts an attempt and
wakes a sleeping ring; CDR lock ends SEEK; a lane that reaches 96 ends TRAIN, with lanes below 32 left out; block lock ends LOCK;
agreeing markers bring RUN, the map, and the open bypass. The loss of every signal, a timeout, and the loss of the last lane
lead back to SEEK; a dropped lane that was good for 1 s is named in a notice. An attempt gives the CDR 10 ms: a lock after them waits
for the next attempt. That an enabled lane without CDR lock is marked DROPPED as TRAIN ends is the model's choice
(notes/assumptions/39.md); so are a signal on a lane that is not enabled, which sets SIGDET alone, and TRANSIT measured as RUN is
entered (notes/assumptions/65.md). -/
def Obligations.ReceiversTrain : Prop :=
  ∀ s : State, s.off = false →
    (∀ lanes, lanes % 16 ≠ 0 →
      ∃ t, exec (.signalDetect lanes) s = .next t ∧
        laneBits t F.RNG_RX0_STAT_SIGDET = laneBits s F.RNG_RX0_STAT_SIGDET ||| lanes % 16 ∧
        (lanes &&& s.rng.laneEn ≠ 0 → s.f F.RNG_STATUS_STATE ≤ 3 → t.f F.RNG_STATUS_STATE = 0 ∧ t.rng.attempt = s.time) ∧
        (lanes &&& s.rng.laneEn = 0 ∨ 3 < s.f F.RNG_STATUS_STATE →
          t.f F.RNG_STATUS_STATE = s.f F.RNG_STATUS_STATE ∧ t.rng.attempt = s.rng.attempt) ∧
        (s.ringAsleep = true → t.rng.pll = true ∧ t.reg 0x1020 = 0 ∧ t.f F.RNG_STATUS_TX_MAP = 15) ∧
        (s.ringAsleep = false → t.f F.RNG_STATUS_TX_MAP = s.f F.RNG_STATUS_TX_MAP ∧ t.rng.pll = s.rng.pll) ∧
        Keeps [.regs, .rng] s t ∧ KeepsRegs ([0x1004, 0x1020] ++ laneStatRegs ++ laneEqRegs) s t) ∧
    (s.f F.RNG_STATUS_STATE = 0 →
      ∃ t, exec .seekAttempt s = .next t ∧ t.time = max s.time (s.rng.attempt + 25000000) ∧ t.rng.attempt = t.time ∧
        (s.ringAsleep = false → t.rng.pll = true) ∧ Keeps [.time, .rng] s t) ∧
    (∃ t, exec .signalLost s = .next t ∧ laneBits t F.RNG_RX0_STAT_SIGDET = 0 ∧
      (s.f F.RNG_STATUS_STATE ≤ 4 → t.f F.RNG_STATUS_STATE = 0) ∧
      (inRange (s.f F.RNG_STATUS_STATE) 1 3 = true → t.fb F.RNG_STATUS_TRAIN_ABORT = true ∧
        t.f F.RNG_CNT_TRAIN_ABORT_CNT = satAdd F.RNG_CNT_TRAIN_ABORT_CNT.top (s.f F.RNG_CNT_TRAIN_ABORT_CNT) 1) ∧
      (s.f F.RNG_STATUS_STATE = 4 → t.rng.leftRun = s.time ∧ t.f F.RNG_STATUS_RX_MAP = 0) ∧
      EvFrame [.rng] ([0x1004, 0x1020, 0x1028] ++ laneStatRegs ++ laneEqRegs) s t) ∧
    (∀ lanes, s.f F.RNG_STATUS_STATE = 0 → s.rng.attempt + 1000000 < s.time → exec (.cdrLock lanes) s = .next s) ∧
    (∀ lanes m, m = lanes &&& s.rng.laneEn → m % 16 ≠ 0 → s.rng.pll = true → s.f F.RNG_STATUS_STATE ≤ 1 →
      (s.f F.RNG_STATUS_STATE = 0 → s.time ≤ s.rng.attempt + 1000000) →
      ∃ t, exec (.cdrLock lanes) s = .next t ∧ t.f F.RNG_STATUS_STATE = 1 ∧
        laneBits t F.RNG_RX0_STAT_CDR_LOCK = laneBits s F.RNG_RX0_STAT_CDR_LOCK ||| m % 16 ∧
        t.rng = { s.rng with stateAt := if s.f F.RNG_STATUS_STATE = 0 then s.time else s.rng.stateAt } ∧
        Keeps [.regs, .rng] s t ∧ KeepsRegs (0x1004 :: laneStatRegs) s t) ∧
    (∀ efom cdr, s.f F.RNG_STATUS_STATE = 1 → cdr = laneBits s F.RNG_RX0_STAT_CDR_LOCK →
      (∃ n < 4, bitOf cdr n = true ∧ 96 ≤ nth 0 efom n) →
      ∃ t, exec (.trainDone efom) s = .next t ∧ t.f F.RNG_STATUS_STATE = 2 ∧
        (∀ n < 4, bitOf cdr n = true → t.f (ofLane F.RNG_RX0_STAT_EFOM n) = min 255 (nth 0 efom n) ∧
          t.fb (ofLane F.RNG_RX0_STAT_MARGINAL n) = inRange (nth 0 efom n) 32 95 ∧
          (nth 0 efom n < 32 → t.fb (ofLane F.RNG_RX0_STAT_DROPPED n) = true) ∧
          (32 ≤ nth 0 efom n → t.fb (ofLane F.RNG_RX0_STAT_DROPPED n) = s.fb (ofLane F.RNG_RX0_STAT_DROPPED n)) ∧
          (s.fb (ofLane F.RNG_RX0_EQ_FREEZE n) = true → t.reg (0x1044 + 8 * n) = s.reg (0x1044 + 8 * n))) ∧
        (∀ n < 4, bitOf s.rng.laneEn n = true → bitOf cdr n = false → t.fb (ofLane F.RNG_RX0_STAT_DROPPED n) = true) ∧
        t.rng = { s.rng with stateAt := s.time } ∧ EvFrame [.fresh, .rng] ([0x1004, 0x102C] ++ laneStatRegs ++ laneEqRegs) s t) ∧
    (∀ lanes slips trained, s.f F.RNG_STATUS_STATE = 2 →
      trained = laneBits s F.RNG_RX0_STAT_CDR_LOCK &&& lanesOff (laneBits s F.RNG_RX0_STAT_DROPPED &&& lanesOff s.rng.cmdDrop) →
      efomAtLeast s (lanes &&& trained) 96 ≠ 0 →
      ∃ t, exec (.blockLock lanes slips) s = .next t ∧ t.f F.RNG_STATUS_STATE = 3 ∧ t.rng = { s.rng with lastBlock := none, stateAt := s.time } ∧
        laneBits t F.RNG_RX0_STAT_BLOCK_LOCK = lanes &&& trained ∧
        (∀ n < 4, bitOf trained n = true → s.fb F.RNG_CTRL_SLIP_MAN = false →
          t.f (ofLane F.RNG_RX0_STAT_SLIP n) = nth 0 slips n % 66) ∧
        EvFrame [.rng] ([0x1004, 0x102C] ++ laneStatRegs) s t) ∧
    (∀ marker transit taken, s.f F.RNG_STATUS_STATE = 3 → markerOk marker = true →
      taken = laneBits s F.RNG_RX0_STAT_BLOCK_LOCK &&& usable s → taken ≠ 0 →
      ∃ t, exec (.ringRun marker transit) s = .next t ∧ t.f F.RNG_STATUS_STATE = 4 ∧
        t.f F.RNG_STATUS_RX_MAP = mkMap marker &&& taken ∧ t.f F.RNG_TXID_UP_TXID = mkTxId marker ∧ t.rng.rxVer = mkVer marker ∧
        t.fb F.RNG_STATUS_SILENT = false ∧ t.rng.lastBlock = none ∧
        (s.fb F.RNG_CTRL_BYPASS_HOLD = false → t.fb F.RNG_STATUS_BYPASS = false) ∧
        (s.fb F.RNG_CTRL_BYPASS_HOLD = true → t.fb F.RNG_STATUS_BYPASS = s.fb F.RNG_STATUS_BYPASS) ∧
        (s.fb F.RNG_STATUS_BYPASS = true → s.fb F.RNG_CTRL_BYPASS_HOLD = false → t.f F.RNG_STATUS_TX_MAP = l0Tx s ∧
          t.rng.txVer = if l0Tx s = s.f F.RNG_STATUS_TX_MAP then s.rng.txVer else (s.rng.txVer + 1) % 4) ∧
        (s.rng.transitFor = none → transit ≤ F.RNG_TRANSIT_TRANSIT.top → t.f F.RNG_TRANSIT_TRANSIT = transit) ∧
        (∀ b ∈ t.cmd.out, b.kind = .beacon → b.op ≠ 0x01) ∧
        (mkMap marker &&& lanesOff (usable s) = 0 ↔ t.rng.notice = none) ∧ EvFrame [.rng] [0x1004, 0x1010, 0x1018] s t) ∧
    (inRange (s.f F.RNG_STATUS_STATE) 1 3 = true →
      ∃ t, exec .trainTimeout s = .next t ∧ t.f F.RNG_STATUS_STATE = 0 ∧ t.fb F.RNG_STATUS_TRAIN_TO = true ∧
        t.f F.RNG_CNT_TRAIN_TO_CNT = satAdd F.RNG_CNT_TRAIN_TO_CNT.top (s.f F.RNG_CNT_TRAIN_TO_CNT) 1 ∧
        t.time = max s.time (s.rng.stateAt + stateLimit (s.f F.RNG_STATUS_STATE)) ∧
        t.rng.attempt = s.rng.attempt ∧ EvFrame [.rng, .time] ([0x1004, 0x1028] ++ laneStatRegs ++ laneEqRegs) s t) ∧
    (∀ lane what, s.f F.RNG_STATUS_STATE = 4 → lane ≤ 3 →
      ∃ t, exec (.laneLockLoss lane what) s = .next t ∧ t.fb (ofLane F.RNG_RX0_STAT_BLOCK_LOCK lane) = false ∧
        (t.f F.RNG_STATUS_STATE = 4 → t.f F.RNG_STATUS_RX_MAP = s.f F.RNG_STATUS_RX_MAP ∧
          t.rng.goodSince = kvErase lane s.rng.goodSince ∧
          (what = 0 → t.fb (ofLane F.RNG_RX0_STAT_SIGDET lane) = false) ∧
          (what ≤ 1 → t.fb (ofLane F.RNG_RX0_STAT_CDR_LOCK lane) = false) ∧
          (s.ringAsleep = false → t.rng = { s.rng with goodSince := t.rng.goodSince } ∧ KeepsRegs [0x1040 + 8 * lane] s t)) ∧
        ((∀ n < 4, n ≠ lane → s.fb (ofLane F.RNG_RX0_STAT_BLOCK_LOCK n) = false) → t.f F.RNG_STATUS_STATE = 0 ∧
          t.rng.leftRun = s.time) ∧
        EvFrame [.rng] (0x1004 :: 0x1020 :: (laneStatRegs ++ laneEqRegs)) s t) ∧
    (∀ lane t0, s.f F.RNG_STATUS_STATE = 4 → s.fb F.RNG_CTRL_AUTO_READD = true → lane ≤ 3 →
      addable (2 ^ lane) s ≠ 0 → bitOf s.rng.cmdDrop lane = false → kvGet s.rng.goodSince lane = some t0 →
      ∃ t, exec (.autoReadd lane) s = .next t ∧ t.rng = { s.rng with addAsk := s.rng.addAsk ||| 2 ^ lane } ∧
        t.time = max s.time (t0 + 100000000) ∧
        (∃ b ∈ t.cmd.out, b.kind = .beacon ∧ b.op = 0x02 ∧ bitOf (u8 b.payload 2) lane = true) ∧ Keeps [.rng, .cmd, .time] s t) ∧
    (∀ lane, addable (2 ^ lane) s = 0 ∨ kvGet s.rng.goodSince lane = none → exec (.autoReadd lane) s = .next s)

/-- R301, R303, R311 to R319, R325, R327, R328: a good marker in RUN refreshes the lanes, brings the announced map and drops or
adds lanes, one that fails its CRC is ignored; a marker sent carries the new map, its version and the lanes that leave; a
LANE_NOTICE for this transmitter narrows the next map, another one passes on, through the transit buffer where the map is narrower
or a packet waits there; loops run their time and end in SEEK; silence is
told by beacons while the bypass is open and no loop runs; RING_STATUS answers it all; without its lane PLL the ring stops at this
engine. That a beacon's SEQ is one above the beacons sent and its REASON that of the present state is the model's choice
(notes/assumptions/40.md); so is that its silence counts from the last valid block before SILENT (notes/assumptions/65.md). -/
def Obligations.MarkersCarryTheMap : Prop :=
  ∀ s : State, s.off = false →
    (∀ marker lanes transit, markerOk marker = false → exec (.alignmentMarker marker lanes transit) s = .next s) ∧
    (∀ marker lanes transit, markerOk marker = true → s.f F.RNG_STATUS_STATE = 4 → lanes.length = 4 →
      (∀ l ∈ lanes, l.sig = true ∧ l.cdr = true ∧ l.lock = true ∧ 96 ≤ l.efom) → s.rng.dropNext = 0 → s.rng.notice = none →
      s.rng.addAsk = 0 →
      ∀ cur join, cur = s.f F.RNG_STATUS_RX_MAP &&& lanesOff (mkLp marker) → cur ≠ 0 → usable s ≠ 0 →
      join = mkMap marker &&& lanesOff cur &&& usable s →
      ∃ t, exec (.alignmentMarker marker lanes transit) s = .next t ∧ t.f F.RNG_STATUS_STATE = 4 ∧
        t.f F.RNG_STATUS_RX_MAP = mkMap marker &&& (cur ||| join) ∧ t.f F.RNG_TXID_UP_TXID = mkTxId marker ∧
        t.rng.rxVer = mkVer marker ∧ (t.rng.notice = none ↔ mkMap marker &&& lanesOff (usable s) = 0) ∧
        (s.rng.transitFor = some (transitKey t) → t.f F.RNG_TRANSIT_TRANSIT = s.f F.RNG_TRANSIT_TRANSIT) ∧
        (∀ n < 4, t.fb (ofLane F.RNG_RX0_STAT_BLOCK_LOCK n) = true ∧
          (bitOf (mkMap marker) n = true → t.f (rxPower n) = 0) ∧
          (bitOf (mkMap marker) n = false → bitOf (mkLp marker) n = true → s.f (rxPower n) ≠ 2 → t.f (rxPower n) = 1)) ∧
        EvFrame [.rng, .fresh] ([0x1004, 0x1010, 0x1018, 0x1020] ++ laneStatRegs ++ laneEqRegs) s t) ∧
    (∀ ready, s.marks = false ∨ s.f F.RNG_STATUS_STATE = 5 → exec (.markerSend ready) s = .next s) ∧
    (s.marks = true ↔ if s.ringAsleep = true then lpMask s true ≠ 0 else s.rng.pll = true) ∧
    (∀ ready map, s.marks = true → s.f F.RNG_STATUS_STATE ≠ 5 → map = nextMap s ready →
      ∃ t, exec (.markerSend ready) s = .next t ∧ t.f F.RNG_STATUS_TX_MAP = map % 16 ∧ t.rng.pll = true ∧
        t.rng.txVer = (if map = s.f F.RNG_STATUS_TX_MAP then s.rng.txVer else (s.rng.txVer + 1) % 4) ∧ t.rng.txNext = none ∧
        t.rng.ffeNext = none ∧
        (∀ pre post, s.rng.ffeNext = some (pre, post) → t.f F.RNG_TXFFE_PRE = pre % 16 ∧ t.f F.RNG_TXFFE_POST = post % 32) ∧
        (s.rng.lpNext = [] → t.f F.RNG_LPWR_TX = s.f F.RNG_LPWR_TX) ∧
        (s.fb F.RNG_STATUS_TX_ON = true → t.dn = (laneNos.filter (bitOf (l0Tx s ||| if ready then lpMask s true else 0))).flatMap
          (markerBytes { s with rng := t.rng } map (lpMask s false))) ∧
        (s.fb F.RNG_STATUS_TX_ON = false → t.dn = s.dn) ∧ Keeps [.regs, .rng, .dn] s t ∧ KeepsRegs [0x1004, 0x101C, 0x1020] s t) ∧
    (∀ map lp lane, map < 16 → lp < 16 → lane < 4 → s.rng.txVer < 4 → s.rng.rate < 4 →
      ∀ m, m = markerBytes s map lp lane → markerOk m = true ∧ mkMap m = map ∧ mkVer m = s.rng.txVer ∧ mkLp m = lp ∧
        mkTxId m = s.f F.RNG_TXID_TXID ∧ bitsOf (u8 m 1) 1 0 = lane) ∧
    (∀ bytes, s.ringRuns = true →
      (noticeForUs s bytes = true →
        ∃ t, exec (.laneNotice bytes) s = .next t ∧ t.rng = { s.rng with txNext := some (u8 bytes 14 % 16 &&& l0Tx s) } ∧
          t.fb F.RNG_STATUS_NOTICE_RX = true ∧ t.dn = [] ∧ Keeps [.regs, .rng, .dn] s t ∧ KeepsRegs [0x1004] s t) ∧
      (noticeForUs s bytes = false → s.holdsTransit = false → exec (.laneNotice bytes) s = .next { s with dn := bytes }) ∧
      (noticeForUs s bytes = false → s.holdsTransit = true → bytes ≠ [] → (readHdr bytes).type ≠ 3 →
        exec (.laneNotice bytes) s = .next { s with dn := [], rng := { s.rng with transit := s.rng.transit ++ [bytes] } })) ∧
    (∀ kind dur, s.rng.loopAsk = some (kind, dur) → inRange kind 1 3 = true →
      ∃ t, exec .loopStart s = .next t ∧ t.f F.RNG_STATUS_STATE = 5 ∧ t.f F.RNG_LOOP_KIND = kind ∧ t.f F.RNG_LOOP_ERR_CNT = 0 ∧
        t.time = max s.time s.rng.loopAt ∧
        t.rng.loopAsk = none ∧ t.rng.loopEnd = t.time + 100000000 * dur ∧ t.f F.RNG_STATUS_RX_MAP = 0 ∧
        (kind ≤ 2 → t.fb F.RNG_STATUS_BYPASS = true ∧ t.fb F.RNG_STATUS_TX_ON = false ∧ t.fb F.RNG_STATUS_SILENT = false) ∧
        (kind = 3 → s.fb F.RNG_CTRL_BYPASS_HOLD = false → t.fb F.RNG_STATUS_BYPASS = false ∧ t.fb F.RNG_STATUS_TX_ON = true) ∧
        EvFrame [.rng, .fresh, .time] [0x1004, 0x1024] s t) ∧
    (∀ errors, s.f F.RNG_LOOP_KIND ≠ 0 →
      ∃ t, exec (.loopEnd errors) s = .next t ∧ t.time = max s.time s.rng.loopEnd ∧ t.f F.RNG_LOOP_KIND = 0 ∧
        (s.f F.RNG_LOOP_KIND ≤ 2 → t.f F.RNG_LOOP_ERR_CNT = min 65535 errors) ∧
        (s.f F.RNG_LOOP_KIND = 3 → s.rng.loopClosed = true → t.fb F.RNG_STATUS_BYPASS = true ∧ t.fb F.RNG_STATUS_TX_ON = false) ∧ t.f F.RNG_STATUS_STATE = 0 ∧
        EvFrame [.time, .rng] ([0x1004, 0x1024] ++ laneStatRegs ++ laneEqRegs) s t) ∧
    (∀ rq, Runs 0x71 rq s → rq.payload = [] →
      ∃ t, exec (.ringStatus rq) s = .next t ∧ CmdFrame [] [] s t ∧ Answers 0x71 rq St.ok (ringStatusBytes s) s t) ∧
    (s.f F.RNG_STATUS_STATE ≠ 5 → s.fb F.RNG_STATUS_BYPASS = false → s.fb F.RNG_STATUS_SILENT = false → ∀ t0, s.rng.lastBlock = some t0 →
      ∃ t, exec .upstreamSilent s = .next t ∧ t.time = max s.time (t0 + 1000000) ∧ t.fb F.RNG_STATUS_SILENT = true ∧
        t.rng = { s.rng with silentFrom := t0, beaconAt := none } ∧
        Keeps [.time, .regs, .rng] s t ∧ KeepsRegs [0x1004] s t) ∧
    (s.fb F.RNG_STATUS_BYPASS = true ∨ s.f F.RNG_STATUS_STATE = 5 → exec .breakBeaconSend s = .next s) ∧
    (s.fb F.RNG_STATUS_SILENT = true → s.fb F.RNG_STATUS_BYPASS = false → s.f F.RNG_STATUS_STATE ≠ 5 →
      s.f F.RNG_STATUS_TX_MAP ≠ 0 → s.rng.pll = true →
      ∃ t p, exec .breakBeaconSend s = .next t ∧
        t.time = max s.time (match s.rng.beaconAt with | some b => b + 100000 | none => s.rng.silentFrom + 1000000) ∧
        t.rng = { s.rng with beacons := s.rng.beacons + 1, beaconAt := some t.time } ∧ t.cmd.out = s.cmd.out ++ [p] ∧ p.kind = .beacon ∧ p.op = 0x01 ∧
        p.payload = bytesLE 1 s.sender ++ bytesLE 1 (silentReason s) ++ bytesLE 2 (s.f F.RNG_TXID_UP_TXID) ++
          bytesLE 4 ((t.time - s.rng.silentFrom) / 100000) ++ bytesLE 4 s.tck.frame ++ bytesLE 2 (s.rng.beacons + 1) ++ zeros 2 ∧
        t.fb F.RNG_STATUS_BREAK_TX = true ∧ Keeps [.time, .regs, .rng, .cmd] s t ∧ KeepsRegs [0x1004] s t) ∧
    (∃ t, exec .lanePllLoss s = .next t ∧ t.rng.pll = false ∧ t.dn = [] ∧
      (s.f F.RNG_STATUS_STATE ≤ 4 → t.f F.RNG_STATUS_STATE = 0 ∧ t.f F.RNG_STATUS_RX_MAP = 0) ∧
      (s.f F.RNG_STATUS_STATE = 4 → t.rng.leftRun = s.time) ∧
      EvFrame [.rng, .fresh, .dn] (0x1004 :: (laneStatRegs ++ laneEqRegs)) s t)

/-! ### The two halves -/

/-- R267 to R270, R287, R288, R290, R292 to R294: HALF_STATUS answers the two halves; HALF_SWITCH and a HALF_RESET of the active
half plan an exchange for a tick, refused while a half boots or with no GOOD half to hand over to; HALF_EXCHANGE carries it out at
that tick; a HALF reset sends a half through RESET into BOOT; a half that leaves BOOT with a good CRC is PROVING, one that fails or
takes more than 20 ms is FAILED with cause 7 unless HLV may restart it. A HALF reset loads the registers kept across none (R11) and ends
a staging of the slot it boots (R447); which of those registers it loads is the model's choice (notes/assumptions/66.md). -/
def Obligations.HalfCommandsAct : Prop :=
  ∀ (rq : Req) (s : State),
    (Runs 0x78 rq s → rq.payload = [] →
      ∃ t, exec (.halfStatus rq) s = .next t ∧ CmdFrame [] [] s t ∧ Answers 0x78 rq St.ok
        (bytesLE 1 (s.f F.HLV_ROLE_ACTIVE + 2 * b2n s.hlv.exchange.isSome + 4 * s.f F.HLV_ROLE_DIVERGE + 8 * b2n s.grazing) ++
          zeros 2 ++ bytesLE 4 (match s.hlv.exchange with | some x => x.tick | none => (s.reg 0x902C).toNat) ++
          halfBlock s .a ++ halfBlock s .b ++ bytesLE 2 (s.f F.HLV_GRAZE_CNT_MISMATCH_CNT) ++
          bytesLE 2 (s.f F.HLV_GRAZE_CNT_SKIP_CNT) ++ bytesLE 4 s.tck.frame) s t) ∧
    (∀ n, Runs 0x79 rq s → rq.payload.length = 4 → n = u8 rq.payload 0 → n ≤ 2 →
      (halfBusy s = true → ∃ t, exec (.halfSwitch rq) s = .next t ∧ Refuses 0x79 rq St.busy s t) ∧
      (halfBusy s = false → n < 2 → halfOf n = s.activeHalf →
        ∃ t, exec (.halfSwitch rq) s = .next t ∧ CmdFrame [] [] s t ∧ Answers 0x79 rq St.ok (halfSwitchBody s true s.tck.frame) s t) ∧
      (halfBusy s = false → (n = 2 ∨ halfOf n ≠ s.activeHalf) →
        (s.fb F.HLV_ROLE_DIVERGE = false → s.health s.standby = Health.good →
          ∃ t, exec (.halfSwitch rq) s = .next t ∧ Defers 0x79 rq s t ∧ CmdFrame [.hlv] [] s t ∧
            t.hlv = { s.hlv with exchange := some ⟨s.tickNo (if s.tck.row < s.cutoff then 1 else 2), none, 0⟩ }) ∧
        (s.fb F.HLV_ROLE_DIVERGE = true ∨ s.health s.standby ≠ Health.good →
          ∃ t, exec (.halfSwitch rq) s = .next t ∧ Refuses 0x79 rq St.refusedState s t))) ∧
    (∀ n im h, Runs 0x7A rq s → rq.payload.length = 4 → n = u8 rq.payload 0 → n ≤ 1 → h = halfOf n → im = u8 rq.payload 1 → im ≤ 3 →
      (u16 rq.payload 2 ≠ 0 → ∃ t, exec (.halfReset rq) s = .next t ∧ Refuses 0x7A rq St.badParam s t) ∧ (u16 rq.payload 2 = 0 →
      (halfBusy s = true → ∃ t, exec (.halfReset rq) s = .next t ∧ Refuses 0x7A rq St.busy s t) ∧
      (halfBusy s = false → s.health (otherHalf h) ≠ Health.good →
        ∃ t, exec (.halfReset rq) s = .next t ∧ Refuses 0x7A rq St.refusedState s t) ∧
      (halfBusy s = false → s.health (otherHalf h) = Health.good → s.longRunning < 8 →
        (h = s.activeHalf → ∀ k, k = s.tickNo (if s.tck.row < s.cutoff then 1 else 2) →
          ∃ t, exec (.halfReset rq) s = .next t ∧ Accepts 0x7A rq (zeros 3 ++ bytesLE 4 k) s t ∧ CmdFrame [.hlv] [] s t ∧
            t.hlv = { s.hlv with exchange := some ⟨k, some h, imageSlot s h im⟩ }) ∧
        (h ≠ s.activeHalf →
          ∃ t, exec (.halfReset rq) s = .next t ∧ Accepts 0x7A rq (zeros 3 ++ bytesLE 4 s.tck.frame) s t ∧ t.health h = Health.boot ∧
            t.half h = { bootTime := s.time, served := s.time } ∧ (∀ a ∈ halfRegs, t.reg a = 0) ∧
            t.lyr = { s.lyr with statReset := true } ∧ t.obj = { s.obj with lastReset := true, rdReset := true } ∧
            t.dia = { s.dia with readV := [], readI := [] } ∧
            (t.fwSlot (imageSlot s h im)).staging = none ∧ t.f (ofHalf F.HLV_HEALTH_A_SLOT h) = imageSlot s h im ∧
            t.f (ofHalf F.HLV_HEALTH_A_RESTARTS h) = 0 ∧ t.health (otherHalf h) = s.health (otherHalf h) ∧ t.activeHalf = s.activeHalf ∧
            CmdFrame [.hlv, .snp, .nvm, .lyr, .obj, .dia] (eventRegs ++ halfRegs ++ [0x9008 + 4 * halfCode h, 0x9010 + 4 * halfCode h]) s t)))) ∧
    (∀ x, s.hlv.exchange = some x → x.tick = s.tck.frame → s.executes = true → s.health s.standby = Health.good →
      ∃ t, exec .halfExchange s = .next t ∧ t.activeHalf = s.standby ∧ t.hlv.exchange = none ∧ t.fb F.HLV_STATUS_SWITCHED = true ∧
        t.reg 0x902C = BitVec.ofNat 32 s.tck.frame ∧
        t.f F.HLV_SW_CNT_SWITCH_CNT = satAdd F.HLV_SW_CNT_SWITCH_CNT.top (s.f F.HLV_SW_CNT_SWITCH_CNT) 1 ∧
        (x.resetHalf = none → t.health s.activeHalf = s.health s.activeHalf ∧ (∀ j, s.job? 0x79 = some j → j.rq.quiet = false → j.replayed = false →
          SendsLast (replyOf 0x79 j.rq true St.ok (halfSwitchBody t false s.tck.frame) j.seq) s t)) ∧
        (x.resetHalf = some s.activeHalf → t.health s.activeHalf = Health.boot ∧
          t.f (ofHalf F.HLV_HEALTH_A_SLOT s.activeHalf) = x.slot % 2) ∧
        t.hlv.grazeDue = false ∧ (s.hlv.grazeDue = true →
          t.f F.HLV_GRAZE_CNT_SKIP_CNT = satAdd F.HLV_GRAZE_CNT_SKIP_CNT.top (s.f F.HLV_GRAZE_CNT_SKIP_CNT) 1) ∧
        EvFrame [.hlv, .nvm, .lyr, .obj, .dia] (0x20C4 :: halfRegs ++ hlvRegs) s t) ∧
    (s.hlv.exchange = none → exec .halfExchange s = .next s) ∧
    (∀ h, s.health h = Health.boot → s.off = false →
      (∃ t, exec (.halfBootDone h true) s = .next t ∧ t.health h = Health.proving ∧ (t.half h).slices = 0 ∧
        (t.half h).matched = false ∧ (t.half h).ram = some (s.f (ofHalf F.HLV_HEALTH_A_SLOT h)) ∧ (t.half h).served = s.time ∧
        (t.half h).image = ramImage s (s.f (ofHalf F.HLV_HEALTH_A_SLOT h)) ∧
        t.f F.HLV_GRAZE_MATCH_RUN = 0 ∧ t.f F.HLV_GRAZE_MISMATCH_RUN = 0 ∧
        t.hlv.ready = (if s.hlv.active then s.hlv.ready else s.hlv.ready ++ [h]) ∧ EvFrame [.hlv, .sys] hlvRegs s t) ∧
      (∀ c, c = .halfBootDone h false ∨ c = .halfBootTimeout h →
        ∃ t, exec c s = .next t ∧ t.f (ofHalf F.HLV_HEALTH_A_LAST_CAUSE h) = 7 ∧
          t.health h = (if mayRestart s h then Health.boot else Health.failed) ∧
          (c = .halfBootTimeout h → t.time = max s.time ((s.half h).bootTime + 2000000)) ∧
          EvFrame (.time :: .hlv :: .sys :: .lyr :: .obj :: stopParts) (halfRegs ++ hlvRegs ++ stopWords) s t))

/-- R28, R36, R265, R269, R271 to R279: a fault of the active half makes it abdicate, and the other takes over if it is GOOD, else no half
is left; one of a standby half that runs makes it FAILED, unless HLV restarts it. A watchdog expires 2 periods after its last service, on
FRC 35 ms after it: `u` is the state at the fault. A missing row holds the swap and is a pipeline fault of the active half; Grazing
recomputes rows (k + 1) mod 32 + 32n from the image's inputs, but for the faults `errs` of the standby half, and compares their CRCs
with the row-CRC table; a slice runs once in a period, after Grazing; the quick test notes what it finds; a third held tick of a
switch-over is the reaction of HALVES, and the held ticks count on (R290). That the 20 µs before a tick are counted to the planned tick, a
correction of R46 aside, is the model's choice (notes/assumptions/43.md); so is cause 2 of a standby half (notes/assumptions/45.md). -/
def Obligations.HalvesFailAndAreWatched : Prop :=
  ∀ s : State, s.off = false → s.pwr.state ≠ .idle →
    (∀ h cause c u, (cause = 1 ∧ c = .lockstepMiscompare h ∧ u = s ∨ cause = 2 ∧ c = .eccUncorrectable (.half h) ∧ u = s ∨
        (cause = 3 ∧ inRange (s.health h) 2 3 = true ∧ ∃ w, c = .watchdogExpiry ⟨h, w⟩ ∧
          u = { setHalf h { s.half h with served := max (min w s.time) (s.half h).served } s with
            time := max s.time (max (min w s.time) (s.half h).served +
              (if s.onFrc then 3500000 else (2 * s.periodAct).floor.toNat)) }) ∨
        cause = 4 ∧ (∃ f, c = .pipelineParityError ⟨h, f⟩) ∧ u = s) →
      (s.hlv.active = true → s.hlv.abdicated = none → s.activeHalf = h →
        ∃ t, exec c s = .next t ∧ t.fb F.HLV_STATUS_ABDICATED = true ∧ t.f (ofHalf F.HLV_HEALTH_A_LAST_CAUSE h) = cause ∧
          t.f F.HLV_SW_CNT_ABDICATE_CNT = satAdd F.HLV_SW_CNT_ABDICATE_CNT.top (s.f F.HLV_SW_CNT_ABDICATE_CNT) 1 ∧
          t.health h = (if mayRestart s h then Health.boot else Health.failed) ∧ t.activeHalf = h ∧
          (fallbackDrives s = false → t.drv.noSwap = true) ∧ t.drv.comp.rowIn = [] ∧
          (s.health (otherHalf h) = Health.good → t.hlv.active = true ∧ ∃ smp, t.hlv.abdicated =
            some ⟨h, cause, s.tck.frame, some (u.tickNo (if u.time + 2000 ≤ u.nextTick then 1 else 2)), smp⟩) ∧
          (s.health (otherHalf h) ≠ Health.good → t.hlv.active = false ∧ (t.reg 0x801C).getLsbD Src.halves = true) ∧
          EvFrame (.hlv :: .lyr :: .obj :: stopParts) (halfRegs ++ hlvRegs ++ stopWords) u t) ∧
      (s.hlv.active = true → s.hlv.abdicated = none → s.activeHalf ≠ h → inRange (s.health h) 1 3 = true → cause ≠ 4 →
        ∃ t, exec c s = .next t ∧ t.f (ofHalf F.HLV_HEALTH_A_LAST_CAUSE h) = cause ∧ t.hlv.active = true ∧ t.hlv.abdicated = none ∧
          t.health h = (if mayRestart s h then Health.boot else Health.failed) ∧ t.hlv.exchange = none ∧
          t.activeHalf = s.activeHalf ∧ t.drv = s.drv ∧ EvFrame [.hlv, .nvm, .lyr, .obj, .dia] (0x20C4 :: halfRegs ++ hlvRegs) u t)) ∧
    (∀ h f, s.activeHalf ≠ h → exec (.pipelineParityError ⟨h, f⟩) s = .next s) ∧
    (∀ h w, inRange (s.health h) 2 3 = false → exec (.watchdogExpiry ⟨h, w⟩) s = .next s) ∧
    (s.tck.running = true → s.drv.begun = true → s.drv.comp.rowCrc.length ≤ 511 → s.drv.noSwap = false →
      ∃ t, exec .rowUnderrun s = .next t ∧ t.drv.noSwap = true ∧ t.fb F.DRV_STATUS_ROW_UNDERRUN = true ∧
        t.f F.DRV_CNT_UNDERRUN_CNT = satAdd F.DRV_CNT_UNDERRUN_CNT.top (s.f F.DRV_CNT_UNDERRUN_CNT) 1 ∧
        (s.hlv.active = false ∨ s.hlv.abdicated ≠ none → t.hlv = s.hlv) ∧
        (s.hlv.active = true → s.hlv.abdicated = none → t.fb F.HLV_STATUS_ABDICATED = true ∧
          t.f (ofHalf F.HLV_HEALTH_A_LAST_CAUSE s.activeHalf) = 4) ∧
        EvFrame (.hlv :: .lyr :: .obj :: stopParts) (0x6050 :: 0x6054 :: (halfRegs ++ hlvRegs ++ stopWords)) s t) ∧
    (s.hlv.limit = true → exec .holdLimit s = .next s) ∧
    (s.hlv.showNew = true → s.hlv.limit = false → 3 ≤ s.f F.HLV_ROLE_HELD →
      ∃ t, exec .holdLimit s = .next t ∧ t.fb F.HLV_STATUS_HOLD_LIMIT = true ∧
        (s.hlv.active = true → s.hlv.abdicated = none → t.fb F.HLV_STATUS_ABDICATED = true) ∧
        (s.hlv.active = false ∨ s.hlv.abdicated ≠ none → t.hlv.active = false) ∧ t.hlv.limit = true ∧
        (t.reg 0x801C).getLsbD Src.halves = true ∧ t.f F.HLV_ROLE_HELD = s.f F.HLV_ROLE_HELD ∧
        EvFrame (.hlv :: .lyr :: .obj :: stopParts) (halfRegs ++ hlvRegs ++ stopWords) s t) ∧
    (∀ errs, grazeDiff s errs = none ↔
      ∀ n < 16, nth 0 s.hlv.rowCrcs (s.tck.frame % 32 + 32 * n) = grazeCrc s (s.tck.frame % 32 + 32 * n) (nth 0 errs n)) ∧
    (∀ errs row, grazeDiff s errs = some row → ∃ n < 16, row = s.tck.frame % 32 + 32 * n ∧
      nth 0 s.hlv.rowCrcs row ≠ grazeCrc s row (nth 0 errs n) ∧
      ∀ m < n, nth 0 s.hlv.rowCrcs (s.tck.frame % 32 + 32 * m) = grazeCrc s (s.tck.frame % 32 + 32 * m) (nth 0 errs m)) ∧
    (s.hlv.grazeDue = true → ∀ u, u = { s with hlv := { s.hlv with grazeDue := false } } →
      (∀ d, ∃ t, exec (.graze d false) s = .next t ∧ t.hlv = { s.hlv with grazeDue := false } ∧
        t.f F.HLV_GRAZE_CNT_SKIP_CNT = satAdd F.HLV_GRAZE_CNT_SKIP_CNT.top (s.f F.HLV_GRAZE_CNT_SKIP_CNT) 1 ∧
        Keeps [.regs, .hlv] s t ∧ KeepsRegs [F.HLV_GRAZE_CNT_SKIP_CNT.addr] s t) ∧
      (∀ errs, s.grazing = true → grazeDiff u errs = none → ∃ t, exec (.graze errs true) s = .next t ∧ t.f F.HLV_GRAZE_MATCH_RUN = min 63 (s.f F.HLV_GRAZE_MATCH_RUN + 1) ∧
        t.hlv.grazeDue = false ∧ (t.half s.standby).pool = linePool (grazeState u) (s.tck.frame % 32 + 480) ∧
        ((t.half s.standby).matched = true ↔ (s.half s.standby).matched = true ∨ 31 ≤ s.f F.HLV_GRAZE_MATCH_RUN) ∧
        t.health s.standby = (if s.health s.standby = Health.proving ∧ (t.half s.standby).matched = true ∧ 64 ≤ (s.half s.standby).slices
          then Health.good else s.health s.standby) ∧ EvFrame [.hlv, .saf] (0x20C4 :: hlvRegs) s t) ∧
      (∀ errs row, s.grazing = true → grazeDiff u errs = some row → ∃ t, exec (.graze errs true) s = .next t ∧ t.f F.HLV_GRAZE_MATCH_RUN = 0 ∧
        t.f F.HLV_GRAZE_MISMATCH_RUN = min 3 (s.f F.HLV_GRAZE_MISMATCH_RUN + 1) ∧ t.fb F.HLV_STATUS_MISMATCH = true ∧
        t.f F.HLV_GRAZE_CNT_MISMATCH_CNT = satAdd F.HLV_GRAZE_CNT_MISMATCH_CNT.top (s.f F.HLV_GRAZE_CNT_MISMATCH_CNT) 1 ∧
        t.f F.HLV_GRAZE_ROW_ROW = row ∧ t.reg 0x9024 = BitVec.ofNat 32 s.tck.frame ∧
        (s.f F.HLV_GRAZE_MISMATCH_RUN = 2 → s.hlv.quick = none → t.hlv.quick.isSome = true) ∧
        (s.f F.HLV_GRAZE_MISMATCH_RUN < 2 → t.hlv.quick = s.hlv.quick) ∧ EvFrame [.hlv] hlvRegs s t)) ∧
    (s.hlv.grazeDue = true ∨ s.hlv.sliceRun = true → ∀ p, exec (.selfTestSlice p) s = .next s) ∧
    (s.grazing = true → s.tck.running = true → s.hlv.grazeDue = false → s.hlv.sliceRun = false → ∀ h, h = s.standby →
      (∃ t, exec (.selfTestSlice true) s = .next t ∧ (t.half h).slices = (s.half h).slices + 1 ∧ t.hlv.sliceRun = true ∧
        t.f (ofHalf F.HLV_HEALTH_A_SLICE h) = (s.f (ofHalf F.HLV_HEALTH_A_SLICE h) + 1) % 64 ∧
        EvFrame [.hlv, .saf] (0x20C4 :: hlvRegs) s t) ∧
      (s.hlv.abdicated = none → ∃ t, exec (.selfTestSlice false) s = .next t ∧ t.f (ofHalf F.HLV_HEALTH_A_LAST_CAUSE h) = 6 ∧
        t.health h = (if mayRestart s h then Health.boot else Health.failed) ∧
          EvFrame [.hlv, .nvm, .lyr, .obj, .dia] (0x20C4 :: halfRegs ++ hlvRegs) s t)) ∧
    (∀ a b, s.hlv.quick = some ⟨s.tck.frame, none⟩ → s.tck.row = 512 →
      ∃ t, exec (.quickSelfTest a b) s = .next t ∧ t.hlv = { s.hlv with quick := some ⟨s.tck.frame, some (a, b)⟩ } ∧
        (a = false → t.fb F.HLV_STATUS_QT_FAIL_A = true) ∧ (b = false → t.fb F.HLV_STATUS_QT_FAIL_B = true) ∧
        t.time = max s.time (s.nextTick - 5000) ∧ Keeps [.regs, .hlv, .time] s t ∧ KeepsRegs [0x9034] s t)

/-- R36, R276, R284 to R286, R368: an uncorrectable word in the gains darkens its four pixels and reloads their tile's factors, one in the
fallback copy or the map reloads it, one met by a check engine ends its run BAD_CRC before the word, and the command at the head of the
queue is answered BAD_CRC, a CHK_RUN with its 20 bytes; a corrected error is counted for its bank and its half. A TAKEOVER at its tick
gives the other half the role, takes the object sample if the period took none, and sweeps the journal, which stands in the order of SEQ,
entry by entry: a DONE or QUEUED one stays; one of class N found executing is answered FAILED_SWITCH with what it did, and what it had
under way ends; one of class I is executed again in the state found; one whose CRC fails is answered FAILED_SWITCH with PROGRESS
unknown, or, its packet unreadable too, not at all. What a class-I command executes again with, and what ends beside a class-N one, is the
model's choice (notes/assumptions/44.md); so is where the gains of a lost word come from (notes/assumptions/45.md). -/
def Obligations.StoreErrorsAndTakeovers : Prop :=
  (∀ s : State, s.off = false →
    (∀ p q, q = p % 0x100000 / 4 * 4 →
      ∃ t fo fe, exec (.eccUncorrectable (.gains p)) s = .next t ∧
        t.drv = { s.drv with dark := setInsert q s.drv.dark, foptNext := some fo, felNext := some fe } ∧
        (∀ i, Mem.read 0x8000 fo i = (if i = tileOf q then Mem.read 0x8000 s.nvm.fopt i
            else Mem.read 0x8000 (s.drv.foptNext.getD s.drv.fopt) i) ∧
          Mem.read 0x8000 fe i = (if i = tileOf q then Mem.read 0x8000 s.nvm.fel i
            else Mem.read 0x8000 (s.drv.felNext.getD s.drv.fel) i)) ∧
        t.fb F.DRV_STATUS_CAL_ECC = true ∧
        t.f F.DRV_CNT_CAL_ECC_CNT = satAdd F.DRV_CNT_CAL_ECC_CNT.top (s.f F.DRV_CNT_CAL_ECC_CNT) 1 ∧
        EvFrame [.drv] [0x6050, 0x6054] s t) ∧
    (∀ a, ∃ t, exec (.eccUncorrectable (.fallback a)) s = .next t ∧ t.drv = { s.drv with fb := s.nvm.fb } ∧
      t.fb F.SAF_FB_VALID = s.nvm.fbValid ∧ t.lyr.copies = [] ∧
      (∀ slot ∈ s.lyr.copies, ∀ b, s.buf? (60 + slot) = some b → t.buf? (60 + slot) = some { b with st := 0 }) ∧
      (∀ slot j, s.lyr.copies = [slot] → s.jobKey? 0x28 slot = some j → j.rq.quiet = false →
        SendsLast (replyOf 0x28 j.rq true St.badCrc [] j.seq) s t) ∧
      (s.lyr.copies = [] → Keeps [.regs, .drv] s t ∧ KeepsRegs [F.SAF_FB_VALID.addr, F.SAF_FB_IPRED.addr] s t) ∧
      CmdFrame [.drv, .lyr] [F.SAF_FB_VALID.addr, F.SAF_FB_IPRED.addr] s t) ∧
    (∀ c, mapSource s = some c →
      ∃ t, exec (.eccUncorrectable .map) s = .next t ∧ t.dia.map = c.pixels ∧ t.dia.mapComp = s.dia.mapComp ∧ t.dia.faults = [] ∧
        EvFrame [.dia] [0x7004, F.DIA_MAPSEQ_SEQ_A.addr, F.DIA_MAPSEQ_SEQ_B.addr] s t) ∧
    (∀ n r a k, n < 4 → (chkEng s n).run = some r → k = eccStop r (min 4096 (r.length - r.fed)) a →
      ∃ t bs, exec (.eccUncorrectable (.chk n a)) s = .next t ∧ (chkEng t n).run = none ∧ bs.length ≤ k ∧
        (r.source < 2 → bs = s.storeBytes (r.addr + r.fed) k) ∧
        t.f (chkF F.CHK_0_STAT_LAST_STATUS n) = St.badCrc ∧
        t.f (chkF F.CHK_0_RUN_RUN n) = crcFeed (crcAlg (chkEng s n).poly)
          (s.f (chkF F.CHK_0_RUN_RUN n) % 2 ^ (crcAlg (chkEng s n).poly).width) bs % 2 ^ 32 ∧
        t.f (chkF F.CHK_0_COUNT_COUNT n) = (s.f (chkF F.CHK_0_COUNT_COUNT n) + bs.length) % 2 ^ 32 ∧
        EvFrame [.chk, .chkTurn, .fresh] [0x20C4, 0xA008 + 0x20 * n, 0xA010 + 0x20 * n, 0xA014 + 0x20 * n] s t) ∧
    (∀ r n a, r.source ≤ 1 → (r.addr + r.fed ≤ a / 8 * 8 → a / 8 * 8 < r.addr + r.fed + n →
        r.addr + r.fed + eccStop r n a = a / 8 * 8) ∧
      (r.addr + r.fed + n ≤ a / 8 * 8 → eccStop r n a = n)) ∧
    (∀ e l a, s.cmd.inbox.filter QEntry.inQueue = e :: l → s.mustWait e.op e.rq = false → e.rq.quiet = false →
      (e.op ≠ 0x58 →
        ∃ t, exec (.eccUncorrectable (.command a)) s = .next t ∧ CmdFrame [] [] s t ∧ Answers e.op e.rq St.badCrc [] s t) ∧
      (∀ n src at_ base L k, e.op = 0x58 → chkLenOk e.rq.payload = true → n = u8 e.rq.payload 0 % 4 → (chkEng s n).run = none →
        src = u8 e.rq.payload 1 % 4 → at_ = u32 e.rq.payload 4 →
        chkSource s src (u8 e.rq.payload 2 % 64) at_ (u32 e.rq.payload 8) = .ok (base, L) →
        chkLong src at_ (u32 e.rq.payload 8) = false → k = eccStop ⟨src, base, L, 0⟩ L a → k < L →
        ∃ t, exec (.eccUncorrectable (.command a)) s = .next t ∧ Answers 0x58 e.rq St.badCrc (chkReply t n k) s t ∧
          (chkEng t n).run = none ∧ t.f (chkF F.CHK_0_STAT_LAST_STATUS n) = St.badCrc ∧
          CmdFrame [.chk, .fresh] [0xA008 + 0x20 * n, 0xA010 + 0x20 * n, 0xA014 + 0x20 * n] s t)) ∧
    (∀ b h, ∃ t, exec (.eccUncorrectable (.corrected b h)) s = .next t ∧
      t.hlv = { s.hlv with corrected := kvPut (b % 32) ((kvGet s.hlv.corrected (b % 32)).getD 0 + 1) s.hlv.corrected } ∧
      (∀ x, h = some x → t.f (ofHalf F.HLV_HEALTH_A_ECC_CORR x) =
        satAdd F.HLV_HEALTH_A_ECC_CORR.top (s.f (ofHalf F.HLV_HEALTH_A_ECC_CORR x)) 1) ∧
      (h = none → t.regs = s.regs) ∧ Keeps [.hlv, .regs] s t ∧ KeepsRegs [0x9008, 0x900C] s t)) ∧
  (∀ (s : State) (bc bp : List Nat),
    (s.off = true ∨ s.hlv.abdicated = none ∨ (∃ a, s.hlv.abdicated = some a ∧ a.tick ≠ some s.tck.frame) →
      exec (.takeover bc bp) s = .next s) ∧
    (∀ a, s.off = false → s.hlv.abdicated = some a → a.tick = some s.tck.frame →
      (s.activeHalf = a.half → s.hlv.active = true → s.health a.half ≠ Health.good →
        (s.health (otherHalf a.half) = Health.good → takeRole a s = some (changeActive (otherHalf a.half) s)) ∧
        (s.health (otherHalf a.half) ≠ Health.good →
          ∃ t, exec (.takeover bc bp) s = .next t ∧ t.hlv.active = false ∧ (t.reg 0x801C).getLsbD Src.halves = true)) ∧
      (s.activeHalf ≠ a.half ∨ s.hlv.active = false ∨ s.health a.half = Health.good → takeRole a s = some s) ∧
      (∀ u v, takeRole a s = some u → v = (if a.sampled = true then u else lateSample u) →
        v.cmd.journal = s.cmd.journal ∧
        exec (.takeover bc bp) s = .next (lostReport { s.cmd.journal.foldl (sweepEntry a bc bp)
          (((v.setF F.HLV_JOURNAL_BAD 0).setF F.HLV_JOURNAL_FAILED 0).setF F.HLV_JOURNAL_REPLAYED 0) with hlv.abdicated := none })) ∧
      (s.activeHalf = a.half → s.hlv.active = true → s.health a.half ≠ Health.good → s.health (otherHalf a.half) = Health.good →
        s.cmd.journal = [] →
        ∃ t, exec (.takeover bc bp) s = .next t ∧ t.activeHalf = otherHalf a.half ∧ t.hlv = { s.hlv with abdicated := none } ∧
          t.fb F.HLV_STATUS_SWITCHED = true ∧ t.reg 0x902C = BitVec.ofNat 32 s.tck.frame ∧
          t.f F.HLV_SW_CNT_SWITCH_CNT = satAdd F.HLV_SW_CNT_SWITCH_CNT.top (s.f F.HLV_SW_CNT_SWITCH_CNT) 1 ∧
          t.f F.HLV_JOURNAL_FAILED = 0 ∧ t.f F.HLV_JOURNAL_REPLAYED = 0 ∧ t.f F.HLV_JOURNAL_BAD = 0 ∧
          (a.sampled = true → EvFrame [.hlv] hlvRegs s t)))) ∧
  (∀ s : State, (lateSample s).obj.taken = false ∧
    (lateSample s).obj.cur = takeSample { s with tck.tickTime := s.tck.tickTime - (ratRound s.periodAct).toNat } s.tck.act ∧
    EvFrame [.obj] [F.OBJ_STATUS_FUTURE.addr] s (lateSample s)) ∧
  (∀ op rq idemp (s : State), s.journalUsed < 128 → ∃ l e, (openEntry op rq idemp s).cmd.journal = l ++ [e] ∧
    l.Sublist s.cmd.journal ∧ e.seq = s.cmd.seq ∧ e.op = op ∧ e.rq = rq ∧ e.idemp = idemp ∧
    (openEntry op rq idemp s).cmd.seq = (s.cmd.seq + 1) % 65536) ∧
  (∀ op rq, reqClassN op rq = true ↔ op ∈ [0x44, 0x25, 0x58, 0x61, 0x62, 0x68, 0x6A] ∨
    op = 0x09 ∧ (wrAddrs rq).any regClassN = true ∨ op = 0x0A ∧ regClassN (u32 rq.payload 0) = true) ∧
  (∀ (s : State) (a : Abdicated) (bc bp : List Nat) (e : JEntry) (t : State), t = sweepEntry a bc bp s e →
    (e.inUse = false → t = s) ∧
    (e.inUse = true → e.seq ∈ bc →
      t.f F.HLV_JOURNAL_BAD = satAdd F.HLV_JOURNAL_BAD.top (s.f F.HLV_JOURNAL_BAD) 1 ∧ (∀ j ∈ t.cmd.jobs, j.seq ≠ e.seq) ∧
      (e.seq ∈ bp → t.fb F.HLV_STATUS_JOURNAL_BAD = true ∧ (∀ p ∈ t.cmd.out, p.seq ≠ some e.seq) ∧
        (∀ x ∈ t.cmd.journal, x.seq ≠ e.seq)) ∧
      (e.seq ∉ bp → e.rq.quiet = false → replyOf e.op e.rq true St.failedSwitch (failedBody e 0xFFFFFFFF a) e.seq ∈ t.cmd.out ∧
        t.f F.HLV_JOURNAL_FAILED = satAdd F.HLV_JOURNAL_FAILED.top (s.f F.HLV_JOURNAL_FAILED) 1)) ∧
    (e.seq ∉ bc → e.state ≠ .executing → t = s) ∧
    (e.seq ∉ bc → e.state = .executing → e.idemp = false → e.rq.quiet = false → ∀ n, n = progressOf s e →
      (e.op = 0x09 → n = (wrWords e.rq).length) ∧ (e.op = 0x0A → n = 1) ∧ (e.op = 0x68 → n = s.f F.NVM_BIST_STEP) ∧
      (∀ r, e.op = 0x6A → s.nvm.test = some r → r.origin = 0 → n = s.f F.NVM_BIST_STEP) ∧
      (e.op ∈ [0x44, 0x25, 0x58, 0x61, 0x62] → n = e.progress) ∧
      (∃ ps, t.cmd.out = s.cmd.out.filter (fun p => !(p.seq == some e.seq && p.final)) ++
          replyOf e.op e.rq true St.failedSwitch (bytesLE 1 e.op ++ bytesLE 2 e.seq ++ bytesLE 4 n ++ bytesLE 4 a.frame ++
            bytesLE 1 a.cause ++ zeros 3) e.seq :: ps ∧
        (e.op ∉ [0x58, 0x68] → ps = [] ∧ t.cmd.jobs = s.cmd.jobs.filter (fun j => !(j.seq == e.seq))) ∧
        ((∀ j ∈ s.cmd.jobs, j.seq ≠ e.seq → j.op ≠ e.op) → ∀ p ∈ ps, p.kind = .event)) ∧
      (∀ j ∈ t.cmd.jobs, j.seq ≠ e.seq) ∧
      t.f F.HLV_JOURNAL_FAILED = satAdd F.HLV_JOURNAL_FAILED.top (s.f F.HLV_JOURNAL_FAILED) 1 ∧
      (∀ o ∈ t.nvm.ops, o.owner ≠ some e.seq) ∧
      (e.op = 0x58 → (chkEng t (bitsOf (u8 e.rq.payload 0) 1 0)).run = none) ∧
      (∀ r, e.op = 0x68 → s.nvm.test = some r → r.origin = 2 → s.nvm.testEnd = none →
        (s.nvm.stepNow = 0 → t.nvm.test = none) ∧ (s.nvm.stepNow ≠ 0 → t.nvm.testAbort = true)) ∧
      (∀ r, e.op = 0x6A → t.pwr.idleReq = some r → r.by_ ≠ .shutdown)) ∧
    (e.seq ∉ bc → e.state = .executing → e.idemp = true → (∀ j ∈ s.cmd.jobs, j.seq ≠ e.seq) → t = s) ∧
    (e.seq ∉ bc → e.state = .executing → e.idemp = true → ∀ j, s.cmd.jobs.find? (fun k => k.seq == e.seq) = some j →
      (e.op = 0x79 → j.rq.quiet = false →
        SendsLast (replyOf j.op j.rq true St.doneReplayed (halfSwitchBody s false s.tck.frame) e.seq) s t ∧
        t.f F.HLV_JOURNAL_REPLAYED = satAdd F.HLV_JOURNAL_REPLAYED.top (s.f F.HLV_JOURNAL_REPLAYED) 1) ∧
      (e.op = 0x48 → j.rq.quiet = false → ∃ m, bitOf m 2 = true ∧
        SendsLast (replyOf j.op j.rq true St.refusedState (pwrBody (pwrCode s.pwr.state) 2 m s.tck.frame) e.seq) s t ∧
        t.pwr = { s.pwr with idleReq := none, sleepReq := none } ∧ t.f F.HLV_JOURNAL_REPLAYED = s.f F.HLV_JOURNAL_REPLAYED) ∧
      (e.op = 0x2C → t = resumeCal e s) ∧
      (e.op ∉ [0x79, 0x48, 0x2C] → ∃ r : State × Reply,
        r = replayBody e.op e.rq { releaseWork e s with cmd.seq := (e.seq + 1) % 65536 } ∧
        t = lockAfter (closeReplay e ({ r.1 with cmd.seq := s.cmd.seq }, r.2))) ∧
      (e.op = 0x7A → e.rq.quiet = false → e.rq.payload.length = 4 → u8 e.rq.payload 0 ≤ 1 → u8 e.rq.payload 1 ≤ 3 →
        u16 e.rq.payload 2 = 0 → halfBusy s = true →
        t.cmd.out = s.cmd.out ++ [replyOf 0x7A e.rq true St.busy [] e.seq] ∧ t.cmd.jobs = s.cmd.jobs.filter (fun k => !(k.seq == e.seq)) ∧
        t.f F.HLV_JOURNAL_REPLAYED = s.f F.HLV_JOURNAL_REPLAYED) ∧
      (e.op = 0x49 → e.rq.quiet = false → e.rq.payload.length = 4 → u8 e.rq.payload 0 = s.f F.PWR_CLK_SEL →
        t.cmd.out = s.cmd.out ++ [replyOf 0x49 e.rq true St.doneReplayed (clkBody s 0) e.seq] ∧
        t.cmd.jobs = s.cmd.jobs.filter (fun k => !(k.seq == e.seq)) ∧
        t.f F.HLV_JOURNAL_REPLAYED = satAdd F.HLV_JOURNAL_REPLAYED.top (s.f F.HLV_JOURNAL_REPLAYED) 1)))

/-! ### Temperature -/

/-- R415 to R420, R423, R425 to R428: a round with the eight on-die sensors near their median takes their highest reading as
T_array, with the peak, the fit and the band it leads to, and asks for the thermal stop at SD_T; a remote channel that reads bad
three times is in FAULT until it reads OK three times, and a bad reading reports the last OK value (R416); the round takes every remote
channel by `tsOne`; that one with MODE 0 leaves FAULT at once is the model's choice (notes/assumptions/46.md); the fast cadence ends; a trip enters the THERMAL hold and latches what AON keeps, and the hold ends in a
THERMAL reset once the sensors it latched read below the release level; THERM_READ answers. -/
def Obligations.TemperaturesAreTaken : Prop :=
  (∀ (die : List Int) (ts : List (Nat × Nat)) (top : Int) (s : State), s.off = false → s.tck.started = true → die.length = 8 →
    (∀ n < 8, s.fb (F.THM_DIE0_VALID.at (4 * n)) = true ∧ (2 * nth 0 die n - median2 die).natAbs ≤ 320) →
    (∀ x ∈ die, -32768 ≤ x ∧ x ≤ top) → top ∈ die → top ≤ 32767 →
    ∃ t, exec (.thermalRound die ts) s = .next t ∧
      (∀ n < 8, tempOf t (F.THM_DIE0_T.at (4 * n)) = nth 0 die n ∧ t.fb (F.THM_DIE0_VALID.at (4 * n)) = true) ∧
      tempOf t F.THM_TARRAY_T = top ∧ t.f F.THM_TARRAY_VALID = 0xFF ∧ tempOf t F.THM_PEAK_PEAK = max (tempOf s F.THM_PEAK_PEAK) top ∧
      t.thm.band = nextBand s.thm.band top ∧ t.thm.hist = ((s.time, top) :: s.thm.hist).take 8 ∧
      t.f F.THM_STATUS_BAND = s.f F.THM_STATUS_BAND ∧
      (∀ n < 4, ∀ o, o = tsOne s n (nth (0, 0) ts n) →
        (∀ x ∈ [F.THM_TS0_T_T, F.THM_TS0_T_STAT, F.THM_TS0_T_FAULT, F.THM_TS0_RAW_RAW], t.f (tsF x n) = o.f (tsF x n)) ∧
        vnth 0 t.thm.tsRun n = vnth 0 o.thm.tsRun n ∧ vnth none t.thm.tsLast n = vnth none o.thm.tsLast n) ∧
      (∀ n < 4, s.f (tsF F.THM_TS0_CFG_MODE n) = 0 →
        t.f (tsF F.THM_TS0_T_STAT n) = tsOff ∧ t.fb (tsF F.THM_TS0_T_FAULT n) = false) ∧
      (s.sdActive = false → top < 16 * s.f F.THM_SD_SD_T → t.sdActive = false ∧ t.saf = s.saf ∧ t.nvm = s.nvm ∧
        ((∀ n < 4, s.f (tsF F.THM_TS0_CFG_MODE n) = 0) → t.cmd = s.cmd)) ∧
      (s.sdActive = false → 16 * s.f F.THM_SD_SD_T ≤ top → t.sdActive = true ∧ t.fb F.THM_STATUS_SD_SEEN = true ∧
        t.f F.THM_CNT_SD_CNT = satAdd F.THM_CNT_SD_CNT.top (s.f F.THM_CNT_SD_CNT) 1 ∧ Src.thermSd ∈ t.saf.active ∧
        (t.reg 0x801C).getLsbD Src.thermSd = true) ∧
      (s.sdActive = true → top < 16 * s.f F.THM_SD_SD_T - 80 → t.sdActive = false ∧ Src.thermSd ∉ t.saf.active) ∧
      (s.sdActive = true → 16 * s.f F.THM_SD_SD_T - 80 ≤ top → t.sdActive = true ∧ t.saf = s.saf) ∧
      EvFrame (.thm :: stopParts) (F.DIA_NEWCNT_NEW.addr :: F.DIA_STATUS_SAVE_FAIL.addr :: F.SAF_LOCK_UNLOCKED.addr ::
        F.HLV_JOURNAL_REPLAYED.addr :: stopWords ++ (List.range 34).map (fun i => 0xD004 + 4 * i)) s t) ∧
  (∀ (n run stat : Nat) (v : Nat × Nat) (s : State), n < 4 → stat = (tsReading s n v).1 → run = vnth 0 s.thm.tsRun n →
    (stat = tsOpen ∨ stat = tsShort ∨ stat = tsRange) → s.fb (tsF F.THM_TS0_T_FAULT n) = false →
    (tsOne s n v).f (tsF F.THM_TS0_T_STAT n) = stat ∧ (tsOne s n v).fb (tsF F.THM_TS0_T_FAULT n) = decide (2 ≤ run) ∧
      vnth 0 (tsOne s n v).thm.tsRun n = (if 2 ≤ run then 0 else run + 1) ∧
      (∀ x, vnth none s.thm.tsLast n = some x → -32768 ≤ x → x ≤ 32767 → tempOf (tsOne s n v) (tsF F.THM_TS0_T_T n) = x)) ∧
  (∀ (n run : Nat) (v : Nat × Nat) (s : State), n < 4 → (tsReading s n v).1 = tsOk → run = vnth 0 s.thm.tsRun n →
    s.fb (tsF F.THM_TS0_T_FAULT n) = true →
    (tsOne s n v).fb (tsF F.THM_TS0_T_FAULT n) = decide (run < 2) ∧
      vnth 0 (tsOne s n v).thm.tsRun n = (if 2 ≤ run then 0 else run + 1)) ∧
  (∀ (n : Nat) (v : Nat × Nat) (s : State) (x : Int), n < 4 → (tsReading s n v).2.1 = some x → -32768 ≤ x → x ≤ 32767 →
    tempOf (tsOne s n v) (tsF F.THM_TS0_T_T n) = x ∧
    vnth none (tsOne s n v).thm.tsLast n = (if (tsReading s n v).1 = tsOk then some x else vnth none s.thm.tsLast n)) ∧
  (∀ s : State,
    (∀ t0, s.thm.cool = some t0 → exec .fastCadenceEnd s =
      .next { s with thm.fast := false, thm.cool := none, time := max s.time (t0 + 10000000) }) ∧
    (s.thm.cool = none → exec .fastCadenceEnd s = .next s) ∧
    (∀ k, s.off = false →
      ∃ t, exec (.thermalTrip k) s = .next t ∧ t.sys.phase = .inReset ∧ t.thm.trip = some (dieValid s) ∧ t.saf.switches = false ∧
        t.fb F.SAF_STATE_VLED_EN = false ∧ t.fb F.RNG_STATUS_BYPASS = true ∧ t.f F.THM_TRIP_SENSOR = k % 8 ∧
        t.f F.THM_TRIP_RELEASE = s.f F.THM_SD_SD_T - 15 ∧ t.f F.THM_TRIP_FRAME_LO = s.tck.frame % 65536 ∧
        t.f F.THM_CNT_TRIP_CNT = satAdd F.THM_CNT_TRIP_CNT.top (s.f F.THM_CNT_TRIP_CNT) 1 ∧ t.nvm.ops = [] ∧
        t.cmd.out = [] ∧ t.cmd.inbox = [] ∧ t.pending = s.pending) ∧
    (∀ m die, s.thm.trip = some m →
      ((∀ n < 8, bitOf m n = true → nth 0 die n < 16 * s.f F.THM_TRIP_RELEASE) →
        exec (.tripHoldMonitor die) s = .next { s with thm.trip := none, sys.causes := s.sys.causes ++ [.thermal] }) ∧
      ((∃ n < 8, bitOf m n = true ∧ 16 * s.f F.THM_TRIP_RELEASE ≤ nth 0 die n) → exec (.tripHoldMonitor die) s = .next s)) ∧
    (∀ rq, Runs 0x38 rq s → rq.payload = [] →
      ∃ t, exec (.thermRead rq) s = .next t ∧ CmdFrame [] [] s t ∧ Answers 0x38 rq St.ok (thermReadReply s) s t))

/-! ### Packets -/

/-- R329, R330, R335, R337 to R339, R342, R345, R347: a packet with every field in its range reads back as its fields and passes
both CRCs; a command so encoded that has room and a new ALIVE is accepted by PACKET_RECEIVE: its entry joins the queue with the
TIME, the frame and the row (R61), and its stream's ALIVE and the master time move. A failed header is counted and not answered; a wrong length, a full
queue, a failed CRC and a repeated ALIVE are each refused with their status and reason, and nothing joins the queue. A command that
no row executes joins the queue too and is answered in its turn (R338, R355), as soon as those before it are served, with no row of its
own (the model's choice, notes/assumptions/14.md): the queue is taken as served that far. -/
def Obligations.EncodedPacketsAreReceived : Prop :=
  ∀ (dest type stream op tag alive arg : Nat) (q : Bool) (pl bs : List Byte), dest < 32 → type < 8 → stream < 8 → op < 256 → tag < 256 →
    alive < 256 → arg < 2 ^ 24 → pl.length ≤ 4080 → bs = encodePkt dest type (stream + 8 * b2n q) op tag alive arg pl →
    (readHdr bs = ⟨dest, type, stream, q, op, tag, alive, pl.length, arg⟩ ∧ hcrcOk bs = true ∧ pktCrcOk bs = true ∧
      bs.length = 16 + pl.length ∧ slice bs 12 pl.length = pl) ∧
    (∀ (port : Port) (s : State), s.off = false → (∀ e ∈ s.cmd.inbox, noRow e.op = none) →
      ∀ rq h, rq = (⟨port, dest == 31, stream, q, tag, alive, arg, pl⟩ : Req) →
        h = (⟨dest, type, stream, q, op, tag, alive, pl.length, arg⟩ : Hdr) → type = 0 → stream ≠ 2 → stream ≠ 3 →
      ∀ refusedAs : Nat → Nat → State → Prop, refusedAs = (fun st why t => ∃ p, SendsLast p s t ∧ p.kind ∈ [.reply, .stopReply] ∧ p.op = op ∧
          p.tag = tag ∧ p.port = port ∧ p.final = true ∧ p.payload = pad4 (BitVec.ofNat 8 st :: bytesLE 1 why) ∧
          t.cmd.inbox = s.cmd.inbox ∧ t.cmd.jobs = s.cmd.jobs) →
      (pl.length % 4 = 0 → roomReason s h = none → aliveOk s h = true → noRow op = none →
        ∃ t, exec (.packetReceive port bs) s = .next t ∧
          t.cmd.inbox = s.cmd.inbox ++ [⟨0, op, rq, s.time, s.tck.frame, s.tck.row⟩] ∧
          t.f (aliveLast stream) = alive ∧ t.fb (aliveValid stream) = true ∧
          (s.job? 0x6A = none → t.cmd.out = s.cmd.out ∧ t.cmd.jobs = s.cmd.jobs) ∧
          (stream ≠ 1 → t.cmd.masterTime = s.time ∧ t.cmd.masterStream = stream) ∧
          (stream = 1 → t.cmd.masterTime = s.cmd.masterTime)) ∧
      (pl.length % 4 ≠ 0 → ∃ t, exec (.packetReceive port bs) s = .next t ∧ refusedAs St.badLength 3 t ∧
        t.f F.CMD_CNT_REF_LEN_CNT = satAdd F.CMD_CNT_REF_LEN_CNT.top (s.f F.CMD_CNT_REF_LEN_CNT) 1) ∧
      (∀ why, pl.length % 4 = 0 → roomReason s h = some why → (op = 0x46 → s.bistRuns = false) →
        ∃ t, exec (.packetReceive port bs) s = .next t ∧ refusedAs St.busy why t ∧
          t.f F.CMD_CNT_REF_BUSY_CNT = satAdd F.CMD_CNT_REF_BUSY_CNT.top (s.f F.CMD_CNT_REF_BUSY_CNT) 1) ∧
      (pl.length % 4 = 0 → roomReason s h = none → aliveOk s h = false →
        ∃ t, exec (.packetReceive port bs) s = .next t ∧ refusedAs St.repeatAlive 5 t) ∧
      (∀ st u, pl.length % 4 = 0 → roomReason s h = none → aliveOk s h = true → noRow op = some st →
        u = takeIn 0 op rq (if masterStream stream then noteMaster stream s else s) →
        (u.mustWait op rq = true → exec (.packetReceive port bs) s = .next u) ∧
        (u.mustWait op rq = false → ∃ t, exec (.packetReceive port bs) s = .next t ∧
          (q = false → SendsLast (replyOf op rq true st [] u.cmd.seq) u t) ∧ t.cmd.inbox = s.cmd.inbox ∧
          t.cmd.jobs = u.cmd.jobs))) ∧
    (∀ (port : Port) (s : State) (raw : List Byte) (h : Hdr), s.off = false → (∀ e ∈ s.cmd.inbox, noRow e.op = none) → hcrcOk raw = true → h = readHdr raw → h.type = 0 →
      h.stream ≠ 2 → h.stream ≠ 3 → h.len % 4 = 0 → h.len ≤ 4080 → raw.length = 16 + h.len → roomReason s h = none → pktCrcOk raw = false →
      ∃ t p, exec (.packetReceive port raw) s = .next t ∧ SendsLast p s t ∧ p.op = h.op ∧ p.tag = h.tag ∧
        p.payload = pad4 [BitVec.ofNat 8 St.badCrc, 4] ∧ t.cmd.inbox = s.cmd.inbox ∧
        t.f F.CMD_CNT_RX_CRC_CNT = satAdd F.CMD_CNT_RX_CRC_CNT.top (s.f F.CMD_CNT_RX_CRC_CNT) 1) ∧
    (∀ (port : Port) (s : State) (raw : List Byte), s.off = false → (∀ e ∈ s.cmd.inbox, noRow e.op = none) → hcrcOk raw = false →
      ∃ t, exec (.packetReceive port raw) s = .next t ∧ t.fb F.CMD_STATUS_HCRC = true ∧ SendsEvents s t ∧ t.cmd.inbox = s.cmd.inbox ∧
        t.f F.CMD_CNT_RX_HCRC_CNT = satAdd F.CMD_CNT_RX_HCRC_CNT.top (s.f F.CMD_CNT_RX_HCRC_CNT) 1 ∧
        EvFrame [] [F.CMD_CNT_RX_HCRC_CNT.addr] s t)

/-- R298, R304, R305, R312, R331, R333, R334, R352, R356, R357: what passes an engine. With the bypass closed everything passes unread; in RUN a packet for
another address or from an engine is forwarded, one for this address taken off, one for 31 forwarded and received; TYPE 6 and 7 are discarded
and counted. With fewer lanes out than in, what the lanes do not take waits in the transit buffer of 16 KiB, beyond which a video
packet is shed. PACKET_INSERT sends the oldest of it first, else the waiting packet of highest priority whole, if it fits the gap. On the service port PUT receives, GET clocks out the oldest packet
and removes it with its last byte, STAT reports and clears RESET_SEEN, another operation is counted; each answers the status byte. -/
def Obligations.PacketsPassAndLeave : Prop :=
  ∀ s : State,
    (∀ bs fits, s.fb F.RNG_STATUS_BYPASS = true → exec (.packetPass bs fits) s = .next { s with dn := bs }) ∧
    (∀ bs fits h, s.ringRuns = true → hcrcOk bs = true → h = readHdr bs → noticeForUs s bs = false →
      (s.holdsTransit = false ∨ fits = true ∧ s.rng.transit = [] ∧ s.f F.RNG_STATUS_TX_MAP ≠ 0) →
      ((h.type = 1 ∨ h.type = 2 ∨ h.type = 5 ∨ h.dest = 0 ∨ h.dest ≠ 31 ∧ (s.fb F.RNG_ADDR_VALID = false ∨ h.dest ≠ s.f F.RNG_ADDR_ADDR)) →
        ∃ t, exec (.packetPass bs fits) s = .next t ∧ t.dn = bs ∧ Keeps [.regs, .dn] s t ∧ KeepsRegs [F.RNG_SILENT_BEACONS.addr] s t) ∧
      (h.type = 0 ∨ h.type = 3 → h.dest ≠ 0 → h.dest = s.f F.RNG_ADDR_ADDR → s.fb F.RNG_ADDR_VALID = true → s.off = false →
        exec (.packetPass bs fits) s = exec (.packetReceive .ring bs) { s with dn := [] }) ∧
      (h.type = 0 ∨ h.type = 3 → h.dest = 31 → s.f F.RNG_ADDR_ADDR ≠ 31 → s.off = false →
        exec (.packetPass bs fits) s = exec (.packetReceive .ring bs) { s with dn := bs }) ∧
      (h.type = 6 ∨ h.type = 7 → (h.dest = 31 ∨ h.dest ≠ 0 ∧ h.dest = s.f F.RNG_ADDR_ADDR ∧ s.fb F.RNG_ADDR_VALID = true) →
        s.off = false → (∀ e ∈ s.cmd.inbox, noRow e.op = none) →
        exec (.packetPass bs fits) s =
          .next ((({ s with dn := [] } : State).bump F.CMD_CNT_IGN_TYPE_CNT).setB F.CMD_STATUS_TYPE_BAD true))) ∧
    (∀ bs h, s.ringRuns = true → hcrcOk bs = true → h = readHdr bs → noticeForUs s bs = false → s.holdsTransit = true →
      h.dest ≠ 31 → (s.fb F.RNG_ADDR_VALID = false ∨ h.dest ≠ s.f F.RNG_ADDR_ADDR) →
      (h.type = 3 → 16384 < s.transitBytes + bs.length → exec (.packetPass bs false) s =
        .next (({ s with dn := [] } : State).bump F.RNG_CNT2_VID_SHED)) ∧
      (h.type ≠ 3 ∨ s.transitBytes + bs.length ≤ 16384 → ∃ t, exec (.packetPass bs false) s = .next t ∧ t.dn = [] ∧
        t.rng = { s.rng with transit := s.rng.transit ++ [bs] } ∧ Keeps [.regs, .dn, .rng] s t ∧
        KeepsRegs [F.RNG_SILENT_BEACONS.addr] s t)) ∧
    (∀ gap b l, s.rng.transit = b :: l → exec (.packetInsert gap) s =
      .next (if s.sends = true ∧ b.length ≤ gap then { s with dn := b, rng.transit := l } else s)) ∧
    (∀ gap, s.rng.transit = [] → nextOut s = none → exec (.packetInsert gap) s = .next s) ∧
    (∀ gap p, s.rng.transit = [] → nextOut s = some p → gap < 16 + p.payload.length → exec (.packetInsert gap) s = .next s) ∧
    (∀ gap p, s.rng.transit = [] → nextOut s = some p → 16 + p.payload.length ≤ gap → s.cmd.lost = 0 → s.nvm.test = none →
      ∃ t, exec (.packetInsert gap) s = .next t ∧ t.dn = outBytesOf s p ∧ t.cmd.out = s.cmd.out.erase p ∧
        (∀ x, p.seq = some x → p.final = true → ∀ e ∈ t.cmd.journal, e.seq = x → e.sent = true) ∧
        (p.op = 0x7F → p.type = 1 → p.port = .ring → t.sys = { s.sys with softAt := s.time + 100000 }) ∧
        (p.op ≠ 0x7F → t.sys = s.sys) ∧ Keeps [.dn, .cmd, .sys] s t) ∧
    (∀ gap p, s.rng.transit = [] → nextOut s = some p → 16 + p.payload.length ≤ gap → s.nvm.test = none →
      eventSpace { s with cmd.out := s.cmd.out.erase p } = false →
      ∃ t, exec (.packetInsert gap) s = .next t ∧ t.cmd.lost = s.cmd.lost ∧ t.cmd.lostCode = s.cmd.lostCode ∧
        t.cmd.out = s.cmd.out.erase p) ∧
    (∀ p, nextOut s = some p → (p.kind ≠ .beacon → ∀ o ∈ s.cmd.out, insertable s o = true → o.kind ≠ .beacon) ∧
      (p.kind = .event → ∀ o ∈ s.cmd.out, insertable s o = true → o.kind = .event)) ∧
    (s.spiOn = true →
      (∀ bs, ∃ t, exec (.spiPut bs true) s = .next t ∧ t.spiOut = bytesLE 1 (spiStatus s) ∧ t.cmd = { s.cmd with lastPutOk := false } ∧
        t.fb F.CMD_STATUS_SPI_ABORT = true ∧
        t.f F.CMD_SPI_ABORT_CNT = satAdd F.CMD_SPI_ABORT_CNT.top (s.f F.CMD_SPI_ABORT_CNT) 1 ∧
        Keeps [.regs, .cmd, .spiOut] s t ∧ KeepsRegs [0x2004, F.CMD_SPI_ABORT_CNT.addr] s t) ∧
      (∀ bs, bs.length ≤ 16 + (readHdr bs).len →
        ∃ t u, exec (.spiPut bs false) s = .next t ∧ exec (.packetReceive .spi bs) { s with spiOut := bytesLE 1 (spiStatus s) } = .next u ∧
          t = { u with cmd.lastPutOk := rxAccepts .spi bs (serveQueue { s with spiOut := bytesLE 1 (spiStatus s) }) }) ∧
      (∀ n, nextSpi s = none → exec (.spiGet n) s = .next { s with spiOut := bytesLE 1 (spiStatus s) ++ [0, 0, 0] }) ∧
      (∀ n p, nextSpi s = some p → n < 16 + p.payload.length →
        exec (.spiGet n) s = .next { s with
          spiOut := bytesLE 1 (spiStatus s) ++ [0] ++ bytesLE 2 (16 + p.payload.length) ++ (outBytesOf s p).take n }) ∧
      (∀ n p, nextSpi s = some p → 16 + p.payload.length ≤ n → s.cmd.lost = 0 → s.nvm.test = none →
        ∃ t, exec (.spiGet n) s = .next t ∧ t.cmd.out = s.cmd.out.erase p ∧
          t.spiOut = bytesLE 1 (spiStatus s) ++ [0] ++ bytesLE 2 (16 + p.payload.length) ++ outBytesOf s p ∧ Keeps [.spiOut, .cmd] s t) ∧
      (∀ out, out = bytesLE 1 (spiStatus s) ++ [0] ++ bytesLE 1 (min 255 s.spiWaiting) ++ bytesLE 2 s.cmdFree ++
          bytesLE 1 (s.f F.CMD_SPI_BAD_OP_CNT) →
        exec .spiStat s = .next { s with cmd.resetSeen := false, spiOut := out }) ∧
      (∀ op, op ≠ 1 → op ≠ 2 → op ≠ 3 → exec (.spiBadOp op) s =
        .next (({ s with spiOut := bytesLE 1 (spiStatus s) } : State).bump F.CMD_SPI_BAD_OP_CNT)))

/-! ### Resets and the boot -/

/-- R11, R404, R406, R410, R419, R430 to R434, R437, R467, R472: reset holds every register at its reset value, memory in canonical form and no
command waiting. A device reset takes the light off, closes the bypass, cuts the eNVM operation, empties the queues, and leaves each
register its reset value but for those that AON or the eNVM keep; POR and BOR reset AON too. RESET asks for a SOFT reset once its reply
has gone. The release records the cause, senses pins and supplies, judges the pad pairs, ends a first temperature round whose band is in
force at once, starts both halves from a valid slot and decides the lamp state; with neither copy of the safety record valid every stored parameter takes its reset value (R252).
The model's choices among this: a lifetime counter that is lost restarts at 1 (notes/assumptions/36.md), ELAPSED_S is kept over a pin
reset (notes/assumptions/34.md), and a supply dip outlives the reset, its instant at TIME 0 and its length kept
(notes/assumptions/63.md). -/
def Obligations.ResetsAreAssertedAndReleased : Prop :=
  (State.reset.pending = [] ∧ State.reset.sys.phase = .inReset ∧ Dark State.reset ∧ State.reset.cmd.inbox = [] ∧ State.reset.cmd.out = [] ∧
    StoresCanonical State.reset ∧ (regRows.map RegRow.addr).Nodup ∧
    (∀ r ∈ regRows, State.reset.reg r.addr = BitVec.ofNat 32 r.reset) ∧
    (∀ r ∈ regRows, r.item = true → Mem.read 0 State.reset.tck.act.regs r.addr = BitVec.ofNat 32 r.reset)) ∧
  (∀ (s : State) (c : Instr) (k : ResetKind),
    (c = .por ∧ k = .por ∨ (∃ mv < 1560, c = .bor mv) ∧ k = .bor ∨ c = .resetNLow ∧ k = .pin ∨
      c = .softReset ∧ k = .soft ∧ s.sys.softAsked = true ∧ s.off = false ∧
        (∀ p ∈ s.cmd.out, ¬ (p.op = 0x7F ∧ p.port = .ring ∧ p.type = 1))) →
    ∃ t, exec c s = .next t ∧ t.sys.phase = .inReset ∧ k ∈ t.sys.causes ∧ Dark t ∧ t.fb F.RNG_STATUS_BYPASS = true ∧ t.cmd = {} ∧
      t.nvm.ops = [] ∧ t.nvm.started = false ∧ t.tck.running = false ∧ t.drv = {} ∧ t.lyr = {} ∧ t.obj = {} ∧ t.time = 0 ∧ t.dn = [] ∧
      t.saf.pinA = s.saf.pinA ∧ t.saf.pinB = s.saf.pinB ∧ t.pending = s.pending ∧
      t.pwr.dip = (if k = .por ∨ k = .bor then none else s.pwr.dip.map (fun d => (0, d.2))) ∧
      t.pwr.dipBefore = (if k = .por ∨ k = .bor then 0 else s.pwr.dipBefore + (s.time - (s.pwr.dip.map Prod.fst).getD s.time)) ∧
      (k = .pin → s.pwr.state ≠ .sleep → t.pwr.elapsedKept = s.elapsedS) ∧
      (s.nvm.ops = [] → s.dia.save = none → t.saf.log = s.saf.log ∧ t.saf.copyA = s.saf.copyA ∧ t.saf.copyB = s.saf.copyB ∧
        t.nvm.bytes = s.nvm.bytes ∧ t.nvm.fb = s.nvm.fb ∧ t.nvm.mapA = s.nvm.mapA ∧ t.nvm.mapB = s.nvm.mapB ∧ t.nvm.life = s.nvm.life) ∧
      (∀ r ∈ regRows, r.keep = 0 ∨ r.keep = 1 ∧ (k = .por ∨ k = .bor) → t.reg r.addr = BitVec.ofNat 32 r.reset) ∧
      (∀ r ∈ regRows, r.keep = 2 ∨ r.keep = 1 ∧ k ≠ .por ∧ k ≠ .bor → s.pwr.state ≠ .sleep ∨ r.addr ≠ 0xC040 ∧ r.addr ≠ 0xC044 →
        t.reg r.addr = s.reg r.addr)) ∧
  (∀ (s : State) (mv : Nat), 1560 ≤ mv → exec (.bor mv) s = .next s) ∧
  (∀ (rq : Req) (s : State), Runs 0x7F rq s → rq.payload.length = 4 →
    (u8 rq.payload 0 = 0xA5 → ∃ t, exec (.reset rq) s = .next t ∧ Answers 0x7F rq St.ok [] s t ∧ CmdFrame [.sys] [] s t ∧
      t.sys = { s.sys with softAsked := true, softAt := s.time + 100000, quickAsked := bitOf (u8 rq.payload 1) 0 }) ∧
    (u8 rq.payload 0 ≠ 0xA5 → ∃ t, exec (.reset rq) s = .next t ∧ Refuses 0x7F rq St.badParam s t)) ∧
  (∀ (s : State) (env : BootEnv),
    (mayRelease env s = false → exec (.resetRelease env) s = .next s) ∧
    (mayRelease env s = true →
      ∃ t, exec (.resetRelease env) s = .next t ∧ t.sys.phase = .boot ∧ t.sys.causes = [] ∧ t.sys.softAsked = false ∧ t.time = 0 ∧
        t.f F.SYS_RSTCAUSE_KIND = kindCode (kindOf s.sys.causes) ∧
        (∀ k ∈ s.sys.causes, bitOf (t.f F.SYS_RSTCAUSE_HIST) (kindCode k) = true) ∧
        t.fb F.SYS_RSTCAUSE_FROM_SLEEP = s.sys.fromSleep ∧
        (.pin ∈ s.sys.causes → t.f F.PWR_RSTPIN_BUCKET = bucketOf env.lowMs) ∧
        t.f F.RNG_TXID_TXID = env.txId % 65536 ∧ t.fb F.PWR_CLK_XTAL_OK = env.xtalOk ∧ t.f F.SYS_PAD_FAIL = padFails env ∧
        t.f F.SYS_PAD_UNTESTED = padUntested env ∧ t.fb F.SYS_BOOT_PAD_FAIL = !(padFails env == 0) ∧
        (∀ k < 8, (bitOf (padFails env) k = true ↔ some true ∈ padPair env k) ∧
          (bitOf (padUntested env) k = true ↔ ∀ x ∈ padPair env k, x = none)) ∧
        (s.tck.started = false → t.f F.THM_STATUS_BAND = t.thm.band) ∧
        t.saf.pinA = env.pinA ∧ t.saf.pinB = env.pinB ∧ t.pwr.vsupMv = env.vsupMv ∧ t.pwr.vledMv = env.vledMv ∧
        t.lamp = (if autoFallback t = true then Lamp.safeHold else Lamp.dark) ∧
        (s.nvm.slotA.valid = true → .slot 0 ∉ env.bad → t.health .a = Health.boot ∧ t.health .b = Health.boot) ∧
        (.life ∉ env.bad → s.nvm.lifeOk = true → t.nvm.boots = s.nvm.boots + 1) ∧
        (.life ∈ env.bad ∨ s.nvm.lifeOk = false → t.nvm.boots = 1 ∧ t.fb F.NVM_STATUS_LIFE_RESET = true) ∧
        (s.saf.copyA.valid = false → s.saf.copyB.valid = false → t.fb F.SAF_LOCK_CFG_INVALID = true ∧
          t.saf.password = List.replicate 8 0 ∧ ∀ a ∈ storedAddrs, ∀ r, regRow a = some r → ∀ i < 32,
            (BitVec.ofNat 32 r.rwl).getLsbD i = true → (t.reg a).getLsbD i = (BitVec.ofNat 32 r.reset).getLsbD i) ∧
        (t.f F.SYS_BOOT_QUICK_WHY ≠ 0 → t.nvm.test.isSome = true ∧ t.fb F.SAF_STATE_VLED_EN = false) ∧ t.pending = s.pending))

/-! ### The whole part -/

/-- Every step keeps every memory of the part in its canonical form (`StoresCanonical` names them), whatever command it runs: a run of
writes, a set applied, a lost bank, an erased page, a snapshot, a reset or a boot leaves no address listed twice and no entry that equals what an unlisted address reads as. So equal
memories are equal data. What an unlisted address reads as is the model's choice (notes/assumptions/10.md). -/
def Obligations.EveryStepKeepsTheStoresCanonical : Prop :=
  ∀ s t : State, StoresCanonical s → step s = .next t → StoresCanonical t
end

