-- ==== Sys2Proof/Laws/Bytes.lean ====
section
/-! SUPPORT. Little-endian fields and check values: a number below the field's bound is read back from its bytes; a CRC-32C lies
below 2^32. -/

namespace Sys2Proof.Machine

/-- A number is read back from its bytes, modulo what they hold. -/
theorem leNat_bytesLE (n v : Nat) : leNat (bytesLE n v) = v % 256 ^ n := by
  induction n generalizing v with
  | zero => simp [bytesLE, leNat, Nat.mod_one]
  | succ n ih =>
    have e : (256 : Nat) ^ (n + 1) = 256 * 256 ^ n := by rw [Nat.pow_succ, Nat.mul_comm]
    rw [bytesLE, leNat, ih, BitVec.toNat_ofNat, e, Nat.mod_mul]

/-- `n` bytes are `n` bytes long. -/
@[simp] theorem bytesLE_length (n v : Nat) : (bytesLE n v).length = n := by
  induction n generalizing v with
  | zero => rfl
  | succ n ih => simp [bytesLE, ih]

/-- A reflected register keeps its width. -/
theorem crcStepR_lt (w poly : Nat) (hp : poly < 2 ^ w) (n c : Nat) (hc : c < 2 ^ w) : crcStepR poly n c < 2 ^ w := by
  induction n generalizing c with
  | zero => exact hc
  | succ n ih =>
    have hs : c >>> 1 < 2 ^ w := Nat.lt_of_le_of_lt (Nat.shiftRight_le c 1) hc
    rw [crcStepR]
    split
    · exact ih _ (Nat.xor_lt_two_pow hs hp)
    · exact ih _ hs

/-- A CRC-32C lies below 2^32. -/
theorem crc32c_lt (bs : List Byte) : crc32c bs < 2 ^ 32 := by
  have step : ∀ (bs : List Byte) (c : Nat), c < 2 ^ 32 → crcFeed (crcAlg 1) c bs < 2 ^ 32 := by
    intro bs
    induction bs with
    | nil => exact fun c h => h
    | cons b bs ih =>
      intro c h
      refine ih _ (crcStepR_lt 32 _ (by decide) 8 _ (Nat.xor_lt_two_pow h ?_))
      exact Nat.lt_of_lt_of_le b.isLt (by decide)
  exact Nat.xor_lt_two_pow (step bs _ (by decide)) (by decide)

end Sys2Proof.Machine
end

