-- ==== Sys2Proof/Laws/Sparse.lean ====
section
/-! SUPPORT. The laws of the sparse memories: a read after a write, and that every memory operation keeps the one
canonical form (`Mem.wf`). -/

namespace Sys2Proof.Machine

variable {w : Nat} {d : BitVec w}

/-- The canonical form: rising keys, no entry that equals the default. -/
theorem Mem.wf_iff (m : Mem w) :
    Mem.wf d m = true ↔ m.Pairwise (fun e f => e.1 < f.1) ∧ ∀ e ∈ m, e.2 ≠ d := by
  induction m with
  | nil => simp [Mem.wf]
  | cons e t ih =>
    cases t with
    | nil => simp [Mem.wf]
    | cons f t =>
      obtain ⟨a, v⟩ := e
      obtain ⟨b, u⟩ := f
      have hcons : Mem.wf d ((a, v) :: (b, u) :: t) = true ↔
          (a < b ∧ v ≠ d) ∧ Mem.wf d ((b, u) :: t) = true := by
        simp [Mem.wf]
      rw [hcons, ih]
      constructor
      · rintro ⟨⟨hab, hv⟩, hp, hne⟩
        refine ⟨List.pairwise_cons.2 ⟨?_, hp⟩, ?_⟩
        · intro g hg
          rcases List.mem_cons.1 hg with rfl | hg
          · exact hab
          · exact lt_trans hab ((List.pairwise_cons.1 hp).1 g hg)
        · intro g hg
          rcases List.mem_cons.1 hg with rfl | hg
          · exact hv
          · exact hne g hg
      · rintro ⟨hp, hne⟩
        have h1 := List.pairwise_cons.1 hp
        exact ⟨⟨h1.1 (b, u) (by simp), hne (a, v) (by simp)⟩, h1.2, fun g hg => hne g (List.mem_cons_of_mem _ hg)⟩

/-- Leaving entries out keeps the form. -/
theorem Mem.wf_filter (p : Nat × BitVec w → Bool) {m : Mem w} (h : Mem.wf d m = true) :
    Mem.wf d (m.filter p) = true := by
  rw [Mem.wf_iff] at h ⊢
  exact ⟨h.1.filter p, fun e he => h.2 e (List.mem_filter.1 he).1⟩

/-- The entries of a memory with one put in. -/
theorem Mem.mem_put {a : Nat} {v : BitVec w} {m : Mem w} {e : Nat × BitVec w} (h : e ∈ Mem.put a v m) :
    e = (a, v) ∨ e ∈ m := by
  induction m with
  | nil => simp [Mem.put] at h; exact .inl h
  | cons f t ih =>
    obtain ⟨b, u⟩ := f
    unfold Mem.put at h
    split at h
    · rcases List.mem_cons.1 h with h | h
      · exact .inl h
      · exact .inr h
    · split at h
      · rcases List.mem_cons.1 h with h | h
        · exact .inl h
        · exact .inr (List.mem_cons_of_mem _ h)
      · rcases List.mem_cons.1 h with h | h
        · exact .inr (h ▸ List.mem_cons_self)
        · rcases ih h with h | h
          · exact .inl h
          · exact .inr (List.mem_cons_of_mem _ h)

/-- Putting an entry in keeps the form. -/
theorem Mem.wf_put {a : Nat} {v : BitVec w} (hv : v ≠ d) {m : Mem w} (h : Mem.wf d m = true) :
    Mem.wf d (Mem.put a v m) = true := by
  rw [Mem.wf_iff] at h ⊢
  refine ⟨?_, fun e he => ?_⟩
  · obtain ⟨hp, -⟩ := h
    induction m with
    | nil => simp [Mem.put]
    | cons f t ih =>
      obtain ⟨b, u⟩ := f
      obtain ⟨h1, h2⟩ := List.pairwise_cons.1 hp
      unfold Mem.put
      split
      · rename_i hab
        refine List.pairwise_cons.2 ⟨?_, hp⟩
        intro g hg
        rcases List.mem_cons.1 hg with rfl | hg
        · exact hab
        · exact lt_trans hab (h1 g hg)
      · split
        · rename_i hab
          subst hab
          exact List.pairwise_cons.2 ⟨h1, h2⟩
        · refine List.pairwise_cons.2 ⟨?_, ih h2⟩
          intro g hg
          rcases Mem.mem_put hg with rfl | hg
          · show b < a
            omega
          · exact h1 g hg
  · rcases Mem.mem_put he with rfl | he
    · exact hv
    · exact h.2 e he

/-- Writing a cell keeps the form. -/
theorem Mem.wf_write {m : Mem w} (h : Mem.wf d m = true) (a : Nat) (v : BitVec w) :
    Mem.wf d (Mem.write d m a v) = true := by
  unfold Mem.write
  split
  · exact Mem.wf_filter _ h
  · exact Mem.wf_put (by assumption) h

/-- The entries of a run stand in the run and hold no default. -/
theorem Mem.mem_entries {a : Nat} {vs : List (BitVec w)} {e : Nat × BitVec w} (h : e ∈ Mem.entries d a vs) :
    a ≤ e.1 ∧ e.1 < a + vs.length ∧ e.2 ≠ d := by
  induction vs generalizing a with
  | nil => simp [Mem.entries] at h
  | cons v t ih =>
    unfold Mem.entries at h
    have len : (v :: t).length = t.length + 1 := rfl
    rw [len]
    split at h
    · obtain ⟨h1, h2, h3⟩ := ih h
      exact ⟨by omega, by omega, h3⟩
    · rcases List.mem_cons.1 h with rfl | h
      · exact ⟨le_refl _, by omega, by assumption⟩
      · obtain ⟨h1, h2, h3⟩ := ih h
        exact ⟨by omega, by omega, h3⟩

/-- The entries of a run are in canonical form. -/
theorem Mem.wf_entries (a : Nat) (vs : List (BitVec w)) : Mem.wf d (Mem.entries d a vs) = true := by
  rw [Mem.wf_iff]
  refine ⟨?_, fun e he => (Mem.mem_entries he).2.2⟩
  induction vs generalizing a with
  | nil => exact List.Pairwise.nil
  | cons v t ih =>
    unfold Mem.entries
    split
    · exact ih (a + 1)
    · exact List.pairwise_cons.2 ⟨fun e he => (Mem.mem_entries he).1, ih (a + 1)⟩

/-- Writing a run of cells keeps the form. -/
theorem Mem.wf_writeRun {m : Mem w} (h : Mem.wf d m = true) (a : Nat) (vs : List (BitVec w)) :
    Mem.wf d (Mem.writeRun d m a vs) = true := by
  have hlo := (Mem.wf_iff _).1 (Mem.wf_filter (fun e => decide (e.1 < a)) h)
  have hhi := (Mem.wf_iff _).1 (Mem.wf_filter (fun e => decide (a + vs.length ≤ e.1)) h)
  have hen := (Mem.wf_iff _).1 (Mem.wf_entries (d := d) a vs)
  rw [Mem.wf_iff]
  unfold Mem.writeRun
  constructor
  · refine List.pairwise_append.2 ⟨List.pairwise_append.2 ⟨hlo.1, hen.1, ?_⟩, hhi.1, ?_⟩
    · intro e he f hf
      have h1 := of_decide_eq_true (List.mem_filter.1 he).2
      have h2 := (Mem.mem_entries hf).1
      omega
    · intro e he f hf
      have h2 := of_decide_eq_true (List.mem_filter.1 hf).2
      rcases List.mem_append.1 he with he | he
      · have h1 := of_decide_eq_true (List.mem_filter.1 he).2
        omega
      · have h1 := (Mem.mem_entries he).2.1
        omega
  · intro e he
    rcases List.mem_append.1 he with he | he
    · rcases List.mem_append.1 he with he | he
      · exact hlo.2 e he
      · exact hen.2 e he
    · exact hhi.2 e he

/-- Erasing a run of cells keeps the form. -/
theorem Mem.wf_eraseRun {m : Mem w} (h : Mem.wf d m = true) (a n : Nat) : Mem.wf d (Mem.eraseRun m a n) = true :=
  Mem.wf_filter _ h

/-- An empty memory reads as the default everywhere. -/
@[simp] theorem Mem.read_nil (a : Nat) : Mem.read d ([] : Mem w) a = d := rfl

/-- A cell just put in reads as what was put; the others are as they were. -/
theorem Mem.read_put (m : Mem w) (a b : Nat) (v : BitVec w) :
    Mem.read d (Mem.put a v m) b = if b = a then v else Mem.read d m b := by
  induction m with
  | nil => rfl
  | cons f t ih =>
    obtain ⟨c, u⟩ := f
    unfold Mem.put
    split
    · rfl
    · split
      · rename_i hac
        subst hac
        simp only [Mem.read]
        split <;> rfl
      · rename_i hlt hne
        simp only [Mem.read, ih]
        by_cases hbc : b = c
        · have hba : ¬ b = a := by omega
          simp [hbc] at hba ⊢
          simp [hba]
        · simp [hbc]

/-- Reading where every listed key differs gives the default. -/
theorem Mem.read_absent {m : Mem w} {a : Nat} (h : ∀ e ∈ m, e.1 ≠ a) : Mem.read d m a = d := by
  induction m with
  | nil => rfl
  | cons f t ih =>
    obtain ⟨b, u⟩ := f
    have hb : ¬ a = b := fun hab => h (b, u) (by simp) hab.symm
    simp only [Mem.read, hb, if_false]
    exact ih fun e he => h e (List.mem_cons_of_mem _ he)

/-- Leaving out the entries of some keys leaves the other keys as they were. -/
theorem Mem.read_filter (p : Nat → Bool) (m : Mem w) (a : Nat) :
    Mem.read d (m.filter (fun e => p e.1)) a = if p a then Mem.read d m a else d := by
  induction m with
  | nil => simp
  | cons f t ih =>
    obtain ⟨b, u⟩ := f
    simp only [List.filter_cons]
    by_cases hab : a = b
    · subst hab
      by_cases hp : p a
      · simp [hp, Mem.read]
      · simp [hp, ih]
    · by_cases hp : p b <;> simp [hp, Mem.read, hab, ih]

/-- A read after a write: the written value there, the old value everywhere else. -/
theorem Mem.read_write (m : Mem w) (a b : Nat) (v : BitVec w) :
    Mem.read d (Mem.write d m a v) b = if b = a then v else Mem.read d m b := by
  unfold Mem.write
  split
  · rename_i hv
    rw [Mem.read_filter (fun k => !(k == a))]
    by_cases hba : b = a <;> simp [hba, hv]
  · exact Mem.read_put m a b v

/-- What a run of entries reads as. -/
theorem Mem.read_entries (a : Nat) (vs : List (BitVec w)) (b : Nat) :
    Mem.read d (Mem.entries d a vs) b = if a ≤ b ∧ b < a + vs.length then nth d vs (b - a) else d := by
  induction vs generalizing a with
  | nil => simp [Mem.entries]
  | cons v t ih =>
    have len : (v :: t).length = t.length + 1 := rfl
    have hnext : b ≠ a → (if a + 1 ≤ b ∧ b < a + 1 + t.length then nth d t (b - (a + 1)) else d) =
        if a ≤ b ∧ b < a + (t.length + 1) then nth d (v :: t) (b - a) else d := by
      intro hba
      by_cases hin : a + 1 ≤ b ∧ b < a + 1 + t.length
      · have h2 : a ≤ b ∧ b < a + (t.length + 1) := by omega
        have h3 : b - a = (b - (a + 1)) + 1 := by omega
        simp only [hin, h2, h3, and_self, if_true, nth, List.getElem?_cons_succ]
      · have h2 : ¬ (a ≤ b ∧ b < a + (t.length + 1)) := by omega
        rw [if_neg hin, if_neg h2]
    unfold Mem.entries
    rw [len]
    by_cases hba : a = b
    · subst hba
      have hout : ¬ (a + 1 ≤ a ∧ a < a + 1 + t.length) := by omega
      have hin : a ≤ a ∧ a < a + (t.length + 1) := by omega
      rw [if_pos hin]
      split
      · rename_i hv
        rw [ih, if_neg hout]
        simp [nth, hv]
      · simp [Mem.read, nth]
    · have hba' : ¬ b = a := fun h => hba h.symm
      split
      · rw [ih, hnext hba']
      · simp only [Mem.read, hba', if_false]
        rw [ih, hnext hba']

/-- A read in two memories joined, of a key only one of them lists. -/
theorem Mem.read_append_right {m : Mem w} {a : Nat} (h : ∀ e ∈ m, e.1 ≠ a) (n : Mem w) :
    Mem.read d (m ++ n) a = Mem.read d n a := by
  induction m with
  | nil => rfl
  | cons f t ih =>
    obtain ⟨b, u⟩ := f
    have hb : ¬ a = b := fun hab => h (b, u) (by simp) hab.symm
    simp only [List.cons_append, Mem.read, hb, if_false]
    exact ih fun e he => h e (List.mem_cons_of_mem _ he)

theorem Mem.read_append_left (m : Mem w) {n : Mem w} {a : Nat} (h : ∀ e ∈ n, e.1 ≠ a) :
    Mem.read d (m ++ n) a = Mem.read d m a := by
  induction m with
  | nil => exact Mem.read_absent h
  | cons f t ih => simp only [List.cons_append, Mem.read, ih]

/-- A read after a run was written: the run's value inside it, the old value everywhere else. -/
theorem Mem.read_writeRun (m : Mem w) (a : Nat) (vs : List (BitVec w)) (b : Nat) :
    Mem.read d (Mem.writeRun d m a vs) b =
      if a ≤ b ∧ b < a + vs.length then nth d vs (b - a) else Mem.read d m b := by
  have hlo : a ≤ b → ∀ e ∈ m.filter (fun e => decide (e.1 < a)), e.1 ≠ b := fun h e he => by
    have := (List.mem_filter.1 he).2
    simp only [decide_eq_true_eq] at this
    omega
  have hhi : b < a + vs.length → ∀ e ∈ m.filter (fun e => decide (a + vs.length ≤ e.1)), e.1 ≠ b := fun h e he => by
    have := (List.mem_filter.1 he).2
    simp only [decide_eq_true_eq] at this
    omega
  have hen : ¬ (a ≤ b ∧ b < a + vs.length) → ∀ e ∈ Mem.entries d a vs, e.1 ≠ b := fun h e he => by
    have := Mem.mem_entries he
    omega
  unfold Mem.writeRun
  by_cases h2 : a ≤ b ∧ b < a + vs.length
  · rw [Mem.read_append_left _ (hhi h2.2), Mem.read_append_right (hlo h2.1), Mem.read_entries, if_pos h2, if_pos h2]
  · rw [if_neg h2]
    by_cases h1 : b < a
    · rw [Mem.read_append_left _ (hhi (by omega)), Mem.read_append_left _ (hen h2),
        Mem.read_filter (fun k => decide (k < a)), if_pos (by simpa using h1)]
    · rw [List.append_assoc, Mem.read_append_right (hlo (by omega)), Mem.read_append_right (hen h2),
        Mem.read_filter (fun k => decide (a + vs.length ≤ k)), if_pos (by simp; omega)]

/-- A read after an erasure: the default inside it, the old value everywhere else. -/
theorem Mem.read_eraseRun (m : Mem w) (a n b : Nat) :
    Mem.read d (Mem.eraseRun m a n) b = if a ≤ b ∧ b < a + n then d else Mem.read d m b := by
  unfold Mem.eraseRun
  rw [Mem.read_filter (fun k => !(decide (a ≤ k) && decide (k < a + n)))]
  by_cases h : a ≤ b ∧ b < a + n
  · simp [h]
  · rw [if_neg h, if_pos]
    simp only [Bool.not_eq_true', Bool.and_eq_false_imp, decide_eq_true_eq, decide_eq_false_iff_not]
    intro h1 h2
    exact h ⟨h1, h2⟩

/-! ### Keyed lists -/

theorem kvGet_nil {α : Type} (k : Nat) : kvGet ([] : List (Nat × α)) k = none := rfl

theorem kvGet_cons {α : Type} (e : Nat × α) (t : List (Nat × α)) (k : Nat) :
    kvGet (e :: t) k = if e.1 = k then some e.2 else kvGet t k := by
  by_cases h : e.1 = k <;> simp [kvGet, h]

/-- Looking a key up after an entry was put in. -/
theorem kvGet_kvPut {α : Type} (k j : Nat) (v : α) (l : List (Nat × α)) :
    kvGet (kvPut k v l) j = if j = k then some v else kvGet l j := by
  induction l with
  | nil => simp only [kvPut, kvGet_cons, kvGet_nil, eq_comm (a := k)]
  | cons e t ih =>
    simp only [kvPut]
    split
    · simp only [kvGet_cons, eq_comm (a := k)]
    · split
      · rename_i h
        subst h
        by_cases hj : j = e.1
        · simp [kvGet_cons, hj]
        · simp [kvGet_cons, hj, Ne.symm hj]
      · rename_i h
        by_cases hj : e.1 = j
        · subst hj
          simp [kvGet_cons, Ne.symm h]
        · simp [kvGet_cons, hj, ih]

/-- Looking a key up after a key was taken away. -/
theorem kvGet_kvErase {α : Type} (k j : Nat) (l : List (Nat × α)) :
    kvGet (kvErase k l) j = if j = k then none else kvGet l j := by
  induction l with
  | nil => simp [kvErase, kvGet]
  | cons e t ih =>
    simp only [kvErase, List.filter_cons] at ih ⊢
    by_cases h : e.1 = k
    · by_cases hj : j = k
      · simpa [h, hj] using ih
      · simp [h, ih, hj, kvGet_cons, Ne.symm hj]
    · by_cases hj : e.1 = j
      · subst hj
        simp [h, kvGet_cons]
      · simp [h, kvGet_cons, hj, ih]

end Sys2Proof.Machine
end

