-- ==== Sys2Proof/Laws/Regs.lean ====
section
/-! SUPPORT. Laws of register words and fields: what a write leaves at the same address, in the same field, in
another field of the word, and at another address. -/

namespace Sys2Proof.Machine

/-- A field lies in its word. -/
abbrev Fld.ok (x : Fld) : Prop := x.lo ≤ x.hi ∧ x.hi < 32

/-- Two fields share no bit. -/
abbrev Fld.apart (x y : Fld) : Prop := x.addr ≠ y.addr ∨ x.hi < y.lo ∨ y.hi < x.lo

theorem testBit_bitsOf (w hi lo i : Nat) :
    (bitsOf w hi lo).testBit i = (decide (i < hi + 1 - lo) && w.testBit (lo + i)) := by
  simp [bitsOf, Nat.testBit_mod_two_pow, Nat.testBit_shiftRight]

theorem testBit_fieldMask (hi lo i : Nat) (h : i < 32) :
    (fieldMask hi lo).getLsbD i = (decide (lo ≤ i) && decide (i < hi + 1 - lo + lo)) := by
  simp only [fieldMask, BitVec.getLsbD_ofNat, h, decide_true, Bool.true_and, Nat.testBit_shiftLeft, Nat.testBit_two_pow_sub_one]
  by_cases h1 : lo ≤ i
  · simp [h1]; omega
  · simp [h1]

theorem testBit_withField (w : Word) (hi lo v i : Nat) (h : i < 32) (hl : lo ≤ hi) :
    (withField w hi lo v).getLsbD i =
      if lo ≤ i ∧ i ≤ hi then v.testBit (i - lo) else w.getLsbD i := by
  simp only [withField, BitVec.getLsbD_or, BitVec.getLsbD_and, BitVec.getLsbD_not, testBit_fieldMask _ _ _ h, h,
    BitVec.getLsbD_ofNat, Nat.testBit_shiftLeft, Nat.testBit_mod_two_pow, decide_true, Bool.true_and]
  by_cases h1 : lo ≤ i
  · by_cases h2 : i ≤ hi
    · have h3 : i < hi + 1 - lo + lo := by omega
      have h4 : i - lo < hi + 1 - lo := by omega
      simp [h1, h2, h3, h4]
    · have h3 : ¬ i < hi + 1 - lo + lo := by omega
      have h4 : ¬ i - lo < hi + 1 - lo := by omega
      simp [h1, h2, h3, h4]
  · simp [h1]

/-- The field written holds the value, cut to it. -/
theorem fieldOf_withField_same (w : Word) {hi lo : Nat} (v : Nat) (hl : lo ≤ hi) (hh : hi < 32) :
    fieldOf (withField w hi lo v) hi lo = v % 2 ^ (hi + 1 - lo) := by
  apply Nat.eq_of_testBit_eq
  intro i
  simp only [fieldOf, testBit_bitsOf, Nat.testBit_mod_two_pow, BitVec.testBit_toNat]
  by_cases h : i < hi + 1 - lo
  · rw [testBit_withField _ _ _ _ _ (by omega) hl, if_pos (by omega)]
    simp [h]
  · simp [h]

/-- Another field of the word keeps its value. -/
theorem fieldOf_withField_apart (w : Word) {hi lo hi' lo' : Nat} (v : Nat) (hl : lo ≤ hi) (hh : hi' < 32)
    (h : hi < lo' ∨ hi' < lo) : fieldOf (withField w hi lo v) hi' lo' = fieldOf w hi' lo' := by
  apply Nat.eq_of_testBit_eq
  intro i
  simp only [fieldOf, testBit_bitsOf, BitVec.testBit_toNat]
  by_cases hi1 : i < hi' + 1 - lo'
  · rw [testBit_withField _ _ _ _ _ (by omega) hl, if_neg (by omega)]
  · simp [hi1]

theorem fieldOf_lt (w : Word) (hi lo : Nat) : fieldOf w hi lo < 2 ^ (hi + 1 - lo) :=
  Nat.mod_lt _ (Nat.two_pow_pos _)

variable (s : State)

theorem reg_setReg (a b : Nat) (v : Word) : (s.setReg a v).reg b = if b = a then v else s.reg b :=
  Mem.read_write _ _ _ _

@[simp] theorem reg_setReg_same (a : Nat) (v : Word) : (s.setReg a v).reg a = v := by simp [reg_setReg]

theorem reg_setReg_other {a b : Nat} (v : Word) (h : b ≠ a) : (s.setReg a v).reg b = s.reg b := by
  simp [reg_setReg, h]

theorem reg_setF_other (x : Fld) {b : Nat} (v : Nat) (h : b ≠ x.addr) : (s.setF x v).reg b = s.reg b :=
  reg_setReg_other s _ h

theorem reg_setB_other (x : Fld) {b : Nat} (v : Bool) (h : b ≠ x.addr) : (s.setB x v).reg b = s.reg b :=
  reg_setReg_other s _ h

theorem reg_addF_other (x : Fld) {b : Nat} (n : Nat) (h : b ≠ x.addr) : (s.addF x n).reg b = s.reg b :=
  reg_setReg_other s _ h

theorem reg_bump_other (x : Fld) {b : Nat} (h : b ≠ x.addr) : (s.bump x).reg b = s.reg b :=
  reg_setReg_other s _ h

theorem f_lt (x : Fld) : s.f x < 2 ^ (x.hi + 1 - x.lo) := fieldOf_lt _ _ _

theorem f_setReg_other {a : Nat} (v : Word) {y : Fld} (h : y.addr ≠ a) : (s.setReg a v).f y = s.f y := by
  simp [State.f, reg_setReg_other s v h]

theorem f_setF_mod {x : Fld} (v : Nat) (h : x.ok) : (s.setF x v).f x = v % 2 ^ (x.hi + 1 - x.lo) := by
  simp [State.f, State.setF, fieldOf_withField_same _ _ h.1 h.2]

theorem f_setF_same {x : Fld} {v : Nat} (h : x.ok) (hv : v < 2 ^ (x.hi + 1 - x.lo)) : (s.setF x v).f x = v := by
  rw [f_setF_mod s v h, Nat.mod_eq_of_lt hv]

theorem f_setF_other {x y : Fld} (v : Nat) (hx : x.ok) (hy : y.ok) (h : x.apart y) : (s.setF x v).f y = s.f y := by
  by_cases ha : y.addr = x.addr
  · simp only [State.f, State.setF, ha, reg_setReg_same]
    rcases h with h | h
    · exact absurd ha.symm h
    · exact fieldOf_withField_apart _ _ hx.1 hy.2 h
  · exact f_setReg_other s _ ha

theorem fb_setF_other {x y : Fld} (v : Nat) (hx : x.ok) (hy : y.ok) (h : x.apart y) : (s.setF x v).fb y = s.fb y := by
  simp [State.fb, f_setF_other s v hx hy h]

theorem f_setB_same {x : Fld} (v : Bool) (h : x.ok) : (s.setB x v).f x = b2n v := by
  refine f_setF_same s h ?_
  have : 1 ≤ x.hi + 1 - x.lo := by have := h.1; omega
  calc b2n v < 2 ^ 1 := by cases v <;> decide
    _ ≤ _ := Nat.pow_le_pow_right (by decide) this

theorem fb_setB_same {x : Fld} (v : Bool) (h : x.ok) : (s.setB x v).fb x = v := by
  cases v <;> simp [State.fb, f_setB_same s _ h, b2n]

theorem f_setB_other {x y : Fld} (v : Bool) (hx : x.ok) (hy : y.ok) (h : x.apart y) : (s.setB x v).f y = s.f y :=
  f_setF_other s _ hx hy h

theorem fb_setB_other {x y : Fld} (v : Bool) (hx : x.ok) (hy : y.ok) (h : x.apart y) : (s.setB x v).fb y = s.fb y :=
  fb_setF_other s _ hx hy h

theorem f_addF_same {x : Fld} (n : Nat) (h : x.ok) : (s.addF x n).f x = satAdd x.top (s.f x) n := by
  refine f_setF_same s h ?_
  have h1 := Nat.two_pow_pos (x.hi + 1 - x.lo)
  have h2 : satAdd x.top (s.f x) n ≤ x.top := Nat.min_le_left _ _
  have h3 : x.top = 2 ^ (x.hi + 1 - x.lo) - 1 := rfl
  omega

theorem f_addF_other {x y : Fld} (n : Nat) (hx : x.ok) (hy : y.ok) (h : x.apart y) : (s.addF x n).f y = s.f y :=
  f_setF_other s _ hx hy h

theorem f_bump_same {x : Fld} (h : x.ok) : (s.bump x).f x = satAdd x.top (s.f x) 1 := f_addF_same s 1 h

theorem f_bump_other {x y : Fld} (hx : x.ok) (hy : y.ok) (h : x.apart y) : (s.bump x).f y = s.f y :=
  f_addF_other s 1 hx hy h

/-- The register words keep their canonical form. -/
theorem regs_wf_setReg {s : State} (h : Mem.wf 0 s.regs = true) (a : Nat) (v : Word) :
    Mem.wf 0 (s.setReg a v).regs = true := Mem.wf_write h a v

theorem regs_wf_setF {s : State} (h : Mem.wf 0 s.regs = true) (x : Fld) (v : Nat) :
    Mem.wf 0 (s.setF x v).regs = true := Mem.wf_write h _ _

end Sys2Proof.Machine
end

