-- ==== Sys2Proof/Laws/State.lean ====
section
/-! SUPPORT. What a register write leaves: every field of the state but the register words. -/

namespace Sys2Proof.Machine

variable (s : State)

@[simp] theorem setReg_pending (a : Nat) (v : Word) : (s.setReg a v).pending = s.pending := rfl
@[simp] theorem setReg_fresh (a : Nat) (v : Word) : (s.setReg a v).fresh = s.fresh := rfl
@[simp] theorem setReg_time (a : Nat) (v : Word) : (s.setReg a v).time = s.time := rfl
@[simp] theorem setReg_latch (a : Nat) (v : Word) : (s.setReg a v).latch = s.latch := rfl
@[simp] theorem setReg_cmd (a : Nat) (v : Word) : (s.setReg a v).cmd = s.cmd := rfl
@[simp] theorem setReg_tck (a : Nat) (v : Word) : (s.setReg a v).tck = s.tck := rfl
@[simp] theorem setReg_hlv (a : Nat) (v : Word) : (s.setReg a v).hlv = s.hlv := rfl
@[simp] theorem setReg_chk (a : Nat) (v : Word) : (s.setReg a v).chk = s.chk := rfl
@[simp] theorem setReg_chkTurn (a : Nat) (v : Word) : (s.setReg a v).chkTurn = s.chkTurn := rfl
@[simp] theorem setReg_snp (a : Nat) (v : Word) : (s.setReg a v).snp = s.snp := rfl
@[simp] theorem setReg_saf (a : Nat) (v : Word) : (s.setReg a v).saf = s.saf := rfl
@[simp] theorem setReg_lyr (a : Nat) (v : Word) : (s.setReg a v).lyr = s.lyr := rfl
@[simp] theorem setReg_obj (a : Nat) (v : Word) : (s.setReg a v).obj = s.obj := rfl
@[simp] theorem setReg_dia (a : Nat) (v : Word) : (s.setReg a v).dia = s.dia := rfl
@[simp] theorem setReg_drv (a : Nat) (v : Word) : (s.setReg a v).drv = s.drv := rfl
@[simp] theorem setReg_nvm (a : Nat) (v : Word) : (s.setReg a v).nvm = s.nvm := rfl
@[simp] theorem setReg_rng (a : Nat) (v : Word) : (s.setReg a v).rng = s.rng := rfl
@[simp] theorem setReg_thm (a : Nat) (v : Word) : (s.setReg a v).thm = s.thm := rfl
@[simp] theorem setReg_sys (a : Nat) (v : Word) : (s.setReg a v).sys = s.sys := rfl
@[simp] theorem setReg_pwr (a : Nat) (v : Word) : (s.setReg a v).pwr = s.pwr := rfl
@[simp] theorem setReg_dn (a : Nat) (v : Word) : (s.setReg a v).dn = s.dn := rfl
@[simp] theorem setReg_spiOut (a : Nat) (v : Word) : (s.setReg a v).spiOut = s.spiOut := rfl

@[simp] theorem setF_pending (x : Fld) (v : Nat) : (s.setF x v).pending = s.pending := rfl
@[simp] theorem setF_fresh (x : Fld) (v : Nat) : (s.setF x v).fresh = s.fresh := rfl
@[simp] theorem setF_time (x : Fld) (v : Nat) : (s.setF x v).time = s.time := rfl
@[simp] theorem setF_latch (x : Fld) (v : Nat) : (s.setF x v).latch = s.latch := rfl
@[simp] theorem setF_cmd (x : Fld) (v : Nat) : (s.setF x v).cmd = s.cmd := rfl
@[simp] theorem setF_tck (x : Fld) (v : Nat) : (s.setF x v).tck = s.tck := rfl
@[simp] theorem setF_hlv (x : Fld) (v : Nat) : (s.setF x v).hlv = s.hlv := rfl
@[simp] theorem setF_chk (x : Fld) (v : Nat) : (s.setF x v).chk = s.chk := rfl
@[simp] theorem setF_chkTurn (x : Fld) (v : Nat) : (s.setF x v).chkTurn = s.chkTurn := rfl
@[simp] theorem setF_snp (x : Fld) (v : Nat) : (s.setF x v).snp = s.snp := rfl
@[simp] theorem setF_saf (x : Fld) (v : Nat) : (s.setF x v).saf = s.saf := rfl
@[simp] theorem setF_lyr (x : Fld) (v : Nat) : (s.setF x v).lyr = s.lyr := rfl
@[simp] theorem setF_obj (x : Fld) (v : Nat) : (s.setF x v).obj = s.obj := rfl
@[simp] theorem setF_dia (x : Fld) (v : Nat) : (s.setF x v).dia = s.dia := rfl
@[simp] theorem setF_drv (x : Fld) (v : Nat) : (s.setF x v).drv = s.drv := rfl
@[simp] theorem setF_nvm (x : Fld) (v : Nat) : (s.setF x v).nvm = s.nvm := rfl
@[simp] theorem setF_rng (x : Fld) (v : Nat) : (s.setF x v).rng = s.rng := rfl
@[simp] theorem setF_thm (x : Fld) (v : Nat) : (s.setF x v).thm = s.thm := rfl
@[simp] theorem setF_sys (x : Fld) (v : Nat) : (s.setF x v).sys = s.sys := rfl
@[simp] theorem setF_pwr (x : Fld) (v : Nat) : (s.setF x v).pwr = s.pwr := rfl
@[simp] theorem setF_dn (x : Fld) (v : Nat) : (s.setF x v).dn = s.dn := rfl
@[simp] theorem setF_spiOut (x : Fld) (v : Nat) : (s.setF x v).spiOut = s.spiOut := rfl

@[simp] theorem setB_pending (x : Fld) (v : Bool) : (s.setB x v).pending = s.pending := rfl
@[simp] theorem setB_fresh (x : Fld) (v : Bool) : (s.setB x v).fresh = s.fresh := rfl
@[simp] theorem setB_time (x : Fld) (v : Bool) : (s.setB x v).time = s.time := rfl
@[simp] theorem setB_latch (x : Fld) (v : Bool) : (s.setB x v).latch = s.latch := rfl
@[simp] theorem setB_cmd (x : Fld) (v : Bool) : (s.setB x v).cmd = s.cmd := rfl
@[simp] theorem setB_tck (x : Fld) (v : Bool) : (s.setB x v).tck = s.tck := rfl
@[simp] theorem setB_hlv (x : Fld) (v : Bool) : (s.setB x v).hlv = s.hlv := rfl
@[simp] theorem setB_chk (x : Fld) (v : Bool) : (s.setB x v).chk = s.chk := rfl
@[simp] theorem setB_chkTurn (x : Fld) (v : Bool) : (s.setB x v).chkTurn = s.chkTurn := rfl
@[simp] theorem setB_snp (x : Fld) (v : Bool) : (s.setB x v).snp = s.snp := rfl
@[simp] theorem setB_saf (x : Fld) (v : Bool) : (s.setB x v).saf = s.saf := rfl
@[simp] theorem setB_lyr (x : Fld) (v : Bool) : (s.setB x v).lyr = s.lyr := rfl
@[simp] theorem setB_obj (x : Fld) (v : Bool) : (s.setB x v).obj = s.obj := rfl
@[simp] theorem setB_dia (x : Fld) (v : Bool) : (s.setB x v).dia = s.dia := rfl
@[simp] theorem setB_drv (x : Fld) (v : Bool) : (s.setB x v).drv = s.drv := rfl
@[simp] theorem setB_nvm (x : Fld) (v : Bool) : (s.setB x v).nvm = s.nvm := rfl
@[simp] theorem setB_rng (x : Fld) (v : Bool) : (s.setB x v).rng = s.rng := rfl
@[simp] theorem setB_thm (x : Fld) (v : Bool) : (s.setB x v).thm = s.thm := rfl
@[simp] theorem setB_sys (x : Fld) (v : Bool) : (s.setB x v).sys = s.sys := rfl
@[simp] theorem setB_pwr (x : Fld) (v : Bool) : (s.setB x v).pwr = s.pwr := rfl
@[simp] theorem setB_dn (x : Fld) (v : Bool) : (s.setB x v).dn = s.dn := rfl
@[simp] theorem setB_spiOut (x : Fld) (v : Bool) : (s.setB x v).spiOut = s.spiOut := rfl

@[simp] theorem addF_pending (x : Fld) (n : Nat) : (s.addF x n).pending = s.pending := rfl
@[simp] theorem addF_fresh (x : Fld) (n : Nat) : (s.addF x n).fresh = s.fresh := rfl
@[simp] theorem addF_time (x : Fld) (n : Nat) : (s.addF x n).time = s.time := rfl
@[simp] theorem addF_latch (x : Fld) (n : Nat) : (s.addF x n).latch = s.latch := rfl
@[simp] theorem addF_cmd (x : Fld) (n : Nat) : (s.addF x n).cmd = s.cmd := rfl
@[simp] theorem addF_tck (x : Fld) (n : Nat) : (s.addF x n).tck = s.tck := rfl
@[simp] theorem addF_hlv (x : Fld) (n : Nat) : (s.addF x n).hlv = s.hlv := rfl
@[simp] theorem addF_chk (x : Fld) (n : Nat) : (s.addF x n).chk = s.chk := rfl
@[simp] theorem addF_chkTurn (x : Fld) (n : Nat) : (s.addF x n).chkTurn = s.chkTurn := rfl
@[simp] theorem addF_snp (x : Fld) (n : Nat) : (s.addF x n).snp = s.snp := rfl
@[simp] theorem addF_saf (x : Fld) (n : Nat) : (s.addF x n).saf = s.saf := rfl
@[simp] theorem addF_lyr (x : Fld) (n : Nat) : (s.addF x n).lyr = s.lyr := rfl
@[simp] theorem addF_obj (x : Fld) (n : Nat) : (s.addF x n).obj = s.obj := rfl
@[simp] theorem addF_dia (x : Fld) (n : Nat) : (s.addF x n).dia = s.dia := rfl
@[simp] theorem addF_drv (x : Fld) (n : Nat) : (s.addF x n).drv = s.drv := rfl
@[simp] theorem addF_nvm (x : Fld) (n : Nat) : (s.addF x n).nvm = s.nvm := rfl
@[simp] theorem addF_rng (x : Fld) (n : Nat) : (s.addF x n).rng = s.rng := rfl
@[simp] theorem addF_thm (x : Fld) (n : Nat) : (s.addF x n).thm = s.thm := rfl
@[simp] theorem addF_sys (x : Fld) (n : Nat) : (s.addF x n).sys = s.sys := rfl
@[simp] theorem addF_pwr (x : Fld) (n : Nat) : (s.addF x n).pwr = s.pwr := rfl
@[simp] theorem addF_dn (x : Fld) (n : Nat) : (s.addF x n).dn = s.dn := rfl
@[simp] theorem addF_spiOut (x : Fld) (n : Nat) : (s.addF x n).spiOut = s.spiOut := rfl

@[simp] theorem bump_pending (x : Fld) : (s.bump x).pending = s.pending := rfl
@[simp] theorem bump_fresh (x : Fld) : (s.bump x).fresh = s.fresh := rfl
@[simp] theorem bump_time (x : Fld) : (s.bump x).time = s.time := rfl
@[simp] theorem bump_latch (x : Fld) : (s.bump x).latch = s.latch := rfl
@[simp] theorem bump_cmd (x : Fld) : (s.bump x).cmd = s.cmd := rfl
@[simp] theorem bump_tck (x : Fld) : (s.bump x).tck = s.tck := rfl
@[simp] theorem bump_hlv (x : Fld) : (s.bump x).hlv = s.hlv := rfl
@[simp] theorem bump_chk (x : Fld) : (s.bump x).chk = s.chk := rfl
@[simp] theorem bump_chkTurn (x : Fld) : (s.bump x).chkTurn = s.chkTurn := rfl
@[simp] theorem bump_snp (x : Fld) : (s.bump x).snp = s.snp := rfl
@[simp] theorem bump_saf (x : Fld) : (s.bump x).saf = s.saf := rfl
@[simp] theorem bump_lyr (x : Fld) : (s.bump x).lyr = s.lyr := rfl
@[simp] theorem bump_obj (x : Fld) : (s.bump x).obj = s.obj := rfl
@[simp] theorem bump_dia (x : Fld) : (s.bump x).dia = s.dia := rfl
@[simp] theorem bump_drv (x : Fld) : (s.bump x).drv = s.drv := rfl
@[simp] theorem bump_nvm (x : Fld) : (s.bump x).nvm = s.nvm := rfl
@[simp] theorem bump_rng (x : Fld) : (s.bump x).rng = s.rng := rfl
@[simp] theorem bump_thm (x : Fld) : (s.bump x).thm = s.thm := rfl
@[simp] theorem bump_sys (x : Fld) : (s.bump x).sys = s.sys := rfl
@[simp] theorem bump_pwr (x : Fld) : (s.bump x).pwr = s.pwr := rfl
@[simp] theorem bump_dn (x : Fld) : (s.bump x).dn = s.dn := rfl
@[simp] theorem bump_spiOut (x : Fld) : (s.bump x).spiOut = s.spiOut := rfl

@[simp] theorem draw_pending (tag : Nat) : (s.draw tag).2.pending = s.pending := rfl
@[simp] theorem draw_time (tag : Nat) : (s.draw tag).2.time = s.time := rfl
@[simp] theorem draw_latch (tag : Nat) : (s.draw tag).2.latch = s.latch := rfl
@[simp] theorem draw_cmd (tag : Nat) : (s.draw tag).2.cmd = s.cmd := rfl
@[simp] theorem draw_tck (tag : Nat) : (s.draw tag).2.tck = s.tck := rfl
@[simp] theorem draw_hlv (tag : Nat) : (s.draw tag).2.hlv = s.hlv := rfl
@[simp] theorem draw_chk (tag : Nat) : (s.draw tag).2.chk = s.chk := rfl
@[simp] theorem draw_chkTurn (tag : Nat) : (s.draw tag).2.chkTurn = s.chkTurn := rfl
@[simp] theorem draw_snp (tag : Nat) : (s.draw tag).2.snp = s.snp := rfl
@[simp] theorem draw_saf (tag : Nat) : (s.draw tag).2.saf = s.saf := rfl
@[simp] theorem draw_lyr (tag : Nat) : (s.draw tag).2.lyr = s.lyr := rfl
@[simp] theorem draw_obj (tag : Nat) : (s.draw tag).2.obj = s.obj := rfl
@[simp] theorem draw_dia (tag : Nat) : (s.draw tag).2.dia = s.dia := rfl
@[simp] theorem draw_drv (tag : Nat) : (s.draw tag).2.drv = s.drv := rfl
@[simp] theorem draw_nvm (tag : Nat) : (s.draw tag).2.nvm = s.nvm := rfl
@[simp] theorem draw_rng (tag : Nat) : (s.draw tag).2.rng = s.rng := rfl
@[simp] theorem draw_thm (tag : Nat) : (s.draw tag).2.thm = s.thm := rfl
@[simp] theorem draw_sys (tag : Nat) : (s.draw tag).2.sys = s.sys := rfl
@[simp] theorem draw_pwr (tag : Nat) : (s.draw tag).2.pwr = s.pwr := rfl
@[simp] theorem draw_dn (tag : Nat) : (s.draw tag).2.dn = s.dn := rfl
@[simp] theorem draw_spiOut (tag : Nat) : (s.draw tag).2.spiOut = s.spiOut := rfl
@[simp] theorem draw_regs (tag : Nat) : (s.draw tag).2.regs = s.regs := rfl
@[simp] theorem draw_fresh (tag : Nat) : (s.draw tag).2.fresh = s.fresh + 1 := rfl

/-- Writing an entry of a list of fixed length and reading it back. -/
@[simp] theorem vnth_vset {α : Type} {n : Nat} (d : α) (v : Vector α n) (i j : Nat) (x : α) :
    vnth d (vset v i x) j = if i = j ∧ i < n then x else vnth d v j := by
  simp only [vnth, vset, nth, Vector.toList_setIfInBounds, List.getElem?_set, Vector.length_toList]
  split_ifs <;> simp_all
  omega

end Sys2Proof.Machine
end

