-- ==== Sys2Proof/Laws/Events.lean ====
section
/-! SUPPORT. What raising an event can change (R352, R373, R374): packets of kind event, the counts and flags of the
front end, the snapshot unit; nothing else. -/

namespace Sys2Proof.Machine

/-- Everything that a step which sends events may do to the front end, with the further parts and the words it may change. -/
structure EvIn (parts : List Part) (words : List Nat) (s t : State) : Prop where
  keeps : Keeps (.cmd :: .regs :: parts) s t
  words : KeepsRegs words s t
  sends : SendsEvents s t
  inbox : t.cmd.inbox = s.cmd.inbox
  cur : t.cmd.cur = s.cmd.cur
  jobs : t.cmd.jobs = s.cmd.jobs
  journal : t.cmd.journal = s.cmd.journal
  seq : t.cmd.seq = s.cmd.seq
  master : t.cmd.masterTime = s.cmd.masterTime ∧ t.cmd.masterStream = s.cmd.masterStream
  port : t.cmd.lastPutOk = s.cmd.lastPutOk ∧ t.cmd.resetSeen = s.cmd.resetSeen

/-- Everything sending an event may do (R352). -/
abbrev SendStep : State → State → Prop := EvIn [] sendRegs

/-- Everything raising an event may do: also the snapshot it may take (R374). -/
abbrev EvStep : State → State → Prop := EvIn [.snp] eventRegs

theorem Keeps.refl (l : List Part) (s : State) : Keeps l s s := by
  intro p _; cases p <;> rfl

theorem Part.same_trans {p : Part} {s t u : State} (h : p.same s t) (h' : p.same t u) : p.same s u := by
  cases p <;> exact Eq.trans h' h

theorem Keeps.trans {l : List Part} {s t u : State} (h : Keeps l s t) (h' : Keeps l t u) : Keeps l s u :=
  fun p hp => Part.same_trans (h p hp) (h' p hp)

theorem Keeps.mono {l l' : List Part} {s t : State} (h : Keeps l s t) (hl : l ⊆ l') : Keeps l' s t :=
  fun p hp => h p (fun hm => hp (hl hm))

theorem Keeps.of_cur {l : List Part} {s t : State} (h : Keeps l s t) (hc : Part.cmd ∈ l) (c : CmdSt) :
    Keeps l s { t with cmd := c } := by
  intro p hp
  have := h p hp
  cases p <;> first | exact this | exact absurd hc hp

theorem KeepsRegs.refl (l : List Nat) (s : State) : KeepsRegs l s s := fun _ _ => rfl

theorem KeepsRegs.trans {l : List Nat} {s t u : State} (h : KeepsRegs l s t) (h' : KeepsRegs l t u) :
    KeepsRegs l s u := fun a ha => (h' a ha).trans (h a ha)

theorem KeepsRegs.mono {l l' : List Nat} {s t : State} (h : KeepsRegs l s t) (hl : l ⊆ l') : KeepsRegs l' s t :=
  fun a ha => h a (fun hm => ha (hl hm))

theorem KeepsRegs.left {l : List Nat} {s t : State} (h : KeepsRegs l s t) (l' : List Nat) : KeepsRegs (l ++ l') s t :=
  h.mono (List.subset_append_left l l')

theorem KeepsRegs.right {l : List Nat} {s t : State} (h : KeepsRegs l s t) (l' : List Nat) : KeepsRegs (l' ++ l) s t :=
  h.mono (List.subset_append_right l' l)

theorem SendsEvents.refl (s : State) : SendsEvents s s := ⟨[], by simp⟩

theorem SendsEvents.trans {s t u : State} (h : SendsEvents s t) (h' : SendsEvents t u) : SendsEvents s u := by
  obtain ⟨a, ha, e⟩ := h
  obtain ⟨b, hb, e'⟩ := h'
  refine ⟨a ++ b, ?_, by rw [e', e, List.append_assoc]⟩
  intro p hp
  rcases List.mem_append.1 hp with h | h
  · exact ha p h
  · exact hb p h

/-! ### Frames of register writes and of folds -/

theorem setReg_keeps (l : List Part) (s : State) (a : Nat) (v : Word) : Keeps (.regs :: l) s (s.setReg a v) := by
  intro p hp
  cases p <;> simp_all [Part.same]

theorem setF_keeps (l : List Part) (s : State) (x : Fld) (v : Nat) : Keeps (.regs :: l) s (s.setF x v) := setReg_keeps l s _ _
theorem setB_keeps (l : List Part) (s : State) (x : Fld) (v : Bool) : Keeps (.regs :: l) s (s.setB x v) := setReg_keeps l s _ _
theorem bump_keeps (l : List Part) (s : State) (x : Fld) : Keeps (.regs :: l) s (s.bump x) := setReg_keeps l s _ _

theorem setReg_keepsRegs {l : List Nat} (s : State) {a : Nat} (v : Word) (h : a ∈ l) : KeepsRegs l s (s.setReg a v) :=
  fun _b hb => reg_setReg_other s v (fun e => hb (e ▸ h))

theorem setF_keepsRegs {l : List Nat} (s : State) {x : Fld} (v : Nat) (h : x.addr ∈ l) : KeepsRegs l s (s.setF x v) :=
  setReg_keepsRegs s _ h
theorem setB_keepsRegs {l : List Nat} (s : State) {x : Fld} (v : Bool) (h : x.addr ∈ l) : KeepsRegs l s (s.setB x v) :=
  setReg_keepsRegs s _ h
theorem bump_keepsRegs {l : List Nat} (s : State) {x : Fld} (h : x.addr ∈ l) : KeepsRegs l s (s.bump x) :=
  setReg_keepsRegs s _ h

theorem Keeps.foldl {α : Type} {l : List Part} {g : State → α → State} (h : ∀ s x, Keeps l s (g s x)) (xs : List α) :
    ∀ s, Keeps l s (xs.foldl g s) := by
  induction xs with
  | nil => exact fun s => Keeps.refl l s
  | cons x xs ih => exact fun s => (h s x).trans (ih _)

theorem KeepsRegs.foldl {α : Type} {l : List Nat} {g : State → α → State} (xs : List α) (h : ∀ s, ∀ x ∈ xs, KeepsRegs l s (g s x)) :
    ∀ s, KeepsRegs l s (xs.foldl g s) := by
  induction xs with
  | nil => exact fun s => KeepsRegs.refl l s
  | cons x xs ih =>
    exact fun s => (h s x (by simp)).trans (ih (fun s y hy => h s y (by simp [hy])) _)

/-- A fold of register writes leaves the words it does not write. -/
theorem foldl_setReg_other (g : Nat → Nat) (v : Nat → Word) (a : Nat) (xs : List Nat) (h : ∀ r ∈ xs, g r ≠ a) (s : State) :
    (xs.foldl (fun t r => t.setReg (g r) (v r)) s).reg a = s.reg a :=
  KeepsRegs.foldl (l := xs.map g) xs (fun t r hr => setReg_keepsRegs t _ (List.mem_map_of_mem hr)) s a
    (fun hm => by obtain ⟨r, hr, e⟩ := List.mem_map.1 hm; exact h r hr e)

section rules

variable {p : List Part} {w : List Nat}

theorem EvIn.refl (s : State) : EvIn p w s s :=
  ⟨Keeps.refl _ s, KeepsRegs.refl _ s, SendsEvents.refl s, rfl, rfl, rfl, rfl, rfl, ⟨rfl, rfl⟩, ⟨rfl, rfl⟩⟩

theorem EvIn.trans {s t u : State} (h : EvIn p w s t) (h' : EvIn p w t u) : EvIn p w s u :=
  ⟨h.keeps.trans h'.keeps, h.words.trans h'.words, h.sends.trans h'.sends, h'.inbox.trans h.inbox, h'.cur.trans h.cur,
    h'.jobs.trans h.jobs, h'.journal.trans h.journal, h'.seq.trans h.seq,
    ⟨h'.master.1.trans h.master.1, h'.master.2.trans h.master.2⟩, ⟨h'.port.1.trans h.port.1, h'.port.2.trans h.port.2⟩⟩

theorem EvIn.mono {p' : List Part} {w' : List Nat} {s t : State} (h : EvIn p w s t) (hp : p ⊆ p') (hw : w ⊆ w') :
    EvIn p' w' s t :=
  ⟨h.keeps.mono (List.cons_subset_cons _ (List.cons_subset_cons _ hp)), h.words.mono hw, h.sends, h.inbox, h.cur, h.jobs,
    h.journal, h.seq, h.master, h.port⟩

theorem EvIn.ite {s t u : State} {c : Prop} [Decidable c] (h : EvIn p w s t) (h' : EvIn p w s u) :
    EvIn p w s (if c then t else u) := by
  split
  · exact h
  · exact h'

/-- A write to a listed register. -/
theorem EvIn.setReg (s : State) {a : Nat} (v : Word) (h : a ∈ w) : EvIn p w s (s.setReg a v) := by
  refine ⟨?_, fun b hb => reg_setReg_other s v (fun e => hb (e ▸ h)), ⟨[], by simp⟩, rfl, rfl, rfl, rfl, rfl, ⟨rfl, rfl⟩, ⟨rfl, rfl⟩⟩
  intro q hq
  cases q <;> simp_all [Part.same]

theorem EvIn.setF (s : State) {x : Fld} (v : Nat) (h : x.addr ∈ w) : EvIn p w s (s.setF x v) := EvIn.setReg s _ h

theorem EvIn.setB (s : State) {x : Fld} (v : Bool) (h : x.addr ∈ w) : EvIn p w s (s.setB x v) := EvIn.setReg s _ h

theorem EvIn.bump (s : State) {x : Fld} (h : x.addr ∈ w) : EvIn p w s (s.bump x) := EvIn.setReg s _ h

/-- A change of what the front end keeps about events. -/
theorem EvIn.cmd (s : State) (c : CmdSt) (hi : c.inbox = s.cmd.inbox) (hc : c.cur = s.cmd.cur) (hj : c.jobs = s.cmd.jobs)
    (hn : c.journal = s.cmd.journal) (hs : c.seq = s.cmd.seq) (hm : c.masterTime = s.cmd.masterTime)
    (hm' : c.masterStream = s.cmd.masterStream) (hp : c.lastPutOk = s.cmd.lastPutOk) (hr : c.resetSeen = s.cmd.resetSeen)
    (ho : ∃ evs : List OutPkt, (∀ e ∈ evs, e.kind = .event) ∧ c.out = s.cmd.out ++ evs) : EvIn p w s { s with cmd := c } := by
  refine ⟨?_, fun _ _ => rfl, ho, hi, hc, hj, hn, hs, ⟨hm, hm'⟩, ⟨hp, hr⟩⟩
  intro q hq
  cases q <;> simp_all [Part.same]

end rules

theorem takeSnap_ev (src id srcId : Nat) (s : State) : EvStep s (takeSnap src id srcId s) := by
  have h1 : EvStep s ((s.setF F.SNP_CTRL_TRIGGERS 0).bump F.SNP_CNT_TAKEN_CNT) :=
    (EvIn.setF s 0 (by decide)).trans (EvIn.bump _ (by decide))
  refine h1.trans ⟨?_, fun _ _ => rfl, ⟨[], by simp [takeSnap]⟩, rfl, rfl, rfl, rfl, rfl, ⟨rfl, rfl⟩, ⟨rfl, rfl⟩⟩
  intro p hp
  cases p <;> simp_all [Part.same, takeSnap]

theorem setSuppressed_step (s : State) (code n : Nat) : SendStep s (setSuppressed s code n) :=
  EvIn.cmd s _ rfl rfl rfl rfl rfl rfl rfl rfl rfl ⟨[], by simp, by simp⟩

theorem emitEvent_step (code : Nat) (payload : List Byte) (port : Port) (s : State) :
    SendStep s (emitEvent code payload port s) := by
  unfold emitEvent
  split
  · cases port
    all_goals
      refine EvIn.trans ?_ (EvIn.bump _ (by decide))
      exact EvIn.cmd s _ rfl rfl rfl rfl rfl rfl rfl rfl rfl ⟨[_], by simp, rfl⟩
  · refine EvIn.trans (EvIn.trans ?_ (EvIn.bump _ (by decide))) (EvIn.setB _ _ (by decide))
    exact EvIn.cmd s _ rfl rfl rfl rfl rfl rfl rfl rfl rfl ⟨[], by simp, by simp⟩

theorem renewWindow_step (s : State) : SendStep s (renewWindow s) := by
  unfold renewWindow
  split
  · exact EvIn.cmd s _ rfl rfl rfl rfl rfl rfl rfl rfl rfl ⟨[], by simp, by simp⟩
  · exact EvIn.refl s

/-- What sending an event can change. -/
theorem sendEvent_step (code : Nat) (data : List Byte) (s : State) : SendStep s (sendEvent code data s) := by
  have h0 := renewWindow_step s
  unfold sendEvent
  refine EvIn.ite h0 (EvIn.ite (h0.trans (setSuppressed_step _ _ _)) ?_)
  have h1 : SendStep s { renewWindow s with cmd.raised := code :: (renewWindow s).cmd.raised } :=
    h0.trans (EvIn.cmd _ _ rfl rfl rfl rfl rfl rfl rfl rfl rfl ⟨[], by simp, by simp⟩)
  have h2 := EvIn.ite (c := (renewWindow s).fb F.CMD_EVT_CTRL_RING = true)
    (h1.trans (emitEvent_step code (eventPayload (renewWindow s) code data) .ring _)) h1
  have h3 := EvIn.ite (c := (renewWindow s).fb F.CMD_EVT_CTRL_SPI = true)
    (h2.trans (emitEvent_step code (eventPayload (renewWindow s) code data) .spi _)) h2
  exact EvIn.ite (h3.trans (setSuppressed_step _ _ _)) h3

theorem sendEvent_ev (code : Nat) (data : List Byte) (s : State) : EvStep s (sendEvent code data s) :=
  (sendEvent_step code data s).mono (by simp) (by simp [sendRegs, eventRegs])

/-- EVT_LOST takes no snapshot: it is no code of the fault mask (R374). -/
theorem raise_lost (s : State) (data : List Byte) : s.raise 0x20 data = sendEvent 0x20 data s := by
  have h : faultMaskCodes.findIdx? (· == 0x20) = none := by decide
  simp [State.raise, faultTrigger, h]

/-- EVT_LOST, or nothing: all that space returning does (R339, R352). -/
theorem lostReport_step (s : State) : SendStep s (lostReport s) := by
  unfold lostReport
  refine EvIn.ite (EvIn.refl s) ?_
  rw [raise_lost]
  exact (EvIn.cmd s { s.cmd with lost := 0 } rfl rfl rfl rfl rfl rfl rfl rfl rfl ⟨[], by simp, by simp⟩).trans
    (sendEvent_step 0x20 _ _)

theorem faultTrigger_ev (code : Nat) (s : State) : EvStep s (faultTrigger code s) := by
  unfold faultTrigger
  split
  · exact EvIn.refl s
  · refine EvIn.ite (EvIn.ite ((takeSnap_ev _ _ _ s).trans (sendEvent_ev _ _ _)) ?_) (EvIn.refl s)
    exact EvIn.bump s (by decide)

/-- What raising an event can change. -/
theorem raise_ev (s : State) (code : Nat) (data : List Byte) : EvStep s (s.raise code data) :=
  (sendEvent_ev code data s).trans (faultTrigger_ev code _)

/-- An event as an event frame. -/
theorem EvIn.frame {s t : State} (h : EvStep s t) : EvFrame [] [] s t := ⟨h.keeps, by simpa using h.words⟩

variable (s : State) (code : Nat) (data : List Byte)

@[simp] theorem raise_pending : (s.raise code data).pending = s.pending := (raise_ev s code data).keeps .pending (by decide)
@[simp] theorem raise_fresh : (s.raise code data).fresh = s.fresh := (raise_ev s code data).keeps .fresh (by decide)
@[simp] theorem raise_time : (s.raise code data).time = s.time := (raise_ev s code data).keeps .time (by decide)
@[simp] theorem raise_latch : (s.raise code data).latch = s.latch := (raise_ev s code data).keeps .latch (by decide)
@[simp] theorem raise_tck : (s.raise code data).tck = s.tck := (raise_ev s code data).keeps .tck (by decide)
@[simp] theorem raise_hlv : (s.raise code data).hlv = s.hlv := (raise_ev s code data).keeps .hlv (by decide)
@[simp] theorem raise_chk : (s.raise code data).chk = s.chk := (raise_ev s code data).keeps .chk (by decide)
@[simp] theorem raise_chkTurn : (s.raise code data).chkTurn = s.chkTurn := (raise_ev s code data).keeps .chkTurn (by decide)
@[simp] theorem raise_saf : (s.raise code data).saf = s.saf := (raise_ev s code data).keeps .saf (by decide)
@[simp] theorem raise_lyr : (s.raise code data).lyr = s.lyr := (raise_ev s code data).keeps .lyr (by decide)
@[simp] theorem raise_obj : (s.raise code data).obj = s.obj := (raise_ev s code data).keeps .obj (by decide)
@[simp] theorem raise_dia : (s.raise code data).dia = s.dia := (raise_ev s code data).keeps .dia (by decide)
@[simp] theorem raise_drv : (s.raise code data).drv = s.drv := (raise_ev s code data).keeps .drv (by decide)
@[simp] theorem raise_nvm : (s.raise code data).nvm = s.nvm := (raise_ev s code data).keeps .nvm (by decide)
@[simp] theorem raise_rng : (s.raise code data).rng = s.rng := (raise_ev s code data).keeps .rng (by decide)
@[simp] theorem raise_thm : (s.raise code data).thm = s.thm := (raise_ev s code data).keeps .thm (by decide)
@[simp] theorem raise_sys : (s.raise code data).sys = s.sys := (raise_ev s code data).keeps .sys (by decide)
@[simp] theorem raise_pwr : (s.raise code data).pwr = s.pwr := (raise_ev s code data).keeps .pwr (by decide)
@[simp] theorem raise_dn : (s.raise code data).dn = s.dn := (raise_ev s code data).keeps .dn (by decide)
@[simp] theorem raise_spiOut : (s.raise code data).spiOut = s.spiOut := (raise_ev s code data).keeps .spiOut (by decide)

theorem raise_reg {a : Nat} (h : a ∉ eventRegs) : (s.raise code data).reg a = s.reg a := (raise_ev s code data).words a h

theorem raise_f {x : Fld} (h : x.addr ∉ eventRegs) : (s.raise code data).f x = s.f x := by
  simp [State.f, raise_reg s code data h]

theorem raise_fb {x : Fld} (h : x.addr ∉ eventRegs) : (s.raise code data).fb x = s.fb x := by
  simp [State.fb, raise_f s code data h]

@[simp] theorem raise_inbox : (s.raise code data).cmd.inbox = s.cmd.inbox := (raise_ev s code data).inbox
@[simp] theorem raise_cur : (s.raise code data).cmd.cur = s.cmd.cur := (raise_ev s code data).cur
@[simp] theorem raise_jobs : (s.raise code data).cmd.jobs = s.cmd.jobs := (raise_ev s code data).jobs
@[simp] theorem raise_journal : (s.raise code data).cmd.journal = s.cmd.journal := (raise_ev s code data).journal
@[simp] theorem raise_seq : (s.raise code data).cmd.seq = s.cmd.seq := (raise_ev s code data).seq

end Sys2Proof.Machine
end

