-- ==== Sys2Proof/Laws/Ops.lean ====
section
/-! SUPPORT. What each way to answer a command does (R337 to R343): one law per operation of `Machine/Ops.lean`. -/

namespace Sys2Proof.Machine

/-- Everything a final reply may do: the packet, the journal, the sticky bits and CMD_LASTREF. -/
structure ReplyStep (s t : State) : Prop where
  keeps : Keeps [.cmd, .regs] s t
  words : KeepsRegs replyRegs s t
  jobs : t.cmd.jobs = s.cmd.jobs
  inbox : t.cmd.inbox = s.cmd.inbox
  cur : t.cmd.cur = s.cmd.cur
  seq : t.cmd.seq = s.cmd.seq

theorem ReplyStep.refl (s : State) : ReplyStep s s := ⟨Keeps.refl _ s, KeepsRegs.refl _ s, rfl, rfl, rfl, rfl⟩

theorem ReplyStep.trans {s t u : State} (h : ReplyStep s t) (h' : ReplyStep t u) : ReplyStep s u :=
  ⟨h.keeps.trans h'.keeps, h.words.trans h'.words, h'.jobs.trans h.jobs, h'.inbox.trans h.inbox, h'.cur.trans h.cur,
    h'.seq.trans h.seq⟩

theorem ReplyStep.setF (s : State) {x : Fld} (v : Nat) (h : x.addr ∈ replyRegs) : ReplyStep s (s.setF x v) := by
  refine ⟨?_, fun b hb => reg_setF_other s x v (fun e => hb (e ▸ h)), rfl, rfl, rfl, rfl⟩
  intro p hp
  cases p <;> simp_all [Part.same]

/-- A change of the front end that leaves the queue and the commands in flight alone. -/
theorem ReplyStep.cmd (s : State) (c : CmdSt) (hj : c.jobs = s.cmd.jobs) (hi : c.inbox = s.cmd.inbox)
    (hc : c.cur = s.cmd.cur) (hs : c.seq = s.cmd.seq) : ReplyStep s { s with cmd := c } := by
  refine ⟨?_, fun _ _ => rfl, hj, hi, hc, hs⟩
  intro p hp
  cases p <;> simp_all [Part.same]

theorem ReplyStep.of_send {s t : State} (h : SendStep s t) : ReplyStep s t :=
  ⟨h.keeps, h.words.mono (by simp [sendRegs, replyRegs]), h.jobs, h.inbox, h.cur, h.seq⟩

theorem noteStatus_step (st : Nat) (s : State) : ReplyStep s (noteStatus st s) := by
  unfold noteStatus State.setB
  repeat' split
  all_goals first | exact ReplyStep.setF s _ (by decide) | exact ReplyStep.refl s

@[simp] theorem noteStatus_cmd (st : Nat) (s : State) : (noteStatus st s).cmd = s.cmd := by
  unfold noteStatus
  repeat' split
  all_goals rfl

theorem noteLastRef_step (op st : Nat) (rq : Req) (s : State) : ReplyStep s (noteLastRef op st rq s) := by
  unfold noteLastRef
  split
  · exact ((((ReplyStep.setF s _ (by decide)).trans (ReplyStep.setF _ _ (by decide))).trans
      (ReplyStep.setF _ _ (by decide))).trans (ReplyStep.setF _ _ (by decide))).trans (ReplyStep.setF _ _ (by decide))
  · exact ReplyStep.refl s

@[simp] theorem noteLastRef_cmd (op st : Nat) (rq : Req) (s : State) : (noteLastRef op st rq s).cmd = s.cmd := by
  unfold noteLastRef
  split <;> rfl

theorem journalDone_step (op : Nat) (rq : Req) (st seq : Nat) (s : State) : ReplyStep s (journalDone op rq st seq s) := by
  unfold journalDone
  split <;> exact ReplyStep.cmd s _ rfl rfl rfl rfl

@[simp] theorem journalDone_out (op : Nat) (rq : Req) (st seq : Nat) (s : State) :
    (journalDone op rq st seq s).cmd.out = s.cmd.out := by
  unfold journalDone
  split <;> rfl

theorem pushReply_step (op : Nat) (rq : Req) (final : Bool) (st : Nat) (body : List Byte) (seq : Option Nat)
    (s : State) : ReplyStep s (pushReply op rq final st body seq s) := by
  unfold pushReply
  split
  · exact ReplyStep.refl s
  · exact ReplyStep.cmd s _ rfl rfl rfl rfl

/-- A reply that QUIET does not drop stands last (R341, R343). -/
theorem pushReply_out {rq : Req} (h : rq.quiet = false) (op : Nat) (final : Bool) (st : Nat) (body : List Byte)
    (seq : Nat) (s : State) :
    (pushReply op rq final st body (some seq) s).cmd.out = s.cmd.out ++ [replyOf op rq final st body seq] := by
  simp [pushReply, quietDrops, h, replyOf]

theorem finalReply_step (op : Nat) (rq : Req) (seq st : Nat) (body : List Byte) (s : State) :
    ReplyStep s (finalReply op rq seq st body s) :=
  ((pushReply_step op rq true st body (some seq) s).trans (journalDone_step op rq st seq _)).trans
    ((noteStatus_step st _).trans (noteLastRef_step op st rq _))

theorem finalReply_out {rq : Req} (h : rq.quiet = false) (op seq st : Nat) (body : List Byte) (s : State) :
    (finalReply op rq seq st body s).cmd.out = s.cmd.out ++ [replyOf op rq true st body seq] := by
  simp [finalReply, pushReply_out h]

/-- A good final reply writes no register at all. -/
theorem finalReply_ok_regs (op : Nat) (rq : Req) (seq st : Nat) (body : List Byte) (s : State) (h : st < 0x10) :
    (finalReply op rq seq st body s).regs = s.regs := by
  have h1 : ¬ 16 ≤ st := by omega
  have h2 : st ≠ 0x11 := by omega
  have h3 : st ≠ 0x14 := by omega
  have h4 : st ≠ 0x15 := by omega
  have h5 : st ≠ 0x16 := by omega
  simp only [finalReply, noteLastRef, noteStatus, journalDone, pushReply, St.badLength, St.badCrc, St.repeatAlive, St.busy,
    h1, h2, h3, h4, h5, decide_false, Bool.false_and, if_false, Bool.false_eq_true]
  split <;> split <;> rfl

/-! ### The state in which a body runs -/

/-- What stands before a body runs differs from what stood before the command in the front end only. -/
theorem startCommand_eq (op : Nat) (idemp : Bool) (rq : Req) (s : State) :
    ∃ c : CmdSt, startCommand op idemp rq s = { s with cmd := c } ∧ c.out = s.cmd.out ∧ c.jobs = s.cmd.jobs ∧
      c.raised = s.cmd.raised ∧ c.seq = (s.cmd.seq + 1) % 65536 :=
  ⟨_, rfl, rfl, rfl, rfl, rfl⟩

@[simp] theorem startCommand_out (op : Nat) (idemp : Bool) (rq : Req) (s : State) :
    (startCommand op idemp rq s).cmd.out = s.cmd.out := rfl
@[simp] theorem startCommand_jobs (op : Nat) (idemp : Bool) (rq : Req) (s : State) :
    (startCommand op idemp rq s).cmd.jobs = s.cmd.jobs := rfl
@[simp] theorem startCommand_seq (op : Nat) (idemp : Bool) (rq : Req) (s : State) :
    (startCommand op idemp rq s).cmd.seq = (s.cmd.seq + 1) % 65536 := rfl
@[simp] theorem startCommand_pending (op : Nat) (idemp : Bool) (rq : Req) (s : State) :
    (startCommand op idemp rq s).pending = s.pending := rfl
@[simp] theorem startCommand_fresh (op : Nat) (idemp : Bool) (rq : Req) (s : State) :
    (startCommand op idemp rq s).fresh = s.fresh := rfl
@[simp] theorem startCommand_time (op : Nat) (idemp : Bool) (rq : Req) (s : State) :
    (startCommand op idemp rq s).time = s.time := rfl
@[simp] theorem startCommand_regs (op : Nat) (idemp : Bool) (rq : Req) (s : State) :
    (startCommand op idemp rq s).regs = s.regs := rfl
@[simp] theorem startCommand_latch (op : Nat) (idemp : Bool) (rq : Req) (s : State) :
    (startCommand op idemp rq s).latch = s.latch := rfl
@[simp] theorem startCommand_tck (op : Nat) (idemp : Bool) (rq : Req) (s : State) :
    (startCommand op idemp rq s).tck = s.tck := rfl
@[simp] theorem startCommand_hlv (op : Nat) (idemp : Bool) (rq : Req) (s : State) :
    (startCommand op idemp rq s).hlv = s.hlv := rfl
@[simp] theorem startCommand_chk (op : Nat) (idemp : Bool) (rq : Req) (s : State) :
    (startCommand op idemp rq s).chk = s.chk := rfl
@[simp] theorem startCommand_chkTurn (op : Nat) (idemp : Bool) (rq : Req) (s : State) :
    (startCommand op idemp rq s).chkTurn = s.chkTurn := rfl
@[simp] theorem startCommand_snp (op : Nat) (idemp : Bool) (rq : Req) (s : State) :
    (startCommand op idemp rq s).snp = s.snp := rfl
@[simp] theorem startCommand_saf (op : Nat) (idemp : Bool) (rq : Req) (s : State) :
    (startCommand op idemp rq s).saf = s.saf := rfl
@[simp] theorem startCommand_lyr (op : Nat) (idemp : Bool) (rq : Req) (s : State) :
    (startCommand op idemp rq s).lyr = s.lyr := rfl
@[simp] theorem startCommand_obj (op : Nat) (idemp : Bool) (rq : Req) (s : State) :
    (startCommand op idemp rq s).obj = s.obj := rfl
@[simp] theorem startCommand_dia (op : Nat) (idemp : Bool) (rq : Req) (s : State) :
    (startCommand op idemp rq s).dia = s.dia := rfl
@[simp] theorem startCommand_drv (op : Nat) (idemp : Bool) (rq : Req) (s : State) :
    (startCommand op idemp rq s).drv = s.drv := rfl
@[simp] theorem startCommand_nvm (op : Nat) (idemp : Bool) (rq : Req) (s : State) :
    (startCommand op idemp rq s).nvm = s.nvm := rfl
@[simp] theorem startCommand_rng (op : Nat) (idemp : Bool) (rq : Req) (s : State) :
    (startCommand op idemp rq s).rng = s.rng := rfl
@[simp] theorem startCommand_thm (op : Nat) (idemp : Bool) (rq : Req) (s : State) :
    (startCommand op idemp rq s).thm = s.thm := rfl
@[simp] theorem startCommand_sys (op : Nat) (idemp : Bool) (rq : Req) (s : State) :
    (startCommand op idemp rq s).sys = s.sys := rfl
@[simp] theorem startCommand_pwr (op : Nat) (idemp : Bool) (rq : Req) (s : State) :
    (startCommand op idemp rq s).pwr = s.pwr := rfl
@[simp] theorem startCommand_dn (op : Nat) (idemp : Bool) (rq : Req) (s : State) :
    (startCommand op idemp rq s).dn = s.dn := rfl
@[simp] theorem startCommand_spiOut (op : Nat) (idemp : Bool) (rq : Req) (s : State) :
    (startCommand op idemp rq s).spiOut = s.spiOut := rfl
@[simp] theorem startCommand_reg (op : Nat) (idemp : Bool) (rq : Req) (s : State) (a : Nat) :
    (startCommand op idemp rq s).reg a = s.reg a := rfl
@[simp] theorem startCommand_f (op : Nat) (idemp : Bool) (rq : Req) (s : State) (x : Fld) :
    (startCommand op idemp rq s).f x = s.f x := rfl
@[simp] theorem startCommand_fb (op : Nat) (idemp : Bool) (rq : Req) (s : State) (x : Fld) :
    (startCommand op idemp rq s).fb x = s.fb x := rfl
@[simp] theorem startCommand_a (op : Nat) (idemp : Bool) (rq : Req) (s : State) (x : Fld) :
    (startCommand op idemp rq s).a x = s.a x := rfl

/-! ### The ways a command ends -/

variable {op : Nat} {rq : Req} {idemp : Bool} {body : State → State × Reply} {s t : State}

/-- A command that runs now stands at the head of the queue (R338). -/
theorem head_of_runs (h : Runs op rq s) :
    ∃ e l, s.cmd.inbox.filter QEntry.inQueue = e :: l ∧ e.inQueue = true ∧ e.op = op ∧ e.rq = rq := by
  have h1 := h.1
  simp only [State.mustWait, Bool.or_eq_false_iff] at h1
  obtain ⟨-, h2⟩ := h1
  match hl : s.cmd.inbox.filter QEntry.inQueue with
  | [] => simp [hl] at h2
  | e :: l =>
    have hm : e ∈ s.cmd.inbox.filter QEntry.inQueue := by simp [hl]
    simp only [hl, QEntry.matches, Bool.not_eq_false', Bool.and_eq_true, beq_iff_eq] at h2
    exact ⟨e, l, rfl, (List.mem_filter.mp hm).2, h2.1, h2.2⟩

/-- It has been accepted: nothing is accepted a second time (R335). -/
theorem accept_of_runs (h : Runs op rq s) : accept 0 op rq s = s := by
  obtain ⟨e, l, hl, hq, ho, hr⟩ := head_of_runs h
  have hm : e ∈ s.cmd.inbox := (List.mem_filter.mp (by simp [hl] : e ∈ s.cmd.inbox.filter QEntry.inQueue)).1
  simp only [QEntry.inQueue, Bool.and_eq_true, beq_iff_eq] at hq
  have : s.holds 0 op rq = true :=
    List.any_eq_true.mpr ⟨e, hm, by simp [hq.1, QEntry.matches, ho, hr]⟩
  simp [accept, this]

theorem iterSome_none {α : Type} {f : α → Option α} {a : α} (h : f a = none) (n : Nat) : iterSome f n a = a := by
  cases n <;> simp [iterSome, h]

/-- No command that no row executes stands before it. -/
theorem serveQueue_of_runs (h : Runs op rq s) (hn : noRow op = none) : serveQueue s = s := by
  obtain ⟨e, l, hl, -, ho, -⟩ := head_of_runs h
  have hx : noRow e.op = none := ho ▸ hn
  have ha : answerHead s = none := by
    unfold answerHead
    rw [hl]
    dsimp only
    rw [hx]
  exact iterSome_none ha _

theorem runCommand_eq (h : Runs op rq s) (hn : noRow op = none := by decide) :
    runCommand op idemp rq body s = runBody op idemp rq body s := by
  simp [runCommand, accept_of_runs h, serveQueue_of_runs h hn, h.1]

theorem command_eq (h : Runs op rq s) (hn : noRow op = none := by decide) :
    command op rq body s = runBody op (!reqClassN op rq) rq body s := runCommand_eq h hn

/-- A command that must wait is accepted and stands in the queue (R338). -/
theorem command_waits (h : (serveQueue (accept 0 op rq s)).mustWait op rq = true) :
    command op rq body s = serveQueue (accept 0 op rq s) := by
  simp [command, runCommand, h]

/-- The body ends with a final reply: what stands then is what the body left, but for the front end and the words of
the reply; the reply waits last but for an EVT_LOST. -/
theorem runBody_final {st : Nat} {fin : List Byte} (hq : rq.quiet = false)
    (hb : body (startCommand op idemp rq s) = (t, .final st fin)) :
    Keeps [.cmd, .regs] t (runBody op idemp rq body s) ∧ KeepsRegs replyRegs t (runBody op idemp rq body s) ∧
      (runBody op idemp rq body s).cmd.jobs = t.cmd.jobs ∧ (runBody op idemp rq body s).cmd.inbox = t.cmd.inbox ∧
      ∃ evs : List OutPkt, (∀ e ∈ evs, e.kind = .event) ∧
        (runBody op idemp rq body s).cmd.out = t.cmd.out ++ [replyOf op rq true st fin s.cmd.seq] ++ evs := by
  simp only [runBody, hb, endBody, closeCommand]
  have hl := lostReport_step (finalReply op rq s.cmd.seq st fin { t with cmd.cur := none })
  have h := (finalReply_step op rq s.cmd.seq st fin { t with cmd.cur := none }).trans (.of_send hl)
  obtain ⟨evs, he, ho⟩ := hl.sends
  exact ⟨(Keeps.of_cur (Keeps.refl _ t) (by simp) _).trans h.keeps, h.words, h.jobs, h.inbox, evs, he,
    by rw [ho, finalReply_out hq]⟩

/-- With a good status the words are what the body left, but for those an EVT_LOST writes. -/
theorem runBody_final_regs {st : Nat} {fin : List Byte} (hs : st < 0x10)
    (hb : body (startCommand op idemp rq s) = (t, .final st fin)) : KeepsRegs sendRegs t (runBody op idemp rq body s) := by
  simp only [runBody, hb, endBody, closeCommand]
  refine KeepsRegs.trans (t := finalReply op rq s.cmd.seq st fin { t with cmd.cur := none }) (fun a _ => ?_)
    (lostReport_step _).words
  simp [State.reg, finalReply_ok_regs _ _ _ _ _ _ hs]

/-- The frame and the reply of a command whose body ends with a final reply. -/
theorem runBody_answers {st : Nat} {fin : List Byte} {parts : List Part} {words : List Nat} (hq : rq.quiet = false)
    (hb : body (startCommand op idemp rq s) = (t, .final st fin))
    (hk : Keeps (.cmd :: .regs :: parts) s t) (hw : KeepsRegs (replyRegs ++ words) s t) (he : SendsEvents s t) :
    Answers op rq st fin s (runBody op idemp rq body s) ∧ CmdFrame parts words s (runBody op idemp rq body s) ∧
      (runBody op idemp rq body s).cmd.jobs = t.cmd.jobs := by
  obtain ⟨h1, h2, h3, -, evs', h4, h5⟩ := runBody_final hq hb
  obtain ⟨evs, h6, h7⟩ := he
  refine ⟨⟨evs, evs', ?_, by rw [h5, h7]⟩, ⟨hk.trans (h1.mono (by simp)), hw.trans (h2.left _)⟩, h3⟩
  exact fun e hm => (List.mem_append.1 hm).elim (h6 e) (h4 e)

/-- The body starts a long-running command (R341): fewer than eight are in flight (R337). -/
theorem runBody_accepts {bod fin : List Byte} {key : Nat} {parts : List Part} {words : List Nat} (hq : rq.quiet = false)
    (hl : s.longRunning < 8) (hb : body (startCommand op idemp rq s) = (t, .accepted bod key fin))
    (hk : Keeps (.cmd :: .regs :: parts) s t) (hw : KeepsRegs (replyRegs ++ words) s t) (he : SendsEvents s t)
    (hj : t.cmd.jobs = s.cmd.jobs) :
    Accepts op rq bod s (runBody op idemp rq body s) ∧ CmdFrame parts words s (runBody op idemp rq body s) := by
  have hl' : ({ startCommand op idemp rq s with cmd.cur := none } : State).longRunning < 8 := hl
  simp only [runBody, hb, endBody, closeCommand, hl', if_true]
  generalize hu : ({ t with cmd.cur := none, cmd.jobs := t.cmd.jobs ++ [⟨s.cmd.seq, op, rq, true, key, fin, false⟩] } : State) = u
  have hs := lostReport_step (pushReply op rq false St.accepted bod (some s.cmd.seq) u)
  have h1 := (pushReply_step op rq false St.accepted bod (some s.cmd.seq) u).trans (.of_send hs)
  have h2 := pushReply_out hq op false St.accepted bod s.cmd.seq u
  obtain ⟨evs, h3, h4⟩ := he
  obtain ⟨evs', h5, h6⟩ := hs.sends
  subst hu
  refine ⟨⟨⟨evs, evs', ?_, ?_⟩, ⟨s.cmd.seq, op, rq, true, key, fin, false⟩, ?_, rfl, rfl, rfl, rfl⟩, ?_, ?_⟩
  · exact fun e hm => (List.mem_append.1 hm).elim (h3 e) (h5 e)
  · rw [h6, h2, ← h4]
  · exact h1.jobs.trans (by rw [← hj])
  · exact (Keeps.of_cur hk (by simp) _).trans (h1.keeps.mono (by simp))
  · exact KeepsRegs.trans (t := { t with cmd.cur := none, cmd.jobs := _ }) hw (h1.words.left _)

/-- The body's one reply comes later. -/
theorem runBody_defers {fin : List Byte} {key : Nat} {parts : List Part} {words : List Nat}
    (hb : body (startCommand op idemp rq s) = (t, .later key fin))
    (hk : Keeps (.cmd :: .regs :: parts) s t) (hw : KeepsRegs (replyRegs ++ words) s t) (he : SendsEvents s t)
    (hj : t.cmd.jobs = s.cmd.jobs) :
    Defers op rq s (runBody op idemp rq body s) ∧ CmdFrame parts words s (runBody op idemp rq body s) := by
  simp only [runBody, hb, endBody, closeCommand]
  generalize hu : markWritten op rq s.cmd.seq
    { t with cmd.cur := none, cmd.jobs := t.cmd.jobs ++ [⟨s.cmd.seq, op, rq, false, key, fin, false⟩] } = u
  have h0 : ReplyStep { t with cmd.cur := none, cmd.jobs := t.cmd.jobs ++ [⟨s.cmd.seq, op, rq, false, key, fin, false⟩] } u ∧
      u.cmd.out = t.cmd.out := by
    rw [← hu]
    unfold markWritten
    split
    · exact ⟨ReplyStep.cmd _ _ rfl rfl rfl rfl, rfl⟩
    · exact ⟨ReplyStep.refl _, rfl⟩
  have hs := lostReport_step u
  have h1 := h0.1.trans (.of_send hs)
  obtain ⟨evs, h3, h4⟩ := he
  obtain ⟨evs', h5, h6⟩ := hs.sends
  refine ⟨⟨⟨evs ++ evs', ?_, ?_⟩, ⟨s.cmd.seq, op, rq, false, key, fin, false⟩, h1.jobs.trans (by rw [← hj]), rfl, rfl, rfl, rfl⟩,
    (Keeps.of_cur hk (by simp) _).trans (h1.keeps.mono (by simp)), ?_⟩
  · exact fun e hm => (List.mem_append.1 hm).elim (h3 e) (h5 e)
  · rw [h6, h0.2, h4, List.append_assoc]
  · exact KeepsRegs.trans (t := { t with cmd.cur := none, cmd.jobs := _ }) hw (h1.words.left _)

/-- The body answers ACCEPTED and ends at once. -/
theorem runBody_both {st : Nat} {bod fin : List Byte} {parts : List Part} {words : List Nat} (hq : rq.quiet = false)
    (hl : s.longRunning < 8)
    (hb : body (startCommand op idemp rq s) = (t, .both bod st fin))
    (hk : Keeps (.cmd :: .regs :: parts) s t) (hw : KeepsRegs (replyRegs ++ words) s t) (he : SendsEvents s t) :
    SendsAll [replyOf op rq false St.accepted bod s.cmd.seq, replyOf op rq true st fin s.cmd.seq] s
        (runBody op idemp rq body s) ∧
      CmdFrame parts words s (runBody op idemp rq body s) := by
  have hl' : ({ startCommand op idemp rq s with cmd.cur := none } : State).longRunning < 8 := hl
  simp only [runBody, hb, endBody, closeCommand, hl', if_true]
  generalize hu : pushReply op rq false St.accepted bod (some s.cmd.seq) { t with cmd.cur := none } = u
  have h1 := pushReply_step op rq false St.accepted bod (some s.cmd.seq) { t with cmd.cur := none }
  have h2 := pushReply_out hq op false St.accepted bod s.cmd.seq { t with cmd.cur := none }
  rw [hu] at h1 h2
  have hs := lostReport_step (finalReply op rq s.cmd.seq st fin u)
  have h3 := h1.trans ((finalReply_step op rq s.cmd.seq st fin u).trans (.of_send hs))
  obtain ⟨evs, h5, h6⟩ := he
  obtain ⟨evs', h7, h8⟩ := hs.sends
  refine ⟨⟨evs, evs', ?_, ?_⟩, (Keeps.of_cur hk (by simp) _).trans (h3.keeps.mono (by simp)), ?_⟩
  · exact fun e hm => (List.mem_append.1 hm).elim (h5 e) (h7 e)
  · rw [h8, finalReply_out hq, h2]; simp [h6]
  · exact KeepsRegs.trans (t := { t with cmd.cur := none }) hw (h3.words.left _)

end Sys2Proof.Machine
end

