-- ==== Sys2Proof/Laws/Frames.lean ====
section
/-! SUPPORT. A calculus of frames: `Moves kinds parts words s t` says that `t` differs from `s` only in the listed
parts and words, in what an event writes, and in packets of the listed kinds that wait to be sent. One rule per way a meaning changes the state. -/

namespace Sys2Proof.Machine

theorem SendsOf.refl (k : List OutKind) (s : State) : SendsOf k s s := ⟨[], by simp⟩

theorem SendsOf.trans {k : List OutKind} {s t u : State} (h : SendsOf k s t) (h' : SendsOf k t u) : SendsOf k s u := by
  obtain ⟨a, ha, e⟩ := h
  obtain ⟨b, hb, e'⟩ := h'
  refine ⟨a ++ b, ?_, by rw [e', e, List.append_assoc]⟩
  intro p hp
  rcases List.mem_append.1 hp with h | h
  · exact ha p h
  · exact hb p h

theorem SendsEvents.of {s t : State} (h : SendsEvents s t) {k : List OutKind} (hk : OutKind.event ∈ k) : SendsOf k s t := by
  obtain ⟨a, ha, e⟩ := h
  exact ⟨a, fun p hp => by rw [ha p hp]; exact hk, e⟩

theorem SendsOf.events {s t : State} (h : SendsOf [.event] s t) : SendsEvents s t := by
  obtain ⟨a, ha, e⟩ := h
  exact ⟨a, fun p hp => by simpa using ha p hp, e⟩

/-- What a step that raises events may change. -/
structure Moves (kinds : List OutKind) (parts : List Part) (words : List Nat) (s t : State) : Prop where
  keeps : Keeps (.cmd :: .regs :: .snp :: parts) s t
  regs : KeepsRegs (eventRegs ++ words) s t
  sends : SendsOf kinds s t

theorem Moves.frame {k : List OutKind} {p : List Part} {w : List Nat} {s t : State} (h : Moves k p w s t) : EvFrame p w s t := ⟨h.keeps, h.regs⟩

theorem Moves.refl (k : List OutKind) (p : List Part) (w : List Nat) (s : State) : Moves k p w s s :=
  ⟨Keeps.refl _ s, KeepsRegs.refl _ s, SendsOf.refl k s⟩

theorem Moves.trans {k : List OutKind} {p : List Part} {w : List Nat} {s t u : State} (h : Moves k p w s t) (h' : Moves k p w t u) :
    Moves k p w s u := ⟨h.keeps.trans h'.keeps, h.regs.trans h'.regs, h.sends.trans h'.sends⟩

theorem Moves.mono {k : List OutKind} {p p' : List Part} {w w' : List Nat} {s t : State} (h : Moves k p w s t) (hp : p ⊆ p') (hw : w ⊆ w') :
    Moves k p' w' s t :=
  ⟨h.keeps.mono (List.cons_subset_cons _ (List.cons_subset_cons _ (List.cons_subset_cons _ hp))),
    h.regs.mono (List.append_subset.2 ⟨List.subset_append_left _ _, List.subset_append_of_subset_right _ hw⟩), h.sends⟩

/-- A frame within a frame. -/
theorem Moves.andThen {k : List OutKind} {p p' : List Part} {w w' : List Nat} {s t u : State} (h : Moves k p w s t) (h' : Moves k p' w' t u)
    (hp : p' ⊆ p) (hw : w' ⊆ w) : Moves k p w s u := h.trans (h'.mono hp hw)

theorem Moves.ite {k : List OutKind} {p : List Part} {w : List Nat} {s t u : State} {c : Prop} [Decidable c] (h : Moves k p w s t)
    (h' : Moves k p w s u) : Moves k p w s (if c then t else u) := by
  split
  · exact h
  · exact h'

section rules

variable {k : List OutKind} {p : List Part} {w : List Nat} {s t : State} (h : Moves k p w s t)
include h

theorem Moves.setReg {a : Nat} (v : Word) (ha : a ∈ eventRegs ++ w) : Moves k p w s (t.setReg a v) :=
  ⟨h.keeps.trans ((setReg_keeps [] t a v).mono (by simp)), h.regs.trans (setReg_keepsRegs t v ha), h.sends⟩

theorem Moves.setF {x : Fld} (v : Nat) (ha : x.addr ∈ eventRegs ++ w) : Moves k p w s (t.setF x v) := h.setReg _ ha
theorem Moves.setB {x : Fld} (v : Bool) (ha : x.addr ∈ eventRegs ++ w) : Moves k p w s (t.setB x v) := h.setReg _ ha
theorem Moves.addF {x : Fld} (n : Nat) (ha : x.addr ∈ eventRegs ++ w) : Moves k p w s (t.addF x n) := h.setReg _ ha
theorem Moves.bump {x : Fld} (ha : x.addr ∈ eventRegs ++ w) : Moves k p w s (t.bump x) := h.setReg _ ha

theorem Moves.raise (hk : OutKind.event ∈ k) (code : Nat) (data : List Byte) : Moves k p w s (t.raise code data) :=
  ⟨h.keeps.trans ((raise_ev t code data).keeps.mono (by simp)), h.regs.trans ((raise_ev t code data).words.left w),
    h.sends.trans ((raise_ev t code data).sends.of hk)⟩

/-- A change of the front end that sends nothing but packets of the listed kinds. -/
theorem Moves.cmd {c : CmdSt} (hc : ∃ ps : List OutPkt, (∀ e ∈ ps, e.kind ∈ k) ∧ c.out = t.cmd.out ++ ps) :
    Moves k p w s { t with cmd := c } :=
  ⟨h.keeps.of_cur (by simp) c, h.regs, h.sends.trans hc⟩

theorem Moves.cmd_same {c : CmdSt} (hc : c.out = t.cmd.out) : Moves k p w s { t with cmd := c } :=
  h.cmd ⟨[], by simp [hc]⟩

theorem Moves.pending (hp : Part.pending ∈ p) {x : _} : Moves k p w s { t with pending := x } :=
  ⟨h.keeps.trans (fun q hq => by cases q <;> first | rfl | exact absurd (by simp [hp]) hq), h.regs, h.sends⟩

theorem Moves.fresh (hp : Part.fresh ∈ p) {x : _} : Moves k p w s { t with fresh := x } :=
  ⟨h.keeps.trans (fun q hq => by cases q <;> first | rfl | exact absurd (by simp [hp]) hq), h.regs, h.sends⟩

theorem Moves.time (hp : Part.time ∈ p) {x : _} : Moves k p w s { t with time := x } :=
  ⟨h.keeps.trans (fun q hq => by cases q <;> first | rfl | exact absurd (by simp [hp]) hq), h.regs, h.sends⟩

theorem Moves.latch (hp : Part.latch ∈ p) {x : _} : Moves k p w s { t with latch := x } :=
  ⟨h.keeps.trans (fun q hq => by cases q <;> first | rfl | exact absurd (by simp [hp]) hq), h.regs, h.sends⟩

theorem Moves.tck (hp : Part.tck ∈ p) {x : _} : Moves k p w s { t with tck := x } :=
  ⟨h.keeps.trans (fun q hq => by cases q <;> first | rfl | exact absurd (by simp [hp]) hq), h.regs, h.sends⟩

theorem Moves.hlv (hp : Part.hlv ∈ p) {x : _} : Moves k p w s { t with hlv := x } :=
  ⟨h.keeps.trans (fun q hq => by cases q <;> first | rfl | exact absurd (by simp [hp]) hq), h.regs, h.sends⟩

theorem Moves.chk (hp : Part.chk ∈ p) {x : _} : Moves k p w s { t with chk := x } :=
  ⟨h.keeps.trans (fun q hq => by cases q <;> first | rfl | exact absurd (by simp [hp]) hq), h.regs, h.sends⟩

theorem Moves.chkTurn (hp : Part.chkTurn ∈ p) {x : _} : Moves k p w s { t with chkTurn := x } :=
  ⟨h.keeps.trans (fun q hq => by cases q <;> first | rfl | exact absurd (by simp [hp]) hq), h.regs, h.sends⟩

theorem Moves.saf (hp : Part.saf ∈ p) {x : _} : Moves k p w s { t with saf := x } :=
  ⟨h.keeps.trans (fun q hq => by cases q <;> first | rfl | exact absurd (by simp [hp]) hq), h.regs, h.sends⟩

theorem Moves.lyr (hp : Part.lyr ∈ p) {x : _} : Moves k p w s { t with lyr := x } :=
  ⟨h.keeps.trans (fun q hq => by cases q <;> first | rfl | exact absurd (by simp [hp]) hq), h.regs, h.sends⟩

theorem Moves.obj (hp : Part.obj ∈ p) {x : _} : Moves k p w s { t with obj := x } :=
  ⟨h.keeps.trans (fun q hq => by cases q <;> first | rfl | exact absurd (by simp [hp]) hq), h.regs, h.sends⟩

theorem Moves.dia (hp : Part.dia ∈ p) {x : _} : Moves k p w s { t with dia := x } :=
  ⟨h.keeps.trans (fun q hq => by cases q <;> first | rfl | exact absurd (by simp [hp]) hq), h.regs, h.sends⟩

theorem Moves.drv (hp : Part.drv ∈ p) {x : _} : Moves k p w s { t with drv := x } :=
  ⟨h.keeps.trans (fun q hq => by cases q <;> first | rfl | exact absurd (by simp [hp]) hq), h.regs, h.sends⟩

theorem Moves.nvm (hp : Part.nvm ∈ p) {x : _} : Moves k p w s { t with nvm := x } :=
  ⟨h.keeps.trans (fun q hq => by cases q <;> first | rfl | exact absurd (by simp [hp]) hq), h.regs, h.sends⟩

theorem Moves.rng (hp : Part.rng ∈ p) {x : _} : Moves k p w s { t with rng := x } :=
  ⟨h.keeps.trans (fun q hq => by cases q <;> first | rfl | exact absurd (by simp [hp]) hq), h.regs, h.sends⟩

theorem Moves.thm (hp : Part.thm ∈ p) {x : _} : Moves k p w s { t with thm := x } :=
  ⟨h.keeps.trans (fun q hq => by cases q <;> first | rfl | exact absurd (by simp [hp]) hq), h.regs, h.sends⟩

theorem Moves.sys (hp : Part.sys ∈ p) {x : _} : Moves k p w s { t with sys := x } :=
  ⟨h.keeps.trans (fun q hq => by cases q <;> first | rfl | exact absurd (by simp [hp]) hq), h.regs, h.sends⟩

theorem Moves.pwr (hp : Part.pwr ∈ p) {x : _} : Moves k p w s { t with pwr := x } :=
  ⟨h.keeps.trans (fun q hq => by cases q <;> first | rfl | exact absurd (by simp [hp]) hq), h.regs, h.sends⟩

theorem Moves.dn (hp : Part.dn ∈ p) {x : _} : Moves k p w s { t with dn := x } :=
  ⟨h.keeps.trans (fun q hq => by cases q <;> first | rfl | exact absurd (by simp [hp]) hq), h.regs, h.sends⟩

theorem Moves.spiOut (hp : Part.spiOut ∈ p) {x : _} : Moves k p w s { t with spiOut := x } :=
  ⟨h.keeps.trans (fun q hq => by cases q <;> first | rfl | exact absurd (by simp [hp]) hq), h.regs, h.sends⟩

theorem Moves.snp {x : SnpSt} : Moves k p w s { t with snp := x } :=
  ⟨h.keeps.trans (fun q hq => by cases q <;> first | rfl | exact absurd (by simp) hq), h.regs, h.sends⟩

/-- A change of several listed parts at once. -/
theorem Moves.parts {u : State} (hk : Keeps (.cmd :: .snp :: p) t u) (hr : u.regs = t.regs) (hc : u.cmd.out = t.cmd.out) :
    Moves k p w s u :=
  ⟨h.keeps.trans (hk.mono (by intro x hx; simp at hx ⊢; tauto)), h.regs.trans (fun a _ => by simp [State.reg, hr]),
    h.sends.trans ⟨[], by simp [hc]⟩⟩

end rules

/-! ### Commands whose body moves within a frame -/

theorem startCommand_keeps (l : List Part) (op : Nat) (idemp : Bool) (rq : Req) (s : State) :
    Keeps (.cmd :: l) s (startCommand op idemp rq s) := by
  intro p hp
  cases p <;> first | rfl | exact absurd (by simp) hp

section commands

variable {op : Nat} {rq : Req} {idemp : Bool} {body : State → State × Reply} {s t : State} {p : List Part} {w : List Nat}

theorem Moves.started (h : Moves [.event] p w (startCommand op idemp rq s) t) :
    Keeps (.cmd :: .regs :: .snp :: p) s t ∧ KeepsRegs (replyRegs ++ (eventRegs ++ w)) s t ∧ SendsEvents s t :=
  ⟨(startCommand_keeps _ _ _ _ _).trans h.keeps,
    KeepsRegs.trans (t := startCommand op idemp rq s) (fun _ _ => rfl) (h.regs.right _), h.sends.events⟩

/-- The answer and the frame of a command whose body ends with a final reply. -/
theorem runBody_final_moves {st : Nat} {fin : List Byte} (hq : rq.quiet = false)
    (hb : body (startCommand op idemp rq s) = (t, .final st fin)) (h : Moves [.event] p w (startCommand op idemp rq s) t) :
    Answers op rq st fin s (runBody op idemp rq body s) ∧
      CmdFrame (.snp :: p) (eventRegs ++ w) s (runBody op idemp rq body s) ∧
      (runBody op idemp rq body s).cmd.jobs = t.cmd.jobs :=
  runBody_answers hq hb h.started.1 h.started.2.1 h.started.2.2

/-- The same of a body that starts a long-running command. -/
theorem runBody_accepted_moves {bod fin : List Byte} {key : Nat} (hq : rq.quiet = false) (hl : s.longRunning < 8)
    (hb : body (startCommand op idemp rq s) = (t, .accepted bod key fin))
    (h : Moves [.event] p w (startCommand op idemp rq s) t) (hj : t.cmd.jobs = s.cmd.jobs) :
    Accepts op rq bod s (runBody op idemp rq body s) ∧
      CmdFrame (.snp :: p) (eventRegs ++ w) s (runBody op idemp rq body s) :=
  runBody_accepts hq hl hb h.started.1 h.started.2.1 h.started.2.2 hj

/-- The same of a body whose one reply comes later. -/
theorem runBody_later_moves {fin : List Byte} {key : Nat} (hb : body (startCommand op idemp rq s) = (t, .later key fin))
    (h : Moves [.event] p w (startCommand op idemp rq s) t) (hj : t.cmd.jobs = s.cmd.jobs) :
    Defers op rq s (runBody op idemp rq body s) ∧
      CmdFrame (.snp :: p) (eventRegs ++ w) s (runBody op idemp rq body s) :=
  runBody_defers hb h.started.1 h.started.2.1 h.started.2.2 hj

end commands

end Sys2Proof.Machine
end

