-- ==== Sys2Proof/WellFormed.lean ====
section
/-! DEFINITION. Which commands can stand on the wire or come about on the part: field widths of a packet (R329, R331,
R332), lane and pixel numbers, and the sizes of what the part senses. A meaning stands for ill-formed terms too; this says
which terms mean something. -/

namespace Sys2Proof

/-- The header fields fit and the payload has a length a packet can carry (R329). -/
def Req.wf (rq : Req) : Bool :=
  decide (rq.stream < 8) && decide (rq.tag < 256) && decide (rq.alive < 256) && decide (rq.arg < 2 ^ 24) &&
    rq.payload.length % 4 == 0 && decide (rq.payload.length ≤ 4080)

/-- A command, TYPE 0: any stream but the video streams (R332). -/
def Req.wfCommand (rq : Req) : Bool := rq.wf && !(rq.stream == 2 || rq.stream == 3)

/-- A video packet, TYPE 3: streams 2 and 3 (R332). -/
def Req.wfVideo (rq : Req) : Bool := rq.wf && (rq.stream == 2 || rq.stream == 3)

/-- Broadcast control, TYPE 4: on the ring, to 31, on a master stream (R331, R332). -/
def Req.wfControl (rq : Req) : Bool :=
  rq.wf && rq.bcast && rq.port == .ring && (rq.stream == 0 || decide (4 ≤ rq.stream))

/-- The address of a register word (R5). -/
def wordAddr (a : Nat) : Bool := a % 4 == 0 && decide (a < 0x10000)

/-- The bytes of a packet as they arrive: no longer than the longest one (R329). -/
def wfRaw (bs : List Byte) : Bool := decide (bs.length ≤ 4096)

/-- A pixel of the field (R13). -/
def onField (x y : Nat) : Bool := decide (x < 2048) && decide (y < 512)

/-- A mask of the four lanes, not empty (R296). -/
def laneMask (m : Nat) : Bool := decide (0 < m) && decide (m < 16)

/-- A packet that arrives in the course of an entry. -/
def wfDuring (d : Option (Port × List Byte)) : Bool := d.all (fun p => wfRaw p.2)

/-- Pixels, addresses and engines exist. -/
def EccReader.wf : EccReader → Bool
  | .half _ => true
  | .gains p => decide (p < 1048576)
  | .fallback a => decide (a < 0x200000)
  | .map => true
  | .chk n _ => decide (n < 4)
  | .command _ => true
  | .corrected bank _ => decide (bank < 32)

/-- A copy or page of the eNVM that exists (R439). -/
def NvmCopy.wf : NvmCopy → Bool
  | .safety c | .map c | .bist c | .tile c | .factor c | .diode c | .slot c => decide (c < 2)
  | .gains pg => decide (pg < 384)
  | .fallback => true
  | .life => true

/-- What a release finds: copies that exist, a TX_ID that is not 0 (R302), the 14 directions of the pad pairs (R472), eight on-die
sensors and four channels (R415). -/
def BootEnv.wf (e : BootEnv) : Bool :=
  e.bad.all NvmCopy.wf && decide (0 < e.txId) && decide (e.txId < 65536) && e.pads.length == 14 && e.die.length == 8 &&
    e.ts.length == 4

/-- KIND and BIT of a fault entry (R451). -/
def StepFault.wf (f : StepFault) : Bool := decide (f.kind < 5) && decide (f.bit < 256) && decide (f.addr < 2 ^ 32)

/-- Is a command well-formed? -/
def Instr.wf : Instr → Bool
  | .nop rq => rq.wfCommand
  | .ping rq => rq.wfCommand
  | .idRead rq => rq.wfCommand
  | .enumPass1 rq _ => rq.wfControl
  | .enumPass2 rq => rq.wfControl
  | .regRd rq => rq.wfCommand
  | .regWr rq => rq.wfCommand
  | .regRmw rq => rq.wfCommand
  | .registerWrite stream addr _ => decide (stream < 8) && wordAddr addr
  | .drvFluxRestart => true
  | .lyrSymWrite _ => true
  | .bypassHoldWrite _ => true
  | .cmdbufApply => true
  | .eventCfg rq => rq.wfCommand
  | .commit rq => rq.wfCommand
  | .herd rq => rq.wfControl
  | .herdSetFrame rq => rq.wfControl
  | .frameSet rq => rq.wfCommand
  | .timeRead rq => rq.wfCommand
  | .layerCfg rq => rq.wfCommand
  | .layerCfgRead rq => rq.wfCommand
  | .layerBuf rq => rq.wfCommand
  | .bufWrite rq => rq.wfCommand
  | .bufRelease rq => rq.wfCommand
  | .bufDefine rq => rq.wfCommand
  | .videoPacket rq => rq.wfVideo
  | .objSet rq => rq.wfCommand
  | .objSetRead rq => rq.wfCommand
  | .objMove rq => rq.wfCommand
  | .objClear rq => rq.wfCommand
  | .objBulk rq => rq.wfCommand
  | .objBulkEnd rq => rq.wfCommand
  | .objBulkAbort rq => rq.wfCommand
  | .geomSet rq => rq.wfCommand
  | .opticsMap rq => rq.wfCommand
  | .opticsMapRead rq => rq.wfCommand
  | .patternLoad rq => rq.wfCommand
  | .patternLoadCopy rq => rq.wfCommand
  | .patternCopyDone => true
  | .toneMapLoad rq => rq.wfCommand
  | .symbolLoad rq => rq.wfCommand
  | .symbolDelete rq => rq.wfCommand
  | .animSet rq => rq.wfCommand
  | .fluxCal rq => rq.wfCommand
  | .fluxCalSupplied rq => rq.wfCommand
  | .fluxCalTile => true
  | .diagMapRead rq => rq.wfCommand
  | .diagRunStatus rq => rq.wfCommand
  | .diagRunSuspend rq => rq.wfCommand
  | .diagRunResume rq => rq.wfCommand
  | .diagRunRestart rq => rq.wfCommand
  | .diagRunReport rq => rq.wfCommand
  | .diagRunSave rq => rq.wfCommand
  | .pixelIsolate rq => rq.wfCommand
  | .diagClear rq => rq.wfCommand
  | .thermRead rq => rq.wfCommand
  | .safeStop rq => rq.wfCommand
  | .safeRestart rq => rq.wfCommand
  | .safeUnlock rq => rq.wfCommand
  | .safeLock rq => rq.wfCommand
  | .safeWrite rq => rq.wfCommand
  | .logRead rq => rq.wfCommand
  | .enable rq => rq.wfCommand
  | .switchOff rq => rq.wfCommand
  | .pwrStateActive rq => rq.wfCommand
  | .pwrStateHold rq => rq.wfCommand
  | .pwrStateIdle rq => rq.wfCommand
  | .pwrStateSleep rq => rq.wfCommand
  | .clkSwitch rq => rq.wfCommand
  | .clkSwitchFrc rq => rq.wfCommand
  | .snapArm rq => rq.wfCommand
  | .snapRead rq => rq.wfCommand
  | .chkRun rq => rq.wfCommand
  | .chkRunPiece => true
  | .chkCtxRead rq => rq.wfCommand
  | .chkCtxWrite rq => rq.wfCommand
  | .chkCtxAbort rq => rq.wfCommand
  | .nvmRead rq => rq.wfCommand
  | .nvmWrite rq => rq.wfCommand
  | .nvmErase rq => rq.wfCommand
  | .fwStage rq => rq.wfCommand
  | .fwActivate rq => rq.wfCommand
  | .bistRun rq => rq.wfCommand
  | .bistResult rq => rq.wfCommand
  | .shutdown rq => rq.wfCommand
  | .laneCtlRetrain rq => rq.wfCommand
  | .laneCtlSetRate rq => rq.wfCommand
  | .setRateApply => true
  | .laneCtlDrop rq => rq.wfCommand
  | .laneCtlAdd rq => rq.wfCommand
  | .laneCtlPower rq => rq.wfCommand
  | .laneL2AllOff => true
  | .laneCtlFfe rq => rq.wfCommand
  | .laneCtlLoop rq => rq.wfCommand
  | .loopStart => true
  | .loopEnd _ => true
  | .laneCtlSlip rq => rq.wfCommand
  | .laneCtlEq rq => rq.wfCommand
  | .ringStatus rq => rq.wfCommand
  | .halfStatus rq => rq.wfCommand
  | .halfSwitch rq => rq.wfCommand
  | .halfExchange => true
  | .halfReset rq => rq.wfCommand
  | .reset rq => rq.wfCommand
  | .softReset => true
  | .packetReceive _ bytes => wfRaw bytes
  | .packetPass bytes _ => wfRaw bytes
  | .packetInsert _ => true
  | .laneNotice bytes => wfRaw bytes
  | .alignmentMarker marker lanes _ => marker.length == 8 && lanes.length == 4
  | .markerSend _ => true
  | .spiPut bytes _ => wfRaw bytes
  | .spiGet _ => true
  | .spiStat => true
  | .spiBadOp op => decide (op < 256) && !(op == 1 || op == 2 || op == 3)
  | .tick _ => true
  | .layerMissLimit => true
  | .layerDisabled => true
  | .takeover badCrc badPkt => badPkt.all badCrc.contains
  | .holdLimit => true
  | .alignTimeout => true
  | .tickInEdge => true
  | .tickInTimeout => true
  | .composeRow => true
  | .objectSample => true
  | .imageWriteDone clampFault => clampFault.all (fun p => decide (p < 1048576))
  | .rowUnderrun => true
  | .photodiodeRead readings => readings.length == 4
  | .referenceRefresh => true
  | .segmentOffCurrentCheck currents => currents.all (fun c => decide (c.1 < 32768) && c.2.length == 4)
  | .darkTest x y _ _ _ _ => onField x y
  | .litTest x y _ _ => onField x y
  | .zoneCount => true
  | .mapSave => true
  | .currentRefUpdate => true
  | .envelopeCheck _ => true
  | .class1FadeEnd => true
  | .class2FadeEnd => true
  | .switchOffEnd => true
  | .fallbackCrcCheck _ _ => true
  | .graze errs _ => decide (errs.length ≤ 16) && errs.all (fun e => decide (e < 2 ^ 32))
  | .selfTestSlice _ => true
  | .quickSelfTest _ _ => true
  | .lockstepMiscompare _ => true
  | .eccUncorrectable reader => reader.wf
  | .watchdogExpiry _ => true
  | .halfBootDone _ _ => true
  | .safeStopPin a b => a || b
  | .pinDisc => true
  | .masterLoss => true
  | .unlockTimeout => true
  | .vledUvArm _ => true
  | .vledNoRise => true
  | .vledUv _ => true
  | .vledUvRelease _ => true
  | .vledOv _ => true
  | .vledOvRelease _ => true
  | .corePllLoss => true
  | .lanePllLoss => true
  | .thermalRound die ts => die.length == 8 && ts.length == 4
  | .fastCadenceEnd => true
  | .thermalTrip sensor => decide (sensor < 8)
  | .tripHoldMonitor die => die.length == 8
  | .holdRequest => true
  | .holdEntry => true
  | .holdExit => true
  | .idleTimer => true
  | .idleEntry during => wfDuring during
  | .idleExit badBanks => decide (badBanks < 2 ^ 32)
  | .bankReload => true
  | .sleepTimer => true
  | .sleepEntry during => wfDuring during
  | .roosterEdge _ => true
  | .lpoMeasure _ => true
  | .lampMinute => true
  | .vsupWarn mv => decide (mv < 1660)
  | .dipEnd _ _ => true
  | .nvmResume => true
  | .nvmOpDone _ => true
  | .por => true
  | .bor mv => decide (mv < 1560)
  | .resetNLow => true
  | .resetRelease env => env.wf
  | .snapIoEdge => true
  | .signalDetect lanes => laneMask lanes
  | .seekAttempt => true
  | .signalLost => true
  | .cdrLock lanes => laneMask lanes
  | .trainDone efom => efom.length == 4
  | .blockLock lanes slips => laneMask lanes && slips.length == 4
  | .ringRun marker _ => marker.length == 8
  | .trainTimeout => true
  | .autoReadd lane => decide (lane < 4)
  | .upstreamSilent => true
  | .breakBeaconSend => true
  | .stopPinRelease a b => a || b
  | .halfBootTimeout _ => true
  | .pipelineParityError _ => true
  | .laneLockLoss lane what => decide (lane < 4) && decide (what < 3)
  | .pllLockTimeout => true
  | .selfTestStepDone found => found.all StepFault.wf
  | .lpoStop => true
  | .bistRunWaitTimeout => true

end Sys2Proof
end

