-- ==== Sys2Proof/Laws/PerInstr.lean ====
section
/-! SUPPORT. What each command says as syntax: a well-formed command that carries a request packet carries one whose
payload the packet can hold (R329). One lemma per constructor. -/

namespace Sys2Proof.Laws.Carry

/-- The request packet a command carries, if it carries one. -/
def request : Instr → Option Req
  | .nop rq => some rq
  | .ping rq => some rq
  | .idRead rq => some rq
  | .enumPass1 rq _ => some rq
  | .enumPass2 rq => some rq
  | .regRd rq => some rq
  | .regWr rq => some rq
  | .regRmw rq => some rq
  | .registerWrite _ _ _ => none
  | .drvFluxRestart => none
  | .lyrSymWrite _ => none
  | .bypassHoldWrite _ => none
  | .cmdbufApply => none
  | .eventCfg rq => some rq
  | .commit rq => some rq
  | .herd rq => some rq
  | .herdSetFrame rq => some rq
  | .frameSet rq => some rq
  | .timeRead rq => some rq
  | .layerCfg rq => some rq
  | .layerCfgRead rq => some rq
  | .layerBuf rq => some rq
  | .bufWrite rq => some rq
  | .bufRelease rq => some rq
  | .bufDefine rq => some rq
  | .videoPacket rq => some rq
  | .objSet rq => some rq
  | .objSetRead rq => some rq
  | .objMove rq => some rq
  | .objClear rq => some rq
  | .objBulk rq => some rq
  | .objBulkEnd rq => some rq
  | .objBulkAbort rq => some rq
  | .geomSet rq => some rq
  | .opticsMap rq => some rq
  | .opticsMapRead rq => some rq
  | .patternLoad rq => some rq
  | .patternLoadCopy rq => some rq
  | .patternCopyDone => none
  | .toneMapLoad rq => some rq
  | .symbolLoad rq => some rq
  | .symbolDelete rq => some rq
  | .animSet rq => some rq
  | .fluxCal rq => some rq
  | .fluxCalSupplied rq => some rq
  | .fluxCalTile => none
  | .diagMapRead rq => some rq
  | .diagRunStatus rq => some rq
  | .diagRunSuspend rq => some rq
  | .diagRunResume rq => some rq
  | .diagRunRestart rq => some rq
  | .diagRunReport rq => some rq
  | .diagRunSave rq => some rq
  | .pixelIsolate rq => some rq
  | .diagClear rq => some rq
  | .thermRead rq => some rq
  | .safeStop rq => some rq
  | .safeRestart rq => some rq
  | .safeUnlock rq => some rq
  | .safeLock rq => some rq
  | .safeWrite rq => some rq
  | .logRead rq => some rq
  | .enable rq => some rq
  | .switchOff rq => some rq
  | .pwrStateActive rq => some rq
  | .pwrStateHold rq => some rq
  | .pwrStateIdle rq => some rq
  | .pwrStateSleep rq => some rq
  | .clkSwitch rq => some rq
  | .clkSwitchFrc rq => some rq
  | .snapArm rq => some rq
  | .snapRead rq => some rq
  | .chkRun rq => some rq
  | .chkRunPiece => none
  | .chkCtxRead rq => some rq
  | .chkCtxWrite rq => some rq
  | .chkCtxAbort rq => some rq
  | .nvmRead rq => some rq
  | .nvmWrite rq => some rq
  | .nvmErase rq => some rq
  | .fwStage rq => some rq
  | .fwActivate rq => some rq
  | .bistRun rq => some rq
  | .bistResult rq => some rq
  | .shutdown rq => some rq
  | .laneCtlRetrain rq => some rq
  | .laneCtlSetRate rq => some rq
  | .setRateApply => none
  | .laneCtlDrop rq => some rq
  | .laneCtlAdd rq => some rq
  | .laneCtlPower rq => some rq
  | .laneL2AllOff => none
  | .laneCtlFfe rq => some rq
  | .laneCtlLoop rq => some rq
  | .loopStart => none
  | .loopEnd _ => none
  | .laneCtlSlip rq => some rq
  | .laneCtlEq rq => some rq
  | .ringStatus rq => some rq
  | .halfStatus rq => some rq
  | .halfSwitch rq => some rq
  | .halfExchange => none
  | .halfReset rq => some rq
  | .reset rq => some rq
  | .softReset => none
  | .packetReceive _ _ => none
  | .packetPass _ _ => none
  | .packetInsert _ => none
  | .laneNotice _ => none
  | .alignmentMarker _ _ _ => none
  | .markerSend _ => none
  | .spiPut _ _ => none
  | .spiGet _ => none
  | .spiStat => none
  | .spiBadOp _ => none
  | .tick _ => none
  | .layerMissLimit => none
  | .layerDisabled => none
  | .takeover _ _ => none
  | .holdLimit => none
  | .alignTimeout => none
  | .tickInEdge => none
  | .tickInTimeout => none
  | .composeRow => none
  | .objectSample => none
  | .imageWriteDone _ => none
  | .rowUnderrun => none
  | .photodiodeRead _ => none
  | .referenceRefresh => none
  | .segmentOffCurrentCheck _ => none
  | .darkTest _ _ _ _ _ _ => none
  | .litTest _ _ _ _ => none
  | .zoneCount => none
  | .mapSave => none
  | .currentRefUpdate => none
  | .envelopeCheck _ => none
  | .class1FadeEnd => none
  | .class2FadeEnd => none
  | .switchOffEnd => none
  | .fallbackCrcCheck _ _ => none
  | .graze _ _ => none
  | .selfTestSlice _ => none
  | .quickSelfTest _ _ => none
  | .lockstepMiscompare _ => none
  | .eccUncorrectable _ => none
  | .watchdogExpiry _ => none
  | .halfBootDone _ _ => none
  | .safeStopPin _ _ => none
  | .pinDisc => none
  | .masterLoss => none
  | .unlockTimeout => none
  | .vledUvArm _ => none
  | .vledNoRise => none
  | .vledUv _ => none
  | .vledUvRelease _ => none
  | .vledOv _ => none
  | .vledOvRelease _ => none
  | .corePllLoss => none
  | .lanePllLoss => none
  | .thermalRound _ _ => none
  | .fastCadenceEnd => none
  | .thermalTrip _ => none
  | .tripHoldMonitor _ => none
  | .holdRequest => none
  | .holdEntry => none
  | .holdExit => none
  | .idleTimer => none
  | .idleEntry _ => none
  | .idleExit _ => none
  | .bankReload => none
  | .sleepTimer => none
  | .sleepEntry _ => none
  | .roosterEdge _ => none
  | .lpoMeasure _ => none
  | .lampMinute => none
  | .vsupWarn _ => none
  | .dipEnd _ _ => none
  | .nvmResume => none
  | .nvmOpDone _ => none
  | .por => none
  | .bor _ => none
  | .resetNLow => none
  | .resetRelease _ => none
  | .snapIoEdge => none
  | .signalDetect _ => none
  | .seekAttempt => none
  | .signalLost => none
  | .cdrLock _ => none
  | .trainDone _ => none
  | .blockLock _ _ => none
  | .ringRun _ _ => none
  | .trainTimeout => none
  | .autoReadd _ => none
  | .upstreamSilent => none
  | .breakBeaconSend => none
  | .stopPinRelease _ _ => none
  | .halfBootTimeout _ => none
  | .pipelineParityError _ => none
  | .laneLockLoss _ _ => none
  | .pllLockTimeout => none
  | .selfTestStepDone _ => none
  | .lpoStop => none
  | .bistRunWaitTimeout => none

/-- A well-formed command's request has a payload of whole words, at most 4,080 bytes, and header fields that fit. -/
def Statement (i : Instr) : Prop :=
  i.wf = true → ∀ rq, request i = some rq →
    rq.payload.length % 4 = 0 ∧ rq.payload.length ≤ 4080 ∧ rq.stream < 8 ∧ rq.tag < 256 ∧ rq.alive < 256 ∧ rq.arg < 2 ^ 24

theorem of_wf {rq : Req} (h : rq.wf = true) :
    rq.payload.length % 4 = 0 ∧ rq.payload.length ≤ 4080 ∧ rq.stream < 8 ∧ rq.tag < 256 ∧ rq.alive < 256 ∧ rq.arg < 2 ^ 24 := by
  simp only [Req.wf, Bool.and_eq_true, decide_eq_true_eq, beq_iff_eq] at h
  omega

theorem of_command {rq rq' : Req} (h : rq.wfCommand = true) (e : some rq = some rq') :
    rq'.payload.length % 4 = 0 ∧ rq'.payload.length ≤ 4080 ∧ rq'.stream < 8 ∧ rq'.tag < 256 ∧ rq'.alive < 256 ∧ rq'.arg < 2 ^ 24 := by
  cases e
  simp only [Req.wfCommand, Bool.and_eq_true] at h
  exact of_wf h.1

theorem of_video {rq rq' : Req} (h : rq.wfVideo = true) (e : some rq = some rq') :
    rq'.payload.length % 4 = 0 ∧ rq'.payload.length ≤ 4080 ∧ rq'.stream < 8 ∧ rq'.tag < 256 ∧ rq'.alive < 256 ∧ rq'.arg < 2 ^ 24 := by
  cases e
  simp only [Req.wfVideo, Bool.and_eq_true] at h
  exact of_wf h.1

theorem of_control {rq rq' : Req} (h : rq.wfControl = true) (e : some rq = some rq') :
    rq'.payload.length % 4 = 0 ∧ rq'.payload.length ≤ 4080 ∧ rq'.stream < 8 ∧ rq'.tag < 256 ∧ rq'.alive < 256 ∧ rq'.arg < 2 ^ 24 := by
  cases e
  simp only [Req.wfControl, Bool.and_eq_true] at h
  exact of_wf h.1.1.1

theorem nop (rq : Req) : Statement (.nop rq) := fun h _ e => of_command h e
theorem ping (rq : Req) : Statement (.ping rq) := fun h _ e => of_command h e
theorem idRead (rq : Req) : Statement (.idRead rq) := fun h _ e => of_command h e
theorem enumPass1 (rq : Req) (crcOk : Bool) : Statement (.enumPass1 rq crcOk) := fun h _ e => of_control h e
theorem enumPass2 (rq : Req) : Statement (.enumPass2 rq) := fun h _ e => of_control h e
theorem regRd (rq : Req) : Statement (.regRd rq) := fun h _ e => of_command h e
theorem regWr (rq : Req) : Statement (.regWr rq) := fun h _ e => of_command h e
theorem regRmw (rq : Req) : Statement (.regRmw rq) := fun h _ e => of_command h e
theorem registerWrite (stream addr : Nat) (value : Word) : Statement (.registerWrite stream addr value) := fun _ _ e => nomatch e
theorem drvFluxRestart : Statement (.drvFluxRestart) := fun _ _ e => nomatch e
theorem lyrSymWrite (value : Word) : Statement (.lyrSymWrite value) := fun _ _ e => nomatch e
theorem bypassHoldWrite (value : Bool) : Statement (.bypassHoldWrite value) := fun _ _ e => nomatch e
theorem cmdbufApply : Statement (.cmdbufApply) := fun _ _ e => nomatch e
theorem eventCfg (rq : Req) : Statement (.eventCfg rq) := fun h _ e => of_command h e
theorem commit (rq : Req) : Statement (.commit rq) := fun h _ e => of_command h e
theorem herd (rq : Req) : Statement (.herd rq) := fun h _ e => of_control h e
theorem herdSetFrame (rq : Req) : Statement (.herdSetFrame rq) := fun h _ e => of_control h e
theorem frameSet (rq : Req) : Statement (.frameSet rq) := fun h _ e => of_command h e
theorem timeRead (rq : Req) : Statement (.timeRead rq) := fun h _ e => of_command h e
theorem layerCfg (rq : Req) : Statement (.layerCfg rq) := fun h _ e => of_command h e
theorem layerCfgRead (rq : Req) : Statement (.layerCfgRead rq) := fun h _ e => of_command h e
theorem layerBuf (rq : Req) : Statement (.layerBuf rq) := fun h _ e => of_command h e
theorem bufWrite (rq : Req) : Statement (.bufWrite rq) := fun h _ e => of_command h e
theorem bufRelease (rq : Req) : Statement (.bufRelease rq) := fun h _ e => of_command h e
theorem bufDefine (rq : Req) : Statement (.bufDefine rq) := fun h _ e => of_command h e
theorem videoPacket (rq : Req) : Statement (.videoPacket rq) := fun h _ e => of_video h e
theorem objSet (rq : Req) : Statement (.objSet rq) := fun h _ e => of_command h e
theorem objSetRead (rq : Req) : Statement (.objSetRead rq) := fun h _ e => of_command h e
theorem objMove (rq : Req) : Statement (.objMove rq) := fun h _ e => of_command h e
theorem objClear (rq : Req) : Statement (.objClear rq) := fun h _ e => of_command h e
theorem objBulk (rq : Req) : Statement (.objBulk rq) := fun h _ e => of_command h e
theorem objBulkEnd (rq : Req) : Statement (.objBulkEnd rq) := fun h _ e => of_command h e
theorem objBulkAbort (rq : Req) : Statement (.objBulkAbort rq) := fun h _ e => of_command h e
theorem geomSet (rq : Req) : Statement (.geomSet rq) := fun h _ e => of_command h e
theorem opticsMap (rq : Req) : Statement (.opticsMap rq) := fun h _ e => of_command h e
theorem opticsMapRead (rq : Req) : Statement (.opticsMapRead rq) := fun h _ e => of_command h e
theorem patternLoad (rq : Req) : Statement (.patternLoad rq) := fun h _ e => of_command h e
theorem patternLoadCopy (rq : Req) : Statement (.patternLoadCopy rq) := fun h _ e => of_command h e
theorem patternCopyDone : Statement (.patternCopyDone) := fun _ _ e => nomatch e
theorem toneMapLoad (rq : Req) : Statement (.toneMapLoad rq) := fun h _ e => of_command h e
theorem symbolLoad (rq : Req) : Statement (.symbolLoad rq) := fun h _ e => of_command h e
theorem symbolDelete (rq : Req) : Statement (.symbolDelete rq) := fun h _ e => of_command h e
theorem animSet (rq : Req) : Statement (.animSet rq) := fun h _ e => of_command h e
theorem fluxCal (rq : Req) : Statement (.fluxCal rq) := fun h _ e => of_command h e
theorem fluxCalSupplied (rq : Req) : Statement (.fluxCalSupplied rq) := fun h _ e => of_command h e
theorem fluxCalTile : Statement (.fluxCalTile) := fun _ _ e => nomatch e
theorem diagMapRead (rq : Req) : Statement (.diagMapRead rq) := fun h _ e => of_command h e
theorem diagRunStatus (rq : Req) : Statement (.diagRunStatus rq) := fun h _ e => of_command h e
theorem diagRunSuspend (rq : Req) : Statement (.diagRunSuspend rq) := fun h _ e => of_command h e
theorem diagRunResume (rq : Req) : Statement (.diagRunResume rq) := fun h _ e => of_command h e
theorem diagRunRestart (rq : Req) : Statement (.diagRunRestart rq) := fun h _ e => of_command h e
theorem diagRunReport (rq : Req) : Statement (.diagRunReport rq) := fun h _ e => of_command h e
theorem diagRunSave (rq : Req) : Statement (.diagRunSave rq) := fun h _ e => of_command h e
theorem pixelIsolate (rq : Req) : Statement (.pixelIsolate rq) := fun h _ e => of_command h e
theorem diagClear (rq : Req) : Statement (.diagClear rq) := fun h _ e => of_command h e
theorem thermRead (rq : Req) : Statement (.thermRead rq) := fun h _ e => of_command h e
theorem safeStop (rq : Req) : Statement (.safeStop rq) := fun h _ e => of_command h e
theorem safeRestart (rq : Req) : Statement (.safeRestart rq) := fun h _ e => of_command h e
theorem safeUnlock (rq : Req) : Statement (.safeUnlock rq) := fun h _ e => of_command h e
theorem safeLock (rq : Req) : Statement (.safeLock rq) := fun h _ e => of_command h e
theorem safeWrite (rq : Req) : Statement (.safeWrite rq) := fun h _ e => of_command h e
theorem logRead (rq : Req) : Statement (.logRead rq) := fun h _ e => of_command h e
theorem enable (rq : Req) : Statement (.enable rq) := fun h _ e => of_command h e
theorem switchOff (rq : Req) : Statement (.switchOff rq) := fun h _ e => of_command h e
theorem pwrStateActive (rq : Req) : Statement (.pwrStateActive rq) := fun h _ e => of_command h e
theorem pwrStateHold (rq : Req) : Statement (.pwrStateHold rq) := fun h _ e => of_command h e
theorem pwrStateIdle (rq : Req) : Statement (.pwrStateIdle rq) := fun h _ e => of_command h e
theorem pwrStateSleep (rq : Req) : Statement (.pwrStateSleep rq) := fun h _ e => of_command h e
theorem clkSwitch (rq : Req) : Statement (.clkSwitch rq) := fun h _ e => of_command h e
theorem clkSwitchFrc (rq : Req) : Statement (.clkSwitchFrc rq) := fun h _ e => of_command h e
theorem snapArm (rq : Req) : Statement (.snapArm rq) := fun h _ e => of_command h e
theorem snapRead (rq : Req) : Statement (.snapRead rq) := fun h _ e => of_command h e
theorem chkRun (rq : Req) : Statement (.chkRun rq) := fun h _ e => of_command h e
theorem chkRunPiece : Statement (.chkRunPiece) := fun _ _ e => nomatch e
theorem chkCtxRead (rq : Req) : Statement (.chkCtxRead rq) := fun h _ e => of_command h e
theorem chkCtxWrite (rq : Req) : Statement (.chkCtxWrite rq) := fun h _ e => of_command h e
theorem chkCtxAbort (rq : Req) : Statement (.chkCtxAbort rq) := fun h _ e => of_command h e
theorem nvmRead (rq : Req) : Statement (.nvmRead rq) := fun h _ e => of_command h e
theorem nvmWrite (rq : Req) : Statement (.nvmWrite rq) := fun h _ e => of_command h e
theorem nvmErase (rq : Req) : Statement (.nvmErase rq) := fun h _ e => of_command h e
theorem fwStage (rq : Req) : Statement (.fwStage rq) := fun h _ e => of_command h e
theorem fwActivate (rq : Req) : Statement (.fwActivate rq) := fun h _ e => of_command h e
theorem bistRun (rq : Req) : Statement (.bistRun rq) := fun h _ e => of_command h e
theorem bistResult (rq : Req) : Statement (.bistResult rq) := fun h _ e => of_command h e
theorem shutdown (rq : Req) : Statement (.shutdown rq) := fun h _ e => of_command h e
theorem laneCtlRetrain (rq : Req) : Statement (.laneCtlRetrain rq) := fun h _ e => of_command h e
theorem laneCtlSetRate (rq : Req) : Statement (.laneCtlSetRate rq) := fun h _ e => of_command h e
theorem setRateApply : Statement (.setRateApply) := fun _ _ e => nomatch e
theorem laneCtlDrop (rq : Req) : Statement (.laneCtlDrop rq) := fun h _ e => of_command h e
theorem laneCtlAdd (rq : Req) : Statement (.laneCtlAdd rq) := fun h _ e => of_command h e
theorem laneCtlPower (rq : Req) : Statement (.laneCtlPower rq) := fun h _ e => of_command h e
theorem laneL2AllOff : Statement (.laneL2AllOff) := fun _ _ e => nomatch e
theorem laneCtlFfe (rq : Req) : Statement (.laneCtlFfe rq) := fun h _ e => of_command h e
theorem laneCtlLoop (rq : Req) : Statement (.laneCtlLoop rq) := fun h _ e => of_command h e
theorem loopStart : Statement (.loopStart) := fun _ _ e => nomatch e
theorem loopEnd (errors : Nat) : Statement (.loopEnd errors) := fun _ _ e => nomatch e
theorem laneCtlSlip (rq : Req) : Statement (.laneCtlSlip rq) := fun h _ e => of_command h e
theorem laneCtlEq (rq : Req) : Statement (.laneCtlEq rq) := fun h _ e => of_command h e
theorem ringStatus (rq : Req) : Statement (.ringStatus rq) := fun h _ e => of_command h e
theorem halfStatus (rq : Req) : Statement (.halfStatus rq) := fun h _ e => of_command h e
theorem halfSwitch (rq : Req) : Statement (.halfSwitch rq) := fun h _ e => of_command h e
theorem halfExchange : Statement (.halfExchange) := fun _ _ e => nomatch e
theorem halfReset (rq : Req) : Statement (.halfReset rq) := fun h _ e => of_command h e
theorem reset (rq : Req) : Statement (.reset rq) := fun h _ e => of_command h e
theorem softReset : Statement (.softReset) := fun _ _ e => nomatch e
theorem packetReceive (port : Port) (bytes : List Byte) : Statement (.packetReceive port bytes) := fun _ _ e => nomatch e
theorem packetPass (bytes : List Byte) (fits : Bool) : Statement (.packetPass bytes fits) := fun _ _ e => nomatch e
theorem packetInsert (gap : Nat) : Statement (.packetInsert gap) := fun _ _ e => nomatch e
theorem laneNotice (bytes : List Byte) : Statement (.laneNotice bytes) := fun _ _ e => nomatch e
theorem alignmentMarker (marker : List Byte) (lanes : List LaneIn) (transit : Nat) : Statement (.alignmentMarker marker lanes transit) := fun _ _ e => nomatch e
theorem markerSend (ready : Bool) : Statement (.markerSend ready) := fun _ _ e => nomatch e
theorem spiPut (bytes : List Byte) (csEarly : Bool) : Statement (.spiPut bytes csEarly) := fun _ _ e => nomatch e
theorem spiGet (clocked : Nat) : Statement (.spiGet clocked) := fun _ _ e => nomatch e
theorem spiStat : Statement (.spiStat) := fun _ _ e => nomatch e
theorem spiBadOp (op : Nat) : Statement (.spiBadOp op) := fun _ _ e => nomatch e
theorem tick (env : TickEnv) : Statement (.tick env) := fun _ _ e => nomatch e
theorem layerMissLimit : Statement (.layerMissLimit) := fun _ _ e => nomatch e
theorem layerDisabled : Statement (.layerDisabled) := fun _ _ e => nomatch e
theorem takeover (badCrc badPkt : List Nat) : Statement (.takeover badCrc badPkt) := fun _ _ e => nomatch e
theorem holdLimit : Statement (.holdLimit) := fun _ _ e => nomatch e
theorem alignTimeout : Statement (.alignTimeout) := fun _ _ e => nomatch e
theorem tickInEdge : Statement (.tickInEdge) := fun _ _ e => nomatch e
theorem tickInTimeout : Statement (.tickInTimeout) := fun _ _ e => nomatch e
theorem composeRow : Statement (.composeRow) := fun _ _ e => nomatch e
theorem objectSample : Statement (.objectSample) := fun _ _ e => nomatch e
theorem imageWriteDone (clampFault : Option Nat) : Statement (.imageWriteDone clampFault) := fun _ _ e => nomatch e
theorem rowUnderrun : Statement (.rowUnderrun) := fun _ _ e => nomatch e
theorem photodiodeRead (readings : List (Nat × Nat)) : Statement (.photodiodeRead readings) := fun _ _ e => nomatch e
theorem referenceRefresh : Statement (.referenceRefresh) := fun _ _ e => nomatch e
theorem segmentOffCurrentCheck (currents : List (Nat × List Nat)) : Statement (.segmentOffCurrentCheck currents) := fun _ _ e => nomatch e
theorem darkTest (x y vRest vDark vRight vLower : Nat) : Statement (.darkTest x y vRest vDark vRight vLower) := fun _ _ e => nomatch e
theorem litTest (x y vLit pA : Nat) : Statement (.litTest x y vLit pA) := fun _ _ e => nomatch e
theorem zoneCount : Statement (.zoneCount) := fun _ _ e => nomatch e
theorem mapSave : Statement (.mapSave) := fun _ _ e => nomatch e
theorem currentRefUpdate : Statement (.currentRefUpdate) := fun _ _ e => nomatch e
theorem envelopeCheck (imeas : Nat) : Statement (.envelopeCheck imeas) := fun _ _ e => nomatch e
theorem class1FadeEnd : Statement (.class1FadeEnd) := fun _ _ e => nomatch e
theorem class2FadeEnd : Statement (.class2FadeEnd) := fun _ _ e => nomatch e
theorem switchOffEnd : Statement (.switchOffEnd) := fun _ _ e => nomatch e
theorem fallbackCrcCheck (fbOk toneOk : Bool) : Statement (.fallbackCrcCheck fbOk toneOk) := fun _ _ e => nomatch e
theorem graze (errs : List Nat) (finished : Bool) : Statement (.graze errs finished) := fun _ _ e => nomatch e
theorem selfTestSlice (pass : Bool) : Statement (.selfTestSlice pass) := fun _ _ e => nomatch e
theorem quickSelfTest (passA passB : Bool) : Statement (.quickSelfTest passA passB) := fun _ _ e => nomatch e
theorem lockstepMiscompare (half : Half) : Statement (.lockstepMiscompare half) := fun _ _ e => nomatch e
theorem eccUncorrectable (reader : EccReader) : Statement (.eccUncorrectable reader) := fun _ _ e => nomatch e
theorem watchdogExpiry (expiry : Expiry) : Statement (.watchdogExpiry expiry) := fun _ _ e => nomatch e
theorem halfBootDone (half : Half) (crcOk : Bool) : Statement (.halfBootDone half crcOk) := fun _ _ e => nomatch e
theorem safeStopPin (a b : Bool) : Statement (.safeStopPin a b) := fun _ _ e => nomatch e
theorem pinDisc : Statement (.pinDisc) := fun _ _ e => nomatch e
theorem masterLoss : Statement (.masterLoss) := fun _ _ e => nomatch e
theorem unlockTimeout : Statement (.unlockTimeout) := fun _ _ e => nomatch e
theorem vledUvArm (mv : Nat) : Statement (.vledUvArm mv) := fun _ _ e => nomatch e
theorem vledNoRise : Statement (.vledNoRise) := fun _ _ e => nomatch e
theorem vledUv (mv : Nat) : Statement (.vledUv mv) := fun _ _ e => nomatch e
theorem vledUvRelease (mv : Nat) : Statement (.vledUvRelease mv) := fun _ _ e => nomatch e
theorem vledOv (mv : Nat) : Statement (.vledOv mv) := fun _ _ e => nomatch e
theorem vledOvRelease (mv : Nat) : Statement (.vledOvRelease mv) := fun _ _ e => nomatch e
theorem corePllLoss : Statement (.corePllLoss) := fun _ _ e => nomatch e
theorem lanePllLoss : Statement (.lanePllLoss) := fun _ _ e => nomatch e
theorem thermalRound (die : List Int) (ts : List (Nat × Nat)) : Statement (.thermalRound die ts) := fun _ _ e => nomatch e
theorem fastCadenceEnd : Statement (.fastCadenceEnd) := fun _ _ e => nomatch e
theorem thermalTrip (sensor : Nat) : Statement (.thermalTrip sensor) := fun _ _ e => nomatch e
theorem tripHoldMonitor (die : List Int) : Statement (.tripHoldMonitor die) := fun _ _ e => nomatch e
theorem holdRequest : Statement (.holdRequest) := fun _ _ e => nomatch e
theorem holdEntry : Statement (.holdEntry) := fun _ _ e => nomatch e
theorem holdExit : Statement (.holdExit) := fun _ _ e => nomatch e
theorem idleTimer : Statement (.idleTimer) := fun _ _ e => nomatch e
theorem idleEntry (during : Option (Port × List Byte)) : Statement (.idleEntry during) := fun _ _ e => nomatch e
theorem idleExit (badBanks : Nat) : Statement (.idleExit badBanks) := fun _ _ e => nomatch e
theorem bankReload : Statement (.bankReload) := fun _ _ e => nomatch e
theorem sleepTimer : Statement (.sleepTimer) := fun _ _ e => nomatch e
theorem sleepEntry (during : Option (Port × List Byte)) : Statement (.sleepEntry during) := fun _ _ e => nomatch e
theorem roosterEdge (mv : Nat) : Statement (.roosterEdge mv) := fun _ _ e => nomatch e
theorem lpoMeasure (period : Nat) : Statement (.lpoMeasure period) := fun _ _ e => nomatch e
theorem lampMinute : Statement (.lampMinute) := fun _ _ e => nomatch e
theorem vsupWarn (mv : Nat) : Statement (.vsupWarn mv) := fun _ _ e => nomatch e
theorem dipEnd (minMv mv : Nat) : Statement (.dipEnd minMv mv) := fun _ _ e => nomatch e
theorem nvmResume : Statement (.nvmResume) := fun _ _ e => nomatch e
theorem nvmOpDone (ok : Bool) : Statement (.nvmOpDone ok) := fun _ _ e => nomatch e
theorem por : Statement (.por) := fun _ _ e => nomatch e
theorem bor (mv : Nat) : Statement (.bor mv) := fun _ _ e => nomatch e
theorem resetNLow : Statement (.resetNLow) := fun _ _ e => nomatch e
theorem resetRelease (env : BootEnv) : Statement (.resetRelease env) := fun _ _ e => nomatch e
theorem snapIoEdge : Statement (.snapIoEdge) := fun _ _ e => nomatch e
theorem signalDetect (lanes : Nat) : Statement (.signalDetect lanes) := fun _ _ e => nomatch e
theorem seekAttempt : Statement (.seekAttempt) := fun _ _ e => nomatch e
theorem signalLost : Statement (.signalLost) := fun _ _ e => nomatch e
theorem cdrLock (lanes : Nat) : Statement (.cdrLock lanes) := fun _ _ e => nomatch e
theorem trainDone (efom : List Nat) : Statement (.trainDone efom) := fun _ _ e => nomatch e
theorem blockLock (lanes : Nat) (slips : List Nat) : Statement (.blockLock lanes slips) := fun _ _ e => nomatch e
theorem ringRun (marker : List Byte) (transit : Nat) : Statement (.ringRun marker transit) := fun _ _ e => nomatch e
theorem trainTimeout : Statement (.trainTimeout) := fun _ _ e => nomatch e
theorem autoReadd (lane : Nat) : Statement (.autoReadd lane) := fun _ _ e => nomatch e
theorem upstreamSilent : Statement (.upstreamSilent) := fun _ _ e => nomatch e
theorem breakBeaconSend : Statement (.breakBeaconSend) := fun _ _ e => nomatch e
theorem stopPinRelease (a b : Bool) : Statement (.stopPinRelease a b) := fun _ _ e => nomatch e
theorem halfBootTimeout (half : Half) : Statement (.halfBootTimeout half) := fun _ _ e => nomatch e
theorem pipelineParityError (error : PipeError) : Statement (.pipelineParityError error) := fun _ _ e => nomatch e
theorem laneLockLoss (lane what : Nat) : Statement (.laneLockLoss lane what) := fun _ _ e => nomatch e
theorem pllLockTimeout : Statement (.pllLockTimeout) := fun _ _ e => nomatch e
theorem selfTestStepDone (found : List StepFault) : Statement (.selfTestStepDone found) := fun _ _ e => nomatch e
theorem lpoStop : Statement (.lpoStop) := fun _ _ e => nomatch e
theorem bistRunWaitTimeout : Statement (.bistRunWaitTimeout) := fun _ _ e => nomatch e

end Sys2Proof.Laws.Carry
end

