-- ==== Sys2Proof/Laws/Shared.lean ====
section
/-! SUPPORT. What the operations that several families share can do: ending a command in flight, the lamp state, the stop
requests (R229 to R243), the eNVM queue (R441), the refusals of the power states (R395). -/

namespace Sys2Proof.Machine

/-- A run of bytes written. -/
theorem stores_writeRun (m : Mem 8) (a : Nat) (bs : List Byte) : Stores a bs m (Mem.writeRun 0 m a bs) := by
  refine ⟨fun i hi => ?_, fun b hb => ?_⟩
  · rw [Mem.read_writeRun, if_pos (by omega)]
    simp [nth]
  · rw [Mem.read_writeRun, if_neg (by omega)]

/-! ### The typed state of a half (R265): each half has its own, and writing it changes HLV alone -/

@[simp] theorem half_setHalf (h : Half) (x : HalfSt) (s : State) : (setHalf h x s).half h = x := by cases h <;> rfl

@[simp] theorem half_setHalf_other {h g : Half} (hg : g ≠ h) (x : HalfSt) (s : State) : (setHalf h x s).half g = s.half g := by
  cases h <;> cases g <;> first | rfl | exact absurd rfl hg

@[simp] theorem setHalf_half (h : Half) (s : State) : setHalf h (s.half h) s = s := by cases h <;> rfl

theorem setHalf_keeps (h : Half) (x : HalfSt) (s : State) : Keeps [.hlv] s (setHalf h x s) := by
  intro q hq
  cases h <;> cases q <;> first | rfl | exact absurd (by simp) hq

/-- Every kind of packet but a beacon. -/
abbrev anyReply : List OutKind := [.event, .reply, .stopReply]

variable {p : List Part} {w : List Nat} {s t : State}

theorem Moves.of_reply {k : List OutKind} {u : State} (h : Moves k p w s t) (hr : ReplyStep t u) (hs : SendsOf k t u)
    (hw : 0x20C4 ∈ w) : Moves k p w s u :=
  ⟨h.keeps.trans (hr.keeps.mono (by simp)), h.regs.trans (hr.words.mono (by
    intro x hx
    simp only [replyRegs, List.mem_cons, List.not_mem_nil, or_false] at hx
    rcases hx with e | e
    · exact List.mem_append_right _ (e ▸ hw)
    · exact List.mem_append_left _ (by simp only [eventRegs]; simp; omega))), h.sends.trans hs⟩

theorem pushReply_sends (op : Nat) (rq : Req) (final : Bool) (st : Nat) (body : List Byte) (seq : Option Nat) (s : State) :
    SendsOf anyReply s (pushReply op rq final st body seq s) := by
  unfold pushReply
  split
  · exact SendsOf.refl _ s
  · refine ⟨[_], ?_, rfl⟩
    intro q hq
    simp only [List.mem_singleton] at hq
    subst hq
    by_cases h : op = 0x40
    · simp [h]
    · simp [h]

theorem finalReply_sends (op : Nat) (rq : Req) (seq st : Nat) (body : List Byte) (s : State) :
    SendsOf anyReply s (finalReply op rq seq st body s) := by
  obtain ⟨ps, h, e⟩ := pushReply_sends op rq true st body (some seq) s
  exact ⟨ps, h, by simp [finalReply, e]⟩

theorem Moves.finalReply (h : Moves anyReply p w s t) (hw : 0x20C4 ∈ w) (op : Nat) (rq : Req) (seq st : Nat)
    (body : List Byte) : Moves anyReply p w s (finalReply op rq seq st body t) :=
  h.of_reply (finalReply_step op rq seq st body t) (finalReply_sends op rq seq st body t) hw

theorem Moves.lostReport {k : List OutKind} (h : Moves k p w s t) (hk : OutKind.event ∈ k) : Moves k p w s (lostReport t) := by
  unfold Machine.lostReport
  exact Moves.ite h ((h.cmd_same (c := { t.cmd with lost := 0 }) rfl).raise hk _ _)

/-- The status that ends a command is its own outcome, or the count of the replayed ones is among the words. -/
theorem Moves.finishJob (h : Moves anyReply p w s t) (hw : 0x20C4 ∈ w) (j : Job) (st : Nat) (body : List Byte)
    (hc : 0x9030 ∈ w ∨ (st ≠ St.ok ∧ st ≠ St.doneReplayed)) : Moves anyReply p w s (finishJob j st body t) := by
  unfold Machine.finishJob countReplayed replayStatus
  have h0 : Moves anyReply p w s { t with cmd.jobs := t.cmd.jobs.filter (fun k => !(k.seq == j.seq)) } := h.cmd_same rfl
  refine Moves.lostReport (Moves.finalReply ?_ hw _ _ _ _ _) (by simp)
  rcases hc with h9 | ⟨n1, n2⟩
  · exact Moves.ite (h0.bump (List.mem_append_right _ h9)) h0
  · have : ¬ (if j.replayed = true then if st = St.ok then St.doneReplayed else st else st) = St.doneReplayed := by
      rw [if_neg n1, ite_self]
      exact n2
    rw [if_neg this]
    exact h0

theorem Moves.finishOp (h : Moves anyReply p w s t) (hw : 0x20C4 ∈ w) (op st : Nat) (body : List Byte)
    (hc : 0x9030 ∈ w ∨ (st ≠ St.ok ∧ st ≠ St.doneReplayed)) : Moves anyReply p w s (finishOp op st body t) := by
  unfold Machine.finishOp
  split
  · exact h.finishJob hw _ _ _ hc
  · exact h

theorem Moves.finishKey (h : Moves anyReply p w s t) (hw : 0x20C4 ∈ w) (op key st : Nat) (body : List Byte)
    (hc : 0x9030 ∈ w ∨ (st ≠ St.ok ∧ st ≠ St.doneReplayed)) : Moves anyReply p w s (finishKey op key st body t) := by
  unfold Machine.finishKey
  split
  · exact h.finishJob hw _ _ _ hc
  · exact h

/-- Ending a BIST_RUN (R457). -/
theorem Moves.abortBist (h : Moves anyReply p w s t) (hp : Part.nvm ∈ p) (hw : 0x20C4 ∈ w) :
    Moves anyReply p w s (abortBist t) := by
  unfold Machine.abortBist
  split
  · refine Moves.ite h (Moves.ite ?_ (h.nvm hp))
    exact ((h.nvm hp).raise (by decide) _ _).finishOp hw _ _ _ (.inr (by decide))
  · exact h

/-- Ending a FLUX_CAL (R101 to R103). -/
theorem Moves.endCal (h : Moves anyReply p w s t) (hp : Part.drv ∈ p) (hw : 0x20C4 ∈ w) (st : Nat)
    (hc : 0x9030 ∈ w ∨ (st ≠ St.ok ∧ st ≠ St.doneReplayed)) : Moves anyReply p w s (endCal st t) := by
  unfold Machine.endCal
  split
  · exact h
  · simp only []
    split
    · exact (h.drv hp).finishJob hw _ _ _ hc
    · exact h.drv hp

theorem Moves.abortCal (h : Moves anyReply p w s t) (hp : Part.drv ∈ p) (hw : 0x20C4 ∈ w) :
    Moves anyReply p w s (abortCal t) := h.endCal hp hw _ (.inr (by decide))

theorem Moves.leaveHold {k : List OutKind} (h : Moves k p w s t) (hp : Part.pwr ∈ p) : Moves k p w s (leaveHold t) := by
  unfold Machine.leaveHold
  exact Moves.ite (h.pwr hp) (h.pwr hp)

theorem Moves.clearElapsed {k : List OutKind} (h : Moves k p w s t) (hp : Part.pwr ∈ p) :
    Moves k p w s (clearElapsed t) := h.pwr hp

/-- The end of the REPORTs in flight (R225). -/
theorem Moves.finishReport (h : Moves anyReply p w s t) (hw : 0x20C4 ∈ w) (st : Nat) (body : List Byte)
    (hc : 0x9030 ∈ w ∨ (st ≠ St.ok ∧ st ≠ St.doneReplayed)) : Moves anyReply p w s (finishReport st body t) := by
  unfold Machine.finishReport
  generalize List.filter _ t.cmd.jobs = l
  induction l generalizing t with
  | nil => exact h
  | cons j l ih => exact ih (h.finishJob hw j st body hc)

/-- Pixel tests stop within a period (R213). -/
theorem Moves.pauseTests (h : Moves anyReply p w s t) (hi : Part.dia ∈ p) (hw : 0x20C4 ∈ w) (cause : Nat) :
    Moves anyReply p w s (pauseTests cause t) := by
  unfold Machine.pauseTests
  have h1 := Moves.ite (c := t.dia.running = true) ((h.dia hi
    (x := { t.dia with running := false, cause := cause, wait := [] })).raise (by decide) 0x75 (q4 cause ++ q4 1)) h
  exact Moves.ite h1 (h1.finishReport hw _ _ (.inr (by decide)))

/-- The lamp-on time (R405). -/
theorem Moves.lampClock {k : List OutKind} (h : Moves k p w s t) (hp : Part.pwr ∈ p) (new : Nat) :
    Moves k p w s (lampClock new t) := by
  unfold Machine.lampClock
  exact Moves.ite h (Moves.ite (h.pwr hp) (h.pwr hp))

/-- A change of the lamp state (R230): SAF_STATE, the timers of the power states, the commands and the pixel tests it ends. -/
theorem Moves.setLamp (h : Moves anyReply p w s t) (hn : Part.nvm ∈ p) (hd : Part.drv ∈ p) (hp : Part.pwr ∈ p)
    (hi : Part.dia ∈ p) (hw : 0x20C4 ∈ w) (hs : 0x8000 ∈ w) (new : Nat) : Moves anyReply p w s (setLamp new t) := by
  unfold Machine.setLamp
  have h0 := h.lampClock hp new
  have h1 := (h0.setF (x := F.SAF_STATE_LAMP) new (List.mem_append_right _ hs)).raise (by decide) 0x81
    (q4 (Machine.lampClock new t).lamp ++ q4 new)
  refine Moves.ite h0 (((Moves.leaveHold ?_ hp).clearElapsed hp).abortBist hn hw)
  unfold lampEnds
  exact Moves.ite ((h1.abortCal hd hw).pauseTests hi hw 0) h1

/-- The stamps of a stop (R258, R264). -/
theorem Moves.stampStop (h : Moves anyReply p w s t) (hs : 0x8000 ∈ w) (h1 : 0x8024 ∈ w) (h2 : 0x8028 ∈ w)
    (h3 : 0x802C ∈ w) (cls src : Nat) : Moves anyReply p w s (stampStop cls src t) :=
  (((((h.setF (x := F.SAF_STATE_CLASS) _ (List.mem_append_right _ hs)).setF (x := F.SAF_STATE_SOURCE) _
    (List.mem_append_right _ hs)).setReg _ (List.mem_append_right _ h1)).setReg _ (List.mem_append_right _ h2)).setReg _
    (List.mem_append_right _ h3)).raise (by decide) _ _

/-- The class-0 removal (R234). -/
theorem removeLight_moves (s : State) : Moves anyReply stopParts stopWords s (removeLight s) := by
  unfold removeLight vledOff
  refine Moves.setLamp (Moves.setB ?_ _ (by decide)) (by decide) (by decide) (by decide) (by decide) (by decide) (by decide) _
  exact Moves.parts (t := s.setB F.SAF_STATE_VLED_EN false) (Moves.setB (Moves.refl _ _ _ s) _ (by decide))
    (by intro q hq; cases q <;> first | rfl | exact absurd (by decide) hq) rfl rfl

theorem class0_moves (src : Nat) (s : State) : Moves anyReply stopParts stopWords s (class0 src s) :=
  (removeLight_moves s).stampStop (by decide) (by decide) (by decide) (by decide) _ _

theorem beginClass1_moves (src dur : Nat) (s : State) : Moves anyReply stopParts stopWords s (beginClass1 src dur s) := by
  unfold beginClass1
  refine Moves.stampStop (Moves.setLamp ?_ (by decide) (by decide) (by decide) (by decide) (by decide) (by decide) _)
    (by decide) (by decide) (by decide) (by decide) _ _
  exact Moves.setF (Moves.saf (Moves.refl _ _ _ s) (by decide)) _ (by decide)

theorem beginClass2_moves (src : Nat) (s : State) : Moves anyReply stopParts stopWords s (beginClass2 src s) := by
  unfold beginClass2
  refine Moves.stampStop (Moves.setLamp ?_ (by decide) (by decide) (by decide) (by decide) (by decide) (by decide) _)
    (by decide) (by decide) (by decide) (by decide) _ _
  exact Moves.setF (Moves.saf (Moves.refl _ _ _ s) (by decide)) _ (by decide)

/-- Everything a stop request may do (R230, R239, R243). -/
theorem requestStopDur_moves (cls src dur : Nat) (s : State) :
    Moves anyReply stopParts stopWords s (requestStopDur cls src dur s) := by
  have h0 : Moves anyReply stopParts stopWords s (s.setReg 0x801C (s.reg 0x801C ||| BitVec.ofNat 32 (2 ^ src))) :=
    (Moves.refl _ _ _ s).setReg _ (by decide)
  have h1 := h0.leaveHold (by decide)
  have m0 := fun u (h : Moves anyReply stopParts stopWords s u) => h.andThen (class0_moves src u) (by simp) (by simp)
  have m1 := fun u (h : Moves anyReply stopParts stopWords s u) => h.andThen (beginClass1_moves src dur u) (by simp) (by simp)
  have m2 := fun u (h : Moves anyReply stopParts stopWords s u) => h.andThen (beginClass2_moves src u) (by simp) (by simp)
  generalize hu : leaveHold (s.setReg 0x801C (s.reg 0x801C ||| BitVec.ofNat 32 (2 ^ src))) = u at h1
  match cls with
  | 0 =>
    simp only [requestStopDur, hu]
    exact Moves.ite (h0.raise (by decide) _ _) (Moves.ite (m0 u h1) (Moves.ite (m0 u h1) (Moves.ite (m0 u h1) h1)))
  | 1 =>
    simp only [requestStopDur, hu]
    exact Moves.ite (h0.raise (by decide) _ _)
      (Moves.ite (m1 u h1) (Moves.ite (Moves.ite h1 (m1 u h1)) (Moves.ite (m1 u h1) h1)))
  | n + 2 =>
    simp only [requestStopDur, hu]
    exact Moves.ite (h0.raise (by decide) _ _)
      (Moves.ite (Moves.ite (m2 u h1) (m1 u h1)) (Moves.ite h1 (Moves.ite h1 h1)))

theorem Moves.requestStop (h : Moves anyReply p w s t) (hp : stopParts ⊆ p) (hw : stopWords ⊆ w) (cls src : Nat) :
    Moves anyReply p w s (requestStop cls src t) := h.andThen (requestStopDur_moves _ _ _ _) hp hw

theorem Moves.raiseSource (h : Moves anyReply p w s t) (hp : stopParts ⊆ p) (hw : stopWords ⊆ w) (src : Nat) :
    Moves anyReply p w s (raiseSource src t) :=
  Moves.requestStop (t := activate src t) (h.saf (hp (by decide))) hp hw _ _

theorem Moves.raiseOnce (h : Moves anyReply p w s t) (hp : stopParts ⊆ p) (hw : stopWords ⊆ w) (src : Nat) :
    Moves anyReply p w s (raiseOnce src t) := h.requestStop hp hw _ _

theorem Moves.nvmPush {k : List OutKind} (h : Moves k p w s t) (hp : Part.nvm ∈ p) (o : Option Nat) (ks : List NvmKind) :
    Moves k p w s (nvmPush o ks t) := h.nvm hp

/-- The words a refused entry may change (R395): PWR_REFUSE and the counts. -/
abbrev refuseWords : List Nat := [0xC008, 0xC010, 0xC014, 0xC018, 0xC01C]

end Sys2Proof.Machine
end

