-- ==== Sys2Proof/Tests/Slice0.lean ====
section
/-! SUPPORT. Small checks of the model: the well-formedness of commands, one step of each kind against the spec's own
numbers, and for every statement of the certificates concrete states and operands that meet its hypotheses. -/

namespace Sys2Proof.Tests

set_option Elab.async false

open Sys2Proof Sys2Proof.Machine

/-! ### Helpers -/

/-- A request of stream 0 on the ring, with TAG 7 and ALIVE 1. -/
def req (arg : Nat) (payload : List Byte) : Req := ⟨.ring, false, 0, false, 7, 1, arg, payload⟩

/-- The same as a broadcast. -/
def reqAll (arg : Nat) (payload : List Byte) : Req := { req arg payload with bcast := true }

/-- Bytes from numbers. -/
def by_ (l : List Nat) : List Byte := l.map (BitVec.ofNat 8)

/-- A part that has booted: half A is active and half B GOOD, the tick runs, the lamp is DARK. -/
def run0 : State :=
  ({ State.reset with sys.phase := .run, sys.causes := [], hlv.active := true, tck.running := true, tck.started := true, time := 5000000 }.setF
    F.HLV_HEALTH_A_HEALTH 3).setF F.HLV_HEALTH_B_HEALTH 3

/-- The same with the safety configuration unlocked for stream 0. -/
def open0 : State := run0.setB F.SAF_LOCK_UNLOCKED true

/-- The same with the lamp LIT. -/
def lit0 : State :=
  { (run0.setF F.SAF_STATE_LAMP Lamp.lit).setB F.SAF_STATE_VLED_EN true with saf.switches := true }

/-- A release with VSUP at `mv` and the eNVM data `bad` failed: pins and crystal good, the first pad direction shorted, the one of
pad pair 3 not driven, the others right, every temperature 25 °C. -/
def env0 (mv : Nat) (bad : List NvmCopy) : BootEnv :=
  ⟨0, true, true, mv, 0, 0, true, (⟨1800, 1800, 0, 0⟩ :: List.replicate 5 ⟨1800, 0, 0, 1800⟩) ++ ⟨0, 0, 0, 0⟩ :: List.replicate 7 ⟨1800, 0, 0, 1800⟩,
    7, bad, List.replicate 8 400, List.replicate 4 (1000, 1000)⟩

/-- The part with the packet of a command alone in its queue, accepted just now. -/
def gives (op : Nat) (rq : Req) (s : State) : State := { s with cmd.inbox := [⟨0, op, rq, s.time, s.tck.frame, s.tck.row⟩] }

/-- The command runs in the part that holds its packet. -/
def RunsQ (op : Nat) (rq : Req) (s : State) : Prop := Runs op rq (gives op rq s)

/-- Beside the queue that part is the same: what a witness says of `s`, the queue aside, holds of it. -/
theorem gives_keeps (op : Nat) (rq : Req) (s : State) : Keeps [.cmd] s (gives op rq s) ∧
    (gives op rq s).cmd = { s.cmd with inbox := (gives op rq s).cmd.inbox } := by
  refine ⟨?_, rfl⟩
  intro p h
  cases p <;> first | rfl | simp at h

/-- A command alone in the queue of a part that executes runs, whatever its payload. -/
theorem runsQ_of (op : Nat) (rq : Req) (s : State) (ho : op ≠ 0x40) (hq : rq.quiet = false) (hx : s.executes = true)
    (he : s.inExecution = false) (hr : replyRoom op s = true) (hj : s.journalUsed < 128) : RunsQ op rq s := by
  refine ⟨?_, hq⟩
  have e : ((gives op rq s).cmd.inbox.filter QEntry.inQueue) = (gives op rq s).cmd.inbox := by
    simp [gives, QEntry.inQueue, ho]
  have h1 : (gives op rq s).executes = s.executes := rfl
  have h2 : (gives op rq s).inExecution = s.inExecution := rfl
  have h3 : replyRoom op (gives op rq s) = replyRoom op s := rfl
  have h4 : (gives op rq s).journalUsed = s.journalUsed := rfl
  unfold State.mustWait
  rw [e, h1, h2, h3, h4, hx, he, hr]
  simp [gives, QEntry.matches]
  exact hj

/-! ### Witnesses: the front end and the registers -/

/-- Nothing pends; a PING that no packet brought, in a part that takes it and in one in reset, and behind another that waits. -/
theorem witness_StepRunsTheFrontCommand :
    run0.pending = [] ∧ (∀ rq, commandOf (.ping rq) = some (0x01, rq)) ∧
    (run0.off = false ∧ run0.holds 0 0x01 (req 0 []) = false) ∧ State.reset.off = true ∧
    (∀ s u : State, s = gives 0x02 (req 0 []) run0 → u = accept 0 0x01 (req 0 []) s → s.off = false ∧ s.holds 0 0x01 (req 0 []) = false ∧
      (∀ e ∈ u.cmd.inbox, noRow e.op = none) ∧ u.mustWait 0x01 (req 0 []) = true ∧ enableAhead u = false ∧ u.nvm.test = none) := by
  refine ⟨rfl, fun _ => rfl, by decide +kernel, by decide +kernel, ?_⟩
  rintro s u rfl rfl
  decide +kernel

theorem witness_PlainReadsAnswer :
    ((gives 0x00 (req 0 []) run0).mustWait 0x00 (req 0 []) = false ∧ (req 0 []).payload = []) ∧
    (RunsQ 0x01 (req 0 (by_ [1, 2, 3, 4])) run0 ∧ (req 0 (by_ [1, 2, 3, 4])).payload.length ≤ 4076) ∧
    RunsQ 0x02 (req 0 []) run0 ∧ RunsQ 0x13 (req 0 []) run0 := by
  unfold RunsQ Runs; decide +kernel

/-- An EVENT_CFG that writes stream 4, both ports and the event codes that the spec lists. -/
def eventCfgWriteBytes : List Byte := by_ [1, 4, 3, 0] ++ zeros 32

theorem witness_EventRoutingIsSet :
    (RunsQ 0x0B (req 0 (zeros 36)) run0 ∧ (zeros 36).length = 36 ∧ bitOf (u8 (zeros 36) 0) 0 = false) ∧
    (RunsQ 0x0B (req 0 eventCfgWriteBytes) run0 ∧ eventCfgWriteBytes.length = 36 ∧ bitOf (u8 eventCfgWriteBytes 0) 0 = true ∧
      evtStreamOk (u8 eventCfgWriteBytes 1 % 8) = true ∧ enableLegal eventCfgWriteBytes = true) ∧
    run0.queued = 0 := by
  unfold RunsQ Runs; decide +kernel

/-- REG_RD of two words from 0x3018; of a word at 0xF000; of a word at 0x3011. -/
theorem witness_RegistersAreReadAndHighWordsLatched :
    (RunsQ 0x08 (req 0 (by_ [0x18, 0x30, 0, 0, 2, 0, 0, 0])) run0 ∧ inRange (u32 (by_ [0x18, 0x30, 0, 0, 2, 0, 0, 0]) 4) 1 1019 = true ∧
      regRunCheck (u16 (by_ [0x18, 0x30, 0, 0, 2, 0, 0, 0]) 0) 2 = none) ∧
    regRunCheck 0xF000 1 = some St.range ∧ regRunCheck 0x3011 1 = some St.badParam ∧
    (0x3018 ∈ lowWords ∧ 0x301C ∉ lowWords ∧ (readReg 0x3018 run0).2.latch = (readReg 0x3018 run0).2.latch) ∧
    (0x3000 ∉ lowWords ∧ kvGet run0.latch 0x3000 = none) := by
  unfold RunsQ Runs; decide +kernel

theorem witness_WrittenBitsFollowTheirAccessCodes :
    (∃ r, regRow 0x3004 = some r ∧ r.item = true) ∧ (∃ r, regRow 0x1044 = some r) ∧ ¬ (0x1040 ≤ 0x3004 ∧ 0x3004 ≤ 0x105F) :=
  ⟨⟨_, rfl, by decide +kernel⟩, ⟨_, rfl⟩, by decide⟩

/-- REG_WR of TCK_CUTOFF with 480, then with 100, below its range; REG_RMW of it. -/
theorem witness_RegisterCommandsWriteAllOrNothing :
    (RunsQ 0x09 (req 0 (by_ [0x04, 0x30, 0, 0, 0xE0, 1, 0, 0])) run0 ∧
      wrRefused run0 0 (wrWords (req 0 (by_ [0x04, 0x30, 0, 0, 0xE0, 1, 0, 0]))) = none ∧
      ∀ w ∈ wrWords (req 0 (by_ [0x04, 0x30, 0, 0, 0xE0, 1, 0, 0])), rwlWrite w.1 0xFFFFFFFF = false) ∧
    (RunsQ 0x09 (req 0 (by_ [0x04, 0x30, 0, 0, 100, 0, 0, 0])) run0 ∧
      wrRefused run0 0 (wrWords (req 0 (by_ [0x04, 0x30, 0, 0, 100, 0, 0, 0]))) = some (0x3004, St.range)) ∧
    (RunsQ 0x0A (req 0 (by_ [0x04, 0x30, 0, 0, 0xFF, 1, 0, 0, 0xE0, 1, 0, 0])) run0 ∧
      wordStatus run0 0 0x3004 0x1FF (rmwValue run0 0x3004 0x1FF 0x1E0).toNat = none ∧ rwlWrite 0x3004 0x1FF = false) := by
  unfold RunsQ Runs; decide +kernel

theorem witness_SingleRegisterWritesAct :
    (wordStatus run0 0 0x3004 0xFFFFFFFF 480 = none ∧ rwlWrite 0x3004 0xFFFFFFFF = false) ∧
    wordStatus run0 0 0x4014 0xFFFFFFFF 0x11A = none := by
  decide +kernel

/-! ### Witnesses: sets, HERD, ENUM, layers -/

theorem witness_CommitJoinsTheSetOfItsRow :
    (RunsQ 0x10 (req 5 []) run0 ∧ (req 5 []).payload = [] ∧ run0.tck.herd = none ∧ refusedLayers run0 = [] ∧
      run0.tck.row < run0.cutoff) ∧
    (RunsQ 0x10 (req 5 []) { run0 with tck.row := 500 } ∧ refusedLayers { run0 with tck.row := 500 } = [] ∧
      ¬ (500 < ({ run0 with tck.row := 500 } : State).cutoff)) := by
  unfold RunsQ Runs; decide +kernel

/-- A HERD target pends; a video layer is enabled without a buffer, and its position is pending with BASE's. -/
theorem witness_CommitIsBusyOrKeepsRefusedLayers :
    (RunsQ 0x10 (req 5 []) { run0 with tck.herd := some ⟨9, 9, 1, false, false⟩ } ∧
      ({ run0 with tck.herd := some ⟨9, 9, 1, false, false⟩ } : State).tck.herd.isSome = true) ∧
    (∀ s, s = { run0.setF F.LYR_CTRL_V0_EN 1 with tck.dirty := [0x4008, 0x4108] } →
      RunsQ 0x10 (req 5 []) s ∧ s.tck.herd = none ∧ refusedLayers s ≠ [] ∧ layerOfItem 0x4108 = some 0 ∧
        layerOfItem 0x4008 = none ∧ 0x4008 ∈ s.tck.dirty ∧ 0x4108 ∈ s.tck.dirty) := by
  refine ⟨by unfold RunsQ Runs; decide +kernel, ?_⟩
  rintro s rfl
  unfold RunsQ Runs; decide +kernel

/-- A HERD for frame 10 on the FRC and on the core PLL, for a frame that has passed, one that numbers the next tick, and one that
finds a target pending whose set has been sampled. -/
theorem witness_HerdSetsTargetNumberAndOffset :
    (∀ (rq : Req) (u : State), rq = reqAll 1 (by_ [10] ++ zeros 15) → u = accept 4 0x11 rq run0 →
      rq.bcast = true ∧ rq.payload.length = 16 ∧ run0.off = false ∧ (∀ e ∈ run0.cmd.inbox, e.matches 0x11 rq = false) ∧
        bitOf rq.arg 17 = false ∧
        decide (2 ^ 31 ≤ (u32 rq.payload 0 + 2 ^ 32 - u.tickNo (herdTicks (herdEntry rq u) u)) % 2 ^ 32) = false) ∧
    (∀ (rq : Req) (u : State), rq = reqAll 1 (zeros 16) → u = accept 4 0x11 rq run0 →
      decide (2 ^ 31 ≤ (u32 rq.payload 0 + 2 ^ 32 - u.tickNo (herdTicks (herdEntry rq u) u)) % 2 ^ 32) = true) ∧
    (∀ (rq : Req) (u : State), rq = reqAll 0x10001 (zeros 16) → u = accept 4 0x11 rq run0 →
      bitOf rq.arg 17 = false ∧ bitOf rq.arg 16 = true ∧ (u.onFrc || u.a F.TCK_CTRL_SRC == 1 || !u.tck.running) = true) ∧
    (∀ (rq : Req) (s u : State), rq = reqAll 0x10001 (zeros 16) → s = run0.setF F.PWR_CLK_SEL 0 → u = accept 4 0x11 rq s →
      s.off = false ∧ (u.onFrc || u.a F.TCK_CTRL_SRC == 1 || !u.tck.running) = false) ∧
    (∀ s : State, s = { run0 with tck.herd := some ⟨9, 9, 1, false, false⟩, tck.sets := [⟨9, [(0x3004, 480)], [], 1, true⟩] } →
      s.tck.herd = some ⟨9, 9, 1, false, false⟩ ∧ (⟨9, [(0x3004, 480)], [], 1, true⟩ : Sampled) ∈ s.tck.sets) ∧
    bitOf 0x20001 17 = true := by
  refine ⟨?_, ?_, ?_, ?_, ?_, by decide +kernel⟩
  · rintro rq u rfl rfl
    decide +kernel
  · rintro rq u rfl rfl
    decide +kernel
  · rintro rq u rfl rfl
    decide +kernel
  · rintro rq s u rfl rfl rfl
    decide +kernel
  · rintro s rfl
    exact ⟨rfl, List.mem_singleton.2 rfl⟩

/-- FRAME_SET to 120 Hz, INTERNAL, row 480. -/
theorem witness_FrameSettingsAndAlignment :
    (RunsQ 0x12 (req 0 (by_ [2, 0, 0xE0, 1, 0, 0, 0, 0])) run0 ∧
      rangesOk 0x3000 (frameCtrl (by_ [2, 0, 0xE0, 1, 0, 0, 0, 0])) = true ∧
      rangesOk 0x3004 (bitsOf (u16 (by_ [2, 0, 0xE0, 1, 0, 0, 0, 0]) 2) 8 0) = true) ∧
    ({ run0 with tck.alignTime := some 4000000 } : State).tck.alignTime = some 4000000 := by
  unfold RunsQ Runs; decide +kernel

/-- The ring in RUN, with the bypass open. -/
def ring0 : State := (run0.setF F.RNG_STATUS_STATE 4).setB F.RNG_STATUS_BYPASS false

/-- ENUM pass 1 out of RUN; under ASSIGN, under ASSIGN with no address left, and under MEASURE. -/
theorem witness_EnumPass1Numbers :
    (run0.off = false ∧ run0.ringRuns = false) ∧
    (ring0.off = false ∧ ring0.ringRuns = true ∧ pass1Ok (reqAll 0 (by_ [0, 0, 1, 0] ++ zeros 12)) = true) ∧
    (bitOf (u8 (by_ [0, 0, 1, 0]) 1) 0 = false ∧ u8 (by_ [0, 0, 1, 0]) 2 ≤ 30) ∧
    (pass1Ok (reqAll 0 (by_ [0, 0, 31, 0] ++ zeros 12)) = true ∧ 30 < u8 (by_ [0, 0, 31, 0]) 2) ∧
    (pass1Ok (reqAll 0 (by_ [0, 1, 1, 0] ++ zeros 12)) = true ∧ bitOf (u8 (by_ [0, 1, 1, 0]) 1) 0 = true) := by
  decide +kernel

/-- ENUM pass 2 of two hops, for an engine that took part in pass 1 at HOP 1, and for one that did not. -/
theorem witness_EnumPass2SetsThePositionDelay :
    (∀ s, s = { ring0.setF F.RNG_ADDR_HOP 1 with rng.acc := some 100 } → s.off = false ∧ s.ringRuns = true ∧
      pass2Ok (reqAll 0 (by_ [1, 0, 2, 0] ++ zeros 12)) = true ∧ s.rng.acc = some 100 ∧ s.f F.RNG_ADDR_HOP < 2) ∧
    ring0.rng.acc = none := by
  refine ⟨?_, rfl⟩
  rintro s rfl
  decide +kernel

/-- The coefficients of a table whose phases sum to 1.0. -/
def coefBytes (taps phases : Nat) : List Byte := (List.replicate phases (by_ [0, 2, 0, 2] ++ zeros (2 * (taps - 2)))).flatten

/-- LAYER_CFG of section 0 of G0, of the vertical table of V0, and a read; LAYER_BUF; an ANIM_SET of one entry. -/
theorem witness_LayerSettingsJoinThePendingSet :
    (RunsQ 0x18 (req 2 (zeros 4)) run0 ∧ lcValid (req 2 (zeros 4)) = true ∧ lcRead (req 2 (zeros 4)) = false ∧
      (zeros 4).length = lcLen (req 2 (zeros 4)) ∧ lcSection (req 2 (zeros 4)) = 0 ∧
      ∀ e ∈ lcPairs (req 2 (zeros 4)), rangesOk e.1 e.2 = true) ∧
    (RunsQ 0x18 (req 0x20 (coefBytes 4 64)) run0 ∧ lcValid (req 0x20 []) = true ∧ lcRead (req 0x20 []) = false ∧
      (coefBytes 4 64).length = lcLen (req 0x20 []) ∧ lcSection (req 0x20 []) ≠ 0 ∧
      (words16 (coefBytes 4 64)).all coefOk = true ∧ phasesOk 4 (words16 (coefBytes 4 64)) = true) ∧
    (RunsQ 0x18 (req 0x102 []) run0 ∧ lcValid (req 0x102 []) = true ∧ lcRead (req 0x102 []) = true) ∧
    (RunsQ 0x19 (req 0 (by_ [0, 59, 0, 0])) run0 ∧ bitsOf (u8 (by_ [0, 59, 0, 0]) 1) 5 0 ≤ 59) ∧
    (RunsQ 0x2A (req 0 (by_ [0, 1, 0, 0, 60, 0, 0, 0] ++ zeros 16)) run0 ∧
      animLenOk (req 0 (by_ [0, 1, 0, 0, 60, 0, 0, 0] ++ zeros 16)) = true ∧
      ((List.range 1).map (animEntry (by_ [0, 1, 0, 0, 60, 0, 0, 0] ++ zeros 16))).all (animEntryOk 60) = true) := by
  unfold RunsQ Runs; decide +kernel

/-- A buffer of 64 bytes at 9 MiB, FREE. -/
def buf0 : BufDesc := ⟨2, 0, 0x900000, 0, 1, 64, 0, 0, 0, false, false⟩

/-- A part with descriptor 10 defined, and with pattern slot 0 defined. -/
def bufs0 : State := { run0 with lyr.bufs := [(10, buf0), (60, ⟨1, 4, 0xA00000, 2048, 512, 4096, 0, 0, 0, false, false⟩)] }

/-- BUF_DEFINE of descriptor 11 and its removal; BUF_WRITE of a whole buffer and of a first part; BUF_RELEASE. -/
theorem witness_BuffersAreDefinedFilledAndReleased :
    (∀ p, p = by_ [11, 2, 0, 0, 0, 0, 0xD0, 0, 0, 0, 1, 0, 64, 0, 0, 0] → RunsQ 0x1C (req 0 p) bufs0 ∧ p.length = 16 ∧
      bufBusy bufs0 11 = false ∧ bitOf (u8 p 1) 7 = false ∧ defineOk 11 (bitsOf (u8 p 1) 1 0) 0 0 1 64 = true ∧
      placeOk bufs0 11 (u32 p 4) 64 = true) ∧
    bitOf (u8 (by_ [11, 0x82]) 1) 7 = true ∧
    (∀ p, p = by_ [10, 3, 0, 0, 0, 0, 0, 0] ++ zeros 64 → RunsQ 0x1A (req 0 p) bufs0 ∧ bufs0.executes = true ∧
      bufs0.buf? (bitsOf (u8 p 0) 5 0) = some buf0 ∧ inRange p.length 12 4080 = true ∧ u32 p 4 % 4 = 0 ∧
      u32 p 4 + (p.drop 8).length ≤ buf0.size ∧ writeRefusal bufs0 10 buf0 true 0 = none) ∧
    State.reset.executes = false ∧
    (RunsQ 0x1B (req 0 (by_ [10, 0, 0, 0])) bufs0 ∧ bufs0.buf? 10 = some buf0 ∧ buf0.st ≠ 3 ∧ buf0.st ≠ 4) := by
  refine ⟨?_, by decide +kernel, ?_, by decide +kernel, by unfold RunsQ Runs; decide +kernel⟩ <;>
  · rintro p rfl
    unfold RunsQ Runs; decide +kernel

/-- PATTERN_LOAD of data and of the fallback copy; the end of a copy; the identity tone map. -/
theorem witness_PatternSlotsAndToneMapLoad :
    (∀ p, p = by_ [0, 0, 1, 0, 0, 0, 0, 0] ++ zeros 4 → RunsQ 0x28 (req 0 p) bufs0 ∧ plSource (req 0 p) = 0 ∧
      plTarget (req 0 p) ≤ 3 ∧ (bufs0.buf? 60).isSome = true ∧ ∀ b, bufs0.buf? 60 = some b →
        (p.drop 8).length ≤ b.size ∧ writeRefusal bufs0 60 b true 0 = none) ∧
    (∀ p, p = by_ [0, 1, 0, 0, 0, 0, 0, 0] → RunsQ 0x28 (req 0 p) bufs0 ∧ plSource (req 0 p) = 1 ∧ plTarget (req 0 p) ≤ 3 ∧
      bufs0.longRunning < 8 ∧ ∀ b, bufs0.buf? 60 = some b → writeRefusal bufs0 60 b true 0 = none) ∧
    (∀ s : State, s = { bufs0 with lyr.copies := [0, 1], cmd.jobs := [⟨7, 0x28, req 0 [], true, 0, [], false⟩] } →
      s.lyr.copies = 0 :: [1] ∧ (s.buf? (60 + 0)).isSome = true ∧ (s.jobKey? 0x28 0).isSome = true ∧ (req 0 []).quiet = false) ∧
    ((run0.setB F.SAF_FB_VALID true).fb F.SAF_FB_VALID = true ∧ (run0.setB F.SAF_FB_VALID false).fb F.SAF_FB_VALID = false) ∧
    (∀ p, p = by_ [4, 2, 0, 0, 0, 0, 0, 0] → RunsQ 0x28 (req 0 p) open0 ∧ plTarget (req 0 p) = 4 ∧ plSource (req 0 p) = 2 ∧
      open0.unlocked 0 = true ∧ logRoom open0 1 = true ∧ open0.sdActive = false) := by
  refine ⟨?_, ?_, ?_, by decide +kernel, ?_⟩
  · rintro p rfl
    refine ⟨by unfold RunsQ Runs; decide +kernel, by decide +kernel, by decide +kernel, by decide +kernel, ?_⟩
    intro b h
    have e : bufs0.buf? 60 = some ⟨1, 4, 0xA00000, 2048, 512, 4096, 0, 0, 0, false, false⟩ := by decide +kernel
    rw [e] at h
    cases h
    decide +kernel
  · rintro p rfl
    refine ⟨by unfold RunsQ Runs; decide +kernel, by decide +kernel, by decide +kernel, by decide +kernel, ?_⟩
    intro b h
    have e : bufs0.buf? 60 = some ⟨1, 4, 0xA00000, 2048, 512, 4096, 0, 0, 0, false, false⟩ := by decide +kernel
    rw [e] at h
    cases h
    decide +kernel
  · rintro s rfl
    decide +kernel
  · rintro p rfl
    unfold RunsQ Runs; decide +kernel

/-- SYMBOL_LOAD of a whole 8 × 4 symbol, of a further part of it, and its deletion. -/
theorem witness_SymbolsAreLoadedAndDeleted :
    (∀ p, p = by_ [5, 0, 3, 1, 8, 0, 4, 0, 0, 0, 0, 0] ++ zeros 32 → RunsQ 0x29 (req 0 p) run0 ∧ bitOf (u8 p 2) 0 = true ∧
      bitOf (u8 p 2) 2 = false ∧ kvGet run0.lyr.syms 5 = none ∧ (32 : Nat) ≤ (SymDesc.mk 1 1 8 4 0 0 0).bytes ∧
      allocSym (kvErase 5 run0.lyr.syms) ((symRegion run0).2 / 64) (SymDesc.mk 1 1 8 4 0 0 0).units = some 0) ∧
    (∀ s : State, s = { run0 with lyr.syms := [(5, ⟨1, 1, 8, 4, 0, 0, 4⟩)] } → kvGet s.lyr.syms 5 = some ⟨1, 1, 8, 4, 0, 0, 4⟩) ∧
    bitsOf (u8 (by_ [5, 0, 4]) 2) 2 0 = 4 := by
  refine ⟨?_, ?_, by decide +kernel⟩
  · rintro p rfl
    unfold RunsQ Runs; decide +kernel
  · rintro s rfl
    decide +kernel

/-- A part with slot 5 occupied by a body of zeros, and with a staging of ID 9 begun. -/
def obj0 : State := { run0 with obj.slots := [(5, ⟨zeros 76, 0, false⟩)], obj.bulk := some (9, []) }

/-- OBJ_SET into an empty slot, and of a repeated ALIVE value; a READ; OBJ_MOVE with a gap; OBJ_CLEAR of all and of a run to the
last slot. -/
theorem witness_ObjectSlotsTakeUpdates :
    (∀ p, p = zeros 76 → RunsQ 0x20 (req 0 p) obj0 ∧ p.length = 76 ∧ checkAll (bodyChecks p) = none ∧
      slotAlive obj0 (u8 p 0) (obAlive p) = some 0) ∧
    (∀ p, p = by_ [5] ++ zeros 75 → RunsQ 0x20 (req 0 p) obj0 ∧ p.length = 76 ∧ checkAll (bodyChecks p) = none ∧
      slotAlive obj0 (u8 p 0) (obAlive p) = none) ∧
    (RunsQ 0x20 (req 0x100 (zeros 4)) obj0 ∧ bitOf (req 0x100 (zeros 4)).arg 8 = true) ∧
    (∀ p, p = by_ [5, 3] ++ zeros 22 → RunsQ 0x21 (req 0 p) obj0 ∧ p.length = 24 ∧
      kvGet obj0.obj.slots (u8 p 0) = some ⟨zeros 76, 0, false⟩ ∧ slotAlive obj0 (u8 p 0) (bitsOf (u8 p 1) 3 0) = some 2) ∧
    (RunsQ 0x22 (req 0 (by_ [0, 1, 0, 0])) obj0 ∧ bitOf (u8 (by_ [0, 1, 0, 0]) 1) 0 = true) ∧
    (∀ p, p = by_ [255, 0, 1, 0] → RunsQ 0x22 (req 0 p) obj0 ∧ bitOf (u8 p 1) 0 = false ∧ u8 p 0 = 255 ∧
      bitsOf (u16 p 2) 8 0 = 1 ∧ u8 p 0 + bitsOf (u16 p 2) 8 0 ≤ 256) := by
  refine ⟨?_, ?_, ?_, ?_, ?_, ?_⟩
  case refine_3 => unfold RunsQ Runs; decide +kernel
  case refine_5 => unfold RunsQ Runs; decide +kernel
  all_goals
    rintro p rfl
    unfold RunsQ Runs; decide +kernel

/-- A CLEAR entry of slot 3 and, behind it, a SET entry of slot 4. -/
def bulkEntries : List Byte := by_ [2, 3, 0, 0] ++ by_ [0, 0, 0, 0, 4] ++ zeros 75

/-- OBJ_BULK that continues staging 9, without and with END; one that starts another; ABORT; packets too short, an ABORT with more
than its header, entries that are not there; each kind of entry. -/
theorem witness_BulkUpdatesAreStagedAndApplied :
    (∀ p, p = by_ [0, 0, 9, 0, 2, 0, 0, 0] ++ zeros 8 ++ bulkEntries → RunsQ 0x23 (req 0 p) obj0 ∧ 16 ≤ p.length ∧
      bkAbort (req 0 p) = false ∧ bkEnd (req 0 p) = false ∧ bkStart (req 0 p) = false ∧
      obj0.obj.bulk = some (bkId (req 0 p), []) ∧ ∃ es, parseEntries (u64 p 8) (bkCount (req 0 p)) (p.drop 16) = .ok (some es) ∧
        (staged obj0).length + es.length = 2 ∧ entriesStatus es = none) ∧
    (∀ p, p = by_ [3, 0, 8, 0, 0, 0, 0, 0] ++ zeros 8 → RunsQ 0x23 (req 0 p) obj0 ∧ 16 ≤ p.length ∧ bkAbort (req 0 p) = false ∧
      bkEnd (req 0 p) = true ∧ bkStart (req 0 p) = true ∧
      parseEntries (u64 p 8) (bkCount (req 0 p)) (p.drop 16) = .ok (some []) ∧ entriesStatus [] = none) ∧
    (∀ p, p = by_ [4, 0, 9, 0, 0, 0, 0, 0] ++ zeros 8 → RunsQ 0x23 (req 0 p) obj0 ∧ p.length = 16 ∧ bkAbort (req 0 p) = true ∧
      bkStart (req 0 p) = false ∧ bkEnd (req 0 p) = false ∧ bkCount (req 0 p) = 0 ∧ bkId (req 0 p) = 9) ∧
    (RunsQ 0x23 (req 0 (zeros 4)) obj0 ∧ (zeros 4).length < 16) ∧
    (∀ p, p = by_ [4, 0, 9, 0, 0, 0, 0, 0] ++ zeros 12 → RunsQ 0x23 (req 0 p) obj0 ∧ 16 < p.length ∧ bkAbort (req 0 p) = true ∧
      bkStart (req 0 p) = false ∧ bkEnd (req 0 p) = false ∧ bkCount (req 0 p) = 0 ∧ bkId (req 0 p) = 9) ∧
    (∀ p, p = by_ [0, 0, 9, 0, 2, 0, 0, 0] ++ zeros 8 → RunsQ 0x23 (req 0 p) obj0 ∧ 16 ≤ p.length ∧ bkAbort (req 0 p) = false ∧
      bkEnd (req 0 p) = false ∧ obj0.obj.bulk = some (bkId (req 0 p), []) ∧
      parseEntries (u64 p 8) (bkCount (req 0 p)) (p.drop 16) = .ok none) ∧
    ((BulkEntry.mk 2 3 [] 0).kind = 2 ∧
      ((BulkEntry.mk 0 4 (zeros 76) 0).kind = 0 ∧ (slotAlive obj0 4 (obAlive (zeros 76))).isSome = true) ∧
      ((BulkEntry.mk 0 5 (zeros 76) 0).kind = 0 ∧ slotAlive obj0 5 (obAlive (zeros 76)) = none) ∧
      ((BulkEntry.mk 1 5 (by_ [1]) 0).kind = 1 ∧ kvGet obj0.obj.slots 5 = some ⟨zeros 76, 0, false⟩ ∧
        (slotAlive obj0 5 (bitsOf (u8 (by_ [1]) 0) 3 0)).isSome = true) ∧
      (BulkEntry.mk 1 6 (by_ [1]) 0).kind = 1 ∧ kvGet obj0.obj.slots 6 = none) := by
  refine ⟨?_, ?_, ?_, by unfold RunsQ Runs; decide +kernel, ?_, ?_, by decide +kernel⟩
  · rintro p rfl
    refine ⟨by unfold RunsQ Runs; decide +kernel, by decide +kernel, by decide +kernel, by decide +kernel, by decide +kernel,
      by decide +kernel, [⟨2, 3, [], 0⟩, ⟨0, 4, by_ [4] ++ zeros 75, 0⟩], ?_, by decide +kernel, by decide +kernel⟩
    rfl
  · rintro p rfl
    refine ⟨by unfold RunsQ Runs; decide +kernel, by decide +kernel, by decide +kernel, by decide +kernel, by decide +kernel, ?_,
      by decide +kernel⟩
    rfl
  · rintro p rfl
    unfold RunsQ Runs; decide +kernel
  · rintro p rfl
    unfold RunsQ Runs; decide +kernel
  · rintro p rfl
    refine ⟨by unfold RunsQ Runs; decide +kernel, by decide +kernel, by decide +kernel, by decide +kernel, by decide +kernel, ?_⟩
    rfl

/-- The nodes of a map of which none is valid, behind its header. -/
def noNodes (n : Nat) : List Byte := (List.replicate n (by_ [0, 0x80, 0, 0x80])).flatten

/-- The payload of an OPTICS_MAP with the smallest steps and no valid node. -/
def noNodesMap : List Byte := (by_ [0, 0, 16, 0, 0, 0, 16, 0] ++ bytesLE 4 (crc32c (noNodes 561))) ++ noNodes 561

theorem noNodes_length (n : Nat) : (noNodes n).length = 4 * n := by
  simp [noNodes, by_, Nat.mul_comm]

theorem noNodes_drop (n i : Nat) : (noNodes n).drop (4 * i) = noNodes (n - i) := by
  induction i generalizing n with
  | zero => rfl
  | succ i ih =>
    cases n with
    | zero => simp [noNodes]
    | succ n =>
      rw [show 4 * (i + 1) = 4 + 4 * i by omega, ← List.drop_drop, Nat.succ_sub_succ, ← ih n]
      rfl

theorem noNodesMap_drop (k : Nat) : noNodesMap.drop (12 + k) = (noNodes 561).drop k := by
  rw [← List.drop_drop, noNodesMap, List.drop_left' (by simp [by_])]

theorem noNodesMap_node {i : Nat} (h : i < 561) : (mapNode noNodesMap i).1 = -32768 := by
  have e : noNodesMap.drop (12 + 4 * i) = noNodes ((560 - i) + 1) := by
    rw [noNodesMap_drop, noNodes_drop]
    congr 1
    omega
  have hm : ∀ pl : List Byte, (mapNode pl i).1 = signedOf 16 (leNat ((pl.drop (12 + 4 * i)).take 2)) := fun _ => rfl
  rw [hm, e]
  generalize 560 - i = n
  rfl

/-- A map without a valid node has no fold. -/
theorem foldOk_of_no_node (m : OpticsMap) (h : ∀ (k : Nat) (n : Int × Int), m.nodes[k]? = some n → n.1 = -32768) : foldOk m = true := by
  have hn : ∀ i j, m.node i j = none := by
    intro i j
    unfold OpticsMap.node
    cases e : m.nodes[33 * j + i]? with
    | none => rfl
    | some n => simp [h _ n e]
  have e : (List.range 16).flatMap (fun j => (List.range 32).flatMap (fun i => cornerSigns m i j)) = [] := by
    simp [cornerSigns, OpticsMap.cell, hn]
  simp only [foldOk, e]

theorem noNodesMap_fold : foldOk (mapOf noNodesMap) = true := by
  refine foldOk_of_no_node _ fun k n e => ?_
  have hm : ∀ pl : List Byte, (mapOf pl).nodes = (List.range 561).map (mapNode pl) := by
    intro pl; simp only [mapOf]
  rw [hm, List.getElem?_map, Option.map_eq_some_iff] at e
  obtain ⟨i, hi, rfl⟩ := e
  obtain ⟨hk, rfl⟩ := List.getElem?_eq_some_iff.1 hi
  rw [List.getElem_range]
  exact noNodesMap_node (by simpa using hk)

theorem noNodesMap_grid : gridOk (mapOf noNodesMap) = true := by
  have h : ∀ (c : Nat) (r : List Byte), ∀ pl, pl = (by_ [0, 0, 16, 0, 0, 0, 16, 0] ++ bytesLE 4 c) ++ r →
      u16 pl 0 = 0 ∧ u16 pl 2 = 16 ∧ u16 pl 4 = 0 ∧ u16 pl 6 = 16 := by
    rintro c r pl rfl
    exact ⟨rfl, rfl, rfl, rfl⟩
  obtain ⟨h0, h2, h4, h6⟩ := h _ _ noNodesMap rfl
  simp only [gridOk, mapOf, s16, h0, h2, h4, h6]
  decide

/-- GEOM_SET of zeros; a map on the unlocked stream; a READ, of this part and of all. -/
theorem witness_GeometryAndOpticsMapAreSet :
    (RunsQ 0x24 (req 0 (zeros 4)) run0 ∧ (zeros 4).length = 4 ∧ rangesOk 0x5004 (u32 (zeros 4) 0) = true) ∧
    (RunsQ 0x25 (req 0 noNodesMap) open0 ∧ noNodesMap.length = 2256 ∧ open0.unlocked 0 = true ∧ open0.job? 0x25 = none ∧
      open0.longRunning < 8 ∧ logRoom open0 1 = true ∧ open0.sdActive = false) ∧
    ((mapOf noNodesMap).crc = crc32c (noNodesMap.drop 12) ∧ gridOk (mapOf noNodesMap) = true ∧
      foldOk (mapOf noNodesMap) = true) ∧
    (RunsQ 0x25 (req 0x100 []) run0 ∧ bitOf (req 0x100 []).arg 8 = true ∧ (req 0x100 []).bcast = false) ∧
    (RunsQ 0x25 (reqAll 0x100 []) run0 ∧ (reqAll 0x100 []).bcast = true) := by
  refine ⟨by unfold RunsQ Runs; decide +kernel, ⟨runsQ_of _ _ _ (by decide) rfl (by decide +kernel) (by decide +kernel) (by decide +kernel) (by decide +kernel), ?_, by decide +kernel, by decide +kernel,
    by decide +kernel, by decide +kernel, by decide +kernel⟩, ⟨?_, noNodesMap_grid, noNodesMap_fold⟩,
    by unfold RunsQ Runs; decide +kernel, by unfold RunsQ Runs; decide +kernel⟩
  · rw [noNodesMap, List.length_append, noNodes_length]
    rfl
  · have e : noNodesMap.drop 12 = noNodes 561 := noNodesMap_drop 0
    have hb : leNat (bytesLE 4 (crc32c (noNodes 561))) = crc32c (noNodes 561) := by
      rw [leNat_bytesLE]
      exact Nat.mod_eq_of_lt (crc32c_lt _)
    have hf : ∀ (c : Nat) (r : List Byte), u32 ((by_ [0, 0, 16, 0, 0, 0, 16, 0] ++ bytesLE 4 c) ++ r) 8 = leNat (bytesLE 4 c) :=
      fun _ _ => rfl
    have hm : ∀ pl : List Byte, (mapOf pl).crc = u32 pl 8 := fun _ => rfl
    rw [e, hm, noNodesMap, hf, hb]

/-- A FLUX_CAL of tile 0 in progress, by mode. -/
def cal0 (supplied : Bool) : FluxCal := ⟨7, supplied, false, 1, 0, 1, 0, 0, 0, 0⟩

/-- FLUX_CAL of tile 0 by measurement, with the lamp LIT, and with a supplied factor of 1.0; a measured tile with a gain and one
without; a supplied tile. -/
theorem witness_FluxCalibrationMakesFactors :
    (∀ p, p = by_ [0, 1, 0, 0, 0, 0, 1, 0] → RunsQ 0x2C (req 0 p) lit0 ∧ p.length = 8 ∧ fcMode (req 0 p) = 0 ∧
      lit0.drv.cal = none ∧ fcTilesOk (req 0 p) = true ∧ inRange (fcRepeats (req 0 p)) 1 8 = true ∧ lit0.lamp = Lamp.lit ∧
      fcStore (req 0 p) = false ∧ lit0.longRunning < 8) ∧
    (∀ p, p = by_ [1, 0, 0, 0, 0, 0, 1, 0, 0, 0x80, 0, 0] → RunsQ 0x2C (req 0 p) open0 ∧ fcMode (req 0 p) = 1 ∧
      p.length = (8 + 2 * fcCount (req 0 p) + 3) / 4 * 4 ∧ open0.unlocked 0 = true ∧ open0.drv.cal = none ∧
      fcTilesOk (req 0 p) = true ∧ fcRepeats (req 0 p) = 0 ∧
      (∀ i < fcCount (req 0 p), inRange (fcFactor (req 0 p) i) 0x4000 0xC000 = true) ∧ logRoom open0 1 = true ∧
      open0.sdActive = false ∧ open0.longRunning < 8) ∧
    (∀ s : State, s = { lit0 with drv.cal := some (cal0 false), drv.tileBad := true,
                                  drv.calMeas := (List.range 256).map (fun i => (i, 0x8000)) } →
      s.drv.cal = some (cal0 false) ∧ (cal0 false).done < (cal0 false).count ∧
      ((s.drv.calMeas.filter (fun e => !s.dia.map.contains e.1)).foldl (fun l e => setInsert e.1 l) []).length = 256 ∧
      (electrical (s.nFactOf 0) 256 ((s.drv.calMeas.filter (fun e => !s.dia.map.contains e.1)).map Prod.snd)).isSome = true) ∧
    ({ lit0 with drv.cal := some (cal0 false) } : State).drv.calMeas = [] ∧
    (∀ s : State, s = { open0 with drv.cal := some (cal0 true), cmd.jobs := [⟨7, 0x2C, req 0 [], true, 0, [], false⟩] } →
      s.drv.cal = some (cal0 true) ∧ (cal0 true).supplied = true ∧ calReq s (cal0 true) = some (req 0 [])) := by
  refine ⟨?_, ?_, ?_, by decide +kernel, ?_⟩
  · rintro p rfl
    unfold RunsQ Runs; decide +kernel
  · rintro p rfl
    unfold RunsQ Runs; decide +kernel
  all_goals
    rintro s rfl
    decide +kernel

/-- DIAG_MAP_READ of the last 4 bytes of the map and of the fault list; each DIAG_RUN. -/
theorem witness_DiagnosisCommandsAct :
    (∀ p, p = by_ [0, 0, 0, 0, 0xFC, 0xFF, 1, 0, 4, 0, 0, 0] → RunsQ 0x30 (req 0 p) run0 ∧ p.length = 12 ∧
      bitsOf (u8 p 0) 1 0 = 0 ∧ u32 p 4 % 4 = 0 ∧ u16 p 8 % 4 = 0 ∧ inRange (u16 p 8) 4 4064 = true ∧
      u32 p 4 + u16 p 8 = 131072 ∧ run0.dia.save = none) ∧
    (∀ p, p = by_ [3, 0, 0, 0, 0xFC, 0xFF, 0, 0, 4, 0, 0, 0] → RunsQ 0x30 (req 0 p) run0 ∧ bitsOf (u8 p 0) 1 0 = 3 ∧
      u32 p 4 % 4 = 0 ∧ u16 p 8 % 4 = 0 ∧ inRange (u16 p 8) 4 4064 = true ∧ u32 p 4 + u16 p 8 = 65536) ∧
    (bitsOf (u8 (by_ [1]) 0) 1 0 = 1 ∧ bitsOf (u8 (by_ [2]) 0) 1 0 = 2) ∧
    (∀ a < 6, RunsQ 0x31 (req 0 (by_ [a, 0, 0, 0])) open0 ∧ (by_ [a, 0, 0, 0]).length = 4 ∧ u8 (by_ [a, 0, 0, 0]) 0 = a) ∧
    (open0.unlocked 0 = true ∧ logRoom open0 1 = true ∧ open0.sdActive = false ∧ open0.longRunning < 8) := by
  refine ⟨?_, ?_, by decide +kernel, by unfold RunsQ Runs; decide +kernel, by decide +kernel⟩ <;>
  · rintro p rfl
    unfold RunsQ Runs; decide +kernel

/-- PIXEL_ISOLATE of the last pixel, with and without SAVE; DIAG_CLEAR of it and of all. -/
theorem witness_PixelsAreIsolatedAndCleared :
    (∀ v < 4, ∀ p, p = by_ [0xFF, 7, 0xFF, 1, 0xFF, 7, 0xFF, 1, v, 0, 0, 0] → p.length = 12 ∧ rectOk p = true ∧
      RunsQ 0x32 (req 0 p) open0 ∧ RunsQ 0x33 (req 0 p) open0 ∧ bitOf (u8 p 8) 0 = decide (v % 2 = 1) ∧
      bitOf (u8 p 8) 1 = decide (2 ≤ v)) ∧
    (open0.unlocked 0 = true ∧ open0.sdActive = false ∧ open0.longRunning < 8) ∧
    (∀ s : State, s = { open0 with dia.map := [1048575] } → s.dia.map.contains 1048575 = true) := by
  refine ⟨?_, by decide +kernel, ?_⟩
  · intro v hv p hp
    subst hp
    revert v
    unfold RunsQ Runs
    decide +kernel
  · rintro s rfl
    decide +kernel

/-- A part that tests the slice of pixel 0, whose word has the width `w`, with the bins of a failed tile table. -/
def dia0 (w : Nat) : State := { lit0 with dia.running := true, drv.front := [(0, BitVec.ofNat 16 w)], drv.tileBad := true }

/-- The same with a suspect at pixel 0, SHORT. -/
def susp0 : State := { dia0 2000 with dia.faults := [(0, ⟨0, 0, 1, 1, 0, 0, 0, 0, 0, 0⟩)], dia.nextOrd := 1 }

/-- The judgement with and without a suspect; DARK_TEST of a width at and below 4,087, decided or left to the lit test; each test a
second time in a frame, and after the other has decided; LIT_TEST, with a tile of a FLUX_CAL in progress. -/
theorem witness_PixelTestsJudge :
    (suspectOf susp0 0 none = some (0, ⟨0, 0, 1, 1, 0, 0, 0, 0, 0, 0⟩) ∧ (1 : Nat) ≠ resPass ∧ (1 : Nat) ≠ resDrift) ∧
    (suspectOf (dia0 2000) 0 none = none ∧ entryPos (dia0 2000).dia.faults = some 0) ∧
    (tests (dia0 4087) (pixIdx 0 0) = true ∧ 4087 ≤ pwWidth ((dia0 4087).frontWord 0)) ∧
    (tests (dia0 2000) (pixIdx 0 0) = true ∧ pwWidth ((dia0 2000).frontWord 0) < 4087 ∧
      darkResult (dia0 2000) 0 0 2450 = resPass ∧ wMin (dia0 2000).rate ≤ pwWidth ((dia0 2000).frontWord 0) ∧
      darkResult (dia0 2000) 0 1001 2450 = 4 ∧ 0 ∉ (dia0 2000).dia.darkDone ∧ 0 ∉ (dia0 2000).dia.deferred ∧
      0 ∉ (dia0 2000).dia.decided ∧ 0 ∉ (dia0 2000).dia.litDone ∧ kvGet (dia0 2000).dia.wait 0 = none) ∧
    (∀ s : State, s = { dia0 2000 with dia.darkDone := [0], dia.litDone := [0], dia.decided := [0] } →
      tests s (pixIdx 0 0) = true ∧ 0 ∈ s.dia.darkDone ∧ 0 ∈ s.dia.decided ∧ 0 ∈ s.dia.litDone) ∧
    (∀ s : State, s = { dia0 2000 with dia.decided := [0] } → tests s (pixIdx 0 0) = true ∧ 0 ∈ s.dia.decided ∧
      0 ∉ s.dia.darkDone ∧ 0 ∉ s.dia.deferred ∧ 0 ∉ s.dia.litDone) ∧
    (tests (dia0 2000) (pixIdx 0 0) = true ∧ (dia0 2000).drv.cal = none ∧ tileOf 0 = 0 ∧ (cal0 false).first + (cal0 false).done = 0 ∧
      (cal0 false).supplied = false) := by
  refine ⟨by decide +kernel, by decide +kernel, by decide +kernel, by decide +kernel, ?_, ?_, by decide +kernel⟩ <;>
  · rintro s rfl
    decide +kernel

/-- A segment over its threshold for the first time, the second period running, one that is isolated and one that passes; a second check in
a period, and one with the array off; a zone enabled and over its limit of
0; a save with no copy valid, with one and with both. -/
theorem witness_SegmentsZonesAndMapSaves :
    (∀ s : State, s = { lit0 with dia.segPrev := [(1, 77)], dia.isolated := [2] } →
      s.saf.switches = true ∧ s.dia.segDone = false ∧ (([(0, [9000000]), (1, [9000000]), (2, [9000000])] : List (Nat × List Nat)).map Prod.fst).Nodup ∧
      0 ∉ s.dia.isolated ∧ segFails s 0 [9000000] = true ∧ kvGet s.dia.segPrev 0 = none ∧
      1 ∉ s.dia.isolated ∧ segFails s 1 [9000000] = true ∧ kvGet s.dia.segPrev 1 = some 77 ∧ 2 ∈ s.dia.isolated ∧ isoFails s [9000000] = true ∧ segFails s 3 [0] = false) ∧
    ({ lit0 with dia.segDone := true } : State).dia.segDone = true ∧ run0.saf.switches = false ∧
    (∀ s : State, s = (run0.setB (F.DIA_CZ0_A_EN.at (8 * 7)) true) → s.fb (F.DIA_CZ0_A_EN.at (8 * 7)) = true ∧
      s.fb (F.DIA_CZ0_A_EN.at (8 * 0)) = false) ∧
    (∀ s : State, s = { run0 with dia.saveReq := some [], nvm.mapA.valid := false } → s.dia.saveReq = some [] ∧ s.dia.save = none ∧
      s.nvm.mapA.valid = false) ∧
    (∀ s : State, s = { run0 with dia.saveReq := some [4], nvm.mapB.valid := false } → s.dia.saveReq = some [4] ∧ s.dia.save = none ∧
      s.nvm.mapA.valid = true ∧ s.nvm.mapB.valid = false) ∧
    (run0.nvm.mapA.valid = true ∧ run0.nvm.mapB.valid = true) := by
  refine ⟨?_, rfl, by decide +kernel, ?_, ?_, ?_, by decide +kernel⟩ <;>
  · rintro s rfl
    decide +kernel

/-- X at the ends of the ranges; a pixel mapped, dark, under a ceiling of 0, and a lit one. -/
theorem witness_PixelWordsFollowTheDriveMap :
    (driveMap 4095 = (0, 4095, 1) ∧ driveMap 4096 = (1, 1024, 4) ∧ driveMap 262143 = (3, 4095, 64)) ∧
    (∀ k : DrvPass, k = ⟨0x8000, 0x8000, 2 ^ 37, [⟨0, 2047, 0, 511, 0⟩], 8, 4, 0, none⟩ → k.d = 0x8000 ∧ k.gp = 0x8000 ∧
      1 * k.c = 2 ^ 37 ∧ k.coldMin < 4096 ∧ ceilAt k.zones (pixX 5) = some 0) ∧
    (5 ∈ [5] ∧ 6 ∉ [5]) := by
  refine ⟨by decide +kernel, ?_, by decide +kernel⟩
  rintro k rfl
  decide +kernel

/-- The first row slot: with the fallback source driving, with the half composing, and with the image discarded. -/
theorem witness_RowSlotsComposeInOrder :
    (∀ s : State, s = ({ run0 with pwr.state := .active }.setB F.PWR_CLK_SEL false) →
      s.tck.running = true ∧ s.drv.rows < 512 ∧ s.drv.noSwap = false ∧ s.bistTests = false ∧
      s.drv.comp.rowCrc.length = s.drv.rows ∧ s.drv.comp.rowIn.length = s.drv.rows ∧
      (∀ u : State, u = { s with drv.rows := s.drv.rows + 1, tck.row := max s.tck.row s.drv.rows } → halfComposes u = true)) ∧
    (∀ s : State, s = ({ run0 with pwr.state := .active }.setB F.SAF_STATE_FB_SRC true) →
      ∀ u : State, u = { s with drv.rows := s.drv.rows + 1, tck.row := max s.tck.row s.drv.rows } → fallbackDrives u = true) ∧
    ({ run0 with drv.noSwap := true } : State).drv.noSwap = true := by
  refine ⟨?_, ?_, rfl⟩
  · rintro s rfl
    refine ⟨by decide +kernel, by decide +kernel, by decide +kernel, by decide +kernel, by decide +kernel, by decide +kernel, ?_⟩
    rintro u rfl
    decide +kernel
  · rintro s rfl u rfl
    decide +kernel

/-- The image of a part with all its rows: written, and composed, with and without an item of this tick. -/
def img0 (items : Bool) : State := { run0 with
  drv.rows := 512, drv.comp.rowCrc := List.replicate 512 0, drv.comp.rowIn := List.replicate 512 0, tck.itemsApplied := items }

/-- IMAGE_WRITE_DONE of a whole image, equal to the one before or not, with and without a clamp fault. -/
theorem witness_TheEndOfAnImageIsSigned :
    ((img0 false).tck.running = true ∧ (img0 false).drv.rows = 512 ∧ (img0 false).tck.row < 512 ∧
      (img0 false).drv.comp.rowCrc.length = 512 ∧ (img0 false).drv.comp.rowIn.length = 512 ∧ (img0 false).saf.viol = none ∧
      (img0 false).tck.itemsApplied = false ∧ (img0 false).drv.comp.rowIn ≠ (img0 false).drv.prevIn) ∧
    ((img0 true).tck.itemsApplied = true) ∧
    (∀ s : State, s = { img0 false with drv.prevIn := List.replicate 512 0 } → s.drv.comp.rowIn = s.drv.prevIn) := by
  refine ⟨by decide +kernel, rfl, ?_⟩
  rintro s rfl
  rfl

/-- A part with the flux loop enabled and two photodiodes whose factory reading is 1,000. -/
def flux0 : State :=
  ((run0.setB F.DRV_FLUX_CTRL_EN true).setF (F.DRV_PD0_REF.at (4 * 0)) 1000).setF (F.DRV_PD0_REF.at (4 * 1)) 1000

/-- PHOTODIODE_READ with two valid photodiodes, and with the loop disabled; a reference refresh due and not due. -/
theorem witness_FluxAndReferenceFollowTheirLoops :
    (flux0.tck.running = true ∧ flux0.fb F.DRV_FLUX_CTRL_EN = true ∧
      pdValid (photodiodeRead [(0, 1000), (100, 1100), (0, 0), (0, 0)] flux0) = [0, 1]) ∧
    (run0.setB F.DRV_FLUX_CTRL_EN false).fb F.DRV_FLUX_CTRL_EN = false ∧
    (∀ s : State, s = { run0 with drv.sinceRefresh := 16 } → s.f F.DRV_REFRESH_INTERVAL ≤ s.drv.sinceRefresh) ∧
    (∀ s : State, s = { run0 with drv.sinceRefresh := 0 } → s.drv.sinceRefresh < s.f F.DRV_REFRESH_INTERVAL) := by
  refine ⟨by decide +kernel, by decide +kernel, ?_, ?_⟩ <;>
  · rintro s rfl
    decide +kernel

/-- FALLBACK_CRC_CHECK while the tick runs. -/
theorem witness_FallbackCopyAndToneMapAreChecked : run0.tck.running = true := rfl

/-- A whole image stands in the back words. -/
def swap0 : State := { run0 with drv.begun := true, drv.written := true }

/-- TICK while the tick runs, with and without an image to swap in, and as the first of a boot; with a set that is applied. -/
theorem witness_TheTickSwapsAndApplies :
    (run0.off = false ∧ run0.pwr.state ≠ .idle ∧ run0.tck.running = true ∧ swapOk run0 = false ∧
      (run0.tck.started && herdSampleDue run0) = false) ∧
    swapOk swap0 = true ∧
    (∀ s : State, s = { State.reset with sys.phase := .boot } → s.off = false ∧ s.pwr.state ≠ .idle ∧ s.sys.phase = .boot ∧
      s.nvm.test = none) := by
  refine ⟨by decide +kernel, by decide +kernel, ?_⟩
  rintro s rfl
  decide +kernel

/-- The tick of a part that runs, with a correction for the next tick and a number for it, and the first of a boot. -/
theorem witness_TickInstantsAndNumbers :
    (run0.tck.started = true ∧ ((0 : Nat) : Rat) ≤ ({ run0 with time := 0 } : State).nextExact + (tickCorr run0 : Rat) ∧
      run0.tck.planned = none ∧ run0.tck.corr = none ∧ run0.tck.pull = 0 ∧ run0.tck.setFrame = none) ∧
    ({ run0 with tck.corr := some (1, 5), tck.setFrame := some ⟨1, 9, 0, false⟩ } : State).tck.corr = some (1, 5) ∧
    (State.reset.tck.started = false ∧ State.reset.tck.setFrame = none ∧ (State.reset.time : Rat) ≤ firstTick State.reset ∧
      (State.reset.setF F.SYS_BOOT_QUICK_WHY 0).f F.SYS_BOOT_QUICK_WHY = 0 ∧
      (State.reset.setF F.SYS_BOOT_QUICK_WHY 1).f F.SYS_BOOT_QUICK_WHY ≠ 0) := by
  refine ⟨by decide +kernel, rfl, by decide +kernel⟩

/-- A part that runs, with a change of V0. -/
def v0 (l : VLayer → VLayer) : State := { run0 with lyr.v := vset run0.lyr.v 0 (l (run0.vLayer 0)) }

/-- A layer at its limit of misses, one at the end of its fade; the sample with and without a HERD at the tick. -/
theorem witness_LayersFadeAndObjectsAreSampled :
    (∀ s : State, s = v0 (fun l => { l with waiting := true, fade := none, misses := 65535 }) → (s.vLayer 0).waiting = true ∧
      (s.vLayer 0).fade = none ∧ max 1 ((s.vLayer 0).a 0 F.LYR_V0_CTRL_MISS_LIMIT) ≤ (s.vLayer 0).misses) ∧
    (∀ s : State, s = v0 (fun l => { l with fade := some 4 }) → (s.vLayer 0).fade = some 4 ∧ (s.vLayer 1).fade ≠ some 4) ∧
    (∀ n < 2, (run0.vLayer n).fade ≠ some 4) ∧
    (∀ u : State, u = { run0 with tck.row := max run0.tck.row run0.cutoff, tck.cut := some (cutSet run0) } → run0.tck.running = true ∧
      herdSampleDue u = false ∧ run0.executes = true) ∧
    (∀ s : State, s = { run0 with tck.herd := some ⟨0, run0.tickNo 1, 0, false, false⟩ } → ∀ u : State,
      u = { s with tck.row := max s.tck.row s.cutoff, tck.cut := some (cutSet s) } → s.tck.running = true ∧ herdSampleDue u = true) ∧
    ({ run0 with hlv.active := false } : State).executes = false := by
  refine ⟨?_, ?_, by decide +kernel, ?_, ?_, by decide +kernel⟩
  · rintro s rfl
    decide +kernel
  · rintro s rfl
    decide +kernel
  · rintro u rfl
    decide +kernel
  · rintro s rfl u rfl
    decide +kernel

/-- TICK_IN is the source of a part that runs. -/
def tickIn0 : State := { run0.setB F.PWR_CLK_SEL false with
  tck.act.regs := [(F.TCK_CTRL_SRC.addr, withField 0 F.TCK_CTRL_SRC.hi F.TCK_CTRL_SRC.lo 1)] }

/-- The first edge; an edge a period of 60 Hz behind another, the fourth of its run or with the lock; one out of range. -/
theorem witness_TickInLocksAndHoldsOver :
    (tickIn0.onFrc = false ∧ tickIn0.a F.TCK_CTRL_SRC = 1 ∧ tickIn0.tck.running = true ∧ tickIn0.tck.tickInEdge = none) ∧
    inLockRange tickIn0 (tickIn0.time - 3333334) = true ∧ inLockRange tickIn0 (tickIn0.time - 3000000) = false ∧
    (∀ s : State, s = { tickIn0 with tck.tickInRun := 3, tck.tickInEdge := some 3333334, tck.tickTime := 3333337 } →
      3 ≤ s.tck.tickInRun ∧ inRange s.tck.tickTime (3333334 + 3) (3333334 + 5) = true ∧ s.tck.tickInEdge = some 3333334) ∧
    (tickIn0.setB F.TCK_STATUS_LOCKED true).fb F.TCK_STATUS_LOCKED = true ∧ tickIn0.fb F.TCK_STATUS_LOCKED = false := by
  refine ⟨by decide +kernel, by decide +kernel, by decide +kernel, ?_, by decide +kernel, by decide +kernel⟩
  rintro s rfl
  decide +kernel

/-- A part at a lamp state. -/
def lamp0 (l : Nat) : State := open0.setF F.SAF_STATE_LAMP l

/-- A part in a fade of each kind. -/
def fade0 (k : FadeKind) : State := { lit0.setF F.SAF_STATE_LAMP Lamp.fading with
  saf.fade := some ⟨k, 5000000, 100000, 5100000, 4000, 1000, false⟩ }

/-- SAFE_STOP of each class, in each state of the lamp, with the fallback copy valid and not. -/
theorem witness_SafeStopActsAtOnce :
    (∀ c ≤ 2, (by_ [c, 0, 0, 0]).length = 4 ∧ u8 (by_ [c, 0, 0, 0]) 0 = c) ∧
    (lit0.off = false ∧ lit0.lamp = Lamp.lit ∧ (lit0.setB F.SAF_FB_VALID false).fb F.SAF_FB_VALID = false ∧
      (lit0.setB F.SAF_FB_VALID true).fb F.SAF_FB_VALID = true ∧ (lamp0 Lamp.safeHold).lamp = Lamp.safeHold ∧
      (lamp0 Lamp.stopped).lamp = Lamp.stopped ∧ (lamp0 Lamp.dark).lamp = Lamp.dark) ∧
    ((fade0 .class1).lamp = Lamp.fading ∧ fadeClass (fade0 .class1) = 1 ∧ fadeClass (fade0 .class2) ≠ 1) ∧
    (∀ u, u = accept 0 0x40 (req 0 (by_ [2, 0, 0, 0])) (lit0.setB F.SAF_FB_VALID true) →
      u.lamp = Lamp.lit ∧ u.fb F.SAF_FB_VALID = true) ∧
    (∀ u, u = accept 0 0x40 (req 0 (by_ [1, 0, 0, 0])) (fade0 .class2) → u.lamp = Lamp.fading ∧ fadeClass u ≠ 1) := by
  refine ⟨by decide +kernel, by decide +kernel, by decide +kernel, ?_, ?_⟩ <;>
  · rintro u rfl
    decide +kernel

/-- SAFE_RESTART out of STOPPED with and without AUTO_FALLBACK, and blocked; ENABLE and switch-off in the states of the lamp. -/
theorem witness_LampCommandsAct :
    (RunsQ 0x41 (req 0 []) (lamp0 Lamp.stopped) ∧ (lamp0 Lamp.stopped).lamp = Lamp.stopped ∧
      (lamp0 Lamp.stopped).pinsReleased = true ∧ blockingSource (lamp0 Lamp.stopped) 1 = none ∧
      autoFallback ((lamp0 Lamp.stopped).setB F.SAF_LIMITS_AUTO_FALLBACK true) = true ∧
      autoFallback ((lamp0 Lamp.stopped).setB F.SAF_LIMITS_AUTO_FALLBACK false) = false) ∧
    ((lamp0 Lamp.dark).lamp ≠ Lamp.stopped) ∧
    (∀ s : State, s = { lamp0 Lamp.stopped with saf.pinA := false } → s.lamp = Lamp.stopped ∧ s.pinsReleased = false) ∧
    (∀ s : State, s = { lamp0 Lamp.stopped with saf.active := [Src.envelope] } → s.pinsReleased = true ∧
      blockingSource s 1 = some Src.envelope) ∧
    (∀ l ∈ [Lamp.dark, Lamp.safeHold, Lamp.lit, Lamp.stopped, Lamp.fading], ∀ p, p = by_ [1, 0, 0, 0] →
      ∀ u, u = accept 0 0x46 (req 0 p) (lamp0 l) → u.mustWait 0x46 (req 0 p) = false ∧ enableAhead u = false ∧ p.length = 4 ∧
        bitOf (u8 p 0) 0 = true ∧ u.lamp = l ∧ (l = Lamp.dark ∨ l = Lamp.safeHold → enableBlocker u = none)) ∧
    (∀ u, u = accept 0 0x46 (req 0 (by_ [1, 0, 0, 0])) ((lamp0 Lamp.dark).setB F.SAF_STATE_LATCHED true) →
      u.lamp = Lamp.dark ∧ enableBlocker u = some 0xFE) ∧
    (∀ u, u = accept 0 0x46 (req 0 (by_ [1, 0, 0, 0])) { run0 with pwr.service := true, pwr.state := .idle } →
      enableAhead u = true) ∧
    (RunsQ 0x46 (req 0 (zeros 4)) (lamp0 Lamp.lit) ∧ bitOf (u8 (zeros 4) 0) 0 = false) := by
  refine ⟨by unfold RunsQ Runs; decide +kernel, by decide +kernel, ?_, ?_, ?_, ?_, ?_, by unfold RunsQ Runs; decide +kernel⟩
  · rintro s rfl; decide +kernel
  · rintro s rfl; decide +kernel
  · rintro l hl p rfl u rfl
    revert l
    decide +kernel
  · rintro u rfl; decide +kernel
  · rintro u rfl; decide +kernel

/-- The unlock with the password, with a wrong one, locked out; the lock at once and behind a store; a SAFE_WRITE of one stored
word and of a password; a run of the log. -/
theorem witness_TheSafetyConfigurationIsGuarded :
    (RunsQ 0x42 (req 0 (zeros 8)) run0 ∧ (zeros 8).length = 8 ∧ zeros 8 = run0.saf.password ∧ run0.fb F.SAF_LOCK_LOCKOUT = false ∧
      by_ [1, 2, 3, 4, 5, 6, 7, 8] ≠ run0.saf.password ∧ run0.f F.SAF_LOCK_FAILS ≤ 4 ∧
      (run0.setB F.SAF_LOCK_LOCKOUT true).fb F.SAF_LOCK_LOCKOUT = true) ∧
    (RunsQ 0x43 (req 0 []) open0 ∧ storing open0 = false) ∧
    (∀ s : State, s = { open0 with nvm.ops := [⟨.append [[]], none, false⟩] } → storing s = true) ∧
    (open0.fb F.SAF_LOCK_UNLOCKED = true ∧ run0.fb F.SAF_LOCK_UNLOCKED = false) ∧
    (∀ p, p = by_ [1, 0, 0, 0] ++ bytesLE 4 F.SAF_FADE_T1.addr ++ bytesLE 4 (open0.reg F.SAF_FADE_T1.addr).toNat →
      RunsQ 0x44 (req 0 p) open0 ∧ p.length = 4 + 8 * bitsOf (u8 p 0) 5 0 ∧ open0.unlocked 0 = true ∧
      swAddrsOk (swEntries p) = true ∧ swEntries p ≠ [] ∧ swValuesOk open0 0 (swEntries p) = true ∧
      logRoom open0 (swItems (startCommand 0x44 false (req 0 p) open0) (swEntries p)).length = true ∧ open0.sdActive = false ∧ open0.longRunning < 8 ∧
      (swEntries p).any (fun e => decide (0xF000 ≤ e.1) || isStored e.1) = true) ∧
    (∀ p, p = by_ [0, 0, 127, 0] → RunsQ 0x45 (req 0 p) run0 ∧ p.length = 4 ∧ u16 p 0 ≤ 255 ∧ inRange (u8 p 2) 1 127 = true) := by
  refine ⟨by unfold RunsQ Runs; decide +kernel, by unfold RunsQ Runs; decide +kernel, ?_, by decide +kernel, ?_, ?_⟩
  · rintro s rfl; decide +kernel
  · rintro s rfl; unfold RunsQ Runs; decide +kernel
  · rintro s rfl; unfold RunsQ Runs; decide +kernel

/-- Each fault source, with its mapped class of 0 or as a hardware one, with light on. -/
theorem witness_FaultSourcesAskForStops :
    (lit0.off = false ∧ (true || false) = true ∧ classOf (lit0.setReg 0x8014 0) Src.pinStop = 0 ∧
      classOf (lit0.setReg 0x8014 0) Src.pinDisc = 0 ∧ classOf (lit0.setReg 0x8014 0) Src.mloss = 0 ∧ lit0.lamp = Lamp.lit ∧
      lit0.saf.pinA = lit0.saf.pinB) ∧
    (∀ s : State, s = { lit0 with saf.pinA := false } → s.off = false ∧ s.saf.pinA ≠ s.saf.pinB) ∧
    ((lit0.setB F.CMD_STATUS_MLOSS_RUN false).fb F.CMD_STATUS_MLOSS_RUN = false ∧
      (lit0.setB F.CMD_STATUS_MLOSS_RUN true).fb F.CMD_STATUS_MLOSS_RUN = true) ∧
    (lit0.pwr.state ≠ .sleep ∧ lit0.pwr.ovActive = false) ∧
    (∀ s : State, s = { lit0 with pwr.ovActive := true } → s.pwr.ovActive = true) := by
  refine ⟨by decide +kernel, ?_, by decide +kernel, by decide +kernel, ?_⟩ <;>
  · rintro s rfl
    decide +kernel

/-- VLED_EN high; the warning armed and not active. -/
theorem witness_TheUndervoltageWarningHasHysteresis :
    (lit0.fb F.SAF_STATE_VLED_EN = true ∧ 10 * lit0.f F.PWR_VLED_CFG_UV + 50 < 5000 ∧ lit0.pwr.uvArmed = false) ∧
    (∀ s : State, s = { lit0 with pwr.uvArmed := true } → s.pwr.uvArmed = true ∧ s.pwr.uvActive = false ∧
      (0 : Nat) < 10 * s.f F.PWR_VLED_CFG_UV) ∧
    (∀ s : State, s = { lit0 with saf.awaitArm := true } → s.fb F.SAF_STATE_VLED_EN = true ∧ s.saf.awaitArm = true ∧
      s.pwr.uvArmed = false ∧ s.pwr.noRise = false) ∧ lit0.saf.awaitArm = false := by
  refine ⟨by decide +kernel, ?_, ?_, by decide +kernel⟩ <;>
  · rintro s rfl
    decide +kernel

/-- A fade of each kind; a measured current above its envelope and one of 0; SAFE_HOLD. -/
theorem witness_FadesFollowTheirEnvelope :
    (∀ k : FadeKind, (fade0 k).saf.fade = some ⟨k, 5000000, 100000, 5100000, 4000, 1000, false⟩) ∧
    (run0.saf.fade = none ∧ run0.drv.shown.f ≠ 0 ∧ ({ run0 with drv.shown.f := 0 } : State).drv.shown.f = 0) ∧
    (∀ f : Fade, f = ⟨.class1, 5000000, 100000, 5100000, 4000, 1000, false⟩ →
      f.env 5000000 * (100 + (fade0 .class1).f F.SAF_ENV_TOL) + 100 * (fade0 .class1).f F.SAF_ENV_OFS < 60000 * 100 ∧
      (fade0 .class1).lamp = Lamp.fading) ∧
    (lamp0 Lamp.safeHold).lamp = Lamp.safeHold := by
  refine ⟨fun _ => rfl, by decide +kernel, ?_, by decide +kernel⟩
  rintro f rfl
  decide +kernel

/-- A part in HOLD, in IDLE, and one whose tick has just come, with an entry asked for in the frame before. -/
def hold0 : State := { run0 with pwr.state := .hold }
def idle0 : State := { run0 with pwr.state := .idle }
def asked : EntryReq := ⟨.command, run0.tck.frame + 1, false⟩

/-- PWR_STATE to each state with no refuser and with one; CLK_SWITCH to the source in force and to the other. -/
theorem witness_PowerCommandsAct :
    (∀ k < 4, RunsQ 0x48 (req 0 (by_ [k, 0, 0, 0])) run0 ∧ (by_ [k, 0, 0, 0]).length = 4 ∧ u8 (by_ [k, 0, 0, 0]) 0 = k ∧
      bitOf (u8 (by_ [k, 0, 0, 0]) 1) 0 = false) ∧
    (RunsQ 0x48 (reqAll 0 (by_ [2, 1, 0, 0])) run0 ∧ bitOf (u8 (by_ [2, 1, 0, 0]) 1) 0 = true) ∧
    (∀ s rq, rq = req 0 (by_ [2, 0, 0, 0]) → s = gives 0x48 rq run0 → ∀ u : State,
      u = leaveHold { startCommand 0x48 true rq s with pwr.holdCmd := s.pwr.state == .hold } → Runs 0x48 rq s ∧
      s.pwr.state ≠ .hold ∧ refusing (startCommand 0x48 true rq s) 1 = 0 ∧ refusing u 2 = 0 ∧ refusing u 3 = 0 ∧ s.longRunning < 8) ∧
    (RunsQ 0x48 (req 0 (by_ [1, 0, 0, 0])) hold0 ∧ hold0.pwr.state = .hold) ∧
    (∀ s rq, rq = req 0 (by_ [1, 0, 0, 0]) → s = gives 0x48 rq (fade0 .switchOff) → ∀ u : State,
      u = leaveHold { startCommand 0x48 true rq s with pwr.holdCmd := s.pwr.state == .hold } → Runs 0x48 rq s ∧
      s.pwr.state ≠ .hold ∧ refusing (startCommand 0x48 true rq s) 1 ≠ 0 ∧ refusing u 2 ≠ 0 ∧ refusing u 3 ≠ 0) ∧
    (∀ k < 2, RunsQ 0x49 (req 0 (by_ [k, 0, 0, 0])) run0 ∧ u8 (by_ [k, 0, 0, 0]) 0 = k ∧
      (run0.setF F.PWR_CLK_SEL k).f F.PWR_CLK_SEL = k) ∧
    (run0.pwr.clk = none ∧ (run0.setB F.PWR_CLK_XTAL_OK true).fb F.PWR_CLK_XTAL_OK = true ∧
      (run0.setB F.PWR_CLK_XTAL_OK false).fb F.PWR_CLK_XTAL_OK = false ∧ run0.lamp ≠ Lamp.lit ∧ run0.lamp ≠ Lamp.fading) := by
  refine ⟨by unfold RunsQ Runs; decide +kernel, by unfold RunsQ Runs; decide +kernel, ?_, by unfold RunsQ Runs; decide +kernel, ?_,
    by unfold RunsQ Runs; decide +kernel, by decide +kernel⟩
  · rintro s rq rfl rfl u rfl
    unfold Runs; decide +kernel
  · rintro s rq rfl rfl u rfl
    unfold Runs; decide +kernel

/-- The timer of HOLD due; the entry of HOLD by a command and of IDLE; the ends of HOLD and IDLE; the timers of IDLE and SLEEP; each
stage of the entry of SLEEP; the Rooster; a part asleep. -/
theorem witness_PowerStatesAreEnteredAndLeft :
    (∀ s : State, s = { run0.setF F.PWR_TMR_A_HOLD_N 2 with pwr.unchanged := 2 } → s.pwr.state = .active ∧ s.tck.running = true ∧
      s.pwr.holdReq = none ∧ holdDue s = true) ∧
    (∀ s : State, s = { run0 with pwr.holdReq := some asked } → s.pwr.holdReq = some asked ∧ s.pwr.state = .active ∧
      atTickAfter s asked.frame = true ∧ asked.by_ ≠ .timer ∧ refusing s 1 = 0) ∧
    (∀ s : State, s = { hold0 with pwr.holdExit := some (run0.tck.frame + 1) } → s.pwr.state = .hold ∧
      atTickAfter s (run0.tck.frame + 1) = true) ∧
    (run0.f F.PWR_TMR_A_IDLE_T ≠ 0 ∧ run0.pwr.state = .active ∧ run0.elapsedRuns = true ∧ run0.pwr.idleReq = none ∧
      run0.off = false ∧ run0.sys.phase = .run) ∧
    (∀ s : State, s = { run0 with pwr.idleReq := some asked } → s.pwr.idleReq = some asked ∧ atTickAfter s asked.frame = true ∧
      refusing s 2 = 0) ∧
    (∀ s : State, s = { idle0 with pwr.idleExit := true } → s.pwr.state = .idle ∧ s.pwr.idleExit = true) ∧
    (idle0.f F.PWR_TMR_B_SLEEP_T ≠ 0 ∧ idle0.pwr.sleepReq = none ∧ idle0.pwr.idleExit = false) ∧
    (∀ k, ∀ s : State, s = { idle0 with pwr.sleepReq := some asked, pwr.sleepStage := k } → s.pwr.sleepReq = some asked ∧
      s.pwr.state = .idle ∧ s.pwr.idleExit = false ∧ s.pwr.sleepStage = k ∧ s.nvm.test = none ∧ s.nvm.ops = [] ∧
      s.pwr.tested = false) ∧
    (∀ s : State, s = { idle0 with pwr.sleepReq := some asked, pwr.sleepStage := 0 } → refusing s 3 = 0) ∧
    (∀ s : State, s = idle0.setB F.PWR_ROOSTER_EN true → s.pwr.state = .idle ∧ s.sys.phase ≠ .inReset ∧ s.pwr.roosterOut = false ∧
      roosterLevel s 3000 = true ∧ s.fb F.PWR_ROOSTER_EN = true) ∧
    (∀ s : State, s = { run0 with pwr.state := .sleep } → s.pwr.state = .sleep) := by
  refine ⟨?_, ?_, ?_, by decide +kernel, ?_, ?_, by decide +kernel, ?_, ?_, ?_, ?_⟩
  case refine_6 =>
    rintro k s rfl
    exact ⟨rfl, rfl, rfl, rfl, rfl, rfl, rfl⟩
  all_goals
    rintro s rfl
    decide +kernel

/-- The PLL in force; a switch toward it under way; a lamp minute lit, the sixth and another; a dip, and its end with an operation
of the eNVM running. -/
theorem witness_ClocksAndSuppliesAreWatched :
    (∀ s : State, s = lit0.setB F.PWR_CLK_SEL false → s.off = false ∧ s.onFrc = false ∧ s.pwr.state ≠ .idle ∧ (s.minutes + 1) % 6 ≠ 0 ∧ s.lamp = Lamp.lit) ∧
    (∀ s : State, s = { run0 with pwr.clk := some ⟨true, 0, false⟩ } → s.pwr.clk = some ⟨true, 0, false⟩) ∧ run0.pwr.clk = none ∧
    (∀ s : State, s = lit0.setF F.PWR_HOURS_MINUTES 5 → (s.minutes + 1) % 6 = 0) ∧
    (run0.pwr.dip = none ∧ ResetKind.por ∉ run0.sys.causes ∧ ResetKind.bor ∉ run0.sys.causes ∧ run0.nvm.suspended = none) ∧
    (∀ s : State, s = { run0 with nvm.started := true, pwr.dip := some (0, 1600) } → s.nvm.started = true ∧
      s.pwr.dip = some (0, 1600) ∧ s.off = false ∧ s.nvm.test = none) := by
  refine ⟨?_, ?_, by decide +kernel, ?_, by decide +kernel, ?_⟩ <;>
  · rintro s rfl
    decide +kernel

/-- A CHK_RUN of 4 payload bytes on engine 0, and of 65,537 bytes of the image store; a piece, and a last one; a FREE buffer, and an
engine that runs; each CHK_CTX. -/
theorem witness_CheckEnginesFeedTheirBytes :
    (∀ p, p = by_ [0x10, 3, 0, 0, 0, 0, 0, 0, 4, 0, 0, 0, 0, 0, 0, 0, 1, 2, 3, 4] → RunsQ 0x58 (req 0 p) run0 ∧ u8 p 0 % 4 = 0 ∧
      chkLenOk p = true ∧ (chkEng run0 0).run = none ∧ u8 p 1 % 4 = 3 ∧ bitOf (u8 p 0) 4 = true ∧
      chkSource run0 3 (u8 p 2 % 64) (u32 p 4) (u32 p 8) = .ok (0, 4) ∧ chkLong 3 (u32 p 4) (u32 p 8) = false) ∧
    (∀ p, p = by_ [3, 0, 0, 0, 0, 0, 0, 0, 1, 0, 1, 0, 0, 0, 0, 0] → RunsQ 0x58 (req 0 p) run0 ∧ u8 p 0 % 4 = 3 ∧
      chkLenOk p = true ∧ (chkEng run0 3).run = none ∧ u8 p 1 % 4 = 0 ∧ chkSource run0 0 0 (u32 p 4) (u32 p 8) = .ok (0, 65537) ∧
      chkLong 0 (u32 p 4) (u32 p 8) = true ∧ run0.longRunning < 8) ∧
    (∀ s : State, s = { run0 with chk := vset run0.chk 0 ⟨some ⟨0, 0, 65537, 0⟩, 0⟩ } → s.executes = true ∧ chkNext s = some 0 ∧
      (chkEng s 0).run = some ⟨0, 0, 65537, 0⟩ ∧ 0 + min 4096 (65537 - 0) < 65537) ∧
    (∀ s : State, s = { run0 with chk := vset run0.chk 0 ⟨some ⟨0, 0, 65537, 65536⟩, 0⟩ } → chkNext s = some 0 ∧
      (chkEng s 0).run = some ⟨0, 0, 65537, 65536⟩ ∧ 65536 + min 4096 (65537 - 65536) = 65537) ∧
    (∀ p, p = by_ [0, 1, 10, 0, 0, 0, 0, 0, 4, 0, 0, 0, 0, 0, 0, 0] → RunsQ 0x58 (req 0 p) bufs0 ∧ chkLenOk p = true ∧
      (chkEng bufs0 0).run = none ∧ bufs0.bufState 10 = 0 ∧ bufs0.bufLost 10 = false ∧
      (match chkSource bufs0 1 (u8 p 2 % 64) (u32 p 4) (u32 p 8) with | .error e => e == St.badParam | .ok _ => false) = true ∧
      (chkEng { bufs0 with chk := vset bufs0.chk 0 ⟨some ⟨0, 0, 65537, 0⟩, 0⟩ } 0).run ≠ none) ∧
    (∀ k < 3, RunsQ 0x59 (req 0 (by_ [0, k] ++ zeros 18)) run0 ∧ (by_ [0, k] ++ zeros 18).length = 20 ∧
      u8 (by_ [0, k] ++ zeros 18) 1 % 4 = k) := by
  refine ⟨?_, ?_, ?_, ?_, ?_, by unfold RunsQ Runs; decide +kernel⟩
  · rintro p rfl
    unfold RunsQ Runs
    refine ⟨by decide +kernel, by decide +kernel, by decide +kernel, by decide +kernel, by decide +kernel, by decide +kernel, rfl,
      by decide +kernel⟩
  · rintro p rfl
    unfold RunsQ Runs
    refine ⟨by decide +kernel, by decide +kernel, by decide +kernel, by decide +kernel, by decide +kernel, rfl, by decide +kernel,
      by decide +kernel⟩
  case refine_5 =>
    rintro p rfl
    unfold RunsQ Runs
    decide +kernel
  all_goals
    rintro s rfl
    decide +kernel

/-- SNAP_ARM with and without NOW; an edge on an armed unit and on another; a SNAP_READ with and without a snapshot. -/
theorem witness_SnapshotsAreArmedTakenAndRead :
    (∀ k < 16, RunsQ 0x50 (req 0 (by_ [1, 0, k, 1, 0xFF, 0, 0, 0])) run0 ∧ (by_ [1, 0, k, 1, 0xFF, 0, 0, 0]).length = 8 ∧
      bitOf (u8 (by_ [1, 0, k, 1, 0xFF, 0, 0, 0]) 2) 3 = decide (8 ≤ k)) ∧
    (State.reset.off = true ∧ run0.off = false ∧ bitOf ((run0.setF F.SNP_CTRL_TRIGGERS 1).f F.SNP_CTRL_TRIGGERS) 0 = true ∧ bitOf (run0.f F.SNP_CTRL_TRIGGERS) 0 = false) ∧
    (isReg 0x3000 = true ∧ inSnap 0x3000 = true) ∧
    (∀ p, p = by_ [0, 0x30, 0, 0, 0xF6, 3, 0, 0] → RunsQ 0x51 (req 0 p) run0 ∧ p.length = 8 ∧ u32 p 0 % 4 = 0 ∧ u16 p 4 = 1014 ∧
      run0.snp.store = none) ∧
    (∀ s : State, s = { run0 with snp.store := some ⟨1, 0, 0, 0, 0, 0, []⟩ } → s.snp.store = some ⟨1, 0, 0, 0, 0, 0, []⟩) := by
  refine ⟨by unfold RunsQ Runs; decide +kernel, by decide +kernel, by decide +kernel, ?_, ?_⟩
  · rintro p rfl
    unfold RunsQ Runs; decide +kernel
  · rintro s rfl
    rfl

/-- NVM_READ of the last bytes; BIST_RESULT of each record; NVM_WRITE behind the last page of the fallback region and into the log of
the user; NVM_ERASE; an active THERM_SD. -/
theorem witness_EnvmIsReadAndWritten :
    (∀ p, p = by_ [0xFC, 0xFF, 0x7F, 0, 4, 0, 0, 0] → RunsQ 0x60 (req 0 p) run0 ∧ p.length = 8 ∧ nvmReadWaits (req 0 p) run0 = false ∧
      u32 p 0 % 4 = 0 ∧ u16 p 4 % 4 = 0 ∧ inRange (u16 p 4) 4 4064 = true ∧ u32 p 0 + u16 p 4 = 0x800000) ∧
    (∀ k < 3, ∀ p, p = by_ [k, 0, 0, 0, 0xFC, 0x3F, 4, 0] → RunsQ 0x69 (req 0 p) run0 ∧ p.length = 8 ∧ u8 p 0 = k ∧ u16 p 4 % 4 = 0 ∧
      u16 p 6 % 4 = 0 ∧ inRange (u16 p 6) 4 4064 = true ∧ u16 p 4 + u16 p 6 = 16384) ∧
    (∀ p, p = by_ [0xFC, 0xFF, 0x4F, 0, 2, 0, 0, 0, 1, 2, 3, 4] → RunsQ 0x61 (req 0 p) run0 ∧ u32 p 0 % 4 = 0 ∧
      inRange p.length 8 4080 = true ∧ bitOf (u8 p 4) 0 = false ∧ writableRange (u32 p 0) (max 1 (p.length - 8)) = true ∧
      pagePieces 2 (u32 p 0) (p.drop 8) ≠ [] ∧ u32 p 0 < 0x500000 ∧ bitOf (u8 p 4) 1 = true) ∧
    (∀ p, p = by_ [0, 0, 0x30, 0, 1, 0, 0, 0] → RunsQ 0x61 (req 0 p) run0 ∧ p.length = 8 ∧ bitOf (u8 p 4) 0 = true ∧
      writableRange (u32 p 0) 1 = true ∧ u32 p 0 % 4 = 0) ∧
    (run0.sdActive = false ∧ run0.longRunning < 8 ∧ (run0.setB F.THM_STATUS_SD_ACT true).sdActive = true) ∧
    (∀ p, p = by_ [0xFC, 0xFF, 0x4F, 0, 0, 0, 0, 0, 1, 2, 3, 4, 5] → RunsQ 0x61 (req 0 p) run0 ∧ u32 p 0 % 4 = 0 ∧
      inRange p.length 8 4080 = true ∧ bitOf (u8 p 4) 0 = false ∧ writableRange (u32 p 0) (max 1 (p.length - 8)) = false) := by
  refine ⟨?_, ?_, ?_, ?_, by decide +kernel, ?_⟩
  case refine_2 =>
    intro k hk p hp
    subst hp
    revert k
    unfold RunsQ Runs
    decide +kernel
  all_goals
    rintro p rfl
    unfold RunsQ Runs; decide +kernel

/-- FW_STAGE with START on the idle slot, and on the boot slot; END with no page left; FW_ACTIVATE of each slot, valid or not. -/
theorem witness_FirmwareIsStagedAndActivated :
    (∀ p, p = by_ [1, 1, 0, 0, 0, 0, 0, 0, 9] → RunsQ 0x62 (req 0 p) run0 ∧ u8 p 0 = 1 ∧ run0.sdActive = false ∧
      inRange p.length 8 4080 = true ∧ bitOf (u8 p 1) 0 = true ∧ u32 p 4 = 0 ∧ (p.drop 8).length ≤ 524288 ∧
      slotIdle run0 1 = true ∧ run0.longRunning < 8 ∧ slotIdle run0 0 = false) ∧
    (∀ p, p = by_ [1, 2, 0, 0, 0, 0, 0, 0] → ∀ s : State, s = { run0 with nvm.slotB.staging := some 9 } → RunsQ 0x62 (req 0 p) s ∧
      inRange p.length 8 4080 = true ∧ bitOf (u8 p 1) 0 = false ∧ bitOf (u8 p 1) 1 = true ∧ slotIdle s 1 = true ∧
      (s.fwSlot 1).staging.isSome = true ∧ slotPending s 1 = false ∧ fwTouched (fwFill 0x80000 (p.drop 8) s.nvm.fwBuf) = []) ∧
    (∀ k < 2, RunsQ 0x63 (req 0 (by_ [k, 0, 0, 0])) run0 ∧ u8 (by_ [k, 0, 0, 0]) 0 = k ∧ (run0.fwSlot k).valid = true) ∧
    (bootSlot run0 = some 0 ∧ bootSlot run0 ≠ some 1) ∧
    (∀ s : State, s = { run0 with nvm.slotB.valid := false } → (s.fwSlot 1).valid = false) := by
  refine ⟨?_, ?_, by unfold RunsQ Runs; decide +kernel, by decide +kernel, ?_⟩
  · rintro p rfl
    unfold RunsQ Runs; decide +kernel
  · rintro p rfl s rfl
    unfold RunsQ Runs; decide +kernel
  · rintro s rfl
    rfl

/-- A part whose first eNVM operation runs. -/
def ops0 (k : NvmKind) (retry : Bool) : State := { run0 with nvm.ops := [⟨k, none, retry⟩], nvm.started := true }

/-- The end of an operation of each kind, failed once and twice; a resumption of a suspended operation, of none, and held by a dip; a reload of all, and of
nothing. -/
theorem witness_EnvmOperationsRunInOrder :
    (∀ k r, (ops0 k r).nvm.ops = ⟨k, none, r⟩ :: [] ∧ (ops0 k r).nvm.started = true ∧ (ops0 k r).nvm.suspended = none) ∧
    (∀ s : State, s = { run0 with nvm.suspended := some 0, nvm.resumeAt := some 9 } → s.nvm.resumeAt = some 9 ∧ nvmHeld s = false ∧
      s.nvm.suspended ≠ none ∧ s.nvm.test = none) ∧
    (∀ s : State, s = { run0 with nvm.resumeAt := some 9 } → nvmHeld s = false ∧ s.nvm.suspended = none) ∧
    (∀ s : State, s = { run0 with nvm.resumeAt := some 9, pwr.dip := some (0, 0) } → nvmHeld s = true) ∧ run0.nvm.resumeAt = none ∧
    (∀ s : State, s = { run0 with pwr.reload := 0x1F } → s.pwr.reload % 4 ≠ 0 ∧ bitsOf s.pwr.reload 3 2 ≠ 0 ∧
      bitOf s.pwr.reload 4 = true ∧ s.off = false ∧ (mapSource s).isSome = true) ∧
    run0.pwr.reload = 0 := by
  refine ⟨fun _ _ => ⟨rfl, rfl, rfl⟩, ?_, ?_, ?_, rfl, ?_, rfl⟩ <;>
  · rintro s rfl
    decide +kernel

/-- A self-test of type `type` and origin `origin` opened on a part. -/
def test0 (type stepsEnd origin step : Nat) : State :=
  { run0 with nvm.test := some (newRec run0 type stepsEnd origin), nvm.stepNow := step }

/-- BIST_RUN in DARK and with light; the end of the wait; SHUTDOWN with and without a refuser, with the map changed; the end of a
step in the run, and of the last one. -/
theorem witness_SelfTestsRunTheirSteps :
    (∀ k < 2, RunsQ 0x68 (req 0 (by_ [k, 0, 0, 0])) run0 ∧ (by_ [k, 0, 0, 0]).length = 4 ∧ u8 (by_ [k, 0, 0, 0]) 0 = k ∧
      RunsQ 0x68 (req 0 (by_ [k, 0, 0, 0])) lit0) ∧
    (run0.lamp = Lamp.dark ∧ run0.nvm.test = none ∧ run0.sdActive = false ∧ run0.longRunning < 8 ∧ lit0.lamp ≠ Lamp.dark ∧
      lit0.lamp ≠ Lamp.stopped) ∧
    ((newRec run0 0 16 2).origin = 2 ∧ (test0 0 16 2 0).nvm.stepNow = 0 ∧ (test0 0 16 2 0).nvm.testEnd = none) ∧
    (RunsQ 0x6A (req 0 (zeros 4)) run0 ∧
      refusing (startCommand 0x6A false (req 0 (zeros 4)) (gives 0x6A (req 0 (zeros 4)) run0)) 2 = 0 ∧
      RunsQ 0x6A (req 0 (zeros 4)) (fade0 .switchOff) ∧
      refusing (startCommand 0x6A false (req 0 (zeros 4)) (gives 0x6A (req 0 (zeros 4)) (fade0 .switchOff))) 2 ≠ 0 ∧ run0.dia.changed = false) ∧
    (∀ s : State, s = { run0 with dia.changed := true } → s.dia.changed = true ∧ s.dia.save = none) ∧
    ((test0 0 16 2 1).off = false ∧ (test0 0 16 2 1).testPaused = false ∧
      nextStep (newRec run0 0 16 2) 1 = some 2 ∧ (test0 0 16 2 1).nvm.testAbort = false) ∧
    ((newRec run0 1 4 1).origin ≤ 1 ∧ nextStep (newRec run0 1 4 1) 4 = none ∧ (test0 1 4 1 4).nvm.testEnd = none ∧
      (test0 1 4 1 4).nvm.stepNow ≠ 0 ∧ (test0 1 4 1 4).nvm.testAbort = false) := by
  refine ⟨by unfold RunsQ Runs; decide +kernel, by decide +kernel, by decide +kernel, by unfold RunsQ Runs; decide +kernel, ?_,
    by decide +kernel, by decide +kernel⟩
  rintro s rfl
  exact ⟨rfl, rfl⟩

/-- A part whose receiver is in a state of R306, with every lane at CDR lock and block lock, EFOM 200, and the map `map`. -/
def ring_ (st map : Nat) : State :=
  (laneNos.foldl (fun s n => (((s.setB (ofLane F.RNG_RX0_STAT_CDR_LOCK n) true).setB (ofLane F.RNG_RX0_STAT_BLOCK_LOCK n) true).setF
    (ofLane F.RNG_RX0_STAT_EFOM n) 200)) ((open0.setF F.RNG_STATUS_STATE st).setF F.RNG_STATUS_RX_MAP map)).setF
    F.RNG_STATUS_TX_MAP 15

/-- The same with its bypass open, transmitting, at address 2. -/
def ringUp (st map : Nat) : State :=
  (((((ring_ st map).setB F.RNG_STATUS_BYPASS false).setB F.RNG_STATUS_TX_ON true).setF F.RNG_ADDR_ADDR 2).setB F.RNG_ADDR_VALID true)

/-- A LANE_CTL with its action, lanes and arguments. -/
def lc (act m a b : Nat) : Req := req 0 (by_ [act, m, a, b, 5, 0, 0, 0])

/-- Each action of LANE_CTL with the conditions of its branches; a rate and a switching off of all lanes that wait. -/
theorem witness_LaneCommandsAct :
    (∀ a < 9, ∀ b < 4, RunsQ 0x70 (lc a 3 b 1) (ring_ 4 15) ∧ (lc a 3 b 1).payload.length = 8 ∧ u8 (lc a 3 b 1).payload 0 = a ∧
      u8 (lc a 3 b 1).payload 2 = b) ∧
    (∀ a b, ∀ q : Req, q = { lc a 3 b 1 with bcast := true } → RunsQ 0x70 q (ring_ 4 15) ∧ q.bcast = true) ∧
    (∀ q : Req, q = { lc 6 0 0 0 with port := .spi } → RunsQ 0x70 q (ring_ 4 15) ∧ q.port = .spi) ∧
    (∀ q : Req, q = { lc 7 0 3 65 with stream := 1 } → RunsQ 0x70 q (ring_ 2 15) ∧ q.stream = 1 ∧ inRange (u8 q.payload 3) 1 65 = true) ∧
    (∀ s : State, s = run0.setF F.RNG_CTRL_RATE 0 → s.rng.rate = s.f F.RNG_CTRL_RATE) ∧
    ((ring_ 4 15).f F.RNG_STATUS_RX_MAP &&& lanesOff (3 ||| (ring_ 4 15).rng.dropNext) ≠ 0 ∧
      (ring_ 4 15).f F.RNG_STATUS_RX_MAP &&& lanesOff (15 ||| (ring_ 4 15).rng.dropNext) = 0) ∧
    (addable 1 (ring_ 4 15) = 0 ∧ addable 1 ((ring_ 4 15).setB (ofLane F.RNG_RX0_STAT_DROPPED 0) true) ≠ 0 ∧
      (ring_ 4 15).f F.RNG_STATUS_STATE = 4) ∧
    ((ring_ 4 15).f F.RNG_STATUS_TX_MAP &&& lanesOff (15 ||| lpMask (ring_ 4 15) false) = 0 ∧
      (ring_ 4 15).f F.RNG_STATUS_TX_MAP &&& lanesOff (1 ||| lpMask (ring_ 4 15) false) ≠ 0) ∧
    ((ring_ 4 15).lamp = Lamp.dark ∧ (ring_ 4 15).f F.RNG_LOOP_KIND = 0 ∧ (ring_ 4 15).rng.loopAsk = none ∧
      lit0.lamp ≠ Lamp.dark ∧ lit0.lamp ≠ Lamp.stopped ∧ u16 (lc 6 0 1 0).payload 4 = 5) ∧
    (∀ s : State, s = (ring_ 2 15).setB F.RNG_CTRL_SLIP_MAN true → s.fb F.RNG_CTRL_SLIP_MAN = true ∧ s.f F.RNG_STATUS_STATE = 2) ∧
    (∀ s : State, s = { run0 with rng.rateNext := some 2, rng.l2Next := true } → s.rng.rateNext = some 2 ∧ s.rng.l2Next = true ∧
      s.off = false) := by
  refine ⟨by unfold RunsQ Runs; decide +kernel, ?_, ?_, ?_, ?_, by decide +kernel, by decide +kernel, by decide +kernel,
    by decide +kernel, ?_, ?_⟩
  · rintro a b q rfl
    exact ⟨runsQ_of _ _ _ (by decide) rfl (by decide +kernel) (by decide +kernel) (by decide +kernel) (by decide +kernel), rfl⟩
  · rintro q rfl
    exact ⟨runsQ_of _ _ _ (by decide) rfl (by decide +kernel) (by decide +kernel) (by decide +kernel) (by decide +kernel), rfl⟩
  · rintro q rfl
    exact ⟨runsQ_of _ _ _ (by decide) rfl (by decide +kernel) (by decide +kernel) (by decide +kernel) (by decide +kernel), rfl,
      by decide +kernel⟩
  all_goals
    rintro s rfl
    decide +kernel

/-- A good marker of map 15. -/
def marker0 : List Byte := markerBytes run0 15 0 0

/-- The receiver in each of its states, and asleep; a marker that is good; lanes that are left out. -/
theorem witness_ReceiversTrain :
    (run0.off = false ∧ run0.f F.RNG_STATUS_STATE = 0 ∧ run0.ringAsleep = false ∧ (run0.setF F.RNG_LPWR_TX 0xAA).ringAsleep = true) ∧
    ((ring_ 1 0).f F.RNG_STATUS_STATE = 1 ∧ (ring_ 4 15).f F.RNG_STATUS_STATE = 4) ∧
    (15 &&& run0.rng.laneEn ≠ 0 ∧ run0.rng.pll = true ∧ run0.rng.transitFor = none) ∧
    (1 &&& ({ run0 with rng.laneEn := 2 } : State).rng.laneEn = 0) ∧
    (laneBits (ring_ 1 0) F.RNG_RX0_STAT_CDR_LOCK = 15 ∧ 96 ≤ nth 0 [200, 31, 32, 95] 0) ∧
    ((ring_ 2 0).f F.RNG_STATUS_STATE = 2 ∧ efomAtLeast (ring_ 2 0) (15 &&& (laneBits (ring_ 2 0) F.RNG_RX0_STAT_CDR_LOCK &&&
      lanesOff (laneBits (ring_ 2 0) F.RNG_RX0_STAT_DROPPED &&& lanesOff (ring_ 2 0).rng.cmdDrop))) 96 ≠ 0) ∧
    ((ring_ 3 0).f F.RNG_STATUS_STATE = 3 ∧ markerOk marker0 = true ∧
      laneBits (ring_ 3 0) F.RNG_RX0_STAT_BLOCK_LOCK &&& usable (ring_ 3 0) ≠ 0) ∧
    (∀ s : State, s = { (ring_ 4 15).setB (ofLane F.RNG_RX0_STAT_DROPPED 1) true with rng.goodSince := [(1, 0)] } →
      s.f F.RNG_STATUS_STATE = 4 ∧ s.fb F.RNG_CTRL_AUTO_READD = true ∧ addable (2 ^ 1) s ≠ 0 ∧ bitOf s.rng.cmdDrop 1 = false ∧
      kvGet s.rng.goodSince 1 = some 0 ∧ addable (2 ^ 0) s = 0) ∧
    (∀ n < 4, n ≠ 0 → (run0.setF F.RNG_STATUS_STATE 4).fb (ofLane F.RNG_RX0_STAT_BLOCK_LOCK n) = false) := by
  refine ⟨by decide +kernel, by decide +kernel, by decide +kernel, by decide +kernel, by decide +kernel, by decide +kernel,
    by decide +kernel, ?_, by decide +kernel⟩
  rintro s rfl
  decide +kernel

/-- A LANE_NOTICE for this engine's transmitter. -/
def notice0 : List Byte := encodePkt 0 5 0 0x02 0 0 0 (bytesLE 2 (run0.f F.RNG_TXID_TXID) ++ by_ [0, 0, 3, 0, 0, 0])

/-- A good and a failed marker in RUN; a marker to send; notices for this transmitter and another; loops; silence. -/
theorem witness_MarkersCarryTheMap :
    (markerOk (zeros 7) = false ∧ markerOk marker0 = true) ∧
    ((ring_ 4 15).f F.RNG_STATUS_STATE = 4 ∧
      (∀ l ∈ List.replicate 4 (LaneIn.mk true true true 200 0), l.sig = true ∧ l.cdr = true ∧ l.lock = true ∧ 96 ≤ l.efom) ∧
      (ring_ 4 15).rng.dropNext = 0 ∧ (ring_ 4 15).rng.notice = none ∧ (ring_ 4 15).rng.addAsk = 0 ∧
      (ring_ 4 15).f F.RNG_STATUS_RX_MAP &&& lanesOff (mkLp marker0) ≠ 0 ∧ usable (ring_ 4 15) ≠ 0) ∧
    ((ringUp 4 15).rng.pll = true ∧ (ringUp 4 15).ringAsleep = false ∧ (ringUp 4 15).f F.RNG_STATUS_STATE ≠ 5 ∧
      (ringUp 4 15).rng.lpNext = [] ∧ (ringUp 4 15).fb F.RNG_STATUS_TX_ON = true ∧ (ring_ 4 15).fb F.RNG_STATUS_TX_ON = false ∧
      (ringUp 4 15).rng.txVer < 4 ∧ (ringUp 4 15).rng.rate < 4) ∧
    ((ringUp 4 15).ringRuns = true ∧ noticeForUs (ringUp 4 15) notice0 = true ∧ noticeForUs (ringUp 4 15) (zeros 24) = false) ∧
    (∀ s : State, s = { run0.setF F.RNG_LOOP_KIND 1 with rng.loopAsk := some (3, 5) } → s.rng.loopAsk = some (3, 5) ∧
      s.f F.RNG_LOOP_KIND ≠ 0 ∧ s.f F.RNG_LOOP_KIND ≤ 2) ∧
    (∀ s : State, s = { run0.setF F.RNG_LOOP_KIND 3 with rng.loopClosed := true } → s.f F.RNG_LOOP_KIND = 3 ∧ s.rng.loopClosed = true) ∧
    RunsQ 0x71 (req 0 []) run0 ∧
    (∀ s : State, s = { ringUp 0 0 with rng.lastBlock := some 0 } → s.off = false ∧ s.f F.RNG_STATUS_STATE ≠ 5 ∧
      s.fb F.RNG_STATUS_BYPASS = false ∧ s.rng.lastBlock = some 0 ∧ s.fb F.RNG_STATUS_SILENT = false) ∧
    (∀ s : State, s = { (ringUp 0 0).setB F.RNG_STATUS_SILENT true with rng.lastBlock := some 0 } → s.off = false ∧
      s.fb F.RNG_STATUS_SILENT = true ∧ s.f F.RNG_STATUS_TX_MAP ≠ 0 ∧ s.rng.pll = true) := by
  refine ⟨by decide +kernel, by decide +kernel, by decide +kernel, by decide +kernel, ?_, ?_, by unfold RunsQ Runs; decide +kernel, ?_,
    ?_⟩ <;>
  · rintro s rfl
    decide +kernel

/-- HALF_SWITCH to the active half, to the other that is GOOD and that is not, and with one booting; HALF_RESET; an exchange at its tick;
a half in BOOT. -/
theorem witness_HalfCommandsAct :
    RunsQ 0x78 (req 0 []) run0 ∧
    (∀ n ≤ 2, RunsQ 0x79 (req 0 (by_ [n, 0, 0, 0])) run0 ∧ (by_ [n, 0, 0, 0]).length = 4 ∧ u8 (by_ [n, 0, 0, 0]) 0 = n) ∧
    (halfBusy run0 = false ∧ halfOf 0 = run0.activeHalf ∧ halfOf 1 ≠ run0.activeHalf ∧ run0.fb F.HLV_ROLE_DIVERGE = false ∧
      run0.health run0.standby = Health.good ∧ (run0.setF F.HLV_HEALTH_B_HEALTH 2).health run0.standby ≠ Health.good ∧
      halfBusy (run0.setF F.HLV_HEALTH_B_HEALTH Health.boot) = true ∧ run0.longRunning < 8) ∧
    (∀ n ≤ 1, ∀ im ≤ 3, RunsQ 0x7A (req 0 (by_ [n, im, 0, 0])) run0 ∧ u8 (by_ [n, im, 0, 0]) 0 = n ∧ u8 (by_ [n, im, 0, 0]) 1 = im ∧
      u16 (by_ [n, im, 0, 0]) 2 = 0) ∧ (RunsQ 0x7A (req 0 (by_ [0, 0, 1, 0])) run0 ∧ u16 (by_ [0, 0, 1, 0]) 2 ≠ 0) ∧
    (run0.health (otherHalf .a) = Health.good ∧ run0.health (otherHalf .b) = Health.good ∧
      (run0.setF F.HLV_HEALTH_B_HEALTH 2).health (otherHalf .a) ≠ Health.good) ∧
    (∀ r, ∀ s : State, s = { run0 with hlv.exchange := some ⟨run0.tck.frame, r, 0⟩, hlv.grazeDue := true } →
      s.hlv.exchange = some ⟨run0.tck.frame, r, 0⟩ ∧ s.tck.frame = run0.tck.frame ∧ s.hlv.grazeDue = true) ∧
    (run0.executes = true ∧ run0.hlv.exchange = none) ∧
    (run0.setF F.HLV_HEALTH_B_HEALTH Health.boot).health .b = Health.boot := by
  refine ⟨by unfold RunsQ Runs; decide +kernel, by unfold RunsQ Runs; decide +kernel, by decide +kernel, by unfold RunsQ Runs; decide +kernel,
    by unfold RunsQ Runs; decide +kernel, by decide +kernel, ?_, by decide +kernel, by decide +kernel⟩
  rintro r s rfl
  exact ⟨rfl, rfl, rfl⟩

/-- A fault of either half with the other GOOD or not; a missing row; the third held tick; Grazing; a quick test. -/
theorem witness_HalvesFailAndAreWatched :
    (run0.off = false ∧ run0.pwr.state ≠ .idle ∧ run0.hlv.active = true ∧ run0.hlv.abdicated = none ∧ run0.activeHalf = .a ∧
      run0.health .b = Health.good ∧ (run0.setF F.HLV_HEALTH_B_HEALTH 0).health .b ≠ Health.good ∧ inRange (run0.health .b) 1 3 = true ∧
      inRange (run0.health .a) 2 3 = true ∧ inRange ((run0.setF F.HLV_HEALTH_B_HEALTH 0).health .b) 2 3 = false ∧ run0.activeHalf ≠ .b) ∧
    (∀ s : State, s = { run0 with drv.begun := true, sys.startUp := false } → s.tck.running = true ∧ s.drv.begun = true ∧
      s.drv.comp.rowCrc.length ≤ 511 ∧ s.drv.noSwap = false ∧ fallbackDrives s = false) ∧
    (∀ s : State, s = { run0 with hlv.limit := true } → s.hlv.limit = true) ∧
    (∀ s : State, s = { run0.setF F.HLV_ROLE_HELD 3 with hlv.showNew := true } → s.hlv.showNew = true ∧ s.hlv.limit = false ∧
      3 ≤ s.f F.HLV_ROLE_HELD) ∧
    (∀ s : State, s = { run0.setF F.HLV_GRAZE_MISMATCH_RUN 2 with hlv.grazeDue := true } → s.hlv.grazeDue = true ∧ s.grazing = true ∧
      s.f F.HLV_GRAZE_MISMATCH_RUN = 2 ∧ s.hlv.quick = none ∧ s.tck.running = true) ∧
    (run0.grazing = true ∧ run0.tck.running = true ∧ run0.hlv.grazeDue = false ∧ run0.hlv.sliceRun = false) ∧
    (∀ s : State, s = { run0 with hlv.quick := some ⟨run0.tck.frame, none⟩, tck.row := 512 } →
      s.hlv.quick = some ⟨s.tck.frame, none⟩ ∧ s.tck.row = 512) := by
  refine ⟨by decide +kernel, ?_, ?_, ?_, ?_, by decide +kernel, ?_⟩ <;>
  · rintro s rfl
    decide +kernel

/-- A command that waits at the head of the queue. -/
def queued0 : State := { run0 with cmd.inbox := [⟨0, 0x71, req 0 [], 0, 0, 0⟩] }

/-- An error met by a check engine, and by the head of the queue; a takeover at its tick with the other half GOOD and not; an
entry of each class found executing, and one that was not. -/
theorem witness_StoreErrorsAndTakeovers :
    (∀ s : State, s = { run0 with chk := vset run0.chk 1 ⟨some ⟨0, 0, 64, 0⟩, 0⟩ } → (chkEng s 1).run = some ⟨0, 0, 64, 0⟩) ∧
    (mapSource run0).isSome = true ∧
    (queued0.cmd.inbox.filter QEntry.inQueue = ⟨0, 0x71, req 0 [], 0, 0, 0⟩ :: [] ∧ queued0.mustWait 0x71 (req 0 []) = false) ∧
    (∀ p, p = by_ [0, 0, 0, 0, 0, 0, 0, 0, 16, 0, 0, 0, 0, 0, 0, 0] → RunsQ 0x58 (req 0 p) run0 ∧ chkLenOk p = true ∧
      (chkEng run0 0).run = none ∧ (match chkSource run0 0 0 (u32 p 4) (u32 p 8) with | .ok e => e == (0, 16) | .error _ => false) = true ∧
      chkLong 0 (u32 p 4) (u32 p 8) = false ∧ eccStop ⟨0, 0, 16, 0⟩ 16 9 = 8) ∧
    (∀ a : Abdicated, a = ⟨.a, 1, 0, some run0.tck.frame, true⟩ → ∀ s : State,
      s = { run0.setF F.HLV_HEALTH_A_HEALTH 0 with hlv.abdicated := some a } → s.off = false ∧ s.hlv.abdicated = some a ∧
      a.tick = some s.tck.frame ∧ s.activeHalf = a.half ∧ s.hlv.active = true ∧ s.health a.half ≠ Health.good ∧
      s.health (otherHalf a.half) = Health.good ∧ s.cmd.journal = [] ∧ a.sampled = true) ∧
    (∀ s : State, s = (run0.setF F.HLV_HEALTH_A_HEALTH 0).setF F.HLV_HEALTH_B_HEALTH 0 → s.health (otherHalf .a) ≠ Health.good) ∧
    (∀ e : JEntry, e = ⟨5, .executing, 0x44, req 0 [], false, false, 0, 0, 0, 0, 0xFFFF, 0⟩ → e.seq ∉ ([] : List Nat) ∧ e.state = .executing ∧
      e.idemp = false ∧ e.rq.quiet = false ∧ e.op ∈ [0x44, 0x25, 0x61, 0x62]) ∧
    (∀ e : JEntry, e = ⟨5, .executing, 0x58, req 0 [], true, false, 0, 0, 0, 0, 0xFFFF, 0⟩ → e.idemp = true ∧ e.op ∉ [0x09, 0x0A, 0x79, 0x48, 0x2C]) ∧
    (∀ j : Job, j = ⟨5, 0x7A, req 0 (zeros 4), true, 0, [], false⟩ → ∀ s : State,
      s = { run0.setF F.HLV_HEALTH_B_HEALTH Health.boot with cmd.jobs := [j] } → j ∈ s.cmd.jobs ∧ j.seq = 5 ∧ halfBusy s = true ∧
      j.rq.payload.length = 4 ∧ u8 j.rq.payload 0 ≤ 1 ∧ u8 j.rq.payload 1 ≤ 3 ∧ u16 j.rq.payload 2 = 0) ∧
    (∀ s : State, s = run0.setF F.PWR_CLK_SEL 0 → u8 (zeros 4) 0 = s.f F.PWR_CLK_SEL) ∧
    (JEntry.mk 5 .queued 0x44 (req 0 []) false false 0 0 0 0 0xFFFF 0).state ≠ .executing := by
  refine ⟨?_, by decide +kernel, by decide +kernel, ?_, ?_, ?_, ?_, ?_, ?_, ?_, by decide +kernel⟩
  · rintro s rfl; decide +kernel
  · rintro p rfl; unfold RunsQ Runs; decide +kernel
  · rintro a rfl s rfl; decide +kernel
  · rintro s rfl; decide +kernel
  · rintro e rfl; decide +kernel
  · rintro e rfl; decide +kernel
  · rintro j rfl s rfl; decide +kernel
  · rintro s rfl; decide +kernel

/-- Channel 0 measures a remote diode. -/
def ts0 : State := run0.setF (tsF F.THM_TS0_CFG_MODE 0) 1

/-- A round of eight readings near their median, below and above SD_T and with SD active; a remote channel that reads open; the
cadence and the hold of a trip. -/
theorem witness_TemperaturesAreTaken :
    (run0.off = false ∧ run0.tck.started = true ∧ (∀ n < 8, run0.fb (F.THM_DIE0_VALID.at (4 * n)) = true ∧
        (2 * nth 0 ((List.replicate 7 400) ++ [410]) n - median2 ((List.replicate 7 400) ++ [410])).natAbs ≤ 320) ∧
      (∀ x ∈ (List.replicate 7 400) ++ [410], (-32768 : Int) ≤ x ∧ x ≤ 410) ∧
      (∀ n < 4, (laneNos.foldl (fun s n => s.setF (tsF F.THM_TS0_CFG_MODE n) 0) run0).f (tsF F.THM_TS0_CFG_MODE n) = 0)) ∧
    (run0.sdActive = false ∧ (410 : Int) < 16 * run0.f F.THM_SD_SD_T ∧ 16 * run0.f F.THM_SD_SD_T ≤ (4000 : Int) ∧
      (run0.setB F.THM_STATUS_SD_ACT true).sdActive = true) ∧
    ((tsReading ts0 0 (1000000, 0)).1 = tsOpen ∧ ts0.fb (tsF F.THM_TS0_T_FAULT 0) = false) ∧
    (∀ s : State, s = { ts0 with thm.tsLast := vset ts0.thm.tsLast 0 (some 400) } → vnth none s.thm.tsLast 0 = some 400) ∧
    ((tsReading ts0 0 (600000, 660000)).2.1.isSome = true ∧ (tsReading ts0 0 (600000, 660000)).1 = tsOk) ∧
    (∀ s : State, s = { run0 with thm.cool := some 5 } → s.thm.cool = some 5) ∧ run0.thm.cool = none ∧
    (∀ s : State, s = { run0 with thm.trip := some 1 } → s.thm.trip = some 1 ∧ bitOf 1 0 = true ∧
      nth 0 ([-1000] : List Int) 0 < 16 * s.f F.THM_TRIP_RELEASE ∧ 16 * s.f F.THM_TRIP_RELEASE ≤ nth 0 ([30000] : List Int) 0) ∧
    RunsQ 0x38 (req 0 []) run0 := by
  refine ⟨by decide +kernel, by decide +kernel, by decide +kernel, ?_, by decide +kernel, ?_, rfl, ?_,
    by unfold RunsQ Runs; decide +kernel⟩ <;>
  · rintro s rfl
    decide +kernel

/-- Every field at the top of its range; a command that has room and a new ALIVE, and with a repeated one, without room, of a wrong
length and of an opcode without a row; a header that fails. -/
theorem witness_EncodedPacketsAreReceived :
    (31 < 32 ∧ 7 < 8 ∧ 255 < 256 ∧ 2 ^ 24 - 1 < 2 ^ 24 ∧ (zeros 4080).length ≤ 4080) ∧
    (run0.off = false ∧ roomReason run0 ⟨31, 0, 0, false, 0x71, 7, 1, 0, 0⟩ = none ∧
      aliveOk run0 ⟨31, 0, 0, false, 0x71, 7, 1, 0, 0⟩ = true ∧ noRow 0x71 = none ∧
      noRow 0xEE = some St.badOpcode ∧ run0.cmd.inbox = [] ∧ run0.job? 0x6A = none ∧ (zeros 3).length % 4 ≠ 0) ∧
    (∀ s : State, s = (run0.setB (aliveValid 0) true).setF (aliveLast 0) 1 →
      aliveOk s ⟨31, 0, 0, false, 0x71, 7, 1, 0, 0⟩ = false) ∧
    (∀ s : State, s = { run0 with cmd.inbox := List.replicate 64 ⟨0, 0x71, req 0 [], 0, 0, 0⟩ } → s.bistRuns = false ∧
      (roomReason s ⟨31, 0, 0, false, 0x71, 7, 1, 0, 0⟩).isSome = true) ∧
    (∀ raw, raw = (encodePkt 31 0 0 0x71 7 1 0 []).take 15 ++ [0] → hcrcOk raw = true ∧ pktCrcOk raw = false ∧
      (readHdr raw).type = 0 ∧ (readHdr raw).stream = 0 ∧ (readHdr raw).len = 0 ∧ raw.length = 16) ∧
    hcrcOk (zeros 16) = false ∧
    (∀ u, u = takeIn 0 0xEE (req 0 []) (noteMaster 0 run0) → u.mustWait 0xEE (req 0 []) = false) ∧
    (∀ u, u = takeIn 0 0xEE (req 0 []) (noteMaster 0 (gives 0x71 (req 0 []) run0)) → u.mustWait 0xEE (req 0 []) = true) := by
  refine ⟨by decide +kernel, by decide +kernel, ?_, ?_, ?_, by decide +kernel, ?_, ?_⟩
  · rintro s rfl; decide +kernel
  · rintro s rfl; decide +kernel
  · rintro raw rfl; decide +kernel
  · rintro u rfl; decide +kernel
  · rintro u rfl; decide +kernel

/-- A reply that waits for the ring, and one for the service port. -/
def out0 (port : Port) : OutPkt := ⟨port, .reply, 1, 0, true, 0x71, 7, 1, [], some 3⟩

/-- A part that runs in the ring at address 2 with packets that wait. -/
def sends0 : State := { ringUp 4 15 with cmd.out := [out0 .spi, out0 .ring] }

/-- A packet through the closed bypass, for another, for this address and for all; packets to send, with and without a gap; the service
port with and without a packet. -/
theorem witness_PacketsPassAndLeave :
    run0.fb F.RNG_STATUS_BYPASS = true ∧
    (∀ d ∈ [0, 3, 2, 31], ∀ bs, bs = encodePkt d 0 0 0x71 7 1 0 [] → hcrcOk bs = true ∧ (readHdr bs).dest = d ∧ (readHdr bs).type = 0 ∧
      noticeForUs (ringUp 4 15) bs = false) ∧
    (∀ d ∈ [2, 31], ∀ bs, bs = encodePkt d 6 0 0x71 7 1 0 [] → hcrcOk bs = true ∧ (readHdr bs).dest = d ∧ (readHdr bs).type = 6) ∧
    (∀ s : State, s = (ringUp 4 15).setF F.RNG_STATUS_TX_MAP 3 → s.ringRuns = true ∧ s.holdsTransit = true ∧ s.f F.RNG_ADDR_ADDR = 2 ∧
      (∀ bs, bs = encodePkt 5 3 2 0x1A 7 1 0 [] → (readHdr bs).dest = 5 ∧ (readHdr bs).type = 3 ∧ noticeForUs s bs = false ∧
        hcrcOk bs = true ∧ s.transitBytes + bs.length ≤ 16384)) ∧
    (∀ s : State, s = { ringUp 4 15 with rng.transit := [zeros 16384] } → s.holdsTransit = true ∧ 16384 < s.transitBytes + 16 ∧
      s.rng.transit = zeros 16384 :: []) ∧
    ((ringUp 4 15).ringRuns = true ∧ (ringUp 4 15).holdsTransit = false ∧ (∀ e ∈ (ringUp 4 15).cmd.inbox, noRow e.op = none) ∧
      (ringUp 4 15).fb F.RNG_ADDR_VALID = true ∧ (ringUp 4 15).f F.RNG_ADDR_ADDR = 2 ∧ (ringUp 4 15).off = false) ∧
    (nextOut run0 = none ∧ nextOut sends0 = some (out0 .ring) ∧ (15 : Nat) < 16 + (out0 .ring).payload.length ∧
      16 + (out0 .ring).payload.length ≤ 16 ∧ sends0.cmd.lost = 0 ∧ sends0.nvm.test = none ∧ (out0 .ring).kind ≠ .beacon) ∧
    (∀ s : State, s = { sends0 with cmd.out := [⟨.ring, .event, 2, 0, true, 0x44, 0, 0, [], none⟩] } → (nextOut s).isSome = true) ∧
    (∀ s : State, s = { ringUp 4 15 with cmd.out := List.replicate 130 ⟨.ring, .event, 2, 0, true, 0x44, 0, 0, [], none⟩ } →
      nextOut s = some ⟨.ring, .event, 2, 0, true, 0x44, 0, 0, [], none⟩ ∧
      eventSpace { s with cmd.out := s.cmd.out.erase ⟨.ring, .event, 2, 0, true, 0x44, 0, 0, [], none⟩ } = false) ∧
    (run0.spiOn = true ∧ nextSpi run0 = none ∧ sends0.spiOn = true ∧ nextSpi sends0 = some (out0 .spi)) := by
  refine ⟨by decide +kernel, ?_, ?_, ?_, ?_, by decide +kernel, by decide +kernel, ?_, ?_, by decide +kernel⟩
  · intro d hd bs hb
    subst hb
    revert d
    decide +kernel
  · intro d hd bs hb
    subst hb
    revert d
    decide +kernel
  · rintro s rfl
    refine ⟨by decide +kernel, by decide +kernel, by decide +kernel, ?_⟩
    rintro bs rfl
    decide +kernel
  · rintro s rfl
    have h : ∀ n, (List.map List.length [zeros n]).sum = n := by simp [zeros]
    refine ⟨by simp [State.holdsTransit], ?_, rfl⟩
    show 16384 < (List.map List.length [zeros 16384]).sum + 16
    rw [h]
    decide
  · rintro s rfl
    decide +kernel
  · rintro s rfl
    decide +kernel

/-- Each reset; RESET with its key and without; a release with the supplies up and both slots valid, and one that may not come. -/
theorem witness_ResetsAreAssertedAndReleased :
    (∀ s : State, s = { run0 with sys.softAsked := true } → s.sys.softAsked = true ∧ s.off = false ∧
      (∀ p ∈ s.cmd.out, ¬ (p.op = 0x7F ∧ p.port = .ring ∧ p.type = 1))) ∧
    (run0.nvm.ops = [] ∧ run0.dia.save = none ∧ run0.pwr.state ≠ .sleep) ∧
    (RunsQ 0x7F (req 0 (by_ [0xA5, 0, 0, 0])) run0 ∧ u8 (by_ [0xA5, 0, 0, 0]) 0 = 0xA5 ∧ RunsQ 0x7F (req 0 (zeros 4)) run0 ∧
      u8 (zeros 4) 0 ≠ 0xA5) ∧
    (∀ env : BootEnv, env = env0 1800 [] → ∀ s : State, s = { State.reset with sys.causes := [.por, .pin] } →
      mayRelease env s = true ∧ s.nvm.slotA.valid = true ∧ .slot 0 ∉ env.bad ∧ .life ∉ env.bad) ∧
    (∀ env : BootEnv, env = env0 1700 [] → mayRelease env { State.reset with sys.causes := [.por] } = false) ∧
    (padFails (env0 1800 []) = 1 ∧ padUntested (env0 1800 []) = 8 ∧ some true ∈ padPair (env0 1800 []) 0 ∧
      (∀ x ∈ padPair (env0 1800 []) 3, x = none) ∧ some false ∈ padPair (env0 1800 []) 1) ∧
    mayRelease (env0 1800 [.life]) { State.reset with sys.causes := [.por] } = true ∧
    (∀ s : State, s = { run0 with pwr.dip := some (4000000, 1650), pwr.dipBefore := 7 } → s.pwr.dip = some (4000000, 1650)) ∧
    (∀ s : State, s = { State.reset with nvm.lifeOk := false, saf.copyA.valid := false, saf.copyB.valid := false } →
      s.nvm.lifeOk = false ∧ s.saf.copyA.valid = false ∧ s.saf.copyB.valid = false ∧
      mayRelease (env0 1800 []) { s with sys.causes := [.por] } = true) := by
  refine ⟨?_, by decide +kernel, by unfold RunsQ Runs; decide +kernel, ?_, ?_, by decide +kernel, by decide +kernel, ?_, ?_⟩
  · rintro s rfl; exact ⟨rfl, by decide +kernel, fun p h => nomatch h⟩
  · rintro env rfl s rfl; decide +kernel
  · rintro env rfl; decide +kernel
  · rintro s rfl; rfl
  · rintro s rfl; decide +kernel

/-- The state after reset is canonical, and so is that behind a first command. -/
theorem witness_EveryStepKeepsTheStoresCanonical :
    StoresCanonical State.reset ∧ ∃ t, step ({ State.reset with pending := [.resetNLow] } : State) = .next t := by
  refine ⟨⟨by decide +kernel, by unfold SetCanonical; decide +kernel, by unfold SetCanonical; decide +kernel,
    by unfold SetCanonical; decide +kernel, by decide +kernel, (fun p h => nomatch h), by decide +kernel, by decide +kernel,
    by unfold DrvCanonical FactorsCanonical; decide +kernel, ?_⟩, _, rfl⟩
  refine ⟨by decide +kernel, by decide +kernel, (fun x h => by cases h; decide +kernel), by unfold FactorsCanonical; decide +kernel,
    by unfold FactorsCanonical; decide +kernel, fun o h => nomatch h⟩

/-! ### Witnesses of further clauses -/

/-- A part with THERM_SD active, unlocked. -/
def sd0 : State := open0.setB F.THM_STATUS_SD_ACT true

/-- The bytes of a REG_WR of T1 with the value that stands. -/
def wrT1 : List Byte := bytesLE 4 F.SAF_FADE_T1.addr ++ bytesLE 4 (open0.reg F.SAF_FADE_T1.addr).toNat

/-- The bytes of a REG_RMW of all of T1. -/
def rmwT1 : List Byte := bytesLE 4 F.SAF_FADE_T1.addr ++ bytesLE 4 0xFFFFFFFF ++ bytesLE 4 (open0.reg F.SAF_FADE_T1.addr).toNat

/-- REG_WR and REG_RMW of a safety parameter: unlocked, with THERM_SD active, and locked. -/
theorem witness_RegisterCommandsWriteAllOrNothing_safe :
    (∀ s ∈ [open0, sd0], RunsQ 0x09 (req 0 wrT1) s ∧ wrRefused s 0 (wrWords (req 0 wrT1)) = none ∧ wrT1.length = 8 ∧
      ((wrWords (req 0 wrT1)).filter (fun w => rwlWrite w.1 0xFFFFFFFF)).length = 1) ∧
    (logRoom open0 1 = true ∧ open0.sdActive = false ∧ (logRoom sd0 1 && !sd0.sdActive) = false) ∧
    (F.SAF_FADE_T1.addr % 4 = 0 ∧ rwlWrite F.SAF_FADE_T1.addr 0xFFFFFFFF = true ∧ run0.unlocked 0 = false ∧
      RunsQ 0x09 (req 0 wrT1) run0 ∧ wrRefused run0 0 (wrWords (req 0 wrT1)) = some (F.SAF_FADE_T1.addr, St.locked)) ∧
    (∀ s ∈ [open0, sd0], RunsQ 0x0A (req 0 rmwT1) s ∧ rmwT1.length = 12 ∧ rwlWrite (u32 rmwT1 0) (u32 rmwT1 4) = true ∧
      wordStatus s 0 (u32 rmwT1 0) (u32 rmwT1 4)
        (rmwValue s (u32 rmwT1 0) (BitVec.ofNat 32 (u32 rmwT1 4)) (BitVec.ofNat 32 (u32 rmwT1 8))).toNat = none) ∧
    (RunsQ 0x0A (req 0 rmwT1) run0 ∧ wordStatus run0 0 (u32 rmwT1 0) (u32 rmwT1 4)
        (rmwValue run0 (u32 rmwT1 0) (BitVec.ofNat 32 (u32 rmwT1 4)) (BitVec.ofNat 32 (u32 rmwT1 8))).toNat = some St.locked) ∧
    run0.cmd.lost = 0 := by
  unfold RunsQ Runs; decide +kernel

/-- What the pending set held at the cut-off row of a part that is past it. -/
def cut0 : State := { run0 with tck.row := 500, tck.cut := some ⟨[(0x3004, 480)], []⟩, tck.dirty := [0x3004] }

/-- A HERD for the next tick that arrived in row 0 and is taken in row 500; a set sampled for a dropped target; ALIGN_TICK with
SET_FRAME, on a core PLL with the tick stopped. -/
theorem witness_HerdSetsTargetNumberAndOffset_cut :
    (∀ (rq : Req) (s u : State), rq = reqAll 1 (by_ [1] ++ zeros 15) → s = { cut0 with cmd.inbox := [⟨4, 0x11, rq, run0.time, 0, 0⟩] } →
      u = accept 4 0x11 rq s → s.off = false ∧ rq.bcast = true ∧ rq.payload.length = 16 ∧ bitOf rq.arg 17 = false ∧
      herdEntry rq u = ⟨4, 0x11, rq, run0.time, 0, 0⟩ ∧ u.tickNo (herdTicks (herdEntry rq u) u) = 1 ∧ s.tickNo 1 = 1 ∧
      decide (2 ^ 31 ≤ (u32 rq.payload 0 + 2 ^ 32 - u.tickNo (herdTicks (herdEntry rq u) u)) % 2 ^ 32) = false ∧
      s.tck.cut = some ⟨[(0x3004, 480)], []⟩) ∧
    (∀ s : State, s = { run0 with tck.herd := some ⟨9, 9, 1, false, false⟩, tck.sets := [⟨9, [(0x3004, 480)], [], 1, true⟩] } →
      s.tck.sets.filter (fun y => !(s.tck.herd.any (fun h => y.herd && y.applyAt == h.applyAt))) = []) ∧
    (bitOf (reqAll 0x30001 (zeros 16)).arg 17 = true ∧ bitOf (reqAll 0x30001 (zeros 16)).arg 16 = true) ∧
    (∀ (rq : Req) (s u : State), rq = reqAll 0x30001 (zeros 16) → s = { run0.setF F.PWR_CLK_SEL 0 with tck.running := false } →
      u = accept 4 0x11 rq s → s.off = false ∧ (u.onFrc || u.a F.TCK_CTRL_SRC == 1) = false ∧ u.tck.running = false) := by
  refine ⟨?_, ?_, by decide +kernel, ?_⟩
  · rintro rq s u rfl rfl rfl
    decide +kernel
  · rintro s rfl
    decide +kernel
  · rintro rq s u rfl rfl rfl
    decide +kernel

/-- ENUM pass 1 at COUNT 31 and 255; behind a packet in the transit buffer. ENUM pass 2 of an engine behind the last hop. -/
theorem witness_EnumPass1Numbers_more :
    (∀ k ∈ [31, 255], pass1Ok (reqAll 0 (by_ [0, 0, 1, k] ++ zeros (12 + 8 * k))) = true ∧ 16 < u8 (by_ [0, 0, 1, k]) 3 + 1) ∧
    (∀ (rq : Req) (s u : State), rq = reqAll 0 (by_ [0, 0, 1, 0] ++ zeros 12) → s = { ring0 with rng.transit := [zeros 16] } →
      u = unpark 0x03 rq (enumAccept rq true s) → s.off = false ∧ s.ringRuns = true ∧ rq.bcast = true ∧ u.holdsTransit = true) ∧
    (∀ (rq : Req) (u : State), rq = reqAll 0 (by_ [0, 0, 1, 0] ++ zeros 12) →
      u = unpark 0x03 rq (enumAccept rq true (ring0.setF F.RNG_STATUS_TX_MAP 15)) → u.holdsTransit = false) := by
  refine ⟨by decide +kernel, ?_, ?_⟩
  · rintro rq s u rfl rfl rfl
    decide +kernel
  · rintro rq u rfl rfl
    decide +kernel

/-- A video packet alone, and behind another that waits. -/
theorem witness_BuffersAreDefinedFilledAndReleased_video :
    (∀ rq u, rq = req 0 (by_ [10, 3, 0, 0, 0, 0, 0, 0] ++ zeros 64) → u = accept 3 0x1A rq bufs0 →
      bufs0.executes = true ∧ videoFirst rq u = true) ∧
    (∀ rq u, rq = req 0 (by_ [10, 3, 0, 0, 0, 0, 0, 0] ++ zeros 64) →
      u = accept 3 0x1A rq { bufs0 with cmd.inbox := [⟨3, 0x1A, req 1 (zeros 12), 0, 0, 0⟩] } → videoFirst rq u = false) := by
  constructor <;>
  · rintro rq u rfl rfl
    decide +kernel

/-- OBJ_MOVE that repeats the ALIVE value of slot 5, and of slot 6, which is empty. -/
theorem witness_ObjectSlotsTakeUpdates_move :
    (∀ p, p = by_ [5, 0] ++ zeros 22 → RunsQ 0x21 (req 0 p) obj0 ∧ p.length = 24 ∧
      kvGet obj0.obj.slots (u8 p 0) = some ⟨zeros 76, 0, false⟩ ∧ slotAlive obj0 (u8 p 0) (bitsOf (u8 p 1) 3 0) = none) ∧
    (∀ p, p = by_ [6, 0] ++ zeros 22 → RunsQ 0x21 (req 0 p) obj0 ∧ p.length = 24 ∧ kvGet obj0.obj.slots (u8 p 0) = none) := by
  constructor <;>
  · rintro p rfl
    unfold RunsQ Runs; decide +kernel

/-- DIAG_RUN refused: locked, and with THERM_SD active; the copies of the map without a failed page. -/
theorem witness_DiagnosisCommandsAct_refused :
    (RunsQ 0x31 (req 0 (by_ [1, 0, 0, 0])) run0 ∧ run0.unlocked 0 = false) ∧
    (∀ k ∈ [1, 2], RunsQ 0x31 (req 0 (by_ [k, 0, 0, 0])) sd0 ∧ u8 (by_ [k, 0, 0, 0]) 0 = k ∧ sd0.unlocked 0 = true ∧
      (logRoom sd0 1 && !sd0.sdActive) = false) ∧
    run0.nvm.badPages = [] := by
  unfold RunsQ Runs; decide +kernel

/-- The part that tests the slice of pixel 0, its pairs with the lower neighbour suspect. -/
def pair0 : State := { dia0 2000 with dia.faults := [(0, ⟨0, 0, 3, 1, 0, 1, 0, 0, 0, 0⟩)], dia.nextOrd := 1 }

/-- A pair's read: taken, skipped because of the setting, the map or the drive; with a suspect and without. A test whose other result
waits for it, and which fails. -/
theorem witness_PixelTestsJudge_more :
    (((dia0 2000).setB F.DIA_CTRL_NB_EN true).fb F.DIA_CTRL_NB_EN = true ∧ 2048 ∉ (dia0 2000).dia.map ∧ nbOff (dia0 2000) 0 2048 = true ∧
      ((dia0 2000).setB F.DIA_CTRL_NB_EN false).fb F.DIA_CTRL_NB_EN = false ∧ 2048 ∈ ({ dia0 2000 with dia.map := [2048] } : State).dia.map) ∧
    (∀ s : State, s = { dia0 2000 with drv.front := [(0, 2000), (2048, 4095)] } → nbOff s 0 2048 = false) ∧
    suspectOf pair0 0 (some 1) = some (0, ⟨0, 0, 3, 1, 0, 1, 0, 0, 0, 0⟩) ∧ suspectOf (dia0 2000) 0 (some 1) = none ∧
    entryPos (dia0 2000).dia.faults = some 0 ∧
    (∀ s : State, s = { dia0 2000 with dia.wait := [(0, (resDrift, 1, 3000))] } → tests s 0 = true ∧ kvGet s.dia.wait 0 = some (resDrift, 1, 3000) ∧
      0 ∉ s.dia.darkDone ∧ 0 ∉ s.dia.deferred ∧ 0 ∉ s.dia.decided ∧ darkResult s 0 0 2450 = resPass) ∧
    (darkResult (dia0 2000) 0 1001 2450 ≠ resPass ∧ darkResult (dia0 2000) 0 1001 2450 ≠ resDrift) := by
  refine ⟨by decide +kernel, ?_, by decide +kernel, by decide +kernel, by decide +kernel, ?_, by decide +kernel⟩ <;>
  · rintro s rfl
    decide +kernel

/-- The first row slot with no active half. -/
theorem witness_RowSlotsComposeInOrder_none :
    ∀ s u : State, s = { run0 with hlv.active := false } → u = { s with drv.rows := s.drv.rows + 1, tck.row := max s.tck.row s.drv.rows } →
      s.tck.running = true ∧ s.drv.rows < 512 ∧ halfComposes u = false := by
  rintro s u rfl rfl
  decide +kernel

/-- Two copies of the fallback pattern under way, each with its command. -/
theorem witness_FallbackCopyAndToneMapAreChecked_copies :
    ∀ s : State, s = { bufs0 with lyr.copies := [0, 1], cmd.jobs := [⟨7, 0x28, req 0 [], true, 0, [], false⟩, ⟨8, 0x28, req 0 [], true, 1, [], false⟩] } →
      s.tck.running = true ∧ (s.cmd.jobs.map Job.seq).Nodup ∧ (∀ k ∈ s.lyr.copies, (s.jobKey? 0x28 k).isSome = true) ∧
      (s.buf? (60 + 0)).isSome = true ∧ 11 ≠ 60 + 0 ∧ 11 ≠ 60 + 1 := by
  rintro s rfl
  decide +kernel

/-- A correction for the tick after the next, and one within 2 % of the period. -/
theorem witness_TickInstantsAndNumbers_more :
    (∀ s : State, s = { run0 with tck.corr := some (2, 5) } → (0 : Rat) ≤ s.periodLen ∧ s.tck.corr = some (2, 5) ∧ s.tck.pull = 0) ∧
    (∀ s : State, s = { run0 with tck.corr := some (1, 5) } → -(s.periodLen / 50) ≤ (5 : Rat) ∧ s.tck.pull = 0) := by
  constructor <;>
  · rintro s rfl
    decide +kernel

/-- SAFE_STOP of a class the spec does not have. -/
theorem witness_SafeStopActsAtOnce_class : 2 < u8 (by_ [3, 0, 0, 0]) 0 ∧ lit0.off = false ∧ (req 0 (by_ [3, 0, 0, 0])).quiet = false := by
  decide +kernel

/-- IDLE asked for in HOLD, whose end is asked for in the same frame; the timer of IDLE in HOLD. -/
theorem witness_PowerStatesAreEnteredAndLeft_hold :
    (∀ s u : State, s = { hold0 with pwr.idleReq := some asked, pwr.holdExit := some asked.frame } → u = holdExit s →
      s.pwr.idleReq = some asked ∧ s.pwr.state = .hold ∧ s.pwr.holdExit = some asked.frame ∧ atTickAfter s asked.frame = true ∧
      u.pwr.state = .active ∧ refusing u 2 = 0) ∧
    (hold0.f F.PWR_TMR_A_IDLE_T ≠ 0 ∧ hold0.pwr.state = .hold ∧ hold0.elapsedRuns = true ∧ hold0.pwr.idleReq = none ∧ hold0.off = false ∧
      hold0.sys.phase = .run) := by
  refine ⟨?_, by decide +kernel⟩
  rintro s u rfl rfl
  decide +kernel

/-- A dip that ends with nothing held, with an operation suspended, and in a reset. -/
theorem witness_ClocksAndSuppliesAreWatched_dip :
    (∀ s : State, s = { run0 with pwr.dip := some (0, 1600) } → s.pwr.dip = some (0, 1600) ∧ s.off = false ∧ s.nvm.suspended = none ∧
      s.nvm.ops = [] ∧ s.nvm.test = none) ∧
    (∀ s : State, s = { run0 with pwr.dip := some (0, 1600), nvm.suspended := some 0 } → s.off = false ∧ s.nvm.suspended ≠ none) ∧
    (∀ s : State, s = { State.reset with pwr.dip := some (0, 1600) } → s.off = true ∧ s.pwr.dip = some (0, 1600)) := by
  refine ⟨?_, ?_, ?_⟩ <;>
  · rintro s rfl
    decide +kernel

/-- A CHK_RUN over the two words of a register that is latched; a piece of one over registers. -/
theorem witness_CheckEnginesFeedTheirBytes_regs :
    (∀ p, p = by_ [0, 2, 0, 0, 0x18, 0x30, 0, 0, 2, 0, 0, 0, 0, 0, 0, 0] → RunsQ 0x58 (req 0 p) run0 ∧ chkLenOk p = true ∧ u8 p 1 % 4 = 2 ∧
      (match chkSource run0 2 0 (u32 p 4) (u32 p 8) with | .ok e => e == (0x3018, 8) | .error _ => false) = true ∧
      chkLong 2 (u32 p 4) (u32 p 8) = false) ∧
    (∀ s : State, s = { run0 with chk := vset run0.chk 0 ⟨some ⟨2, 0, 8192, 0⟩, 0⟩ } → s.executes = true ∧ chkNext s = some 0 ∧
      (chkEng s 0).run = some ⟨2, 0, 8192, 0⟩ ∧ 0 + min 4096 (8192 - 0) < 8192) := by
  constructor
  · rintro p rfl
    unfold RunsQ Runs; decide +kernel
  · rintro s rfl
    decide +kernel

/-- FW_STAGE of bytes that complete no page, with a staging open. -/
theorem witness_FirmwareIsStagedAndActivated_part :
    ∀ p, p = by_ [1, 0, 0, 0, 0, 0, 0, 0, 9] → ∀ s : State, s = { run0 with nvm.slotB.staging := some 9 } → RunsQ 0x62 (req 0 p) s ∧
      bitOf (u8 p 1) 0 = false ∧ bitOf (u8 p 1) 1 = false ∧ slotIdle s 1 = true ∧ (s.fwSlot 1).staging.isSome = true ∧
      ((fwTouched (fwFill 0x80000 (p.drop 8) s.nvm.fwBuf)).filter (fun pg => false || fwCovered (fwFill 0x80000 (p.drop 8) s.nvm.fwBuf) pg)) = [] := by
  rintro p rfl s rfl
  unfold RunsQ Runs; decide +kernel

/-- A loop ended from the ring, for which nothing happens; a journal that holds no entry of the next SEQ. -/
theorem witness_LaneCommandsAct_more :
    (RunsQ 0x70 (lc 6 0 0 0) (ring_ 4 15) ∧ u8 (lc 6 0 0 0).payload 0 = 6 ∧ u8 (lc 6 0 0 0).payload 2 = 0 ∧ (lc 6 0 0 0).port ≠ .spi) ∧
    ((∀ e ∈ (ring_ 4 15).cmd.journal, e.seq ≠ (ring_ 4 15).cmd.seq) ∧ (ring_ 4 15).cmd.seq < 65536) := by
  unfold RunsQ Runs; decide +kernel

/-- CDR lock in SEEK within the 10 ms of the attempt, and behind them. -/
theorem witness_ReceiversTrain_attempt :
    (∀ s : State, s = { run0 with rng.attempt := 4500000 } → s.off = false ∧ s.f F.RNG_STATUS_STATE = 0 ∧ s.time ≤ s.rng.attempt + 1000000 ∧
      s.rng.pll = true ∧ 15 &&& s.rng.laneEn ≠ 0) ∧
    (∀ s : State, s = { run0 with rng.attempt := 3999999 } → s.f F.RNG_STATUS_STATE = 0 ∧ s.rng.attempt + 1000000 < s.time) := by
  constructor <;>
  · rintro s rfl
    decide +kernel

/-- An engine that sends no marker: asleep with no lane to return, and without its lane PLL; one asleep whose lane returns; a notice for
another behind a packet in the transit buffer; the bypass closed. -/
theorem witness_MarkersCarryTheMap_more :
    ((run0.setF F.RNG_LPWR_TX 0xAA).ringAsleep = true ∧ (run0.setF F.RNG_LPWR_TX 0xAA).marks = false) ∧
    ({ run0 with rng.pll := false } : State).marks = false ∧
    (∀ s : State, s = { run0.setF F.RNG_LPWR_TX 0xAA with rng.lpNext := [(0, 0)] } → s.ringAsleep = true ∧ lpMask s true ≠ 0 ∧ s.marks = true ∧
      s.f F.RNG_STATUS_STATE ≠ 5) ∧
    (∀ s : State, s = { ringUp 4 15 with rng.transit := [zeros 16] } → s.ringRuns = true ∧ s.holdsTransit = true ∧
      noticeForUs s (zeros 24) = false ∧ (readHdr (zeros 24)).type ≠ 3 ∧ zeros 24 ≠ []) ∧
    ((ringUp 4 15).holdsTransit = false ∧ run0.fb F.RNG_STATUS_BYPASS = true ∧ (ringUp 5 0).f F.RNG_STATUS_STATE = 5) ∧
    (∀ s : State, s = { (ringUp 0 0).setB F.RNG_STATUS_SILENT true with rng.lastBlock := some 0 } → s.fb F.RNG_STATUS_BYPASS = false ∧
      s.f F.RNG_STATUS_STATE ≠ 5) ∧
    (mkMap marker0 &&& lanesOff (usable (ring_ 4 15)) = 0) := by
  refine ⟨by decide +kernel, by decide +kernel, ?_, ?_, by decide +kernel, ?_, by decide +kernel⟩ <;>
  · rintro s rfl
    decide +kernel

/-- For every row-CRC table there are faults of the standby half that make every row compare equal, and ones that do not. -/
theorem witness_HalvesFailAndAreWatched_graze :
    ∀ s : State, ∃ errs errs' : List Nat, grazeDiff s errs = none ∧ (grazeDiff s errs').isSome = true := by
  intro s
  let c (n : Nat) : Nat := nth 0 s.hlv.rowCrcs (nth 0 (grazeRows s) n) ^^^ rowInCrc (halfRow (grazeState s) (nth 0 (grazeRows s) n)).1
  refine ⟨(List.range 16).map c, (List.range 16).map (fun n => c n ^^^ 1), ?_, ?_⟩
  · unfold grazeDiff
    rw [Option.map_eq_none_iff, List.find?_eq_none]
    intro n h
    have hn : n < 16 := List.mem_range.1 h
    have e : nth 0 ((List.range 16).map c) n = c n := by simp [nth, hn]
    rw [e, grazeCrc, Nat.xor_comm, Nat.xor_assoc, Nat.xor_self, Nat.xor_zero]
    simp
  · unfold grazeDiff
    rw [Option.isSome_map, List.find?_isSome]
    refine ⟨0, by simp, ?_⟩
    have e : nth 0 ((List.range 16).map (fun n => c n ^^^ 1)) 0 = c 0 ^^^ 1 := by simp [nth]
    have x : ∀ a r : Nat, a ≠ r ^^^ (a ^^^ r ^^^ 1) := by
      intro a r h
      have h1 : r ^^^ (a ^^^ r ^^^ 1) = a ^^^ 1 := by
        rw [Nat.xor_comm a r, Nat.xor_assoc r a 1, ← Nat.xor_assoc r r, Nat.xor_self, Nat.zero_xor]
      have h2 := congrArg (a ^^^ ·) (h.trans h1)
      simp only [← Nat.xor_assoc, Nat.xor_self, Nat.zero_xor] at h2
      exact absurd h2 (by decide)
    rw [e, grazeCrc]
    simpa [c] using x _ _

/-- A takeover whose object sample was not taken; one of a half that has the role no more, and one with the other half not GOOD. -/
theorem witness_StoreErrorsAndTakeovers_role :
    (∀ (a : Abdicated) (s : State), a = ⟨.a, 1, 0, some run0.tck.frame, false⟩ →
      s = { run0.setF F.HLV_HEALTH_A_HEALTH 0 with hlv.abdicated := some a } → s.off = false ∧ s.hlv.abdicated = some a ∧
      a.tick = some s.tck.frame ∧ s.activeHalf = a.half ∧ s.hlv.active = true ∧ s.health a.half ≠ Health.good ∧
      s.health (otherHalf a.half) = Health.good ∧ (takeRole a s).isSome = true ∧ a.sampled = false) ∧
    (∀ (a : Abdicated) (s : State), a = ⟨.b, 1, 0, some run0.tck.frame, true⟩ → s = { run0 with hlv.abdicated := some a } →
      s.activeHalf ≠ a.half ∧ a.tick = some s.tck.frame) ∧
    (∀ (a : Abdicated) (s : State), a = ⟨.a, 1, 0, some run0.tck.frame, true⟩ →
      s = { (run0.setF F.HLV_HEALTH_A_HEALTH 0).setF F.HLV_HEALTH_B_HEALTH 0 with hlv.abdicated := some a } →
      s.activeHalf = a.half ∧ s.health a.half ≠ Health.good ∧ s.health (otherHalf a.half) ≠ Health.good) ∧
    (State.reset.off = true ∧ run0.hlv.abdicated = none ∧ run0.journalUsed < 128) := by
  refine ⟨?_, ?_, ?_, by decide +kernel⟩ <;>
  · rintro a s rfl rfl
    decide +kernel

/-- A journal entry of SEQ 5 found executing. -/
def entry0 (op : Nat) (p : List Byte) (idemp : Bool) : JEntry := ⟨5, .executing, op, req 0 p, idemp, false, 0, 0, 0, 0, 0xFFFF, 0⟩

/-- Each command of class N found executing, with a self-test that waits and one that runs; an entry whose CRC fails, its packet readable
and not; an entry not in use; a command of class I that is still in flight, of each kind. -/
theorem witness_StoreErrorsAndTakeovers_entries :
    (∀ op ∈ [0x44, 0x25, 0x58, 0x61, 0x62, 0x68, 0x6A], ∀ e, e = entry0 op (zeros 4) false → reqClassN op e.rq = true ∧ e.state = .executing ∧
      e.idemp = false ∧ e.rq.quiet = false ∧ e.inUse = true) ∧
    (∀ e, e = entry0 0x09 wrT1 false → reqClassN 0x09 e.rq = true) ∧ (∀ e, e = entry0 0x0A rmwT1 false → reqClassN 0x0A e.rq = true) ∧
    ((entry0 0x58 [] false).seq ∈ [5] ∧ (entry0 0x58 [] false).seq ∉ ([] : List Nat)) ∧
    (∀ e : JEntry, e = ⟨5, .done, 0x58, req 0 [], false, true, 0, 0, 0, 0, 0xFFFF, 0⟩ → e.inUse = false) ∧
    ((test0 0 16 2 0).nvm.test = some (newRec run0 0 16 2) ∧ (newRec run0 0 16 2).origin = 2 ∧ (test0 0 16 2 0).nvm.testEnd = none ∧
      (test0 0 16 2 0).nvm.stepNow = 0 ∧ (test0 0 16 2 1).nvm.stepNow ≠ 0 ∧ (newRec run0 0 16 0).origin = 0) ∧
    (∀ op ∈ [0x79, 0x48, 0x2C, 0x58], ∀ (j : Job) (s : State), j = ⟨5, op, req 0 (zeros 4), true, 0, [], false⟩ → s = { run0 with cmd.jobs := [j] } →
      s.cmd.jobs.find? (fun k => k.seq == 5) = some j ∧ j.rq.quiet = false) := by
  refine ⟨?_, ?_, ?_, by decide +kernel, ?_, by decide +kernel, ?_⟩
  · rintro op h e rfl
    revert op
    decide +kernel
  · rintro e rfl; decide +kernel
  · rintro e rfl; decide +kernel
  · rintro e rfl; decide +kernel
  · rintro op h j s rfl rfl
    revert op
    decide +kernel

/-- A remote channel in FAULT that reads OK, for the first time and for the third; the round of a part with that channel enabled. -/
theorem witness_TemperaturesAreTaken_remote :
    (∀ s : State, s = ts0.setB (tsF F.THM_TS0_T_FAULT 0) true → s.fb (tsF F.THM_TS0_T_FAULT 0) = true ∧
      (tsReading s 0 (600000, 660000)).1 = tsOk ∧ vnth 0 s.thm.tsRun 0 = 0) ∧
    (∀ s : State, s = { ts0.setB (tsF F.THM_TS0_T_FAULT 0) true with thm.tsRun := vset ts0.thm.tsRun 0 2 } →
      (tsReading s 0 (600000, 660000)).1 = tsOk ∧ vnth 0 s.thm.tsRun 0 = 2) ∧
    (ts0.off = false ∧ ts0.tck.started = true ∧ ts0.f (tsF F.THM_TS0_CFG_MODE 0) = 1 ∧ ∀ n < 8, ts0.fb (F.THM_DIE0_VALID.at (4 * n)) = true) := by
  refine ⟨?_, ?_, by decide +kernel⟩ <;>
  · rintro s rfl
    decide +kernel
/-! ### Well-formedness: every check refuses an ill-formed term -/

theorem test_wf_header_fields : (req 0 []).wf = true ∧ ({ req 0 [] with stream := 8 } : Req).wf = false ∧
    ({ req 0 [] with tag := 256 } : Req).wf = false ∧ ({ req 0 [] with alive := 256 } : Req).wf = false ∧
    (req (2 ^ 24) []).wf = false ∧ (req 0 (zeros 3)).wf = false ∧ (req 0 (zeros 4084)).wf = false := by decide +kernel

theorem test_wf_streams : (Instr.ping { req 0 [] with stream := 2 }).wf = false ∧ (Instr.ping (req 0 [])).wf = true ∧
    (Instr.videoPacket (req 0 [])).wf = false ∧ (Instr.videoPacket { req 0 [] with stream := 3 }).wf = true := by decide +kernel

theorem test_wf_control : (Instr.herd (reqAll 0 [])).wf = true ∧ (Instr.herd (req 0 [])).wf = false ∧
    (Instr.herd { reqAll 0 [] with port := .spi }).wf = false ∧ (Instr.enumPass1 { reqAll 0 [] with stream := 1 } true).wf = false ∧
    (Instr.enumPass2 { reqAll 0 [] with stream := 2 }).wf = false := by decide +kernel

theorem test_wf_register_write : (Instr.registerWrite 0 0x3000 0).wf = true ∧ (Instr.registerWrite 8 0x3000 0).wf = false ∧
    (Instr.registerWrite 0 0x3002 0).wf = false ∧ (Instr.registerWrite 0 0x10000 0).wf = false := by decide +kernel

theorem test_wf_raw_bytes : wfRaw (zeros 4097) = false ∧ (Instr.packetReceive .ring (zeros 16)).wf = true ∧
    wfDuring (some (.ring, zeros 4097)) = false ∧ (Instr.spiBadOp 2).wf = false ∧ (Instr.spiBadOp 256).wf = false := by decide +kernel

theorem test_wf_pixels : (Instr.darkTest 2048 0 0 0 0 0).wf = false ∧ (Instr.litTest 0 512 0 0).wf = false ∧
    (Instr.imageWriteDone (some 1048576)).wf = false ∧ (Instr.graze (List.replicate 17 0) true).wf = false ∧
    (Instr.darkTest 2047 511 0 0 0 0).wf = true := by decide +kernel

theorem test_wf_lanes : (Instr.signalDetect 0).wf = false ∧ (Instr.cdrLock 16).wf = false ∧ (Instr.trainDone [1, 2, 3]).wf = false ∧
    (Instr.blockLock 1 [0]).wf = false ∧ (Instr.ringRun [] 0).wf = false ∧ (Instr.autoReadd 4).wf = false ∧
    (Instr.laneLockLoss 4 0).wf = false ∧ (Instr.laneLockLoss 0 3).wf = false ∧ (Instr.alignmentMarker (zeros 8) [] 0).wf = false :=
  by decide +kernel

theorem test_wf_sensors : (Instr.photodiodeRead []).wf = false ∧ (Instr.thermalRound [] []).wf = false ∧ (Instr.thermalTrip 8).wf = false ∧
    (Instr.tripHoldMonitor []).wf = false ∧ (Instr.segmentOffCurrentCheck [(32768, [0, 0, 0, 0])]).wf = false ∧
    (Instr.segmentOffCurrentCheck [(0, [])]).wf = false ∧ (Instr.safeStopPin false false).wf = false ∧
    (Instr.stopPinRelease false false).wf = false ∧ (Instr.vsupWarn 1660).wf = false ∧ (Instr.bor 1560).wf = false := by decide +kernel

theorem test_wf_stores : (Instr.eccUncorrectable (.gains 1048576)).wf = false ∧ (Instr.eccUncorrectable (.fallback 0x200000)).wf = false ∧
    (Instr.eccUncorrectable (.chk 4 0)).wf = false ∧ (Instr.eccUncorrectable (.corrected 32 none)).wf = false ∧ (Instr.takeover [] [1]).wf = false ∧ (Instr.idleExit (2 ^ 32)).wf = false ∧
    (Instr.selfTestStepDone [⟨5, 0, 0⟩]).wf = false ∧ (Instr.selfTestStepDone [⟨0, 256, 0⟩]).wf = false ∧
    (Instr.selfTestStepDone [⟨0, 0, 2 ^ 32⟩]).wf = false := by decide +kernel

theorem test_wf_release : (env0 1800 []).wf = true ∧ ({ env0 1800 [] with txId := 0 } : BootEnv).wf = false ∧
    ({ env0 1800 [] with txId := 65536 } : BootEnv).wf = false ∧ ({ env0 1800 [] with pads := [] } : BootEnv).wf = false ∧
    ({ env0 1800 [] with die := [] } : BootEnv).wf = false ∧ ({ env0 1800 [] with ts := [] } : BootEnv).wf = false ∧
    (env0 1800 [.slot 2]).wf = false ∧ (env0 1800 [.gains 384]).wf = false := by decide +kernel

/-! ### Values the spec works out -/

/-- What a next state satisfies. -/
def after (o : Host.Outcome State Fault Refusal) (p : State → Bool) : Bool :=
  match o with
  | .next t => p t
  | _ => false

/-- The check values of R364 over the bytes 123456789. -/
theorem test_crc_check_values : crcOf 0 (by_ [49, 50, 51, 52, 53, 54, 55, 56, 57]) = 0xCBF43926 ∧
    crcOf 1 (by_ [49, 50, 51, 52, 53, 54, 55, 56, 57]) = 0xE3069283 ∧ crcOf 2 (by_ [49, 50, 51, 52, 53, 54, 55, 56, 57]) = 0x29B1 ∧
    crcOf 3 (by_ [49, 50, 51, 52, 53, 54, 55, 56, 57]) = 0x4B := by decide +kernel

/-- The worked example of file 10 under R330: a REG_RD of TCK_STATUS to address 2, and the fields read back. -/
theorem test_packet_header : (encodePkt 2 0 0 0x08 0x21 0x9A 0 (by_ [8, 0x30, 0, 0, 1, 0, 0, 0])).take 11 =
      by_ [2, 0, 8, 0x21, 0x9A, 0, 8, 0, 0, 0, 0] ∧
    readHdr (encodePkt 2 0 0 0x08 0x21 0x9A 0 (by_ [8, 0x30, 0, 0, 1, 0, 0, 0])) = ⟨2, 0, 0, false, 8, 0x21, 0x9A, 8, 0⟩ := by
  decide +kernel

/-- A pass of DRV with D, G_p and c as given, without zones, in a band that raises nothing. -/
def pass0 (d c : Nat) : DrvPass := ⟨d, 0x8000, c, [], 0, 4, 0, none⟩

/-- The worked example of file 03: 1,200 at a gain of 0x3C00 and a correction of 1.04 draws 0x1492; 1,000 stays in the lowest range. -/
theorem test_pixel_of_LH2 : (pass0 0x8000 8724152).code 0x3C00 1200 = 4680 ∧ driveMap 4680 = (1, 1170, 4) ∧
    (pass0 0x8000 8724152).code 0x3C00 1000 = 3900 ∧ driveMap 3900 = (0, 3900, 1) := by decide +kernel

/-- The worked example of file 01: 20,000 at D = 0.95, a gain of 0x4666 and a correction of 1.02. -/
theorem test_pixel_of_LH1 : (pass0 31130 8556380).code 0x4666 20000 = 85270 ∧ driveMap 85270 = (3, 1332, 64) := by decide +kernel

/-- The phase groups of the worked examples of files 03 and 06, and the slice and PWM period of the latter. -/
theorem test_phase_and_slice : run0.phaseGroup (pixIdx 300 45) = 41 ∧ run0.phaseGroup (pixIdx 1103 190) = 45 ∧
    inSlice 30 (pixIdx 1103 190) = true ∧ testPeriod 4 (pixIdx 1103 190) = 2 ∧ onAt 41 1170 2624 = true ∧ onAt 41 1170 3794 = false := by
  decide +kernel

/-- R415: −40 °C reads −640. -/
theorem test_temperature : tempOf (run0.setF F.THM_DIE0_T (encSigned 16 (-640))) F.THM_DIE0_T = -640 := by decide +kernel

/-! ### One step -/

/-- The queue's front runs, and the rest waits. -/
theorem test_step_takes_the_front : after (step { State.reset with pending := [.resetNLow, .por] }) (fun t => t.pending == [.por]) = true := by
  decide +kernel

/-- No word spells a command. -/
theorem test_decode_none : decodeTableWord 16 5 = none ∧ State.reset.withFetchWord 16 5 = State.reset := ⟨rfl, rfl⟩

/-- A PING is answered with one packet. -/
theorem test_ping : after (exec (.ping (req 0 [])) run0) (fun t => t.cmd.out.length == 1) = true := by decide +kernel

/-- A REGISTER_WRITE of a set item writes the pending value, not the active one (R51). -/
theorem test_register_write : after (exec (.registerWrite 0 0x6004 500) run0)
    (fun t => t.f F.DRV_BUDGET_BUDGET == 500 && t.a F.DRV_BUDGET_BUDGET == 600) = true := by decide +kernel

/-- Each pin of the stop inputs asks for its class at once: a lit lamp whose source is mapped to class 0 goes dark. -/
theorem test_pin_stop : after (exec (.safeStopPin true true) (lit0.setReg 0x8014 0)) (fun t =>
    t.lamp == Lamp.stopped && !t.saf.switches && !t.fb F.SAF_STATE_VLED_EN) = true := by decide +kernel

/-- ENABLE from DARK lights the lamp. -/
theorem test_enable : after (exec (.enable (req 0 (by_ [1, 0, 0, 0]))) run0) (fun t => t.lamp == Lamp.lit && t.fb F.SAF_STATE_VLED_EN) = true :=
  by decide +kernel

/-- RESET_N holds the part in reset, dark, with its bypass closed. -/
theorem test_reset : after (exec .resetNLow lit0) (fun t => t.off && !t.saf.switches && t.fb F.RNG_STATUS_BYPASS) = true := by
  decide +kernel

/-- A tick of a part that runs takes the next number. -/
theorem test_tick : after (exec (.tick ⟨1800, 3600, none⟩) run0) (fun t => t.tck.frame == (run0.tck.frame + 1) % 2 ^ 32) = true := by decide +kernel

/-- A packet for a waiting engine joins its queue. -/
theorem test_packet_receive : after (exec (.packetReceive .spi (encodePkt 0 0 0 0x71 7 1 0 [])) run0)
    (fun t => t.cmd.inbox.length == 1) = true := by decide +kernel

/-- On an empty queue the part after reset waits. -/
theorem test_reset_idles : after (step State.reset) (fun t => t.pending == [] && t.off) = true := by decide +kernel

/-- A layer whose matrix is that of the worked example of R119: PRE0 = −256, c00 = 9,574. -/
def layer0 : VLayer := { regs := [(0x4114, BitVec.ofNat 32 (9574 * 65536)), (0x4128, BitVec.ofNat 32 (4096 - 256))] }

/-- Studio-range luminance (file 04): 502, 940 and 64 in 10 bits give 32,776, 65,535 and 0. -/
theorem test_studio_range : layer0.output 0 0 (2008, 0, 0) = 32776 ∧ layer0.output 0 0 (3760, 0, 0) = 65535 ∧
    layer0.output 0 0 (256, 0, 0) = 0 := by decide +kernel

end Sys2Proof.Tests
end

section
/-! What an accepted packet leaves, what the queue's service answers, and a step of the front end (O1). -/

namespace Sys2Proof.Machine

/-! ### What an accepted packet leaves (R335, R345, R390, R391, R454) -/

/-- What hearing of an accepted packet may do, its place in the queue and its alive value aside. -/
structure TrafficStep (s t : State) : Prop where
  keeps : Keeps [.cmd, .regs, .pwr] s t
  words : KeepsRegs replyRegs s t
  inbox : t.cmd.inbox = s.cmd.inbox
  master : t.cmd.masterTime = s.cmd.masterTime

namespace TrafficStep

variable {s t u : State}

theorem refl (s : State) : TrafficStep s s := ⟨Keeps.refl _ s, KeepsRegs.refl _ s, rfl, rfl⟩

theorem trans (h : TrafficStep s t) (h' : TrafficStep t u) : TrafficStep s u :=
  ⟨h.keeps.trans h'.keeps, h.words.trans h'.words, h'.inbox.trans h.inbox, h'.master.trans h.master⟩

theorem ite {c : Prop} [Decidable c] (h : TrafficStep s t) (h' : TrafficStep s u) : TrafficStep s (if c then t else u) := by
  split
  · exact h
  · exact h'

theorem pwr (h : TrafficStep s t) (x : PwrSt) : TrafficStep s { t with pwr := x } :=
  ⟨h.keeps.trans fun p hp => by cases p <;> first | rfl | exact absurd (by simp) hp, h.words, h.inbox, h.master⟩

theorem cmd (h : TrafficStep s t) {x : CmdSt} (hi : x.inbox = t.cmd.inbox) (hm : x.masterTime = t.cmd.masterTime) :
    TrafficStep s { t with cmd := x } :=
  ⟨h.keeps.of_cur (by simp) x, h.words, hi.trans h.inbox, hm.trans h.master⟩

/-- A reply of the engine leaves the queue and the master's watch alone. -/
theorem of_reply (h : ReplyStep s t) (hm : t.cmd.masterTime = s.cmd.masterTime) : TrafficStep s t :=
  ⟨h.keeps.mono (by simp), h.words, h.inbox, hm⟩

theorem finalReply (op : Nat) (rq : Req) (seq st : Nat) (body : List Byte) (s : State) :
    TrafficStep s (finalReply op rq seq st body s) := by
  refine of_reply (finalReply_step op rq seq st body s) ?_
  simp only [Machine.finalReply, noteLastRef_cmd, noteStatus_cmd, journalDone, pushReply]
  split <;> split <;> rfl

theorem lostReport (s : State) : TrafficStep s (lostReport s) :=
  of_reply (.of_send (lostReport_step s)) (lostReport_step s).master.1

/-- The end of a SHUTDOWN that a service request aborts (R454). -/
theorem finishOp_aborted (op : Nat) (body : List Byte) (s : State) : TrafficStep s (finishOp op St.aborted body s) := by
  unfold finishOp
  split
  · next j _ =>
    have hst : (if j.replayed then replayStatus St.aborted else St.aborted) = St.aborted := by split <;> rfl
    simp only [finishJob, hst]
    have h := (refl s).cmd (x := { s.cmd with jobs := s.cmd.jobs.filter (fun k => !(k.seq == j.seq)) }) rfl rfl
    exact (h.trans (finalReply j.op j.rq j.seq St.aborted body _)).trans (lostReport _)
  · exact refl s

theorem leaveHold (s : State) : TrafficStep s (leaveHold s) := ite ((refl s).pwr _) ((refl s).pwr _)

theorem noteTraffic (type op : Nat) (payload : List Byte) (s : State) : TrafficStep s (noteTraffic type op payload s) := by
  unfold Machine.noteTraffic serviceShutdown
  have h1 := ite (c := (decide (type = 0) && !(op == 0x00) || decide (type = 3)) = true)
    ((refl s).pwr (clearElapsed s).pwr) (refl s)
  have h2 := ite (c := (decide (type = 3) || decide (type = 0) && !readOnlyOp op && !(op == 0x48 && u8 payload 0 == 1)) = true)
    (h1.trans (leaveHold _)) h1
  exact ite (h2.pwr _) (ite ((h2.pwr _).trans (finishOp_aborted _ _ _)) h2)

end TrafficStep

/-- The alive value of a stream shares no word with what a reply writes. -/
theorem aliveLast_notMem_replyRegs (st : Nat) : (aliveLast st).addr ∉ replyRegs := by
  simp only [aliveLast, Fld.at, replyRegs, List.mem_cons, List.not_mem_nil, or_false]
  omega

theorem f_noteAlive (stream alive : Nat) (s : State) : (noteAlive stream alive s).f (aliveLast stream) = alive % 256 := by
  unfold noteAlive
  rw [f_setB_other _ _ (by simp [aliveValid, Fld.at, Fld.ok]) (by simp [aliveLast, Fld.at, Fld.ok]) (by simp [aliveValid, aliveLast, Fld.at, Fld.apart]),
    f_setF_mod _ _ (by simp [aliveLast, Fld.at, Fld.ok])]
  rfl

/-- The state in which an accepted packet stands in the queue, before anything else hears of it. -/
def entered (op : Nat) (rq : Req) (s : State) : State :=
  queueEntry 0 op rq (noteAlive rq.stream rq.alive (if masterStream rq.stream then noteMaster rq.stream s else s))

section accept

variable (op : Nat) (rq : Req) (s : State)

theorem entered_inbox : (entered op rq s).cmd.inbox = s.cmd.inbox ++ [⟨0, op, rq, s.time, s.tck.frame, s.tck.row⟩] := by
  unfold entered
  split <;> simp [queueEntry, noteAlive, noteMaster, sourceOff]

theorem f_queueEntry (type op : Nat) (rq : Req) (s : State) (x : Fld) : (queueEntry type op rq s).f x = s.f x := rfl

theorem entered_alive : (entered op rq s).f (aliveLast rq.stream) = rq.alive % 256 := by
  rw [entered, f_queueEntry, f_noteAlive]

theorem entered_master (h : rq.stream ≠ 1) : (entered op rq s).cmd.masterTime = s.time := by
  simp [entered, masterStream, h, queueEntry, noteAlive, noteMaster, sourceOff]

theorem noteMaster_keeps (stream : Nat) : Keeps [.cmd, .regs, .saf] s (noteMaster stream s) := by
  intro p hp
  cases p <;> first | rfl | exact absurd (by simp) hp

theorem noteAlive_keeps (stream alive : Nat) : Keeps [.regs] s (noteAlive stream alive s) := by
  intro p hp
  cases p <;> first | rfl | exact absurd (by simp) hp

theorem entered_keeps : Keeps [.cmd, .regs, .saf, .pwr] s (entered op rq s) := by
  have h : Keeps [.cmd, .regs, .saf, .pwr] s (if masterStream rq.stream then noteMaster rq.stream s else s) := by
    split
    · exact (noteMaster_keeps s _).mono (by simp)
    · exact Keeps.refl _ s
  exact (h.trans ((noteAlive_keeps _ _ _).mono (by simp))).of_cur (by simp) _

theorem entered_log : (entered op rq s).saf.log = s.saf.log := by
  unfold entered
  split <;> simp [queueEntry, noteAlive, noteMaster, sourceOff]

theorem accept_of_held (h : s.off = true ∨ s.holds 0 op rq = true) : accept 0 op rq s = s := by
  rcases h with h | h
  · simp [accept, h]
  · simp [accept, h]

/-- What an accepted packet leaves beside its own entry. -/
theorem accept_of_new (ho : s.off = false) (hh : s.holds 0 op rq = false) :
    TrafficStep (entered op rq s) (accept 0 op rq s) := by
  have h : accept 0 op rq s = noteTraffic 0 op rq.payload (entered op rq s) := by simp [accept, ho, hh, takeIn, entered]
  exact h ▸ .noteTraffic _ _ _ _

/-- A packet is accepted, or it is not. -/
theorem accept_cases : accept 0 op rq s = s ∨
    (s.off = false ∧ s.holds 0 op rq = false ∧ TrafficStep (entered op rq s) (accept 0 op rq s)) := by
  by_cases h : s.off = true ∨ s.holds 0 op rq = true
  · exact .inl (accept_of_held op rq s h)
  · simp only [not_or, Bool.not_eq_true] at h
    exact .inr ⟨h.1, h.2, accept_of_new op rq s h.1 h.2⟩

theorem accept_keeps : Keeps [.cmd, .regs, .saf, .pwr] s (accept 0 op rq s) := by
  rcases accept_cases op rq s with h | ⟨-, -, ht⟩
  · rw [h]
    exact Keeps.refl _ s
  · exact (entered_keeps op rq s).trans (ht.keeps.mono (by simp))

theorem accept_log : (accept 0 op rq s).saf.log = s.saf.log := by
  rcases accept_cases op rq s with h | ⟨-, -, ht⟩
  · rw [h]
  · rw [ht.keeps .saf (by simp), entered_log]

/-- A packet is accepted once (R335). -/
theorem accept_accept : accept 0 op rq (accept 0 op rq s) = accept 0 op rq s := by
  rcases accept_cases op rq s with h | ⟨-, -, ht⟩
  · rw [h, h]
  · refine accept_of_held op rq _ (.inr ?_)
    simp [State.holds, ht.inbox, entered_inbox, QEntry.matches]

end accept

/-! ### What is answered without a row (R338, R355) -/

theorem answerHead_of_rows {s : State} (h : ∀ e ∈ s.cmd.inbox, noRow e.op = none) : answerHead s = none := by
  unfold answerHead
  split
  · rfl
  · next e l hl =>
    have hm : e ∈ s.cmd.inbox := (List.mem_filter.mp (hl ▸ List.mem_cons_self)).1
    rw [h e hm]

theorem serveQueue_of_rows {s : State} (h : ∀ e ∈ s.cmd.inbox, noRow e.op = none) : serveQueue s = s :=
  iterSome_none (answerHead_of_rows h) _

/-- A refusal answered from the queue's head changes the front end and the words of a reply. -/
theorem runBody_refused_frame (op : Nat) (idemp : Bool) (rq : Req) (st : Nat) (s : State) :
    CmdFrame [] [] s (runBody op idemp rq (fun t => (t, .final st [])) s) := by
  have h := (finalReply_step op rq s.cmd.seq st [] { startCommand op idemp rq s with cmd.cur := none }).trans
    (.of_send (lostReport_step _))
  exact ⟨((startCommand_keeps [.regs] op idemp rq s).of_cur (by simp) _).trans h.keeps, h.words.left []⟩

theorem answerHead_frame {s t : State} (h : answerHead s = some t) : CmdFrame [] [] s t := by
  unfold answerHead at h
  split at h
  · cases h
  · split at h
    · cases h
    · split at h
      · cases h
      · cases h
        exact runBody_refused_frame _ _ _ _ _

theorem CmdFrame.refl (parts : List Part) (words : List Nat) (s : State) : CmdFrame parts words s s :=
  ⟨Keeps.refl _ s, KeepsRegs.refl _ s⟩

theorem CmdFrame.trans {parts : List Part} {words : List Nat} {s t u : State} (h : CmdFrame parts words s t)
    (h' : CmdFrame parts words t u) : CmdFrame parts words s u := ⟨h.1.trans h'.1, h.2.trans h'.2⟩

theorem iterSome_answerHead_frame (n : Nat) (s : State) : CmdFrame [] [] s (iterSome answerHead n s) := by
  induction n generalizing s with
  | zero => exact CmdFrame.refl _ _ s
  | succ n ih =>
    unfold iterSome
    split
    · next t ht => exact (answerHead_frame ht).trans (ih t)
    · exact CmdFrame.refl _ _ s

theorem serveQueue_frame (s : State) : CmdFrame [] [] s (serveQueue s) := iterSome_answerHead_frame _ s

/-! ### A step without a command, and the rows of the commands (R15, R338) -/

theorem time_keeps (s : State) (n : Nat) : Keeps [.time] s { s with time := n } := by
  intro p hp
  cases p <;> first | rfl | exact absurd (by simp) hp

theorem idle_time (s : State) : (idle s).time = s.time + 1 := (serveQueue_frame _).1 .time (by simp)

theorem idle_frame (s : State) : CmdFrame [.time] [] s (idle s) := by
  obtain ⟨hk, hw⟩ := serveQueue_frame { s with time := s.time + 1 }
  exact ⟨((time_keeps s _).mono (by simp)).trans (hk.mono (by simp)), hw⟩

theorem idle_keeps {s : State} (h : ∀ e ∈ s.cmd.inbox, noRow e.op = none) : Keeps [.time] s (idle s) := by
  rw [idle, serveQueue_of_rows (s := { s with time := s.time + 1 }) h]
  exact time_keeps s _

section command

variable (op : Nat) (rq : Req) (body : State → State × Reply) (s : State)

theorem command_accept : command op rq body (accept 0 op rq s) = command op rq body s := by
  simp only [command, runCommand, accept_accept]

variable {op rq s}

theorem command_holds_back (h : ∀ e ∈ (accept 0 op rq s).cmd.inbox, noRow e.op = none)
    (hw : (accept 0 op rq s).mustWait op rq = true) : command op rq body s = accept 0 op rq s := by
  rw [command_waits (by rwa [serveQueue_of_rows h]), serveQueue_of_rows h]

end command

theorem nvmReadWaits_accept (rq : Req) (s : State) : nvmReadWaits rq (accept 0 0x60 rq s) = nvmReadWaits rq s := by
  have hn : (accept 0 0x60 rq s).nvm = s.nvm := accept_keeps 0x60 rq s .nvm (by simp)
  simp only [nvmReadWaits, hn, accept_log]

theorem bistStart_of_no_test {s : State} (h : s.nvm.test = none) : bistStart s = s := by simp [bistStart, h]

/-- The row of a command runs the command's body, but for three that look at the queue or the eNVM beside it. -/
theorem exec_eq_command {c : Instr} {op : Nat} {rq : Req} (hc : commandOf c = some (op, rq)) :
    (∃ body, ∀ s, exec c s = .next (command op rq body s)) ∨ (c = .enable rq ∧ op = 0x46) ∨ (c = .nvmRead rq ∧ op = 0x60) ∨
      (c = .bistRun rq ∧ op = 0x68) := by
  cases c
  case enable r =>
    cases hc
    exact .inr (.inl ⟨rfl, rfl⟩)
  case nvmRead r =>
    cases hc
    exact .inr (.inr (.inl ⟨rfl, rfl⟩))
  case bistRun r =>
    cases hc
    exact .inr (.inr (.inr ⟨rfl, rfl⟩))
  all_goals first
    | (cases hc; exact .inl ⟨_, fun _ => rfl⟩)
    | exact nomatch hc

/-- A row that stands for a packet acts as after that packet's acceptance. -/
theorem exec_accept {c : Instr} {op : Nat} {rq : Req} (s : State) (hc : commandOf c = some (op, rq)) :
    exec c s = exec c (accept 0 op rq s) := by
  rcases exec_eq_command hc with ⟨body, h⟩ | ⟨rfl, rfl⟩ | ⟨rfl, rfl⟩ | ⟨rfl, rfl⟩
  · rw [h, h, command_accept]
  · simp only [exec, execEnable, accept_accept]
  · simp only [exec, execNvmRead, nvmReadWaits_accept, accept_accept, command_accept]
  · simp only [exec, execBistRun, command_accept]

/-- Out of its turn a command waits in the queue (R338). -/
theorem exec_waits {c : Instr} {op : Nat} {rq : Req} {s : State} (hc : commandOf c = some (op, rq))
    (h : ∀ e ∈ (accept 0 op rq s).cmd.inbox, noRow e.op = none) (hw : (accept 0 op rq s).mustWait op rq = true)
    (he : c = .enable rq → enableAhead (accept 0 op rq s) = false)
    (hb : c = .bistRun rq → (accept 0 op rq s).nvm.test = none) : exec c s = .next (accept 0 op rq s) := by
  rcases exec_eq_command hc with ⟨body, hx⟩ | ⟨rfl, rfl⟩ | ⟨rfl, rfl⟩ | ⟨rfl, rfl⟩
  · rw [hx, command_holds_back _ h hw]
  · simp only [exec, execEnable, he rfl, Bool.false_eq_true, if_false, command_accept, command_holds_back _ h hw]
  · simp only [exec, execNvmRead, serveQueue_of_rows h, command_holds_back _ h hw, ite_self]
  · simp only [exec, execBistRun, command_holds_back _ h hw, bistStart_of_no_test (hb rfl)]

/-- Every row answers a next state: none faults, none is refused by the model. -/
theorem exec_next (c : Instr) (s : State) : ∃ t, exec c s = .next t := by
  cases c <;> exact ⟨_, rfl⟩

/-- Settles O1, by the acceptance of a packet and the service of the queue's head. -/
theorem stepRunsTheFrontCommand : Obligations.StepRunsTheFrontCommand := by
  refine ⟨fun c rest s => rfl, exec_next, fun s hs => ?_, fun c op rq s u hc hu => ?_⟩
  · exact ⟨idle s, by simp only [step, hs], idle_time s, idle_frame s, idle_keeps⟩
  · subst hu
    refine ⟨exec_accept s hc, accept_of_held op rq s, fun ho hh => ?_, exec_waits hc⟩
    have ht := accept_of_new op rq s ho hh
    refine ⟨?_, ?_, fun h => ?_, accept_keeps op rq s⟩
    · rw [ht.inbox, entered_inbox]
    · rw [State.f, ht.words _ (aliveLast_notMem_replyRegs _)]
      exact entered_alive op rq s
    · rw [ht.master, entered_master op rq s h]

end Sys2Proof.Machine
end

section
/-! What a read and a write of one register do: the latches (R10), the bits a write takes (R6, R9), its side effects
(R51, R100, R127, R213, R298, R397); O4, O5 and O7. -/

namespace Sys2Proof.Machine

/-! ### The rows of the register tables -/

theorem regRow_addr {a : Nat} {r : RegRow} (h : regRow a = some r) : r.addr = a := by
  simpa using List.find?_some h

theorem regRow_mem {a : Nat} {r : RegRow} (h : regRow a = some r) : r ∈ regRows := List.mem_of_find?_eq_some h

/-- No equaliser register holds a W1C bit (R323). -/
theorem eqRows_have_no_w1c : ∀ r ∈ regRows, inRange r.addr 0x1040 0x105F = true → r.addr % 8 = 4 → r.w1c = 0 := by
  decide +kernel

/-! ### The bits of a written word -/

theorem eqValue_of_notEq {a : Nat} (old v : Word) (h : ¬ (0x1040 ≤ a ∧ a ≤ 0x105F)) : eqValue a old v = v := by
  have : inRange a 0x1040 0x105F = false := by
    simpa [inRange] using fun h1 => Nat.lt_of_not_le fun h2 => h ⟨h1, h2⟩
  simp [eqValue, this]

/-- Where a register holds W1C bits, the written value reaches them as it is. -/
theorem w1c_and_eqValue {a : Nat} {r : RegRow} (h : regRow a = some r) (old v : Word) :
    eqValue a old v &&& BitVec.ofNat 32 r.w1c = v &&& BitVec.ofNat 32 r.w1c := by
  unfold eqValue
  split
  · next hc =>
    simp only [Bool.and_eq_true, beq_iff_eq] at hc
    have := eqRows_have_no_w1c r (regRow_mem h) (by rw [regRow_addr h]; exact hc.1.1) (by rw [regRow_addr h]; exact hc.1.2)
    simp [this]
  · rfl

theorem getLsbD_writeValue (r : RegRow) (old v : Word) (i : Nat) (hi : i < 32) :
    (writeValue r old v).getLsbD i =
      if (v &&& BitVec.ofNat 32 r.w1c).getLsbD i then false
      else if (BitVec.ofNat 32 (r.rw ||| r.rwl)).getLsbD i then v.getLsbD i else old.getLsbD i := by
  simp only [writeValue, BitVec.getLsbD_and, BitVec.getLsbD_or, BitVec.getLsbD_not, hi, decide_true, Bool.true_and]
  cases v.getLsbD i <;> cases (BitVec.ofNat 32 r.w1c).getLsbD i <;> cases (BitVec.ofNat 32 (r.rw ||| r.rwl)).getLsbD i <;> simp

/-! ### The side effects of a write -/

/-- Closing the bypass writes RNG_STATUS alone (R298, R315). -/
theorem closeBypass_frame (s : State) : KeepsRegs [0x1004] s (closeBypass s) ∧ Keeps [.regs] s (closeBypass s) :=
  ⟨((setB_keepsRegs s _ (by decide)).trans (setB_keepsRegs _ _ (by decide))).trans (setB_keepsRegs _ _ (by decide)),
    ((setB_keeps [] s _ _).trans (setB_keeps [] _ _ _)).trans (setB_keeps [] _ _ _)⟩

/-- A turn of the comparator writes PWR_FLAGS alone (R397). -/
theorem roosterTurn_frame (out : Bool) (s : State) :
    KeepsRegs [0xC004] s (roosterTurn out s) ∧ Keeps [.regs, .pwr] s (roosterTurn out s) := by
  have hk : Keeps [.regs, .pwr] s { s with pwr.roosterOut := out } := fun p hp => by
    cases p <;> first | rfl | exact absurd (by simp) hp
  unfold roosterTurn
  split
  · exact ⟨setB_keepsRegs _ _ (by decide), hk.trans (setB_keeps [.pwr] _ _ _)⟩
  · exact ⟨KeepsRegs.refl _ s, hk⟩

/-- What a write does beside keeping its bits stays within the words and the parts listed for its address. -/
theorem writeEffect_frame (a : Nat) (v : Word) (s : State) :
    KeepsRegs (effectWords a) s (writeEffect a v s) ∧ Keeps (.regs :: effectParts a) s (writeEffect a v s) := by
  unfold writeEffect
  split
  · split
    · exact closeBypass_frame s
    · exact ⟨KeepsRegs.refl _ s, Keeps.refl _ s⟩
  · exact ⟨KeepsRegs.refl _ s, fun p hp => by cases p <;> first | rfl | exact absurd (by decide) hp⟩
  · split
    · exact ⟨KeepsRegs.refl _ s, fun p hp => by cases p <;> first | rfl | exact absurd (by decide) hp⟩
    · exact ⟨KeepsRegs.refl _ s, Keeps.refl _ s⟩
  · split
    · exact ⟨KeepsRegs.refl _ s, Keeps.refl _ s⟩
    · have h : Moves anyReply [.dia] [0x20C4] s (pauseTests 5 s) := (Moves.refl _ _ _ s).pauseTests (by decide) (by decide) 5
      exact ⟨h.regs.mono (by decide), h.keeps.mono (by decide)⟩
  · exact roosterTurn_frame _ s
  · exact ⟨KeepsRegs.refl _ s, Keeps.refl _ s⟩

theorem notMem_effectWords (a : Nat) : a ∉ effectWords a := by
  unfold effectWords
  split <;> simp [eventRegs]

theorem tck_notMem_effectParts (a : Nat) : Part.tck ∉ Part.regs :: effectParts a := by
  unfold effectParts
  split <;> decide

theorem mem_setInsert (n : Nat) (l : List Nat) : n ∈ setInsert n l := by
  induction l with
  | nil => simp [setInsert]
  | cons m l ih =>
    unfold setInsert
    split
    · simp
    · split
      · next h => simp [h]
      · simp [ih]

/-- A word and its pending item, before the side effects. -/
def writtenWord (a : Nat) (r : RegRow) (v : Word) (s : State) : State :=
  let s1 := s.setReg a (writeValue r (s.reg a) (eqValue a (s.reg a) v))
  if r.item then markDirty a s1 else s1

theorem writeOne_eq {a : Nat} {r : RegRow} (h : regRow a = some r) (v : Word) (s : State) :
    writeOne a v s = writeEffect a v (writtenWord a r v s) := by
  simp [writeOne, writtenWord, h]

theorem reg_writtenWord (a : Nat) (r : RegRow) (v : Word) (s : State) (b : Nat) :
    (writtenWord a r v s).reg b = if b = a then writeValue r (s.reg a) (eqValue a (s.reg a) v) else s.reg b := by
  unfold writtenWord
  split <;> exact reg_setReg s _ _ _

theorem markDirty_keeps (a : Nat) (s : State) : Keeps [.regs, .tck] s (markDirty a s) := fun p hp => by
  cases p <;> first | rfl | exact absurd (by simp) hp

theorem writtenWord_keeps (a : Nat) (r : RegRow) (v : Word) (s : State) : Keeps [.regs, .tck] s (writtenWord a r v s) := by
  unfold writtenWord
  split
  · exact (setReg_keeps [.tck] s a _).trans (markDirty_keeps a _)
  · exact setReg_keeps [.tck] s a _

/-- Without an item the pending set stays. -/
theorem writtenWord_keeps_of_plain {r : RegRow} (h : r.item = false) (a : Nat) (v : Word) (s : State) :
    Keeps [.regs] s (writtenWord a r v s) := by
  simp only [writtenWord, h, Bool.false_eq_true, if_false]
  exact setReg_keeps [] s a _

/-- The word a write leaves, its side effects told. -/
theorem reg_writeOne {a : Nat} {r : RegRow} (h : regRow a = some r) (v : Word) (s : State) :
    (writeOne a v s).reg a = writeValue r (s.reg a) (eqValue a (s.reg a) v) := by
  rw [writeOne_eq h, (writeEffect_frame a v _).1 a (notMem_effectWords a), reg_writtenWord, if_pos rfl]

theorem mem_dirty_writeOne {a : Nat} {r : RegRow} (h : regRow a = some r) (hi : r.item = true) (v : Word) (s : State) :
    a ∈ (writeOne a v s).tck.dirty := by
  rw [writeOne_eq h, (writeEffect_frame a v _).2 .tck (tck_notMem_effectParts a)]
  simp only [writtenWord, hi, if_true, markDirty]
  exact mem_setInsert a _

theorem writeOne_keepsRegs (a : Nat) (v : Word) (s : State) : KeepsRegs (a :: effectWords a) s (writeOne a v s) := by
  cases h : regRow a with
  | none => simp only [writeOne, h, KeepsRegs.refl]
  | some r =>
    rw [writeOne_eq h]
    refine KeepsRegs.trans (fun b hb => ?_) ((writeEffect_frame a v _).1.mono (List.subset_cons_self _ _))
    rw [reg_writtenWord, if_neg (fun e => hb (by simp [e])) ]

theorem writeOne_keeps (a : Nat) (v : Word) (s : State) : Keeps (.regs :: .tck :: effectParts a) s (writeOne a v s) := by
  cases h : regRow a with
  | none => simp only [writeOne, h, Keeps.refl]
  | some r =>
    rw [writeOne_eq h]
    exact ((writtenWord_keeps a r v s).mono (by simp)).trans
      ((writeEffect_frame a v _).2.mono (List.cons_subset_cons _ (List.subset_cons_self _ _)))

/-- Settles O5, from the masks of the row and the frame of the side effects. -/
theorem writtenBitsFollowTheirAccessCodes : Obligations.WrittenBitsFollowTheirAccessCodes := by
  intro a r v s h
  refine ⟨fun i hi => ?_, fun ha => eqValue_of_notEq _ v ha, fun hi => mem_dirty_writeOne h hi v s,
    writeOne_keepsRegs a v s, writeOne_keeps a v s⟩
  rw [reg_writeOne h, getLsbD_writeValue _ _ _ _ hi, w1c_and_eqValue h, BitVec.getLsbD_and, Bool.and_comm]

/-! ### Single writes -/

theorem exec_registerWrite_plain {stream a : Nat} {v : Word} {s : State}
    (h : wordStatus s stream a 0xFFFFFFFF v.toNat = none) (hr : rwlWrite a 0xFFFFFFFF = false) :
    exec (.registerWrite stream a v) s = .next (writeOne a v s) := by
  simp only [exec, execRegisterWrite, registerWrite, h, hr, Bool.false_eq_true, if_false]

theorem fluxRestart_keeps (s : State) : Keeps [.drv] s (fluxRestart s) := fun p hp => by
  cases p <;> first | rfl | exact absurd (by simp) hp

/-- The row of LYR_SYM (R127). -/
theorem regRow_lyrSym : regRow 0x4014 = some ⟨0x4014, 0x41C, 0x71F, 0, 0, 0, 0, false⟩ := by decide +kernel

/-- A field of RW bits takes the bits of the value written. -/
theorem fieldOf_writeValue {r : RegRow} (old v : Word) {hi lo : Nat} (hh : hi < 32) (hw : r.w1c = 0)
    (hm : ∀ i ≤ hi, lo ≤ i → (BitVec.ofNat 32 (r.rw ||| r.rwl)).getLsbD i = true) :
    fieldOf (writeValue r old v) hi lo = bitsOf v.toNat hi lo := by
  apply Nat.eq_of_testBit_eq
  intro i
  simp only [fieldOf, testBit_bitsOf, BitVec.testBit_toNat]
  by_cases h : i < hi + 1 - lo
  · rw [getLsbD_writeValue _ _ _ _ (by omega), hm (lo + i) (by omega) (by omega)]
    simp [hw]
  · simp [h]

theorem f_writeOne_lyrSym (v : Word) (s : State) :
    (writeOne 0x4014 v s).f F.LYR_SYM_BANKS = bitsOf v.toNat 10 8 ∧
      (writeOne 0x4014 v s).f F.LYR_SYM_BASE_BANK = bitsOf v.toNat 4 0 := by
  have h : (writeOne 0x4014 v s).reg 0x4014 = _ := reg_writeOne regRow_lyrSym v s
  rw [eqValue_of_notEq _ _ (by decide)] at h
  simp only [State.f, h]
  exact ⟨fieldOf_writeValue _ v (by decide) rfl (by decide), fieldOf_writeValue _ v (by decide) rfl (by decide)⟩

theorem writeOne_lyrSym_lyr (v : Word) (s : State) : (writeOne 0x4014 v s).lyr = { s.lyr with syms := [] } := by
  rw [writeOne_eq regRow_lyrSym]
  rfl

theorem writeOne_lyrSym_keeps (v : Word) (s : State) : Keeps [.regs, .lyr] s (writeOne 0x4014 v s) := by
  rw [writeOne_eq regRow_lyrSym]
  exact ((writtenWord_keeps_of_plain rfl _ v s).mono (by simp)).trans (writeEffect_frame 0x4014 v _).2

theorem bypassHold_true_fields (s : State) :
    (bypassHold true s).fb F.RNG_CTRL_BYPASS_HOLD = true ∧ (bypassHold true s).fb F.RNG_STATUS_BYPASS = true ∧
      (bypassHold true s).fb F.RNG_STATUS_TX_ON = false ∧ (bypassHold true s).fb F.RNG_STATUS_SILENT = false := by
  simp only [bypassHold, if_true, closeBypass]
  refine ⟨?_, ?_, ?_, fb_setB_same _ _ (by decide)⟩
  · rw [fb_setB_other _ _ (by decide) (by decide) (by decide), fb_setB_other _ _ (by decide) (by decide) (by decide),
      fb_setB_other _ _ (by decide) (by decide) (by decide), fb_setB_same _ _ (by decide)]
  · rw [fb_setB_other _ _ (by decide) (by decide) (by decide), fb_setB_other _ _ (by decide) (by decide) (by decide),
      fb_setB_same _ _ (by decide)]
  · rw [fb_setB_other _ _ (by decide) (by decide) (by decide), fb_setB_same _ _ (by decide)]

theorem bypassHold_true_frame (s : State) :
    Keeps [.regs] s (bypassHold true s) ∧ KeepsRegs [0x1000, 0x1004] s (bypassHold true s) := by
  obtain ⟨hw, hk⟩ := closeBypass_frame (s.setB F.RNG_CTRL_BYPASS_HOLD true)
  exact ⟨(setB_keeps [] s _ _).trans hk, (setB_keepsRegs s _ (by decide)).trans (hw.mono (by simp))⟩

/-- Settles O7, one row at a time. -/
theorem singleRegisterWritesAct : Obligations.SingleRegisterWritesAct := by
  intro stream a v s
  refine ⟨exec_registerWrite_plain, ⟨_, rfl, rfl, fluxRestart_keeps s⟩, fun h => ?_, ⟨_, rfl, ?_⟩, ⟨_, rfl, ?_⟩⟩
  · obtain ⟨h1, h2⟩ := f_writeOne_lyrSym v s
    exact ⟨writeOne 0x4014 v s, by simp only [exec, execLyrSymWrite, lyrSymWrite, h], writeOne_lyrSym_lyr v s, h1, h2,
      writeOne_lyrSym_keeps v s, writeOne_keepsRegs 0x4014 v s⟩
  · obtain ⟨h1, h2, h3, h4⟩ := bypassHold_true_fields s
    exact ⟨h1, h2, h3, h4, bypassHold_true_frame s⟩
  · exact ⟨fb_setB_same s false (by decide), setB_keeps [] s _ _, setB_keepsRegs s _ (by decide)⟩

/-! ### Reads (R10, R361) -/

/-- A read of one word changes the latches alone. -/
theorem readReg_keeps (a : Nat) (s : State) : Keeps [.latch] s (readReg a s).2 := by
  unfold readReg
  split
  · exact fun p hp => by cases p <;> first | rfl | exact absurd (by simp) hp
  · split
    · exact fun p hp => by cases p <;> first | rfl | exact absurd (by simp) hp
    · exact Keeps.refl _ s

theorem readRegs_keeps (n a : Nat) (s : State) : Keeps [.latch] s (readRegs a n s).2 := by
  induction n generalizing a s with
  | zero => exact Keeps.refl _ s
  | succ n ih => exact (readReg_keeps a s).trans (ih _ _)

theorem readReg_of_low {a : Nat} (h : a ∈ lowWords) (s : State) :
    readReg a s = ((s.peek a).toNat, { s with latch := kvPut (a + 4) (s.peek (a + 4)) s.latch }) := by
  simp only [readReg, List.contains_iff_mem.2 h, if_true]

theorem readReg_of_latched {a : Nat} {v : Word} {s : State} (h : a ∉ lowWords) (hl : kvGet s.latch a = some v) :
    readReg a s = (v.toNat, { s with latch := kvErase a s.latch }) := by
  simp [readReg, h, hl]

theorem readReg_of_plain {a : Nat} {s : State} (h : a ∉ lowWords) (hl : kvGet s.latch a = none) :
    readReg a s = ((s.peek a).toNat, s) := by
  simp [readReg, h, hl]

theorem regRdBody_runs {rq : Req} (s : State) (hl : rq.payload.length = 8) (hr : inRange (u32 rq.payload 4) 1 1019 = true)
    (hc : regRunCheck (u16 rq.payload 0) (u32 rq.payload 4) = none) :
    regRdBody rq s = ((readRegs (u16 rq.payload 0) (u32 rq.payload 4) s).2,
      .final St.ok (zeros 3 ++ (readRegs (u16 rq.payload 0) (u32 rq.payload 4) s).1.flatMap (bytesLE 4))) := by
  simp only [regRdBody, withLen, len, hl, beq_self_eq_true, if_true, hr, Bool.not_true, Bool.false_eq_true, if_false, hc, okReply]

theorem regRdBody_refuses {rq : Req} (s : State) {st : Nat} (hl : rq.payload.length = 8)
    (hr : inRange (u32 rq.payload 4) 1 1019 = true)
    (hc : regRunCheck (u16 rq.payload 0) (u32 rq.payload 4) = some st) : regRdBody rq s = (s, .final st []) := by
  simp only [regRdBody, withLen, len, hl, beq_self_eq_true, if_true, hr, Bool.not_true, Bool.false_eq_true, if_false, hc, refuse]

/-- A command that ends with its one reply and moves neither words nor parts but those listed. -/
theorem exec_answers {c : Instr} {op : Nat} {rq : Req} {body : State → State × Reply} {s t : State} {st : Nat} {fin : List Byte}
    {parts : List Part} (hr : Runs op rq s) (hc : exec c s = .next (command op rq body s)) (hn : noRow op = none)
    (hb : body (startCommand op (!reqClassN op rq) rq s) = (t, .final st fin))
    (hk : Keeps (.cmd :: parts) (startCommand op (!reqClassN op rq) rq s) t) (hx : Part.regs ∉ parts)
    (ho : t.cmd = (startCommand op (!reqClassN op rq) rq s).cmd) :
    exec c s = .next (runBody op (!reqClassN op rq) rq body s) ∧
      Answers op rq st fin s (runBody op (!reqClassN op rq) rq body s) ∧
      CmdFrame parts [] s (runBody op (!reqClassN op rq) rq body s) ∧
      Keeps [.cmd, .regs] t (runBody op (!reqClassN op rq) rq body s) := by
  have hw : KeepsRegs (replyRegs ++ []) s t := fun a _ => by
    simp only [State.reg, show t.regs = s.regs from hk .regs (by simpa using hx)]
  obtain ⟨ha, hf, -⟩ := runBody_answers hr.2 hb
    (((startCommand_keeps (.regs :: parts) _ _ _ s).trans (hk.mono (by simp)))) hw ⟨[], by simp [ho]⟩
  exact ⟨by rw [hc, command_eq hr hn], ha, hf, (runBody_final hr.2 hb).1⟩

/-- Settles O4, from the reads of one word and the frame of the body. -/
theorem registersAreReadAndHighWordsLatched : Obligations.RegistersAreReadAndHighWordsLatched := by
  refine ⟨fun rq s hr hl hn => ⟨fun hc => ?_, fun st hc => ?_⟩, fun a s u => ⟨fun ha hb hu => ?_, readReg_of_plain⟩⟩
  · have hk := readRegs_keeps (u32 rq.payload 4) (u16 rq.payload 0) (startCommand 0x08 true rq s)
    obtain ⟨he, ha, hf, ht⟩ := exec_answers (c := .regRd rq) (parts := [.latch]) hr rfl (by decide)
      (regRdBody_runs _ hl hn hc) (hk.mono (by simp)) (by simp) (hk .cmd (by simp))
    exact ⟨_, he, hf, ht .latch (by simp), ha⟩
  · obtain ⟨he, ha, hf, -⟩ := exec_answers (c := .regRd rq) (parts := []) hr rfl (by decide)
      (regRdBody_refuses _ hl hn hc) (Keeps.refl _ _) (by simp) rfl
    exact ⟨_, he, ha, hf⟩
  · have hk : kvGet u.latch (a + 4) = some (s.peek (a + 4)) := by rw [hu, readReg_of_low ha, kvGet_kvPut, if_pos rfl]
    rw [readReg_of_low ha, readReg_of_latched hb hk]
    exact ⟨rfl, rfl, by rw [kvGet_kvErase, if_pos rfl]⟩

end Sys2Proof.Machine
end

section
/-! REG_WR and REG_RMW: all words or none, the change of the safety configuration behind them, their replies (R8, R254, R283, R361);
O6. -/

namespace Sys2Proof.Machine

/-! ### The check of a word does not look at the front end -/

theorem wordStatus_startCommand (op : Nat) (idemp : Bool) (rq : Req) (s : State) (stream a mask v : Nat) :
    wordStatus (startCommand op idemp rq s) stream a mask v = wordStatus s stream a mask v := rfl

theorem wrRefused_startCommand (op : Nat) (idemp : Bool) (rq : Req) (s : State) (stream : Nat) (ws : List (Nat × Word)) :
    wrRefused (startCommand op idemp rq s) stream ws = wrRefused s stream ws := by
  induction ws with
  | nil => rfl
  | cons w ws ih => simp only [wrRefused, wordStatus_startCommand, ih]

theorem curSeq_startCommand (op : Nat) (idemp : Bool) (rq : Req) (s : State) :
    (startCommand op idemp rq s).curSeq = s.cmd.seq % 65536 := by
  simp only [State.curSeq, startCommand_seq]
  omega

/-- A word with an RWL bit to write is LOCKED on any stream but the one unlocked (R8). -/
theorem wordStatus_locked {s : State} {stream a mask v : Nat} (ha : a % 4 = 0) (hr : rwlWrite a mask = true)
    (hu : s.unlocked stream = false) : wordStatus s stream a mask v = some St.locked := by
  unfold rwlWrite at hr
  split at hr
  · next r h => simp only [wordStatus, wordCheck, ha, h, hr, hu, beq_self_eq_true, Bool.not_true, Bool.not_false, Bool.and_self,
      if_true, Bool.false_eq_true, if_false]
  · exact absurd hr (by simp)

/-! ### What a run of writes leaves -/

theorem writeEffect_sends (a : Nat) (v : Word) (s : State) : SendsOf anyReply s (writeEffect a v s) := by
  unfold writeEffect
  split
  · split <;> exact SendsOf.refl _ s
  · exact SendsOf.refl _ s
  · split <;> exact SendsOf.refl _ s
  · split
    · exact SendsOf.refl _ s
    · exact ((Moves.refl _ [.dia] [0x20C4] s).pauseTests (by decide) (by decide) 5).sends
  · unfold roosterTurn
    split <;> exact SendsOf.refl _ s
  · exact SendsOf.refl _ s

theorem writeOne_sends (a : Nat) (v : Word) (s : State) : SendsOf anyReply s (writeOne a v s) := by
  cases h : regRow a with
  | none => simp only [writeOne, h, SendsOf.refl]
  | some r =>
    rw [writeOne_eq h]
    refine SendsOf.trans (t := writtenWord a r v s) ⟨[], by simp, ?_⟩ (writeEffect_sends a v _)
    unfold writtenWord
    split <;> simp [markDirty]

/-- Words written in order. -/
def writeWords (ws : List (Nat × Word)) (s : State) : State := ws.foldl (fun v w => writeOne w.1 w.2 v) s

theorem writeWords_keeps (ws : List (Nat × Word)) (s : State) :
    Keeps (.regs :: .tck :: ws.flatMap (fun w => effectParts w.1)) s (writeWords ws s) := by
  induction ws generalizing s with
  | nil => exact Keeps.refl _ s
  | cons w ws ih =>
    refine ((writeOne_keeps w.1 w.2 s).mono ?_).trans ((ih _).mono ?_) <;> intro p hp <;> simp at hp ⊢ <;> tauto

theorem writeWords_sends (ws : List (Nat × Word)) (s : State) : SendsOf anyReply s (writeWords ws s) := by
  induction ws generalizing s with
  | nil => exact SendsOf.refl _ s
  | cons w ws ih => exact (writeOne_sends w.1 w.2 s).trans (ih _)

theorem notMem_effectParts (a : Nat) : Part.saf ∉ effectParts a ∧ Part.time ∉ effectParts a ∧ Part.nvm ∉ effectParts a := by
  unfold effectParts
  split <;> simp

theorem writeWords_saf_time (ws : List (Nat × Word)) (s : State) :
    (writeWords ws s).saf = s.saf ∧ (writeWords ws s).time = s.time := by
  have h := writeWords_keeps ws s
  exact ⟨h .saf (by simp [notMem_effectParts]), h .time (by simp [notMem_effectParts])⟩

/-! ### A change of the safety configuration (R254) -/

theorem nvmPush_keeps (owner : Option Nat) (ks : List NvmKind) (s : State) : Keeps [.nvm] s (nvmPush owner ks s) := fun p hp => by
  cases p <;> first | rfl | exact absurd (by simp) hp

theorem logChange_keeps (stream : Nat) (owner : Option Nat) (items : List LogItem) (stored : Bool) (s : State) :
    Keeps [.saf, .nvm] s (logChange stream owner items stored s) := by
  unfold logChange
  refine Keeps.trans (t := { s with saf.logNext := s.saf.logNext + items.length
                                    saf.logStored := if stored then s.saf.logNext + items.length else s.saf.logStored
                                    saf.unlockTime := s.time }) ?_ ?_
  · exact fun p hp => by cases p <;> first | rfl | exact absurd (by simp) hp
  · split
    · exact ((nvmPush_keeps _ _ _).trans (nvmPush_keeps _ _ _)).mono (by simp)
    · exact (nvmPush_keeps _ _ _).mono (by simp)

theorem logChange_saf (stream : Nat) (owner : Option Nat) (items : List LogItem) (stored : Bool) (s : State) :
    (logChange stream owner items stored s).saf.logNext = s.saf.logNext + items.length ∧
      (logChange stream owner items stored s).saf.unlockTime = s.time := by
  unfold logChange
  split <;> exact ⟨rfl, rfl⟩

theorem changeChecks_pass {s : State} {n : Nat} (hr : logRoom s n = true) (hd : s.sdActive = false) :
    checkAll (changeChecks s n) = none := by
  simp [changeChecks, checkAll, hr, hd]

theorem changeChecks_fail {s : State} {n : Nat} (h : (logRoom s n && !s.sdActive) = false) :
    checkAll (changeChecks s n) = some St.refusedState := by
  cases hr : logRoom s n <;> simp_all [changeChecks, checkAll]

/-! ### The ends of a command whose body sends packets of its own -/

section ends

variable {op : Nat} {rq : Req} {idemp : Bool} {body : State → State × Reply} {s t : State}

theorem lostReport_of_none {s : State} (h : s.cmd.lost = 0) : lostReport s = s := by simp [lostReport, h]

theorem finalReply_lost (op : Nat) (rq : Req) (seq st : Nat) (fin : List Byte) (s : State) :
    (finalReply op rq seq st fin s).cmd.lost = s.cmd.lost := by
  simp only [finalReply, noteLastRef_cmd, noteStatus_cmd, journalDone, pushReply]
  split <;> split <;> rfl

/-- The reply stands last, after what the body sent. -/
theorem runBody_sendsLast {st : Nat} {fin : List Byte} (hq : rq.quiet = false)
    (hb : body (startCommand op idemp rq s) = (t, .final st fin)) (hs : SendsOf anyReply (startCommand op idemp rq s) t) :
    SendsLast (replyOf op rq true st fin s.cmd.seq) s (runBody op idemp rq body s) := by
  obtain ⟨-, -, -, -, evs, he, ho⟩ := runBody_final hq hb
  obtain ⟨ps, -, hp⟩ := hs
  exact ⟨ps, evs, he, by rw [ho, hp]; simp⟩

/-- With no event lost, a good final reply writes no word. -/
theorem runBody_final_regs_eq {st : Nat} {fin : List Byte} (hst : st < 0x10)
    (hb : body (startCommand op idemp rq s) = (t, .final st fin)) (hl : t.cmd.lost = 0) :
    (runBody op idemp rq body s).regs = t.regs := by
  simp only [runBody, hb, endBody, closeCommand]
  rw [lostReport_of_none (by rw [finalReply_lost]; exact hl), finalReply_ok_regs _ _ _ _ _ _ hst]

/-- What a command leaves whose one reply comes later. -/
structure LaterStep (op : Nat) (rq : Req) (fin : List Byte) (seq : Nat) (t u : State) : Prop where
  keeps : Keeps [.cmd, .regs] t u
  words : KeepsRegs sendRegs t u
  regs : t.cmd.lost = 0 → u.regs = t.regs
  jobs : u.cmd.jobs = t.cmd.jobs ++ [⟨seq, op, rq, false, 0, fin, false⟩]
  journal : u.cmd.journal = (markWritten op rq seq t).cmd.journal

theorem markWritten_keeps (op : Nat) (rq : Req) (seq : Nat) (s : State) : Keeps [.cmd] s (markWritten op rq seq s) := by
  unfold markWritten
  split
  · exact (Keeps.refl _ s).of_cur (by simp) _
  · exact Keeps.refl _ s

theorem markWritten_jobs (op : Nat) (rq : Req) (seq : Nat) (s : State) :
    (markWritten op rq seq s).cmd.jobs = s.cmd.jobs ∧ (markWritten op rq seq s).cmd.lost = s.cmd.lost := by
  unfold markWritten
  split <;> exact ⟨rfl, rfl⟩

theorem markWritten_journal_congr (op : Nat) (rq : Req) (seq : Nat) {s u : State} (h : s.cmd.journal = u.cmd.journal) :
    (markWritten op rq seq s).cmd.journal = (markWritten op rq seq u).cmd.journal := by
  unfold markWritten
  split
  · simp only [State.onEntry, h]
  · exact h

/-- A single-register REG_WR has its journal entry DONE with its write (R283). -/
theorem markWritten_done {rq : Req} (hl : rq.payload.length = 8) (seq : Nat) (s : State) :
    ∀ e ∈ (markWritten 0x09 rq seq s).cmd.journal, e.seq = seq → e.state = .done := by
  intro e he hs
  simp only [markWritten, hl, beq_self_eq_true, decide_true, Bool.and_self, if_true, State.onEntry, List.mem_map] at he
  obtain ⟨e', -, rfl⟩ := he
  split at hs
  · next h => simp [h]
  · next h => exact absurd hs h

theorem runBody_later {fin : List Byte} (hb : body (startCommand op idemp rq s) = (t, .later 0 fin)) :
    LaterStep op rq fin s.cmd.seq t (runBody op idemp rq body s) := by
  simp only [runBody, hb, endBody, closeCommand]
  generalize hv : ({ t with cmd.cur := none, cmd.jobs := t.cmd.jobs ++ [⟨s.cmd.seq, op, rq, false, 0, fin, false⟩] } : State) = v
  have hk : Keeps [.cmd] t v := hv ▸ (Keeps.refl _ t).of_cur (by simp) _
  have hm := markWritten_keeps op rq s.cmd.seq v
  obtain ⟨hj, hlost⟩ := markWritten_jobs op rq s.cmd.seq v
  have hl := lostReport_step (markWritten op rq s.cmd.seq v)
  have hn : v.cmd.journal = t.cmd.journal := by rw [← hv]
  have hr : (markWritten op rq s.cmd.seq v).regs = t.regs := (hk.trans hm) .regs (by simp)
  refine ⟨((hk.trans hm).mono (by simp)).trans hl.keeps, fun a ha => ?_, fun h0 => ?_, ?_, ?_⟩
  · rw [hl.words a ha, State.reg, hr, State.reg]
  · rw [lostReport_of_none (by rw [hlost, ← hv]; exact h0), hr]
  · rw [hl.jobs, hj, ← hv]
  · rw [hl.journal, markWritten_journal_congr op rq s.cmd.seq hn]

end ends

/-! ### REG_WR -/

section regWr

variable {rq : Req} {s : State}

/-- The words of a REG_WR that hold safety parameters (R8). -/
def safeWords (rq : Req) : List (Nat × Word) := (wrWords rq).filter (fun w => rwlWrite w.1 0xFFFFFFFF)

theorem regWrBody_refused {a st : Nat} (hl : inRange rq.payload.length 8 4080 = true)
    (hw : wrRefused s rq.stream (wrWords rq) = some (a, st)) :
    regWrBody rq s = (if st = St.bufInUse then s.bump F.LYR_CNT_IN_USE else s, .final st (wrReply a)) := by
  simp only [regWrBody, withLen, hl, if_true, hw]

theorem regWrBody_plain (hl : inRange rq.payload.length 8 4080 = true) (hw : wrRefused s rq.stream (wrWords rq) = none)
    (hs : safeWords rq = []) : regWrBody rq s = (writeWords (wrWords rq) s, .final St.ok (wrReply 0xFFFFFFFF)) := by
  rw [safeWords] at hs
  simp only [regWrBody, withLen, hl, if_true, hw, hs, List.isEmpty_nil, okReply, writeWords]

theorem regWrBody_noRoom (hl : inRange rq.payload.length 8 4080 = true) (hw : wrRefused s rq.stream (wrWords rq) = none)
    (hs : safeWords rq ≠ []) (hr : (logRoom s (safeWords rq).length && !s.sdActive) = false) :
    regWrBody rq s = (s, .final St.refusedState (wrReply 0xFFFFFFFF)) := by
  rw [← List.isEmpty_eq_false_iff] at hs
  rw [safeWords] at hs hr
  simp only [regWrBody, withLen, hl, if_true, hw, hs, changeChecks_fail hr, Bool.false_eq_true, if_false]

theorem regWrBody_change (hl : inRange rq.payload.length 8 4080 = true) (hw : wrRefused s rq.stream (wrWords rq) = none)
    (hs : safeWords rq ≠ []) (hr : logRoom s (safeWords rq).length = true) (hd : s.sdActive = false) :
    regWrBody rq s = (logChange rq.stream (some s.curSeq) ((safeWords rq).map (fun w => regItem s w.1 w.2))
      ((safeWords rq).any (fun w => isStored w.1)) (writeWords (wrWords rq) s), .later 0 (wrReply 0xFFFFFFFF)) := by
  rw [← List.isEmpty_eq_false_iff] at hs
  rw [safeWords] at hs hr
  simp only [regWrBody, withLen, hl, if_true, hw, hs, changeChecks_pass hr hd, Bool.false_eq_true, if_false, safeWords, writeWords]

end regWr

/-! ### REG_RMW -/

section regRmw

variable {rq : Req} {s : State} {a mask : Nat} {w : Word}

theorem regRmwBody_eq (hl : rq.payload.length = 12) (ha : a = u32 rq.payload 0) (hm : mask = u32 rq.payload 4)
    (hv : w = rmwValue s a (BitVec.ofNat 32 mask) (BitVec.ofNat 32 (u32 rq.payload 8))) :
    regRmwBody rq s =
      match wordStatus s rq.stream a mask w.toNat with
      | some st => (if st = St.bufInUse then s.bump F.LYR_CNT_IN_USE else s, .final st [])
      | none =>
        if !rwlWrite a mask then
          okReply (zeros 3 ++ bytesLE 4 (s.peek a).toNat ++ bytesLE 4 ((writeOne a w s).peek a).toNat) (writeOne a w s)
        else match checkAll (changeChecks s 1) with
          | some st => refuse st s
          | none => (logChange rq.stream (some s.curSeq) [regItem s a w] (isStored a) (writeOne a w s),
              .later 0 (zeros 3 ++ bytesLE 4 (s.peek a).toNat ++ bytesLE 4 ((writeOne a w s).peek a).toNat)) := by
  subst ha hm hv
  simp only [regRmwBody, withLen, len, hl, beq_self_eq_true, if_true] <;> rfl

end regRmw

/-! ### The commands -/

section commands

variable {op : Nat} {rq : Req} {idemp : Bool} {body : State → State × Reply} {s t : State}

/-- A command refused with a count of LYR_CNT or with none changes nothing else. -/
theorem runBody_refused {st : Nat} {fin : List Byte} (hq : rq.quiet = false)
    (hb : body (startCommand op idemp rq s) = (if st = St.bufInUse then (startCommand op idemp rq s).bump F.LYR_CNT_IN_USE
      else startCommand op idemp rq s, .final st fin)) :
    Answers op rq st fin s (runBody op idemp rq body s) ∧ CmdFrame [] [F.LYR_CNT_IN_USE.addr] s (runBody op idemp rq body s) := by
  generalize ht : (if st = St.bufInUse then (startCommand op idemp rq s).bump F.LYR_CNT_IN_USE
    else startCommand op idemp rq s) = t at hb
  have h0 : EvIn [] [F.LYR_CNT_IN_USE.addr] (startCommand op idemp rq s) t :=
    ht ▸ EvIn.ite (EvIn.bump _ (by simp)) (EvIn.refl _)
  obtain ⟨ha, hf, -⟩ := runBody_answers hq hb ((startCommand_keeps [.regs] op idemp rq s).trans h0.keeps)
    (h0.words.right replyRegs) h0.sends
  exact ⟨ha, hf⟩

/-- A command refused outright changes nothing but the front end. -/
theorem runBody_refused_plain {st : Nat} {fin : List Byte} (hq : rq.quiet = false)
    (hb : body (startCommand op idemp rq s) = (startCommand op idemp rq s, .final st fin)) :
    Answers op rq st fin s (runBody op idemp rq body s) ∧ CmdFrame [] [] s (runBody op idemp rq body s) := by
  obtain ⟨ha, hf, -⟩ := runBody_answers (parts := []) (words := []) hq hb (startCommand_keeps [.regs] op idemp rq s)
    (KeepsRegs.refl _ s) (SendsEvents.refl s)
  exact ⟨ha, hf⟩

/-- Words written and the reply given (R361). -/
theorem runBody_writes {parts : List Part} {fin : List Byte} (hq : rq.quiet = false)
    (hb : body (startCommand op idemp rq s) = (t, .final St.ok fin))
    (hk : Keeps (.regs :: .tck :: parts) (startCommand op idemp rq s) t) (hs : SendsOf anyReply (startCommand op idemp rq s) t) :
    SendsLast (replyOf op rq true St.ok fin s.cmd.seq) s (runBody op idemp rq body s) ∧
      KeepsRegs sendRegs t (runBody op idemp rq body s) ∧ (t.cmd.lost = 0 → (runBody op idemp rq body s).regs = t.regs) ∧
      Keeps (.cmd :: .regs :: .tck :: parts) s (runBody op idemp rq body s) :=
  ⟨runBody_sendsLast hq hb hs, runBody_final_regs (by decide) hb, runBody_final_regs_eq (by decide) hb,
    ((startCommand_keeps _ _ _ _ _).trans (hk.mono (by simp))).trans ((runBody_final hq hb).1.mono (by simp))⟩

/-- Words written and the change they make logged, the reply still to come (R254). -/
theorem runBody_change {parts : List Part} {fin : List Byte} {items : List LogItem} {stored : Bool} {stream : Nat}
    (hb : body (startCommand op idemp rq s) =
      (logChange stream (some (startCommand op idemp rq s).curSeq) items stored t, .later 0 fin))
    (hk : Keeps (.regs :: .tck :: parts) (startCommand op idemp rq s) t) (hp : Part.saf ∉ parts ∧ Part.time ∉ parts) :
    let w := logChange stream (some (s.cmd.seq % 65536)) items stored t
    let r := runBody op idemp rq body s
    r.saf = w.saf ∧ r.nvm = w.nvm ∧ r.saf.logNext = s.saf.logNext + items.length ∧ r.saf.unlockTime = s.time ∧
      r.cmd.jobs = t.cmd.jobs ++ [⟨s.cmd.seq, op, rq, false, 0, fin, false⟩] ∧
      r.cmd.journal = (markWritten op rq s.cmd.seq t).cmd.journal ∧
      KeepsRegs sendRegs t r ∧ (t.cmd.lost = 0 → r.regs = t.regs) ∧ Keeps (.cmd :: .regs :: .tck :: .saf :: .nvm :: parts) s r := by
  intro w r
  rw [curSeq_startCommand] at hb
  have h := runBody_later hb
  have hc := logChange_keeps stream (some (s.cmd.seq % 65536)) items stored t
  obtain ⟨hn, hu⟩ := logChange_saf stream (some (s.cmd.seq % 65536)) items stored t
  have hsaf : t.saf = s.saf := hk .saf (by simp [hp.1])
  have htime : t.time = s.time := hk .time (by simp [hp.2])
  have hcmd : w.cmd = t.cmd := hc .cmd (by simp)
  have hregs : w.regs = t.regs := hc .regs (by simp)
  have hx : r.saf = w.saf := h.keeps .saf (by simp)
  refine ⟨hx, h.keeps .nvm (by simp), by rw [hx, hn, hsaf], by rw [hx, hu, htime], by rw [h.jobs, hcmd],
    by rw [h.journal, markWritten_journal_congr op rq s.cmd.seq (congrArg _ hcmd)], fun a ha => ?_, fun h0 => ?_, ?_⟩
  · rw [h.words a ha, State.reg, hregs, State.reg]
  · rw [h.regs (by rw [hcmd]; exact h0), hregs]
  · refine (((startCommand_keeps _ op idemp rq s).trans (hk.mono ?_)).trans (hc.mono ?_)).trans (h.keeps.mono ?_) <;>
      intro p hq <;> simp at hq ⊢ <;> tauto

end commands

theorem regWr_writes {rq : Req} {s : State} (hr : Runs 0x09 rq s) (hl : inRange rq.payload.length 8 4080 = true)
    (hw : wrRefused s rq.stream (wrWords rq) = none) :
    ∀ u safe, u = writeWords (wrWords rq) (startCommand 0x09 (!reqClassN 0x09 rq) rq s) → safe = safeWords rq →
      (safe = [] →
        ∃ t, exec (.regWr rq) s = .next t ∧ SendsLast (replyOf 0x09 rq true St.ok (wrReply 0xFFFFFFFF) s.cmd.seq) s t ∧
          KeepsRegs sendRegs u t ∧ (u.cmd.lost = 0 → t.regs = u.regs) ∧
          Keeps (.cmd :: .regs :: .tck :: (wrWords rq).flatMap (fun w => effectParts w.1)) s t) ∧
      (safe ≠ [] → logRoom s safe.length = true → s.sdActive = false →
        ∃ t w, exec (.regWr rq) s = .next t ∧
          w = logChange rq.stream (some (s.cmd.seq % 65536)) (safe.map (fun x => regItem s x.1 x.2))
            (safe.any (fun x => isStored x.1)) u ∧
          t.saf = w.saf ∧ t.nvm = w.nvm ∧ t.saf.logNext = s.saf.logNext + safe.length ∧ t.saf.unlockTime = s.time ∧
          t.cmd.jobs = u.cmd.jobs ++ [⟨s.cmd.seq, 0x09, rq, false, 0, wrReply 0xFFFFFFFF, false⟩] ∧
          (rq.payload.length = 8 → ∀ e ∈ t.cmd.journal, e.seq = s.cmd.seq → e.state = .done) ∧
          KeepsRegs sendRegs u t ∧ (u.cmd.lost = 0 → t.regs = u.regs) ∧
          Keeps (.cmd :: .regs :: .tck :: .saf :: .nvm :: (wrWords rq).flatMap (fun w => effectParts w.1)) s t) ∧
      (safe ≠ [] → (logRoom s safe.length && !s.sdActive) = false →
        ∃ t, exec (.regWr rq) s = .next t ∧ Answers 0x09 rq St.refusedState (wrReply 0xFFFFFFFF) s t ∧ CmdFrame [] [] s t) := by
  intro u safe hu hs
  have hx : exec (.regWr rq) s = .next (runBody 0x09 (!reqClassN 0x09 rq) rq (regWrBody rq) s) :=
    congrArg Host.Outcome.next (command_eq hr)
  have hw' : wrRefused (startCommand 0x09 (!reqClassN 0x09 rq) rq s) rq.stream (wrWords rq) = none := by
    rw [wrRefused_startCommand, hw]
  have hk := writeWords_keeps (wrWords rq) (startCommand 0x09 (!reqClassN 0x09 rq) rq s)
  subst hs hu
  refine ⟨fun h0 => ?_, fun h0 hroom hd => ?_, fun h0 hroom => ?_⟩
  · obtain ⟨h1, h2, h3, h4⟩ := runBody_writes hr.2 (regWrBody_plain hl hw' h0) hk (writeWords_sends _ _)
    exact ⟨_, hx, h1, h2, h3, h4⟩
  · obtain ⟨h1, h2, h3, h4, h5, h6, h7, h8, h9⟩ := runBody_change (regWrBody_change hl hw' h0 hroom hd) hk
      (by simp [notMem_effectParts])
    exact ⟨_, _, hx, rfl, h1, h2, by simpa using h3, h4, h5, fun h => h6 ▸ markWritten_done h _ _, h7, h8, h9⟩
  · obtain ⟨h1, h2⟩ := runBody_refused_plain hr.2 (regWrBody_noRoom hl hw' h0 hroom)
    exact ⟨_, hx, h1, h2⟩

theorem regWr_refuses {rq : Req} {s : State} (hr : Runs 0x09 rq s) (hl : inRange rq.payload.length 8 4080 = true) {a st : Nat}
    (hw : wrRefused s rq.stream (wrWords rq) = some (a, st)) :
    ∃ t, exec (.regWr rq) s = .next t ∧ Answers 0x09 rq st (wrReply a) s t ∧ CmdFrame [] [F.LYR_CNT_IN_USE.addr] s t := by
  have hw' : wrRefused (startCommand 0x09 (!reqClassN 0x09 rq) rq s) rq.stream (wrWords rq) = some (a, st) := by
    rw [wrRefused_startCommand, hw]
  obtain ⟨h1, h2⟩ := runBody_refused hr.2 (regWrBody_refused hl hw')
  exact ⟨_, congrArg Host.Outcome.next (command_eq hr), h1, h2⟩

section regRmw

variable {rq : Req} {s : State} {a mask : Nat} {w : Word} (hr : Runs 0x0A rq s) (hl : rq.payload.length = 12)
  (ha : a = u32 rq.payload 0) (hm : mask = u32 rq.payload 4)
  (hv : w = rmwValue s a (BitVec.ofNat 32 mask) (BitVec.ofNat 32 (u32 rq.payload 8)))
include hr hl ha hm hv

theorem regRmw_refuses {st : Nat} (h : wordStatus s rq.stream a mask w.toNat = some st) :
    ∃ t, exec (.regRmw rq) s = .next t ∧ Answers 0x0A rq st [] s t ∧ CmdFrame [] [F.LYR_CNT_IN_USE.addr] s t := by
  obtain ⟨h1, h2⟩ := runBody_refused (body := regRmwBody rq) (idemp := !reqClassN 0x0A rq) (s := s) (st := st) (fin := []) hr.2
    (op := 0x0A) (by rw [regRmwBody_eq (s := startCommand 0x0A (!reqClassN 0x0A rq) rq s) hl ha hm hv, wordStatus_startCommand, h])
  exact ⟨_, congrArg Host.Outcome.next (command_eq hr), h1, h2⟩

theorem regRmw_writes (h : wordStatus s rq.stream a mask w.toNat = none) :
    ∀ u v body, u = startCommand 0x0A (!reqClassN 0x0A rq) rq s → v = writeOne a w u →
      body = zeros 3 ++ bytesLE 4 (u.peek a).toNat ++ bytesLE 4 (v.peek a).toNat →
      (rwlWrite a mask = false →
        ∃ t, exec (.regRmw rq) s = .next t ∧ SendsLast (replyOf 0x0A rq true St.ok body s.cmd.seq) s t ∧
          KeepsRegs sendRegs v t ∧ (v.cmd.lost = 0 → t.regs = v.regs) ∧ Keeps (.cmd :: .regs :: .tck :: effectParts a) s t) ∧
      (rwlWrite a mask = true → logRoom s 1 = true → s.sdActive = false →
        ∃ t x, exec (.regRmw rq) s = .next t ∧
          x = logChange rq.stream (some (s.cmd.seq % 65536)) [regItem s a w] (isStored a) v ∧
          t.saf = x.saf ∧ t.nvm = x.nvm ∧ t.saf.logNext = s.saf.logNext + 1 ∧ t.saf.unlockTime = s.time ∧
          t.cmd.jobs = v.cmd.jobs ++ [⟨s.cmd.seq, 0x0A, rq, false, 0, body, false⟩] ∧
          KeepsRegs sendRegs v t ∧ (v.cmd.lost = 0 → t.regs = v.regs) ∧
          Keeps (.cmd :: .regs :: .tck :: .saf :: .nvm :: effectParts a) s t) ∧
      (rwlWrite a mask = true → (logRoom s 1 && !s.sdActive) = false →
        ∃ t, exec (.regRmw rq) s = .next t ∧ Answers 0x0A rq St.refusedState [] s t ∧ CmdFrame [] [] s t) := by
  intro u v body hu hv' hb
  have hx : exec (.regRmw rq) s = .next (runBody 0x0A (!reqClassN 0x0A rq) rq (regRmwBody rq) s) :=
    congrArg Host.Outcome.next (command_eq hr)
  have he := regRmwBody_eq (s := startCommand 0x0A (!reqClassN 0x0A rq) rq s) hl ha hm hv
  have hk := writeOne_keeps a w u
  subst hu
  rw [wordStatus_startCommand, h] at he
  simp only [← hv', ← hb] at he hk
  refine ⟨fun h0 => ?_, fun h0 hroom hd => ?_, fun h0 hroom => ?_⟩
  · simp only [h0, Bool.not_false, if_true] at he
    obtain ⟨h1, h2, h3, h4⟩ := runBody_writes hr.2 he hk (hv' ▸ writeOne_sends a w _)
    exact ⟨_, hx, h1, h2, h3, h4⟩
  · have hc : checkAll (changeChecks (startCommand 0x0A (!reqClassN 0x0A rq) rq s) 1) = none := changeChecks_pass hroom hd
    simp only [h0, hc, Bool.not_true, Bool.false_eq_true, if_false] at he
    obtain ⟨h1, h2, h3, h4, h5, -, h7, h8, h9⟩ := runBody_change he hk
      ⟨(notMem_effectParts a).1, (notMem_effectParts a).2.1⟩
    exact ⟨_, _, hx, rfl, h1, h2, h3, h4, h5, h7, h8, h9⟩
  · have hc : checkAll (changeChecks (startCommand 0x0A (!reqClassN 0x0A rq) rq s) 1) = some St.refusedState :=
      changeChecks_fail hroom
    simp only [h0, hc, Bool.not_true, Bool.false_eq_true, if_false, refuse] at he
    obtain ⟨h1, h2⟩ := runBody_refused_plain hr.2 he
    exact ⟨_, hx, h1, h2⟩

end regRmw

/-- Settles O6, from the ends of a command that writes, that logs a change, and that is refused. -/
theorem registerCommandsWriteAllOrNothing : Obligations.RegisterCommandsWriteAllOrNothing := by
  intro rq s
  refine ⟨regWr_writes, fun hr hl a st => regWr_refuses hr hl, fun a mask v => wordStatus_locked, fun hr hl w a mask ha hm hv =>
    ⟨fun st => regRmw_refuses hr hl ha hm hv, regRmw_writes hr hl ha hm hv⟩⟩

end Sys2Proof.Machine
end

section
namespace Sys2Proof.Machine

set_option Elab.async false

/-! ### What the memories are -/

/-- All that `StoresCanonical` looks at. -/
def State.memories (s : State) :=
  (s.regs, s.tck.act.regs, s.lyr.v, s.obj.lastIn, s.obj.grazeIn, s.lyr.store, s.snp.store, s.hlv.halfA.image, s.hlv.halfB.image,
    (s.drv.fb, s.drv.front, s.drv.back, s.drv.fopt, s.drv.fel, s.drv.foptNext, s.drv.felNext),
    (s.nvm.bytes, s.nvm.fb, s.nvm.fbMark, s.nvm.fopt, s.nvm.fel, s.nvm.foptOld, s.nvm.felOld, s.nvm.ops))

/-- The factors that an operation brings are canonical. -/
def NvmKind.Canonical (k : NvmKind) : Prop := ∀ c q fo fe, k = .factor c q fo fe → FactorsCanonical fo fe

/-- The memories of the two halves' local RAM. -/
def ImagesCanonical (x : HlvSt) : Prop := Mem.wf 0xFF x.halfA.image = true ∧ Mem.wf 0xFF x.halfB.image = true

namespace StoresCanonical

variable {s t u : State}

theorem regs (h : StoresCanonical s) : Mem.wf 0 s.regs = true := h.1
theorem act (h : StoresCanonical s) : Mem.wf 0 s.tck.act.regs = true := h.2.1.1
theorem layers (h : StoresCanonical s) : ∀ n < 2, Mem.wf 0 (vnth {} s.lyr.v n).regs = true := h.2.1.2
theorem lastIn (h : StoresCanonical s) : SetCanonical s.obj.lastIn.act s.obj.lastIn.v := h.2.2.1
theorem grazeIn (h : StoresCanonical s) : SetCanonical s.obj.grazeIn.act s.obj.grazeIn.v := h.2.2.2.1
theorem store (h : StoresCanonical s) : Mem.wf 0 s.lyr.store = true := h.2.2.2.2.1
theorem snapshotWords (h : StoresCanonical s) : ∀ p, s.snp.store = some p → Mem.wf 0 p.words = true := h.2.2.2.2.2.1
theorem images (h : StoresCanonical s) : ImagesCanonical s.hlv := ⟨h.2.2.2.2.2.2.1, h.2.2.2.2.2.2.2.1⟩
theorem drv (h : StoresCanonical s) : DrvCanonical s.drv := h.2.2.2.2.2.2.2.2.1
theorem nvm (h : StoresCanonical s) : NvmCanonical s.nvm := h.2.2.2.2.2.2.2.2.2

/-- A state is canonical once each part that holds memories is. -/
theorem of_parts (hregs : Mem.wf 0 s.regs = true) (hset : SetCanonical s.tck.act s.lyr.v)
    (hlast : SetCanonical s.obj.lastIn.act s.obj.lastIn.v) (hgraze : SetCanonical s.obj.grazeIn.act s.obj.grazeIn.v)
    (hstore : Mem.wf 0 s.lyr.store = true) (hsnap : ∀ p, s.snp.store = some p → Mem.wf 0 p.words = true)
    (himg : ImagesCanonical s.hlv) (hdrv : DrvCanonical s.drv) (hnvm : NvmCanonical s.nvm) : StoresCanonical s :=
  ⟨hregs, hset, hlast, hgraze, hstore, hsnap, himg.1, himg.2, hdrv, hnvm⟩

/-- What leaves every memory as it is. -/
theorem same (h : StoresCanonical s) (e : t.memories = s.memories := by rfl) : StoresCanonical t := by
  simp only [State.memories, Prod.mk.injEq] at e
  unfold StoresCanonical DrvCanonical NvmCanonical SetCanonical at h ⊢
  simp only [e]
  exact h

theorem ite {c : Prop} [Decidable c] (ht : StoresCanonical t) (hu : StoresCanonical u) : StoresCanonical (if c then t else u) := by
  split
  · exact ht
  · exact hu

theorem ite_fst {α : Type} {c : Prop} [Decidable c] {r q : State × α} (hr : StoresCanonical r.1) (hq : StoresCanonical q.1) :
    StoresCanonical (if c then r else q).1 := by
  split
  · exact hr
  · exact hq

theorem foldl {α : Type} {l : List α} {f : State → α → State} (h : StoresCanonical s)
    (hf : ∀ t x, StoresCanonical t → StoresCanonical (f t x)) : StoresCanonical (l.foldl f s) := by
  induction l generalizing s with
  | nil => exact h
  | cons x l ih => exact ih (hf s x h)

theorem foldr {α : Type} {l : List α} {f : α → State → State} (h : StoresCanonical s)
    (hf : ∀ x t, StoresCanonical t → StoresCanonical (f x t)) : StoresCanonical (l.foldr f s) := by
  induction l with
  | nil => exact h
  | cons x l ih => exact hf x _ ih

/-! One part changes, in a canonical way; what else changes is no memory. -/

theorem withRegs (h : StoresCanonical s) (hx : Mem.wf 0 t.regs = true)
    (e : ({ t with regs := s.regs } : State).memories = s.memories := by rfl) : StoresCanonical t :=
  let ⟨_, h⟩ := h.same e
  ⟨hx, h⟩

theorem withSet (h : StoresCanonical s) (hx : SetCanonical t.tck.act t.lyr.v)
    (e : ({ t with tck := s.tck, lyr.v := s.lyr.v } : State).memories = s.memories := by rfl) : StoresCanonical t :=
  let ⟨hr, _, h⟩ := h.same e
  ⟨hr, hx, h⟩

theorem withAct (h : StoresCanonical s) (hx : Mem.wf 0 t.tck.act.regs = true)
    (e : ({ t with tck := s.tck } : State).memories = s.memories := by rfl) : StoresCanonical t :=
  let ⟨hr, hv, h⟩ := h.same e
  ⟨hr, ⟨hx, hv.2⟩, h⟩

theorem withStore (h : StoresCanonical s) (hx : Mem.wf 0 t.lyr.store = true)
    (e : ({ t with lyr.store := s.lyr.store } : State).memories = s.memories := by rfl) : StoresCanonical t :=
  let ⟨h1, h2, h3, h4, _, h⟩ := h.same e
  ⟨h1, h2, h3, h4, hx, h⟩

theorem withSnapshot (h : StoresCanonical s) (hx : ∀ p, t.snp.store = some p → Mem.wf 0 p.words = true)
    (e : ({ t with snp := s.snp } : State).memories = s.memories := by rfl) : StoresCanonical t :=
  let ⟨h1, h2, h3, h4, h5, _, h⟩ := h.same e
  ⟨h1, h2, h3, h4, h5, hx, h⟩

theorem withInputs (h : StoresCanonical s) (hx : SetCanonical t.obj.lastIn.act t.obj.lastIn.v)
    (hy : SetCanonical t.obj.grazeIn.act t.obj.grazeIn.v)
    (e : ({ t with obj := s.obj } : State).memories = s.memories := by rfl) : StoresCanonical t :=
  let ⟨h1, h2, _, _, h⟩ := h.same e
  ⟨h1, h2, hx, hy, h⟩

theorem withImages (h : StoresCanonical s) (hx : ImagesCanonical t.hlv)
    (e : ({ t with hlv := s.hlv } : State).memories = s.memories := by rfl) : StoresCanonical t :=
  let ⟨h1, h2, h3, h4, h5, h6, _, _, h⟩ := h.same e
  ⟨h1, h2, h3, h4, h5, h6, hx.1, hx.2, h⟩

theorem withDrv (h : StoresCanonical s) (hx : DrvCanonical t.drv)
    (e : ({ t with drv := s.drv } : State).memories = s.memories := by rfl) : StoresCanonical t :=
  let ⟨h1, h2, h3, h4, h5, h6, h7, h8, _, h⟩ := h.same e
  ⟨h1, h2, h3, h4, h5, h6, h7, h8, hx, h⟩

theorem withNvm (h : StoresCanonical s) (hx : NvmCanonical t.nvm)
    (e : ({ t with nvm := s.nvm } : State).memories = s.memories := by rfl) : StoresCanonical t :=
  let ⟨h1, h2, h3, h4, h5, h6, h7, h8, h9, _⟩ := h.same e
  ⟨h1, h2, h3, h4, h5, h6, h7, h8, h9, hx⟩

/-- The operations that wait bring canonical factors. -/
theorem ops (h : StoresCanonical s) : ∀ o ∈ s.nvm.ops, o.kind.Canonical := h.nvm.2.2.2.2.2

/-- Other operations wait. -/
theorem withOps (h : StoresCanonical s) (hx : ∀ o ∈ t.nvm.ops, o.kind.Canonical)
    (e : ({ t with nvm.ops := s.nvm.ops } : State).memories = s.memories := by rfl) : StoresCanonical t :=
  let ⟨h1, h2, h3, h4, h5, h6, h7, h8, h9, ⟨n1, n2, n3, n4, n5, _⟩⟩ := h.same e
  ⟨h1, h2, h3, h4, h5, h6, h7, h8, h9, ⟨n1, n2, n3, n4, n5, hx⟩⟩

theorem setReg {a : Nat} {v : Word} (h : StoresCanonical s) : StoresCanonical (s.setReg a v) :=
  h.withRegs (Mem.wf_write h.regs a v)

theorem setF {x : Fld} {v : Nat} (hs : StoresCanonical s) : StoresCanonical (s.setF x v) := hs.setReg

theorem setB {x : Fld} {v : Bool} (hs : StoresCanonical s) : StoresCanonical (s.setB x v) := hs.setF

theorem addF {x : Fld} {n : Nat} (hs : StoresCanonical s) : StoresCanonical (s.addF x n) := hs.setF

theorem bump {x : Fld} (hs : StoresCanonical s) : StoresCanonical (s.bump x) := hs.addF

theorem draw {tag : Nat} (hs : StoresCanonical s) : StoresCanonical (s.draw tag).2 := hs.same

/-- A half of which only the firmware image counts. -/
theorem setHalf_of_wf {g : Half} {x : HalfSt} (hs : StoresCanonical s) (hx : Mem.wf 0xFF x.image = true) :
    StoresCanonical (setHalf g x s) := by
  cases g
  · exact hs.withImages ⟨hx, hs.images.2⟩
  · exact hs.withImages ⟨hs.images.1, hx⟩

theorem image (hs : StoresCanonical s) (g : Half) : Mem.wf 0xFF (s.half g).image = true := by
  cases g
  · exact hs.images.1
  · exact hs.images.2

theorem setHalf {g : Half} {x : HalfSt} (hs : StoresCanonical s) (e : x.image = (s.half g).image := by rfl) :
    StoresCanonical (setHalf g x s) := hs.setHalf_of_wf (e ▸ hs.image g)

/-- The register rows stand in the order of their addresses. -/
theorem regRows_rise : regRows.Pairwise (fun r q => r.addr < q.addr) :=
  List.isChain_iff_pairwise.1 (by decide +kernel)

theorem snapWords_wf (s : State) : Mem.wf 0 (snapWords s) = true := by
  have rise : (regRows.map RegRow.addr).Pairwise (· < ·) := List.pairwise_map.2 regRows_rise
  have wf : ∀ l : List Nat, l.Pairwise (· < ·) →
      let m := l.foldr (fun a acc => if inSnap a && !(s.peek a == 0) then (a, s.peek a) :: acc else acc) ([] : Mem 32)
      Mem.wf 0 m = true ∧ ∀ e ∈ m, e.1 ∈ l := by
    intro l hl
    induction l with
    | nil => exact ⟨rfl, by simp⟩
    | cons a l ih =>
      obtain ⟨ha, hl⟩ := List.pairwise_cons.1 hl
      obtain ⟨hwf, hmem⟩ := ih hl
      simp only [List.foldr_cons]
      split
      · rename_i hc
        obtain ⟨hp, hne⟩ := (Mem.wf_iff _).1 hwf
        refine ⟨(Mem.wf_iff _).2 ⟨List.pairwise_cons.2 ⟨fun e he => ha _ (hmem e he), hp⟩, ?_⟩, ?_⟩
        · intro e he
          rcases List.mem_cons.1 he with rfl | he
          · simp only [Bool.and_eq_true, Bool.not_eq_true', beq_eq_false_iff_ne] at hc
            exact hc.2
          · exact hne e he
        · intro e he
          rcases List.mem_cons.1 he with rfl | he
          · exact List.mem_cons_self
          · exact List.mem_cons_of_mem _ (hmem e he)
      · exact ⟨hwf, fun e he => List.mem_cons_of_mem _ (hmem e he)⟩
  exact (wf _ rise).1

theorem takeSnap {src id srcId : Nat} (hs : StoresCanonical s) : StoresCanonical (takeSnap src id srcId s) := by
  refine StoresCanonical.withSnapshot (s := (s.setF F.SNP_CTRL_TRIGGERS 0).bump F.SNP_CNT_TAKEN_CNT) hs.setF.bump ?_
  rintro p ⟨⟩
  exact snapWords_wf s

theorem setSuppressed {code n : Nat} (hs : StoresCanonical s) : StoresCanonical (setSuppressed s code n) := hs.same

theorem emitEvent {code : Nat} {payload : List Byte} {port : Port} (hs : StoresCanonical s) :
    StoresCanonical (emitEvent code payload port s) := .ite (StoresCanonical.ite hs.same.same hs.same.same).bump hs.same.bump.setB

theorem renewWindow (hs : StoresCanonical s) : StoresCanonical (renewWindow s) := .ite hs.same hs

theorem sendEvent {code : Nat} {data : List Byte} (hs : StoresCanonical s) : StoresCanonical (sendEvent code data s) := by
  unfold Machine.sendEvent
  extract_lets s0 _ _ _ s1 s2 s3
  have h0 : StoresCanonical s0 := hs.renewWindow
  refine .ite h0 (.ite h0.setSuppressed ?_)
  have h1 : StoresCanonical s1 := h0.same
  have h2 : StoresCanonical s2 := .ite h1.emitEvent h1
  have h3 : StoresCanonical s3 := .ite h2.emitEvent h2
  exact .ite h3.setSuppressed h3

theorem faultTrigger {code : Nat} (hs : StoresCanonical s) : StoresCanonical (faultTrigger code s) := by
  unfold Machine.faultTrigger
  dsimp only
  split
  · exact hs
  · exact .ite (.ite hs.takeSnap.sendEvent hs.bump) hs

theorem raise {code : Nat} {data : List Byte} (hs : StoresCanonical s) :
    StoresCanonical (s.raise code data) := hs.sendEvent.faultTrigger

theorem lostReport (hs : StoresCanonical s) : StoresCanonical (lostReport s) := .ite hs hs.same.raise

theorem snapshot {src id srcId : Nat} (hs : StoresCanonical s) : StoresCanonical (snapshot src id srcId s) := hs.takeSnap.raise

theorem noteStatus {st : Nat} (hs : StoresCanonical s) :
    StoresCanonical (noteStatus st s) := .ite hs.setB (.ite hs.setB (.ite hs.setB (.ite hs.setB hs)))

theorem noteLastRef {op st : Nat} {rq : Req} (hs : StoresCanonical s) :
    StoresCanonical (noteLastRef op st rq s) := .ite hs.setF.setF.setF.setF.setF hs

theorem pushReply {op : Nat} {rq : Req} {final : Bool} {st : Nat} {body : List Byte} {seq : Option Nat} (hs : StoresCanonical s) :
    StoresCanonical (pushReply op rq final st body seq s) := .ite hs hs.same

theorem onEntry {seq : Nat} {f : JEntry → JEntry} (hs : StoresCanonical s) : StoresCanonical (s.onEntry seq f) := hs.same

theorem journalDone {op : Nat} {rq : Req} {st seq : Nat} (hs : StoresCanonical s) :
    StoresCanonical (journalDone op rq st seq s) := .ite hs.onEntry hs.onEntry

theorem journalSent {seq : Nat} (hs : StoresCanonical s) : StoresCanonical (journalSent seq s) := hs.onEntry

theorem finalReply {op : Nat} {rq : Req} {seq st : Nat} {body : List Byte} (hs : StoresCanonical s) :
    StoresCanonical (finalReply op rq seq st body s) := hs.pushReply.journalDone.noteStatus.noteLastRef

theorem progressReply {j : Job} {body : List Byte} (hs : StoresCanonical s) :
    StoresCanonical (progressReply j body s) := hs.pushReply

theorem noteProgress {seq n : Nat} (hs : StoresCanonical s) : StoresCanonical (noteProgress seq n s) := hs.same

theorem countReplayed {st : Nat} (hs : StoresCanonical s) : StoresCanonical (countReplayed st s) := .ite hs.bump hs

theorem finishJob {j : Job} {st : Nat} {body : List Byte} (hs : StoresCanonical s) :
    StoresCanonical (finishJob j st body s) := hs.same.countReplayed.finalReply.lostReport

theorem finishKey {op key st : Nat} {body : List Byte} (hs : StoresCanonical s) :
    StoresCanonical (finishKey op key st body s) := by
  unfold Machine.finishKey
  split
  · exact hs.finishJob
  · exact hs

theorem finishAll {op key st : Nat} {body : List Byte} (hs : StoresCanonical s) :
    StoresCanonical (finishAll op key st body s) := hs.foldl fun _ _ ht => ht.finishJob

theorem finishOp {op st : Nat} {body : List Byte} (hs : StoresCanonical s) : StoresCanonical (finishOp op st body s) := by
  unfold Machine.finishOp
  split
  · exact hs.finishJob
  · exact hs

theorem sourceOff {src : Nat} (hs : StoresCanonical s) : StoresCanonical (sourceOff src s) := hs.same

theorem leaveHold (hs : StoresCanonical s) : StoresCanonical (leaveHold s) := .ite hs.same hs.same

theorem clearElapsed (hs : StoresCanonical s) : StoresCanonical (clearElapsed s) := hs.same

theorem serviceShutdown {op : Nat} (hs : StoresCanonical s) : StoresCanonical (serviceShutdown op s) := hs.same.finishOp

theorem noteTraffic {type op : Nat} {payload : List Byte} (hs : StoresCanonical s) :
    StoresCanonical (noteTraffic type op payload s) := by
  unfold Machine.noteTraffic
  extract_lets _ s1 s2
  have h1 : StoresCanonical s1 := .ite hs.clearElapsed hs
  have h2 : StoresCanonical s2 := .ite h1.leaveHold h1
  exact .ite h2.same (.ite h2.serviceShutdown h2)

theorem noteAlive {stream alive : Nat} (hs : StoresCanonical s) : StoresCanonical (noteAlive stream alive s) := hs.addF.setF.setB

theorem noteMaster {stream : Nat} (hs : StoresCanonical s) : StoresCanonical (noteMaster stream s) := hs.same.setB.sourceOff

theorem queueEntry {type op : Nat} {rq : Req} (hs : StoresCanonical s) : StoresCanonical (queueEntry type op rq s) := hs.same

theorem takeIn {type op : Nat} {rq : Req} (hs : StoresCanonical s) :
    StoresCanonical (takeIn type op rq s) := hs.noteAlive.queueEntry.noteTraffic

theorem accept {type op : Nat} {rq : Req} (hs : StoresCanonical s) :
    StoresCanonical (accept type op rq s) := .ite hs (StoresCanonical.ite hs.noteMaster hs).takeIn

theorem refuse {st : Nat} (hs : StoresCanonical s) : StoresCanonical (refuse st s).1 := hs

theorem okReply {body : List Byte} (hs : StoresCanonical s) : StoresCanonical (okReply body s).1 := hs

theorem unpark {op : Nat} {rq : Req} (hs : StoresCanonical s) : StoresCanonical (unpark op rq s) := hs.same

theorem openEntry {op : Nat} {rq : Req} {idemp : Bool} (hs : StoresCanonical s) :
    StoresCanonical (openEntry op rq idemp s) := hs.same

theorem markWritten {op : Nat} {rq : Req} {seq : Nat} (hs : StoresCanonical s) :
    StoresCanonical (markWritten op rq seq s) := .ite hs.onEntry hs

theorem closeCommand {op : Nat} {rq : Req} {seq : Nat} {r : State × Reply} (hs : StoresCanonical s) (hr : StoresCanonical r.1) :
    StoresCanonical (closeCommand op rq seq s r) := by
  obtain ⟨t, rep⟩ := r
  cases rep with
  | final => exact hr.finalReply
  | accepted => exact .ite (StoresCanonical.pushReply (.same hr)) hs.finalReply.bump
  | later => exact StoresCanonical.markWritten (.same hr)
  | both => exact .ite hr.pushReply.finalReply hs.finalReply.bump
  | silent => exact hr.journalDone

theorem startCommand {op : Nat} {idemp : Bool} {rq : Req} (hs : StoresCanonical s) :
    StoresCanonical (startCommand op idemp rq s) := hs.same

theorem runBody {op : Nat} {idemp : Bool} {rq : Req} {body : State → State × Reply} (hs : StoresCanonical s)
    (hb : ∀ t, StoresCanonical t → StoresCanonical (body t).1) : StoresCanonical (runBody op idemp rq body s) := by
  unfold Machine.runBody
  have h := hb (Machine.startCommand op idemp rq s) hs.startCommand
  exact StoresCanonical.lostReport (.closeCommand hs.same h.same)

theorem answerHead {t : State} (hs : StoresCanonical s) (e : answerHead s = some t) : StoresCanonical t := by
  unfold Machine.answerHead at e
  repeat' split at e
  all_goals cases e
  exact hs.runBody fun _ ht => ht

theorem serveQueue (hs : StoresCanonical s) : StoresCanonical (serveQueue s) := by
  unfold Machine.serveQueue
  generalize s.cmd.inbox.length = n
  induction n generalizing s with
  | zero => exact hs
  | succ n ih =>
    unfold iterSome
    split
    · exact ih (hs.answerHead (by assumption))
    · exact hs

theorem runCommand {op : Nat} {idemp : Bool} {rq : Req} {body : State → State × Reply} (hs : StoresCanonical s)
    (hb : ∀ t, StoresCanonical t → StoresCanonical (body t).1) : StoresCanonical (runCommand op idemp rq body s) :=
  .ite hs.accept.serveQueue (hs.accept.serveQueue.runBody hb)

theorem command {op : Nat} {rq : Req} {body : State → State × Reply} (hs : StoresCanonical s)
    (hb : ∀ t, StoresCanonical t → StoresCanonical (body t).1) : StoresCanonical (command op rq body s) := hs.runCommand hb

theorem withLen {ok : Bool} {body : State → State × Reply} (hs : StoresCanonical s) (hb : StoresCanonical (body s).1) :
    StoresCanonical (withLen ok body s).1 := by
  unfold Machine.withLen
  split
  · exact hb
  · exact hs.refuse

theorem guarded {checks : List (Bool × Nat)} {body : State → State × Reply} (hs : StoresCanonical s)
    (hb : StoresCanonical (body s).1) : StoresCanonical (guarded checks body s).1 := by
  unfold Machine.guarded
  split
  · exact hb
  · exact hs.refuse

theorem nopBody {rq : Req} (hs : StoresCanonical s) : StoresCanonical (nopBody rq s).1 := hs.withLen hs

theorem pingBody {rq : Req} (hs : StoresCanonical s) : StoresCanonical (pingBody rq s).1 := hs.withLen hs.okReply

theorem idReadBody {rq : Req} (hs : StoresCanonical s) : StoresCanonical (idReadBody rq s).1 := hs.withLen hs.okReply

theorem eventCfgWrite {pl : List Byte} (hs : StoresCanonical s) :
    StoresCanonical (eventCfgWrite pl s) := hs.setF.setF.setF.foldl fun _ _ ht => ht.setReg

theorem eventCfgBody {rq : Req} (hs : StoresCanonical s) :
    StoresCanonical (eventCfgBody rq s).1 := hs.withLen (.ite_fst (hs.guarded hs.eventCfgWrite.okReply) hs.okReply)

theorem cmdbufApply (hs : StoresCanonical s) : StoresCanonical (cmdbufApply s) := .ite hs.setF hs

theorem timeReadBody {rq : Req} (hs : StoresCanonical s) : StoresCanonical (timeReadBody rq s).1 := hs.withLen hs.okReply

theorem masterSilent (hs : StoresCanonical s) : StoresCanonical (masterSilent s) := hs.setB.raise

theorem idle (hs : StoresCanonical s) : StoresCanonical (idle s) := hs.same.serveQueue

theorem activate {src : Nat} (hs : StoresCanonical s) : StoresCanonical (activate src s) := hs.same

theorem bistDone {r : BistRec} {st : Nat} (hs : StoresCanonical s) : StoresCanonical (bistDone r st s) := hs.raise

theorem endWaiting {st : Nat} {t : BistRec} (hs : StoresCanonical s) :
    StoresCanonical (endWaiting st t s) := hs.same.bistDone.finishOp

theorem abortBist (hs : StoresCanonical s) : StoresCanonical (abortBist s) := by
  unfold Machine.abortBist
  dsimp only
  split
  · exact .ite hs (.ite hs.endWaiting hs.same)
  · exact hs

theorem endCal {st : Nat} (hs : StoresCanonical s) : StoresCanonical (endCal st s) := by
  unfold Machine.endCal
  dsimp only
  split
  · exact hs
  · split
    · exact hs.same.finishJob
    · exact hs.same

theorem abortCal (hs : StoresCanonical s) : StoresCanonical (abortCal s) := hs.endCal

theorem finishReport {st : Nat} {body : List Byte} (hs : StoresCanonical s) :
    StoresCanonical (finishReport st body s) := hs.foldl fun _ _ ht => ht.finishJob

theorem pauseTests {cause : Nat} (hs : StoresCanonical s) :
    StoresCanonical (pauseTests cause s) := .ite (.ite hs.same.raise hs) (StoresCanonical.ite hs.same.raise hs).finishReport

theorem lampEnds {new : Nat} (hs : StoresCanonical s) : StoresCanonical (lampEnds new s) := .ite hs.abortCal.pauseTests hs

theorem lampClock {new : Nat} (hs : StoresCanonical s) : StoresCanonical (lampClock new s) := .ite hs (.ite hs.same hs.same)

theorem setLamp {new : Nat} (hs : StoresCanonical s) :
    StoresCanonical (setLamp new s) := .ite hs.lampClock hs.lampClock.setF.raise.lampEnds.leaveHold.clearElapsed.abortBist

theorem vledOff (hs : StoresCanonical s) : StoresCanonical (vledOff s) := hs.setB.same

theorem vledOnNow (hs : StoresCanonical s) : StoresCanonical (vledOnNow s) := hs.setB.same

theorem stampStop {cls src : Nat} (hs : StoresCanonical s) :
    StoresCanonical (stampStop cls src s) := hs.setF.setF.setReg.setReg.setReg.raise

theorem removeLight (hs : StoresCanonical s) : StoresCanonical (removeLight s) := hs.vledOff.same.setB.setLamp

theorem beginClass1 {src dur : Nat} (hs : StoresCanonical s) :
    StoresCanonical (beginClass1 src dur s) := hs.same.setF.setLamp.stampStop

theorem beginClass2 {src : Nat} (hs : StoresCanonical s) : StoresCanonical (beginClass2 src s) := hs.same.setF.setLamp.stampStop

theorem class0 {src : Nat} (hs : StoresCanonical s) : StoresCanonical (class0 src s) := hs.removeLight.stampStop

theorem requestStopDur {cls src dur : Nat} (hs : StoresCanonical s) : StoresCanonical (requestStopDur cls src dur s) := by
  unfold Machine.requestStopDur
  dsimp only
  split
  · exact hs.setReg.raise
  · split
    · split
      · exact hs.setReg.leaveHold.class0
      · exact hs.setReg.leaveHold.beginClass1
      · exact .ite hs.setReg.leaveHold.beginClass2 hs.setReg.leaveHold.beginClass1
    · split
      · split
        · exact hs.setReg.leaveHold.class0
        · exact .ite hs.setReg.leaveHold hs.setReg.leaveHold.beginClass1
        · exact hs.setReg.leaveHold
      · split
        · split
          · exact hs.setReg.leaveHold.class0
          · exact hs.setReg.leaveHold.beginClass1
          · exact hs.setReg.leaveHold
        · exact hs.setReg.leaveHold

theorem requestStop {cls src : Nat} (hs : StoresCanonical s) : StoresCanonical (requestStop cls src s) := hs.requestStopDur

theorem raiseSource {src : Nat} (hs : StoresCanonical s) : StoresCanonical (raiseSource src s) := hs.activate.requestStop

theorem raiseOnce {src : Nat} (hs : StoresCanonical s) : StoresCanonical (raiseOnce src s) := hs.requestStop

theorem nvmPush {owner : Option Nat} {ks : List NvmKind} (hs : StoresCanonical s)
    (hk : ∀ k ∈ ks, k.Canonical := by simp [NvmKind.Canonical]) : StoresCanonical (nvmPush owner ks s) := by
  refine hs.withOps fun o ho => ?_
  rcases List.mem_append.1 ho with ho | ho
  · exact hs.ops o ho
  · obtain ⟨k, hm, rfl⟩ := List.mem_map.1 ho
    exact hk k hm

theorem noteRefusal {target mask : Nat} (hs : StoresCanonical s) :
    StoresCanonical (noteRefusal target mask s) := (hs.foldl fun _ _ ht => .ite ht.bump ht).setF.setF.setB.raise

theorem markDirty {a : Nat} (hs : StoresCanonical s) : StoresCanonical (markDirty a s) := hs.same

/-- An append that is cut in two stays one. -/
theorem splitAppends_canonical {n : Nat} {l : List NvmOp} (hl : ∀ o ∈ l, o.kind.Canonical) :
    ∀ o ∈ splitAppends n l, o.kind.Canonical := by
  induction l generalizing n with
  | nil => exact hl
  | cons o l ih =>
    obtain ⟨ho, hl⟩ := List.forall_mem_cons.1 hl
    unfold splitAppends
    split
    · refine List.forall_mem_append.2 ⟨?_, ih hl⟩
      split
      · exact List.forall_mem_singleton.2 ho
      · simp [NvmKind.Canonical]
    · exact List.forall_mem_cons.2 ⟨ho, ih hl⟩

theorem syncLog (hs : StoresCanonical s) : StoresCanonical (syncLog s) := hs.withOps (splitAppends_canonical hs.ops)

theorem appendOps_canonical (first : Nat) (es : List (List Byte)) : ∀ k ∈ appendOps first es, k.Canonical := by
  unfold appendOps
  dsimp only
  repeat' split
  all_goals simp [NvmKind.Canonical]

theorem recordOps_canonical (s : State) : ∀ k ∈ recordOps s, k.Canonical := by simp [recordOps, NvmKind.Canonical]

theorem logChange {stream : Nat} {owner : Option Nat} {items : List LogItem} {stored : Bool} (hs : StoresCanonical s) :
    StoresCanonical (logChange stream owner items stored s) := by
  have h2 := (hs.same (t := { s with saf.logNext := s.saf.logNext + items.length
                                     saf.logStored := if stored then s.saf.logNext + items.length else s.saf.logStored
                                     saf.unlockTime := s.time })).nvmPush (owner := owner) (appendOps_canonical s.saf.logNext
    (logEntries s stream (s.saf.logNext + 1) items))
  exact .ite (h2.nvmPush (recordOps_canonical _)) h2

theorem setBuf {d : Nat} {b : BufDesc} (hs : StoresCanonical s) : StoresCanonical (setBuf d b s) := hs.same

theorem clearLost {d : Nat} (hs : StoresCanonical s) : StoresCanonical (clearLost d s) := by
  unfold Machine.clearLost
  split
  · exact hs.setBuf
  · exact hs

theorem setChk {n : Nat} {e : ChkEng} (hs : StoresCanonical s) : StoresCanonical (setChk n e s) := hs.same

theorem chkFeed {n : Nat} {bs : List Byte} (hs : StoresCanonical s) : StoresCanonical (chkFeed n bs s) := hs.setF.setF

theorem chkInit {n : Nat} {init : Bool} (hs : StoresCanonical s) :
    StoresCanonical (chkInit n init s) := .ite hs.setF.setF.setChk hs

theorem chkEnd {n st : Nat} (hs : StoresCanonical s) : StoresCanonical (chkEnd n st s) := by
  unfold Machine.chkEnd
  dsimp only
  split
  · exact hs
  · exact hs.setChk.setF.finishKey.raise

theorem chkRunWith {ecc : Option Nat} {rq : Req} (hs : StoresCanonical s) : StoresCanonical (chkRunWith ecc rq s).1 := by
  have drawn : ∀ (t : State) (n : Nat), StoresCanonical t → StoresCanonical { t with fresh := n } := fun _ _ h => h.same
  refine hs.withLen (.ite_fst hs.refuse ?_)
  split
  · exact .ite hs.clearLost hs
  · extract_lets s1 r k st bs _ s2
    have h1 : StoresCanonical s1 := hs.chkInit.setF.setF
    exact .ite_fst h1.setChk (drawn _ _ h1).chkFeed.setF

theorem chkRunBody {rq : Req} (hs : StoresCanonical s) : StoresCanonical (chkRunBody rq s).1 := hs.chkRunWith

theorem chkFeedPiece {n k : Nat} {r : ChkRun} (hs : StoresCanonical s) : StoresCanonical (chkFeedPiece n k r s) := by
  unfold Machine.chkFeedPiece
  dsimp only
  split
  · exact hs.same.chkFeed.setChk.noteProgress
  · exact hs.same.chkFeed.setChk

theorem chkEcc {n ecc : Nat} (hs : StoresCanonical s) : StoresCanonical (chkEcc n ecc s) := by
  unfold Machine.chkEcc
  split
  · exact hs
  · exact hs.chkFeedPiece.chkEnd

theorem chkPiece (hs : StoresCanonical s) : StoresCanonical (chkPiece s) := by
  unfold Machine.chkPiece
  dsimp only
  split
  · exact hs
  · split
    · exact hs
    · exact .ite hs.chkFeedPiece.chkEnd hs.chkFeedPiece

theorem chkCtxBody {action : Nat} {rq : Req} (hs : StoresCanonical s) : StoresCanonical (chkCtxBody action rq s).1 := by
  unfold Machine.chkCtxBody
  refine hs.withLen ?_
  dsimp only
  split
  · exact hs.refuse
  · split
    · exact hs.okReply
    · exact .ite_fst hs.refuse hs.setF.setF.setReg.setF.setChk.okReply
    · exact hs.chkEnd.okReply

theorem snapArmBody {rq : Req} (hs : StoresCanonical s) :
    StoresCanonical (snapArmBody rq s).1 :=
  hs.withLen (StoresCanonical.ite hs.setF.setF.setF.setF.snapshot.setF hs.setF.setF.setF.setF).okReply

theorem snapReadBody {rq : Req} (hs : StoresCanonical s) : StoresCanonical (snapReadBody rq s).1 := by
  unfold Machine.snapReadBody
  refine hs.withLen ?_
  dsimp only
  split
  · exact hs.refuse
  · split
    · exact hs.refuse
    · split
      · exact hs.refuse
      · exact hs.okReply

theorem snapIoEdge (hs : StoresCanonical s) : StoresCanonical (snapIoEdge s) := .ite hs (.ite hs.snapshot hs.bump)

theorem herdSnap {id : Nat} (hs : StoresCanonical s) : StoresCanonical (herdSnap id s) := .ite hs.same.snapshot hs.bump

theorem plainOk (hs : StoresCanonical s) : StoresCanonical (plainOk s).1 := hs.okReply

theorem inUse (hs : StoresCanonical s) : StoresCanonical (inUse s).1 := hs.bump

theorem setTab {k : Nat} {v : List Nat} (hs : StoresCanonical s) : StoresCanonical (setTab k v s) := hs.same

theorem writeItem {a v : Nat} (hs : StoresCanonical s) : StoresCanonical (writeItem a v s) := by
  unfold Machine.writeItem
  split
  · exact hs.setReg.markDirty
  · exact hs

theorem layerCfgBody {rq : Req} (hs : StoresCanonical s) : StoresCanonical (layerCfgBody rq s).1 :=
  hs.withLen (.ite_fst hs.refuse (.ite_fst (.ite_fst (hs.foldl fun _ _ ht => ht.writeItem).plainOk hs.refuse)
    (.ite_fst hs.refuse (.ite_fst hs.refuse hs.setTab.setReg.plainOk))))

theorem layerCfgReadBody {rq : Req} (hs : StoresCanonical s) :
    StoresCanonical (layerCfgReadBody rq s).1 := hs.withLen (.ite_fst hs.refuse hs.okReply)

theorem layerBufBody {rq : Req} (hs : StoresCanonical s) :
    StoresCanonical (layerBufBody rq s).1 := hs.withLen (.ite_fst hs.refuse (.ite_fst hs.refuse hs.writeItem.okReply))

theorem stopCopy {d : Nat} (hs : StoresCanonical s) : StoresCanonical (stopCopy d s) := .ite hs.same.finishKey hs

theorem bufDefineBody {rq : Req} (hs : StoresCanonical s) :
    StoresCanonical (bufDefineBody rq s).1 :=
  hs.withLen (.ite_fst (.ite_fst hs.inUse hs.stopCopy.same.okReply) (.ite_fst hs.refuse (.ite_fst hs.inUse hs.stopCopy.setBuf.okReply)))

theorem bufReleaseBody {rq : Req} (hs : StoresCanonical s) : StoresCanonical (bufReleaseBody rq s).1 := by
  unfold Machine.bufReleaseBody
  refine hs.withLen ?_
  dsimp only
  split
  · exact hs.refuse
  · exact .ite_fst hs.setBuf.okReply hs.stopCopy.setBuf.okReply

theorem bufIncomplete {n counted size : Nat} (hs : StoresCanonical s) :
    StoresCanonical (bufIncomplete n counted size s) := hs.setB.raise

theorem bufStore {d : Nat} {b : BufDesc} {start fin : Bool} {stream off : Nat} {data : List Byte} (hs : StoresCanonical s) :
    StoresCanonical (bufStore d b start fin stream off data s) := by
  have h0 : StoresCanonical (if start then Machine.stopCopy d s else s) := .ite hs.stopCopy hs
  have h1 := h0.withStore (t := { (if start then Machine.stopCopy d s else s) with
    lyr.store := Mem.writeRun 0 (if start then Machine.stopCopy d s else s).lyr.store (b.addr + off) data }) (Mem.wf_writeRun h0.store _ _)
  exact .ite h1.setBuf (.ite h1.setBuf h1.setBuf.bufIncomplete)

theorem bufWriteCore {d : Nat} {start fin : Bool} {stream off : Nat} {data : List Byte} (hs : StoresCanonical s) :
    StoresCanonical (bufWriteCore d start fin stream off data s).1 := by
  unfold Machine.bufWriteCore
  split
  · exact hs
  · split
    · exact hs
    · split
      · exact hs
      · split
        · exact .ite hs.clearLost hs
        · exact hs.bufStore

theorem bufWriteReply {d : Nat} {r : State × Nat} (hr : StoresCanonical r.1) : StoresCanonical (bufWriteReply d r).1 := by
  unfold Machine.bufWriteReply
  exact .ite_fst hr.okReply (.ite_fst hr.inUse hr)

theorem bufWriteBody {rq : Req} (hs : StoresCanonical s) : StoresCanonical (bufWriteBody rq s).1 :=
  hs.withLen (StoresCanonical.bufWriteReply hs.bufWriteCore)

theorem videoDrop (hs : StoresCanonical s) : StoresCanonical (videoDrop s) := hs.bump.setB

theorem videoPacket {rq : Req} (hs : StoresCanonical s) :
    StoresCanonical (videoPacket rq s) := .ite hs.videoDrop (.ite hs.bufWriteCore hs.bufWriteCore.videoDrop)

theorem patternLoadBody {rq : Req} (hs : StoresCanonical s) : StoresCanonical (patternLoadBody rq s).1 :=
  hs.withLen (.ite_fst hs.refuse (StoresCanonical.bufWriteReply hs.bufWriteCore))

theorem patternCopyBody {rq : Req} (hs : StoresCanonical s) : StoresCanonical (patternCopyBody rq s).1 := by
  unfold Machine.patternCopyBody
  refine hs.withLen ?_
  dsimp only
  split
  · exact hs.refuse
  · split
    · exact hs.refuse
    · split
      · exact hs.inUse
      · exact hs.stopCopy.same

theorem patternCopyDone (hs : StoresCanonical s) : StoresCanonical (patternCopyDone s) := by
  unfold Machine.patternCopyDone
  split
  · exact hs
  · dsimp only
    split
    · exact hs.same.finishKey
    · split
      · exact (hs.withStore (Mem.wf_writeRun hs.store _ _)).setBuf.finishKey
      · exact hs.same.setBuf.finishKey

theorem toneMapLoadBody {rq : Req} (hs : StoresCanonical s) :
    StoresCanonical (toneMapLoadBody rq s).1 := hs.withLen (hs.guarded hs.same.logChange)

theorem symReply {sym addr filled : Nat} (hs : StoresCanonical s) : StoresCanonical (symReply s sym addr filled).1 := hs.okReply

theorem symStore {sym : Nat} {d : SymDesc} {fin : Bool} {off : Nat} {data : List Byte} (hs : StoresCanonical s) :
    StoresCanonical (symStore sym d fin off data s).1 := by
  have h1 := hs.withStore (t := { s with lyr.store := Mem.writeRun 0 s.lyr.store ((symRegion s).1 + 64 * d.addr + off) data })
    (Mem.wf_writeRun hs.store _ _)
  unfold Machine.symStore
  dsimp only
  split
  · exact h1.same.symReply
  · split
    · exact h1.same.symReply
    · exact h1.same.bufIncomplete.symReply

theorem symStart {rq : Req} {sym off : Nat} {fin : Bool} {data : List Byte} (hs : StoresCanonical s) :
    StoresCanonical (symStart rq sym off fin data s).1 := by
  unfold Machine.symStart
  dsimp only
  split
  · exact hs.refuse
  · split
    · split
      · exact hs.inUse
      · split
        · exact hs.refuse
        · exact .ite_fst hs.refuse hs.same.symStore
    · split
      · exact hs.inUse
      · split
        · exact hs.refuse
        · exact .ite_fst hs.refuse hs.same.symStore

theorem symbolLoadBody {rq : Req} (hs : StoresCanonical s) : StoresCanonical (symbolLoadBody rq s).1 := by
  unfold Machine.symbolLoadBody
  refine hs.withLen ?_
  dsimp only
  split
  · exact hs.refuse
  · split
    · exact hs.symStart
    · split
      · exact hs.refuse
      · exact .ite_fst hs.refuse (.ite_fst hs.inUse (.ite_fst hs.refuse hs.symStore))

theorem symbolDeleteBody {rq : Req} (hs : StoresCanonical s) : StoresCanonical (symbolDeleteBody rq s).1 := by
  unfold Machine.symbolDeleteBody
  refine hs.withLen ?_
  dsimp only
  split
  · exact hs.refuse
  · split
    · exact hs.symReply
    · exact .ite_fst hs.inUse hs.same.symReply

theorem animSetBody {rq : Req} (hs : StoresCanonical s) :
    StoresCanonical (animSetBody rq s).1 := hs.withLen (.ite_fst hs.refuse hs.setTab.plainOk)

theorem noteRepeat (hs : StoresCanonical s) : StoresCanonical (noteRepeat s) := hs.setB.bump

theorem slotSet {slot : Nat} {body : List Byte} (hs : StoresCanonical s) : StoresCanonical (slotSet slot body s) := hs.same

theorem slotMove {slot : Nat} {motion : List Byte} {tMeas alive : Nat} (hs : StoresCanonical s) :
    StoresCanonical (slotMove slot motion tMeas alive s) := by
  unfold Machine.slotMove
  dsimp only
  split
  · exact hs.same
  · exact hs

theorem slotClear {first n : Nat} (hs : StoresCanonical s) : StoresCanonical (slotClear first n s) := hs.same

theorem repeatRefusal (hs : StoresCanonical s) : StoresCanonical (repeatRefusal s).1 := hs.noteRepeat

theorem objSetBody {rq : Req} (hs : StoresCanonical s) : StoresCanonical (objSetBody rq s).1 := by
  unfold Machine.objSetBody
  refine hs.withLen ?_
  dsimp only
  split
  · exact hs.refuse
  · refine hs.guarded ?_
    split
    · exact hs.repeatRefusal
    · exact hs.addF.slotSet.okReply

theorem objSetReadBody {rq : Req} (hs : StoresCanonical s) :
    StoresCanonical (objSetReadBody rq s).1 := hs.withLen (.ite_fst hs.refuse hs.okReply)

theorem objMoveBody {rq : Req} (hs : StoresCanonical s) : StoresCanonical (objMoveBody rq s).1 := by
  unfold Machine.objMoveBody
  refine hs.withLen ?_
  dsimp only
  split
  · exact hs.refuse
  · split
    · exact hs.repeatRefusal
    · exact hs.addF.slotMove.okReply

theorem dropBulk {reason : Nat} (hs : StoresCanonical s) : StoresCanonical (dropBulk reason s) := by
  unfold Machine.dropBulk
  dsimp only
  split
  · exact hs
  · exact hs.same.setB.raise

theorem objClearBody {rq : Req} (hs : StoresCanonical s) :
    StoresCanonical (objClearBody rq s).1 :=
  hs.withLen (.ite_fst hs.slotClear.dropBulk.okReply (.ite_fst hs.refuse hs.slotClear.okReply))

theorem bulkBegin {rq : Req} (hs : StoresCanonical s) : StoresCanonical (bulkBegin rq s) := by
  unfold Machine.bulkBegin
  dsimp only
  split
  · split
    · exact hs.same
    · exact hs.dropBulk.same
  · exact hs

theorem bulkStage {rq : Req} (hs : StoresCanonical s) : StoresCanonical (bulkStage rq s).1 := by
  unfold Machine.bulkStage
  dsimp only
  split
  · split
    · exact hs
    · split
      · exact hs.bulkBegin.dropBulk
      · exact hs.bulkBegin.dropBulk
      · split
        · exact hs.bulkBegin.dropBulk
        · split
          · exact hs.bulkBegin.dropBulk
          · exact hs.bulkBegin.same
  · split
    · exact hs
    · split
      · exact hs.bulkBegin.dropBulk
      · exact hs.bulkBegin.dropBulk
      · split
        · exact hs.bulkBegin.dropBulk
        · split
          · exact hs.bulkBegin.dropBulk
          · exact hs.bulkBegin.same

theorem bulkShort (hs : StoresCanonical s) : StoresCanonical (bulkShort s).1 := hs.dropBulk

theorem withBulkLen {ok : Bool} {body : State → State × Reply} (hs : StoresCanonical s) (hb : StoresCanonical (body s).1) :
    StoresCanonical (withBulkLen ok body s).1 := by
  unfold Machine.withBulkLen
  split
  · exact hb
  · exact hs.bulkShort

theorem objBulkBody {rq : Req} (hs : StoresCanonical s) : StoresCanonical (objBulkBody rq s).1 := by
  refine hs.withBulkLen (.ite_fst hs.refuse ?_)
  have h : StoresCanonical (Machine.bulkStage rq s).1 := hs.bulkStage
  split
  · rename_i e
    rw [e] at h
    exact h
  · rename_i e
    rw [e] at h
    exact StoresCanonical.okReply h

theorem applyEntry {r : State × BulkTally} {e : BulkEntry} (hr : StoresCanonical r.1) : StoresCanonical (applyEntry r e).1 := by
  obtain ⟨s, t⟩ := r
  have hs : StoresCanonical s := hr
  unfold Machine.applyEntry
  dsimp only
  split
  · exact hs.slotClear
  · refine .ite_fst hs ?_
    split
    · exact hs.noteRepeat
    · exact .ite hs.addF.slotSet hs.addF.slotMove

theorem applyEntries {l : List BulkEntry} {r : State × BulkTally} (hr : StoresCanonical r.1) :
    StoresCanonical (l.foldl Machine.applyEntry r).1 := by
  induction l generalizing r with
  | nil => exact hr
  | cons e l ih => exact ih (StoresCanonical.applyEntry hr)

theorem objBulkEndBody {rq : Req} (hs : StoresCanonical s) : StoresCanonical (objBulkEndBody rq s).1 := by
  refine hs.withBulkLen (.ite_fst hs.refuse ?_)
  have h : StoresCanonical (Machine.bulkStage rq s).1 := hs.bulkStage
  split
  · rename_i e
    rw [e] at h
    exact h
  · rename_i t e
    rw [e] at h
    exact StoresCanonical.okReply (StoresCanonical.applyEntries h.same)

theorem objBulkAbortBody {rq : Req} (hs : StoresCanonical s) :
    StoresCanonical (objBulkAbortBody rq s).1 := hs.withBulkLen (.ite_fst hs.refuse (.ite_fst hs.bulkShort hs.dropBulk.okReply))

theorem geomSetBody {rq : Req} (hs : StoresCanonical s) :
    StoresCanonical (geomSetBody rq s).1 := hs.withLen (.ite_fst hs.writeItem.plainOk hs.refuse)

theorem setMap {m : Option OpticsMap} (hs : StoresCanonical s) : StoresCanonical (setMap m s) := by
  unfold Machine.setMap
  dsimp only
  split
  · exact hs.same.setF.setF.setF.setF.setF.setB
  · exact hs.same.setReg.setReg.setReg.setB

theorem opticsMapBody {rq : Req} (hs : StoresCanonical s) :
    StoresCanonical (opticsMapBody rq s).1 := hs.withLen (hs.guarded hs.setMap.logChange)

theorem opticsMapReadBody {rq : Req} (hs : StoresCanonical s) :
    StoresCanonical (opticsMapReadBody rq s).1 := hs.withLen (.ite_fst hs.refuse hs.okReply)

theorem askSave {owner : Option Nat} (hs : StoresCanonical s) : StoresCanonical (askSave owner s) := hs.same

theorem mapAdd {ps : List Nat} (hs : StoresCanonical s) :
    StoresCanonical (mapAdd ps s) := .ite hs (.ite hs.same.setF.askSave hs.same.setF)

theorem addEntry {e : FaultEntry} (hs : StoresCanonical s) : StoresCanonical (addEntry e s) := by
  unfold Machine.addEntry
  dsimp only
  split
  · exact hs.same
  · exact .ite hs.same.bump hs

theorem clearSuspect {i : Nat} (hs : StoresCanonical s) : StoresCanonical (clearSuspect i s) := hs.same.bump

theorem confirmAt {pos : Option Nat} {e : FaultEntry} (hs : StoresCanonical s) :
    StoresCanonical (confirmAt pos e s) := hs.same.setF.setF.setF.setReg.setB.mapAdd

theorem confirmFault {i : Nat} {e : FaultEntry} (hs : StoresCanonical s) : StoresCanonical (confirmFault i e s) := hs.confirmAt

theorem driftResult {p test reading : Nat} (hs : StoresCanonical s) : StoresCanonical (driftResult p test reading s) := by
  unfold Machine.driftResult
  dsimp only
  split
  · exact hs
  · split
    · exact hs.same.setB.addEntry
    · exact hs.same

theorem driftEnds {p : Nat} (hs : StoresCanonical s) : StoresCanonical (driftEnds p s) := hs.same

theorem newSuspect {p cls test nb reading : Nat} (hs : StoresCanonical s) :
    StoresCanonical (newSuspect p cls test nb reading s) := hs.same.addEntry

theorem decidePixel {p res test reading : Nat} (hs : StoresCanonical s) : StoresCanonical (decidePixel p res test reading s) := by
  unfold Machine.decidePixel
  dsimp only
  split
  · exact .ite hs.same.clearSuspect.driftEnds (.ite hs.same.clearSuspect.driftResult hs.same.driftEnds.confirmFault)
  · exact .ite hs.same.driftEnds (.ite hs.same.driftResult hs.same.driftEnds.newSuspect)

theorem decidePair {p nb v : Nat} (hs : StoresCanonical s) : StoresCanonical (decidePair p nb v s) := by
  unfold Machine.decidePair
  split
  · exact .ite hs.confirmFault hs.clearSuspect
  · exact .ite hs.newSuspect hs

theorem noteTested {lit : Bool} {p : Nat} (hs : StoresCanonical s) : StoresCanonical (noteTested lit p s) := by
  unfold Machine.noteTested
  extract_lets _ s1 _
  have h1 : StoresCanonical s1 := .ite hs hs.same
  clear_value s1
  exact .ite h1.same h1.same

theorem testResult {p res test reading : Nat} {other : Bool} (hs : StoresCanonical s) :
    StoresCanonical (testResult p res test reading other s) := by
  unfold Machine.testResult
  dsimp only
  split
  · exact hs
  · split
    · exact hs.same.decidePixel
    · split
      · exact .ite hs.same.decidePixel hs.same.decidePixel
      · exact .ite hs.same hs.decidePixel

theorem nbRead {p q nb v : Nat} (hs : StoresCanonical s) : StoresCanonical (nbRead p q nb v s) := .ite hs.decidePair hs.bump

theorem nbDefer {x y : Nat} (hs : StoresCanonical s) : StoresCanonical (nbDefer x y s) := hs.bump.addF

theorem darkTest {x y vRest vDark vRight vLower : Nat} (hs : StoresCanonical s) :
    StoresCanonical (darkTest x y vRest vDark vRight vLower s) := by
  unfold Machine.darkTest
  extract_lets _ _ _ s1 _ _ s2 s3
  refine .ite hs (.ite hs.same.nbDefer ?_)
  have h2 : StoresCanonical s2 := hs.same.noteTested.testResult
  have h3 : StoresCanonical s3 := .ite h2.nbRead h2
  exact .ite h3.nbRead h3

theorem calTake {p iLit : Nat} (hs : StoresCanonical s) : StoresCanonical (calTake p iLit s) := by
  unfold Machine.calTake
  dsimp only
  split
  · exact .ite hs.same hs
  · exact hs

theorem litTest {x y vLit pA : Nat} (hs : StoresCanonical s) :
    StoresCanonical (litTest x y vLit pA s) := .ite hs hs.same.noteTested.calTake.testResult

theorem segStuck {g nA : Nat} (hs : StoresCanonical s) : StoresCanonical (segStuck g nA s) := hs.same.confirmAt

theorem segCheck {g : Nat} {nA : List Nat} (hs : StoresCanonical s) :
    StoresCanonical (segCheck s g nA) := .ite (.ite hs.segStuck hs.same) hs

theorem segmentCheck {currents : List (Nat × List Nat)} (hs : StoresCanonical s) : StoresCanonical (segmentCheck currents s) := by
  unfold Machine.segmentCheck
  dsimp only
  split
  · exact hs
  · split
    · exact hs.same.addF.foldl fun _ _ ht => .ite ht ht.segCheck
    · exact (hs.same.addF.foldl fun _ _ ht => .ite ht ht.segCheck).setB.raise.raiseOnce

theorem frameEvents (hs : StoresCanonical s) : StoresCanonical (frameEvents s) := by
  unfold Machine.frameEvents
  dsimp only
  split
  · split
    · exact (StoresCanonical.ite hs hs.raise).same
    · exact (StoresCanonical.ite hs.raise hs.raise.raise).same
  · split
    · exact (StoresCanonical.ite hs.raise hs.raise.raise).same
    · exact (StoresCanonical.ite hs.raise.raise hs.raise.raise.raise).same

theorem settleTests (hs : StoresCanonical s) : StoresCanonical (settleTests s) := hs.same.foldl fun _ _ ht => ht.decidePixel

theorem clearCounts (hs : StoresCanonical s) : StoresCanonical (clearCounts s) := hs.same

theorem newFrame (hs : StoresCanonical s) : StoresCanonical (newFrame s) := hs.same

theorem sweepAdvance (hs : StoresCanonical s) :
    StoresCanonical (sweepAdvance s) :=
  .ite hs (.ite hs.settleTests.newFrame.setF.setF.finishReport.clearCounts hs.settleTests.newFrame.setF)

theorem restartSweep (hs : StoresCanonical s) : StoresCanonical (restartSweep s) := hs.setF.same.newFrame.clearCounts

theorem testGate {swapped : Bool} (hs : StoresCanonical s) : StoresCanonical (testGate swapped s) := by
  unfold Machine.testGate
  extract_lets s1 _ _ _ _ _ s3 s4 s5
  have h3 : StoresCanonical s3 := (StoresCanonical.ite hs.restartSweep hs : StoresCanonical s1).same
  have h4 : StoresCanonical s4 := .ite h3 h3.raise
  have h5 : StoresCanonical s5 := .ite h4.finishReport h4
  clear_value s5
  exact h5.same

theorem switchesAtTick {swapped : Bool} (hs : StoresCanonical s) : StoresCanonical (switchesAtTick swapped s) := by
  unfold Machine.switchesAtTick
  dsimp only
  split
  · exact hs.same
  · exact hs.same.setB.raise

theorem zoneOne {n : Nat} (hs : StoresCanonical s) :
    StoresCanonical (zoneOne s n) := .ite hs.same (.ite hs.setF.same (.ite hs.setF hs.setF.same.setB.raise.raiseSource))

theorem zoneCount (hs : StoresCanonical s) :
    StoresCanonical (zoneCount s) := .ite (hs.foldl fun _ _ ht => ht.zoneOne).sourceOff (hs.foldl fun _ _ ht => ht.zoneOne)

theorem mapSave (hs : StoresCanonical s) : StoresCanonical (mapSave s) := by
  unfold Machine.mapSave
  dsimp only
  split
  · exact hs.same.setF.nvmPush
  · exact hs

theorem saveReplies {st : Nat} {owners : List Nat} (hs : StoresCanonical s) : StoresCanonical (saveReplies st owners s) := by
  refine hs.foldl fun t q ht => ?_
  split
  · exact ht.finishJob
  · exact ht

theorem saveDone {sv : MapSave} (hs : StoresCanonical s) : StoresCanonical (saveDone sv s) := hs.same.setF.raise.saveReplies

theorem saveFailed {sv : MapSave} {page : Nat} (hs : StoresCanonical s) : StoresCanonical (saveFailed sv page s) := by
  unfold Machine.saveFailed
  exact (hs.withOps fun o ho => hs.ops o (List.mem_filter.1 ho).1).addF.setB.raise.saveReplies

theorem diagRun {action : Nat} {rq : Req} {body : State → State × Reply} (hs : StoresCanonical s) (hb : StoresCanonical (body s).1) :
    StoresCanonical (diagRun action rq body s).1 := hs.withLen (.ite_fst hb hs.refuse)

theorem diagRunStatusBody {rq : Req} (hs : StoresCanonical s) :
    StoresCanonical (diagRunStatusBody rq s).1 := hs.diagRun hs.okReply

theorem suspendChange {rq : Req} {on : Bool} (hs : StoresCanonical s) :
    StoresCanonical (suspendChange rq on s).1 := hs.same.logChange

theorem diagChecked {checks : State → List (Bool × Nat)} {body : State → State × Reply} (hs : StoresCanonical s)
    (hb : StoresCanonical (body s).1) : StoresCanonical (diagChecked checks body s).1 := by
  unfold Machine.diagChecked
  split
  · exact hb
  · exact hs

theorem diagRunSuspendBody {rq : Req} (hs : StoresCanonical s) :
    StoresCanonical (diagRunSuspendBody rq s).1 := hs.diagRun (hs.diagChecked hs.suspendChange)

theorem diagRunResumeBody {rq : Req} (hs : StoresCanonical s) :
    StoresCanonical (diagRunResumeBody rq s).1 := hs.diagRun (hs.diagChecked hs.suspendChange)

theorem diagRunRestartBody {rq : Req} (hs : StoresCanonical s) :
    StoresCanonical (diagRunRestartBody rq s).1 := hs.diagRun hs.same.okReply

theorem diagRunReportBody {rq : Req} (hs : StoresCanonical s) : StoresCanonical (diagRunReportBody rq s).1 := hs.diagRun hs

theorem diagRunSaveBody {rq : Req} (hs : StoresCanonical s) :
    StoresCanonical (diagRunSaveBody rq s).1 := hs.diagRun (hs.guarded hs.askSave)

theorem rectReply {pl : List Byte} {n key : Nat} (hs : StoresCanonical s) :
    StoresCanonical (rectReply pl n key s).1 := .ite_fst hs.askSave hs.okReply

theorem manualEntry {p : Nat} (hs : StoresCanonical s) : StoresCanonical (manualEntry s p) := hs.addEntry

theorem pixelIsolateBody {rq : Req} (hs : StoresCanonical s) :
    StoresCanonical (pixelIsolateBody rq s).1 :=
  hs.withLen (.ite_fst hs.refuse (.ite_fst hs.refuse (hs.mapAdd.foldl fun _ _ ht => ht.manualEntry).rectReply))

theorem mapRemove {drop : Nat → Bool} (hs : StoresCanonical s) : StoresCanonical (mapRemove drop s) := hs.same

theorem diagClearBody {rq : Req} (hs : StoresCanonical s) :
    StoresCanonical (diagClearBody rq s).1 :=
  hs.withLen (.ite_fst hs.refuse (.ite_fst hs.refuse (.ite_fst hs.refuse hs.mapRemove.rectReply)))

theorem sampleSet {n id : Nat} {herd : Bool} (hs : StoresCanonical s) : StoresCanonical (sampleSet n id herd s) := hs.same

theorem commitBody {rq : Req} (hs : StoresCanonical s) :
    StoresCanonical (commitBody rq s).1 := hs.withLen (.ite_fst hs.refuse (.ite hs.sampleSet.setB.bump hs.sampleSet))

theorem herdAlign {x : QEntry} {ofs : Nat} (hs : StoresCanonical s) : StoresCanonical (herdAlign x ofs s) := by
  unfold Machine.herdAlign
  extract_lets grid e trim s1 _
  have h1 : StoresCanonical s1 := hs.setF.setF
  clear_value s1
  exact .ite hs.setB h1.same

theorem herdMofs {tArr master : Nat} (hs : StoresCanonical s) :
    StoresCanonical (herdMofs tArr master s) := .ite hs.same.setB.setB.raise hs.same.setB

theorem herdInfo {x : QEntry} {rq : Req} (hs : StoresCanonical s) : StoresCanonical (herdInfo x rq s) := hs.setF.setF

theorem dropTarget (hs : StoresCanonical s) : StoresCanonical (dropTarget s) := by
  unfold Machine.dropTarget
  dsimp only
  split
  · exact hs
  · exact hs.same.setF

theorem sampleCut {c : CutSet} {id : Nat} (hs : StoresCanonical s) : StoresCanonical (sampleCut c id s) := hs.same

theorem herdCut (hs : StoresCanonical s) : StoresCanonical (herdCut s) := by
  unfold Machine.herdCut
  split
  · exact .ite hs.sampleCut hs
  · exact hs

theorem herdTarget {x : QEntry} {id f : Nat} {snap : Bool} (hs : StoresCanonical s) :
    StoresCanonical (herdTarget x id f snap s) := .ite hs.dropTarget.same.herdCut.setB.bump.raise hs.dropTarget.same.herdCut

theorem herdCommon {rq : Req} (hs : StoresCanonical s) :
    StoresCanonical (herdCommon rq s) :=
  .ite hs.unpark.leaveHold.herdInfo.herdMofs.herdAlign hs.unpark.leaveHold.herdInfo.herdMofs

theorem herdPlain {rq : Req} (hs : StoresCanonical s) :
    StoresCanonical (herdPlain rq s) := .ite hs hs.accept.herdCommon.herdTarget

theorem renumber {x : SetFrame} (hs : StoresCanonical s) : StoresCanonical (renumber x s) := hs.same.same

theorem herdSetFrame {rq : Req} (hs : StoresCanonical s) :
    StoresCanonical (herdSetFrame rq s) := .ite hs hs.accept.herdCommon.dropTarget.renumber

theorem frameSetBody {rq : Req} (hs : StoresCanonical s) :
    StoresCanonical (frameSetBody rq s).1 := hs.withLen (.ite_fst hs.writeItem.writeItem.plainOk hs.refuse)

theorem alignTimeout (hs : StoresCanonical s) : StoresCanonical (alignTimeout s) := by
  unfold Machine.alignTimeout
  dsimp only
  split
  · exact hs
  · exact hs.same.setB

theorem offMapEvent {old new : List Nat} (hs : StoresCanonical s) : StoresCanonical (offMapEvent old new s) := by
  unfold Machine.offMapEvent
  split
  · exact hs
  · exact hs.setB.raise

theorem sampleWith {t : State} {c : CfgSet} (hs : StoresCanonical s) :
    StoresCanonical (sampleWith t c s) := (StoresCanonical.ite hs.setB hs).same.offMapEvent

theorem objSample (hs : StoresCanonical s) : StoresCanonical (objSample s) := hs.sampleWith

theorem herdSample (hs : StoresCanonical s) : StoresCanonical (herdSample s) := by
  unfold Machine.herdSample
  split
  · exact hs.sampleSet
  · exact hs

theorem holdSample (hs : StoresCanonical s) : StoresCanonical (holdSample s) := .ite hs.leaveHold hs

theorem objectSample (hs : StoresCanonical s) :
    StoresCanonical (objectSample s) :=
  .ite hs (.ite (StoresCanonical.ite hs.same.herdSample hs.same).objSample.holdSample (.ite hs.same.herdSample hs.same))

theorem staleEvent {old new : ObjSample} (hs : StoresCanonical s) : StoresCanonical (staleEvent old new s) := by
  unfold Machine.staleEvent
  dsimp only
  split
  · exact hs
  · exact hs.setB.raise

theorem readReg {a : Nat} (hs : StoresCanonical s) : StoresCanonical (readReg a s).2 := by
  unfold Machine.readReg
  split
  · exact hs.same
  · split
    · exact hs.same
    · exact hs

theorem readRegs {a n : Nat} (hs : StoresCanonical s) : StoresCanonical (readRegs a n s).2 := by
  induction n generalizing a s with
  | zero => exact hs
  | succ n ih => exact ih hs.readReg

theorem regRdBody {rq : Req} (hs : StoresCanonical s) : StoresCanonical (regRdBody rq s).1 := by
  unfold Machine.regRdBody
  refine hs.withLen ?_
  dsimp only
  split
  · exact hs.refuse
  · split
    · exact hs.refuse
    · exact hs.readRegs.okReply

theorem closeBypass (hs : StoresCanonical s) : StoresCanonical (closeBypass s) := hs.setB.setB.setB

theorem bypassHold {v : Bool} (hs : StoresCanonical s) : StoresCanonical (bypassHold v s) := .ite hs.setB.closeBypass hs.setB

theorem fluxRestart (hs : StoresCanonical s) : StoresCanonical (fluxRestart s) := hs.same

theorem roosterTurn {out : Bool} (hs : StoresCanonical s) : StoresCanonical (roosterTurn out s) := .ite hs.same.setB hs.same

theorem writeEffect {a : Nat} {v : Word} (hs : StoresCanonical s) : StoresCanonical (writeEffect a v s) := by
  unfold Machine.writeEffect
  dsimp only
  split
  · exact .ite hs.closeBypass hs
  · exact hs.same
  · exact .ite hs.fluxRestart hs
  · exact .ite hs hs.pauseTests
  · exact hs.roosterTurn
  · exact hs

theorem writeOne {a : Nat} {v : Word} (hs : StoresCanonical s) : StoresCanonical (writeOne a v s) := by
  unfold Machine.writeOne
  dsimp only
  split
  · exact hs
  · exact (StoresCanonical.ite hs.setReg.markDirty hs.setReg).writeEffect

theorem regWrBody {rq : Req} (hs : StoresCanonical s) : StoresCanonical (regWrBody rq s).1 := by
  unfold Machine.regWrBody
  refine hs.withLen ?_
  dsimp only
  split
  · exact .ite hs.bump hs
  · split
    · exact (hs.foldl fun _ _ ht => ht.writeOne).okReply
    · split
      · exact hs
      · exact (hs.foldl fun _ _ ht => ht.writeOne).logChange

theorem regRmwBody {rq : Req} (hs : StoresCanonical s) : StoresCanonical (regRmwBody rq s).1 := by
  unfold Machine.regRmwBody
  refine hs.withLen ?_
  dsimp only
  split
  · exact .ite hs.bump hs
  · split
    · exact hs.writeOne.okReply
    · split
      · exact hs.refuse
      · exact hs.writeOne.logChange

theorem registerWrite {stream a : Nat} {v : Word} (hs : StoresCanonical s) : StoresCanonical (registerWrite stream a v s) := by
  unfold Machine.registerWrite
  split
  · exact hs
  · split
    · split
      · exact hs
      · exact hs.writeOne.logChange
    · exact hs.writeOne

theorem lyrSymWrite {v : Word} (hs : StoresCanonical s) : StoresCanonical (lyrSymWrite v s) := by
  unfold Machine.lyrSymWrite
  split
  · exact .ite hs.bump hs
  · exact hs.writeOne

theorem hwCommand {op : Nat} {rq : Req} {body : State → State × Reply} (hs : StoresCanonical s)
    (hb : ∀ t, StoresCanonical t → StoresCanonical (body t).1) : StoresCanonical (hwCommand op rq body s) := hs.accept.runBody hb

theorem safeStopBody {rq : Req} (hs : StoresCanonical s) :
    StoresCanonical (safeStopBody rq s).1 := hs.withLen (.ite_fst hs hs.requestStop.abortCal.abortBist.okReply)

theorem blocked {b : Nat} (hs : StoresCanonical s) : StoresCanonical (blocked s b).1 := hs

theorem enterR231 (hs : StoresCanonical s) : StoresCanonical (enterR231 s) := by
  unfold Machine.enterR231
  extract_lets _ s1 _
  have h1 : StoresCanonical s1 := .setF (.setB hs.same)
  clear_value s1
  exact .ite (.setLamp (.vledOnNow h1.same)) (.setLamp h1.same)

theorem safeRestartBody {rq : Req} (hs : StoresCanonical s) : StoresCanonical (safeRestartBody rq s).1 := by
  unfold Machine.safeRestartBody
  refine hs.withLen ?_
  dsimp only
  split
  · exact hs.blocked
  · split
    · exact hs.blocked
    · split
      · exact hs.blocked
      · exact hs.enterR231.okReply

theorem lightUp (hs : StoresCanonical s) :
    StoresCanonical (lightUp s) := .ite hs.same.setF.same.vledOnNow.setLamp hs.same.setF.same.setLamp

theorem enableBody {rq : Req} (hs : StoresCanonical s) : StoresCanonical (enableBody rq s).1 := by
  unfold Machine.enableBody
  refine hs.withLen ?_
  dsimp only
  split
  · exact hs.refuse
  · split
    · exact hs.okReply
    · split
      · exact hs.blocked
      · split
        · exact hs.blocked
        · split
          · exact hs.blocked
          · exact hs.lightUp.okReply

theorem beginSwitchOff (hs : StoresCanonical s) : StoresCanonical (beginSwitchOff s) := hs.same.setF.setF.setLamp

theorem switchOffBody {rq : Req} (hs : StoresCanonical s) :
    StoresCanonical (switchOffBody rq s).1 :=
  hs.withLen (.ite_fst hs.refuse (.ite_fst hs.beginSwitchOff.okReply (.ite_fst hs.okReply hs.blocked)))

theorem safeUnlockBody {rq : Req} (hs : StoresCanonical s) :
    StoresCanonical (safeUnlockBody rq s).1 :=
  hs.withLen (.ite_fst hs (.ite_fst hs.same.setF.setB.setF.okReply hs.setF.setB.raise))

theorem lockNow (hs : StoresCanonical s) : StoresCanonical (lockNow s) := hs.same.setB.setF

theorem safeLockBody {rq : Req} (hs : StoresCanonical s) :
    StoresCanonical (safeLockBody rq s).1 := hs.withLen (.ite_fst hs.same.okReply hs.lockNow.okReply)

theorem unlockTimeout (hs : StoresCanonical s) : StoresCanonical (unlockTimeout s) := .ite hs.same.lockNow hs

theorem swApply {es : List (Nat × Nat)} (hs : StoresCanonical s) :
    StoresCanonical (swApply es s) := hs.foldl fun _ _ ht => ht.writeOne

theorem safeWriteBody {rq : Req} (hs : StoresCanonical s) : StoresCanonical (safeWriteBody rq s).1 := by
  unfold Machine.safeWriteBody
  refine hs.withLen ?_
  refine hs.guarded ?_
  dsimp only
  split
  · exact hs.swApply.same.logChange
  · exact hs.swApply.logChange

theorem logReadBody {rq : Req} (hs : StoresCanonical s) :
    StoresCanonical (logReadBody rq s).1 := hs.withLen (.ite_fst hs.refuse hs.okReply)

theorem stopPinFall {a b : Bool} (hs : StoresCanonical s) :
    StoresCanonical (stopPinFall a b s) := (StoresCanonical.ite hs.same.bump.sourceOff hs.same.bump).raiseSource

theorem pinDisc (hs : StoresCanonical s) : StoresCanonical (pinDisc s) := .ite hs hs.same.raiseSource.raise

theorem stopPinRelease {a b : Bool} (hs : StoresCanonical s) :
    StoresCanonical (stopPinRelease a b s) :=
  .ite (StoresCanonical.ite hs.same.sourceOff hs.same).sourceOff (.ite hs.same.sourceOff hs.same)

theorem currentRefUpdate (hs : StoresCanonical s) : StoresCanonical (currentRefUpdate s) := by
  unfold Machine.currentRefUpdate
  dsimp only
  split
  · exact hs
  · exact hs.setF

theorem envelopeCheck {imeas : Nat} (hs : StoresCanonical s) :
    StoresCanonical (envelopeCheck imeas s) :=
  .ite (.ite hs.setF.setF.raiseOnce hs.setF.setF) (.ite (.ite hs.setF.raiseOnce hs.setF) hs.setF)

theorem atFadeEnd {f : Fade} (hs : StoresCanonical s) : StoresCanonical (atFadeEnd f s) := hs.same

theorem class1FadeEnd (hs : StoresCanonical s) : StoresCanonical (class1FadeEnd s) := by
  unfold Machine.class1FadeEnd
  split
  · exact .ite hs.atFadeEnd.removeLight hs
  · exact hs

theorem class2FadeEnd (hs : StoresCanonical s) : StoresCanonical (class2FadeEnd s) := by
  unfold Machine.class2FadeEnd
  dsimp only
  split
  · exact .ite hs.same.setF.setLamp hs
  · exact hs

theorem switchOffEnd (hs : StoresCanonical s) : StoresCanonical (switchOffEnd s) := by
  unfold Machine.switchOffEnd
  dsimp only
  split
  · exact .ite hs.atFadeEnd.vledOff.same.setLamp hs
  · exact hs

theorem masterLoss (hs : StoresCanonical s) : StoresCanonical (masterLoss s) := .ite hs hs.same.setB.raise.raiseSource

theorem vledUvArm {mv : Nat} (hs : StoresCanonical s) : StoresCanonical (vledUvArm mv s) := .ite hs.same.same hs.same

theorem vledNoRise (hs : StoresCanonical s) : StoresCanonical (vledNoRise s) := .ite hs.same.raise hs

theorem vledUv {mv : Nat} (hs : StoresCanonical s) :
    StoresCanonical (vledUv mv s) := .ite hs.same.same.bump.setB.raise.pauseTests hs.same

theorem vledUvRelease {mv : Nat} (hs : StoresCanonical s) : StoresCanonical (vledUvRelease mv s) := .ite hs.same.same hs.same

theorem vledOv {mv : Nat} (hs : StoresCanonical s) :
    StoresCanonical (vledOv mv s) := .ite hs.same hs.same.same.bump.setB.raise.raiseSource

theorem vledOvRelease {mv : Nat} (hs : StoresCanonical s) :
    StoresCanonical (vledOvRelease mv s) := .ite hs.same.same.sourceOff hs.same

theorem drvRow {k : DrvPass} {y : Nat} {v : Array Nat} (hs : StoresCanonical s) : StoresCanonical (drvRow k y v s) := by
  obtain ⟨hfb, hfront, hback, hf⟩ := hs.drv
  exact (hs.withDrv (t := { s with drv.back := Mem.writeRun 0 s.drv.back (2048 * y) _ })
    ⟨hfb, hfront, Mem.wf_writeRun hback _ _, hf⟩).same

theorem noteFill {r : RowObjs} (hs : StoresCanonical s) : StoresCanonical (noteFill r s) := .ite hs.same hs

theorem composeHalf {y : Nat} (hs : StoresCanonical s) : StoresCanonical (composeHalf y s).2 := hs.same.setHalf.noteFill

theorem composeRow (hs : StoresCanonical s) : StoresCanonical (composeRow s) := by
  unfold Machine.composeRow
  dsimp only
  split
  · exact hs
  · split
    · split
      · exact hs.same.composeHalf
      · exact hs.same
    · split
      · split
        · exact hs.same.composeHalf.drvRow
        · exact hs.same.drvRow
      · split
        · exact hs.same.composeHalf.drvRow
        · exact hs.same

theorem writeDone {clampFault : Option Nat} (hs : StoresCanonical s) :
    StoresCanonical (writeDone clampFault s) := .ite hs hs.setF.setReg.setReg.setB.same

theorem inputCrcs (hs : StoresCanonical s) : StoresCanonical (inputCrcs s) := hs.setReg.setReg.setReg

theorem animOne {g : Nat} (hs : StoresCanonical s) : StoresCanonical (animOne s g) := by
  have missed : ∀ (t : State) (l : GLayer), StoresCanonical t → StoresCanonical { t with lyr.g := vset t.lyr.g g l } :=
    fun _ _ h => h.same
  unfold Machine.animOne
  extract_lets l due miss f at_ s1 new _ s2
  have h1 : StoresCanonical s1 := hs.setF.setF.setF
  have h2 : StoresCanonical s2 := missed _ _ h1
  exact h2.foldl fun _ _ ht => ht.setB.raise

theorem overloadDone (hs : StoresCanonical s) : StoresCanonical (overloadDone s) := .ite hs.setF.same hs.setF.same.bump.setB.raise

theorem composeDone (hs : StoresCanonical s) : StoresCanonical (composeDone s) := by
  unfold Machine.composeDone
  extract_lets same _ _ _ s1
  have h1 : StoresCanonical s1 := hs.withInputs ⟨hs.act, hs.layers⟩ hs.grazeIn
  clear_value s1
  exact .ite hs (StoresCanonical.foldl h1.overloadDone.inputCrcs fun _ _ ht => ht.animOne)

theorem imageWriteDone {clampFault : Option Nat} (hs : StoresCanonical s) :
    StoresCanonical (imageWriteDone clampFault s) := .ite hs hs.same.writeDone.composeDone

theorem startImage (hs : StoresCanonical s) : StoresCanonical (startImage s) := by
  unfold Machine.startImage
  exact (hs.same.foldl fun _ _ ht => ht.drvRow).writeDone

theorem fluxLoop {qs : List Rat} (hs : StoresCanonical s) : StoresCanonical (fluxLoop qs s) := by
  unfold Machine.fluxLoop
  extract_lets mean t b c c1 s1 low _ _ _ s2
  have h1 : StoresCanonical s1 := hs.setF
  clear_value s1
  have h2 : StoresCanonical s2 := .same (h1.setB (x := F.DRV_FLUX_LIMIT) (v := true)).setB
  clear_value s2
  exact .ite h1.same (.ite h2 h2.raise)

theorem photodiodeRead {readings : List (Nat × Nat)} (hs : StoresCanonical s) : StoresCanonical (photodiodeRead readings s) := by
  unfold Machine.photodiodeRead
  dsimp only
  split
  · exact hs
  · split
    · exact .ite (hs.foldl fun _ _ ht => ht.setF).setF.fluxLoop (hs.foldl fun _ _ ht => ht.setF).setF
    · exact .ite (hs.foldl fun _ _ ht => ht.setF).setF.setB.raise.fluxLoop (hs.foldl fun _ _ ht => ht.setF).setF.setB.raise

theorem referenceRefresh (hs : StoresCanonical s) : StoresCanonical (referenceRefresh s) := .ite hs hs.same.setF.setF

theorem loadFallback (hs : StoresCanonical s) : StoresCanonical (loadFallback s) := by
  obtain ⟨-, hf⟩ := hs.drv
  exact (hs.withDrv (t := { s with drv.fb := s.nvm.fb }) ⟨hs.nvm.2.1, hf⟩).setB.setF

theorem toneReset (hs : StoresCanonical s) : StoresCanonical (toneReset s) := hs.same.same.setReg.setB.raise

theorem copiesFail (hs : StoresCanonical s) : StoresCanonical (copiesFail s) := by
  refine StoresCanonical.foldl hs.same fun t slot ht => ?_
  split
  · exact ht.setBuf.finishKey
  · exact ht.finishKey

theorem fallbackCrcCheck {fbOk toneOk : Bool} (hs : StoresCanonical s) :
    StoresCanonical (fallbackCrcCheck fbOk toneOk s) :=
  .ite hs (.ite (.ite hs.setF hs.copiesFail.loadFallback) (StoresCanonical.ite hs.setF hs.copiesFail.loadFallback).toneReset)

theorem diagMapReadBody {rq : Req} (hs : StoresCanonical s) :
    StoresCanonical (diagMapReadBody rq s).1 :=
  hs.withLen (.ite_fst hs.refuse (.ite_fst hs.refuse (.ite_fst hs.refuse hs.okReply)))

theorem nvmReadBody {rq : Req} (hs : StoresCanonical s) :
    StoresCanonical (nvmReadBody rq s).1 := hs.withLen (.ite_fst hs.refuse (.ite_fst hs.refuse hs.okReply))

theorem bistResultBody {rq : Req} (hs : StoresCanonical s) :
    StoresCanonical (bistResultBody rq s).1 := hs.withLen (.ite_fst hs.refuse (.ite_fst hs.refuse hs.okReply))

theorem acceptOps {ks : List NvmKind} {fin : List Byte} (hs : StoresCanonical s) (hk : ∀ k ∈ ks, k.Canonical) :
    StoresCanonical (acceptOps ks fin s).1 := .ite_fst hs (hs.nvmPush hk)

theorem nvmWriteBody {rq : Req} (hs : StoresCanonical s) : StoresCanonical (nvmWriteBody rq s).1 := by
  refine hs.withLen (hs.guarded (.ite_fst hs (hs.acceptOps (List.forall_mem_append.2 ⟨?_, ?_⟩))))
  · exact List.forall_mem_map.2 fun _ _ => by simp [NvmKind.Canonical]
  · split <;> simp [NvmKind.Canonical]

theorem nvmEraseBody {rq : Req} (hs : StoresCanonical s) : StoresCanonical (nvmEraseBody rq s).1 :=
  hs.withLen (hs.guarded (.ite_fst hs (hs.acceptOps (by simp [NvmKind.Canonical]))))

theorem setSlot {n : Nat} {x : FwSlot} (hs : StoresCanonical s) : StoresCanonical (setSlot n x s) := .ite hs.same hs.same

theorem endStaging {n : Nat} (hs : StoresCanonical s) : StoresCanonical (endStaging n s) := .ite hs hs.same.setSlot

theorem readVersion {n : Nat} (hs : StoresCanonical s) : StoresCanonical (readVersion n s) := hs.setSlot

theorem closeSlot {n st : Nat} (hs : StoresCanonical s) : StoresCanonical (closeSlot n st s) := hs.setSlot.readVersion

theorem bootVersion {n : Nat} (hs : StoresCanonical s) : StoresCanonical (bootVersion s n) := .ite hs.readVersion hs

theorem fwStageBody {rq : Req} (hs : StoresCanonical s) : StoresCanonical (fwStageBody rq s).1 := by
  refine hs.withLen (hs.guarded ?_)
  extract_lets buf top pages _ _ s1 ks
  have h1 : StoresCanonical s1 := .setSlot hs.same
  clear_value s1
  have hk : ∀ k ∈ ks, k.Canonical := by
    refine List.forall_mem_append.2 ⟨?_, ?_⟩
    · split <;> simp [NvmKind.Canonical]
    · exact List.forall_mem_map.2 fun _ _ => by simp [NvmKind.Canonical]
  exact .ite_fst (.ite_fst h1 h1.closeSlot) (h1.acceptOps hk)

theorem fwActivateBody {rq : Req} (hs : StoresCanonical s) : StoresCanonical (fwActivateBody rq s).1 :=
  hs.withLen (hs.guarded (.ite_fst hs (.ite_fst hs (hs.acceptOps (by simp [NvmKind.Canonical])))))

theorem setRec (hs : StoresCanonical s) : StoresCanonical (setRec s) := by
  unfold Machine.setRec
  split <;> exact hs.setReg

theorem bistOps_canonical (c : Nat) (r : BistRec) : ∀ k ∈ bistOps c r, k.Canonical := by simp [bistOps, NvmKind.Canonical]

theorem loseRam {h : Half} (hs : StoresCanonical s) : StoresCanonical (loseRam h s) := by
  cases h
  · exact hs.withImages ⟨rfl, hs.images.2⟩
  · exact hs.withImages ⟨hs.images.1, rfl⟩

theorem beginStep {n : Nat} (hs : StoresCanonical s) : StoresCanonical (beginStep n s) := by
  unfold Machine.beginStep
  dsimp only
  split
  · exact hs
  · exact .ite hs.same (.ite hs.same.loseRam (.ite hs.same.loseRam hs.same))

theorem setLife {r : LifeRec} (hs : StoresCanonical s) : StoresCanonical (setLife r s) := hs.setF.setF

theorem setBist {c : Nat} {r : BistRec} (hs : StoresCanonical s) : StoresCanonical (setBist c r s) := .ite hs.same hs.same

theorem mapPartly {c : Nat} (hs : StoresCanonical s) : StoresCanonical (mapPartly c s) := .ite hs.same hs.same

theorem mapPage {c pg : Nat} {px : List Nat} (hs : StoresCanonical s) :
    StoresCanonical (mapPage c pg px s) := .ite hs.same hs.same

theorem pageWhole {k : NvmKind} (hs : StoresCanonical s) : StoresCanonical (pageWhole k s) := by
  unfold Machine.pageWhole
  dsimp only
  split
  · exact hs
  · exact hs.same

/-- Other bytes stand in the slots and the user area. -/
theorem withBytes (hs : StoresCanonical s) (hx : Mem.wf 0xFF t.nvm.bytes = true)
    (e : ({ t with nvm.bytes := s.nvm.bytes } : State).memories = s.memories := by rfl) : StoresCanonical t :=
  let ⟨h1, h2, h3, h4, h5, h6, h7, h8, h9, ⟨_, hn⟩⟩ := hs.same e
  ⟨h1, h2, h3, h4, h5, h6, h7, h8, h9, ⟨hx, hn⟩⟩

/-- Another fallback pattern stands in its region, under another marker. -/
theorem withFallback (hs : StoresCanonical s) (hx : Mem.wf 0 t.nvm.fb = true) (hm : ∀ x, t.nvm.fbMark = some x → Mem.wf 0 x.2 = true)
    (e : ({ t with nvm.fb := s.nvm.fb, nvm.fbMark := s.nvm.fbMark } : State).memories = s.memories := by rfl) : StoresCanonical t :=
  let ⟨h1, h2, h3, h4, h5, h6, h7, h8, h9, ⟨n1, _, _, hn⟩⟩ := hs.same e
  ⟨h1, h2, h3, h4, h5, h6, h7, h8, h9, ⟨n1, hx, hm, hn⟩⟩

/-- A marker that goes or stays. -/
theorem marker_ite (hs : StoresCanonical s) (c : Prop) [Decidable c] :
    ∀ x, (if c then none else s.nvm.fbMark) = some x → Mem.wf 0 x.2 = true := by
  split
  · exact nofun
  · exact hs.nvm.2.2.1

theorem spoilPage {a : Nat} (hs : StoresCanonical s) : StoresCanonical (spoilPage a s) := by
  unfold Machine.spoilPage
  dsimp only
  split
  · exact hs.withFallback (Mem.wf_writeRun hs.nvm.2.1 _ _) (hs.marker_ite _)
  · exact hs.withBytes (Mem.wf_writeRun hs.nvm.1 _ _)
  · exact hs.withBytes (Mem.wf_writeRun hs.nvm.1 _ _)
  · exact hs.withBytes (Mem.wf_writeRun hs.nvm.1 _ _)
  · exact hs.same

theorem lifeLost {r : LifeRec} (hs : StoresCanonical s) : StoresCanonical (lifeLost r s) := hs.same

theorem copyFails {k : NvmKind} (hs : StoresCanonical s) : StoresCanonical (copyFails k s) := by
  unfold Machine.copyFails
  dsimp only
  split
  · exact hs
  · exact .ite hs.spoilPage.same hs.spoilPage.same
  · exact hs.spoilPage.mapPartly
  · exact .ite hs.spoilPage hs.spoilPage.same
  · exact hs.spoilPage
  · exact hs.spoilPage
  · exact hs.spoilPage.same
  · exact hs.spoilPage.setSlot
  · exact hs.spoilPage.setSlot
  · exact hs.spoilPage.lifeLost
  · exact hs.spoilPage.setBist

theorem markFallback (hs : StoresCanonical s) : StoresCanonical (markFallback s) :=
  hs.withFallback hs.nvm.2.1 (by rintro x ⟨⟩; exact hs.nvm.2.1)

theorem fallbackPage {a : Nat} {bs : List Byte} (hs : StoresCanonical s) : StoresCanonical (fallbackPage a bs s) :=
  hs.withFallback (Mem.wf_writeRun hs.nvm.2.1 _ _) (hs.marker_ite _)

/-- A copy of the factor table is written, the one it replaces becoming the older (R442). -/
theorem factorEffect {c seq : Nat} {fo fe : Mem 16} (hs : StoresCanonical s) (hk : (NvmKind.factor c seq fo fe).Canonical) :
    StoresCanonical (nvmEffect (.factor c seq fo fe) s) := by
  obtain ⟨hb, hf, hm, hn, ho, hops⟩ := hs.nvm
  have hk := hk c seq fo fe rfl
  unfold Machine.nvmEffect
  dsimp only
  split
  · exact hs.withNvm ⟨hb, hf, hm, hk, ho, hops⟩
  · exact hs.withNvm ⟨hb, hf, hm, hk, hn, hops⟩

theorem nvmEffect {k : NvmKind} (hs : StoresCanonical s) (hk : k.Canonical) : StoresCanonical (nvmEffect k s) := by
  cases k with
  | append es => exact .ite hs.pageWhole.same.raise.raise hs.pageWhole.same.raise
  | record c d => exact (StoresCanonical.ite hs.pageWhole.same hs.pageWhole.same).setB
  | map c pg q px =>
    unfold Machine.nvmEffect
    dsimp only
    split
    · exact .ite hs.pageWhole.saveDone hs.pageWhole.mapPartly.mapPage
    · exact hs.pageWhole.mapPartly.mapPage
  | factor c q fo fe => exact hs.factorEffect hk
  | page a d =>
    exact .ite hs.pageWhole.fallbackPage (hs.pageWhole.withBytes (Mem.wf_writeRun hs.pageWhole.nvm.1 _ _))
  | erase a => exact .ite hs.pageWhole.fallbackPage (hs.pageWhole.withBytes (Mem.wf_eraseRun hs.pageWhole.nvm.1 _ _))
  | marker => exact hs.pageWhole.markFallback
  | fw n pg d => exact hs.pageWhole.withBytes (Mem.wf_writeRun hs.pageWhole.nvm.1 _ _)
  | fwAct n act => exact hs.pageWhole.setSlot
  | life r => exact hs.pageWhole.same.setLife
  | bist c pg d =>
    unfold Machine.nvmEffect
    have h : StoresCanonical (Machine.pageWhole (NvmKind.bist c pg d) s) := hs.pageWhole
    generalize Machine.pageWhole (NvmKind.bist c pg d) s = x at h ⊢
    dsimp -zeta only
    extract_lets d1 _ _ x1
    have h1 : StoresCanonical x1 := h.same
    clear_value x1
    exact .ite h1.setBist.setRec (.ite (.bistDone (.setRec (.setBist h1.same))) (.ite h1 h1.setBist.setRec))

/-- Fewer operations wait. -/
theorem withFewerOps (hs : StoresCanonical s) (hx : ∀ o ∈ t.nvm.ops, o ∈ s.nvm.ops)
    (e : ({ t with nvm.ops := s.nvm.ops } : State).memories = s.memories := by rfl) : StoresCanonical t :=
  hs.withOps (fun o ho => hs.ops o (hx o ho)) e

theorem nvmFailEffect {o : NvmOp} (hs : StoresCanonical s) : StoresCanonical (nvmFailEffect o s) := by
  have h := (hs.withFewerOps (t := { s with nvm.ops := s.nvm.ops.filter (fun p => o.owner.isNone || !(p.owner == o.owner)) })
    fun p hp => List.mem_of_mem_filter hp).copyFails (k := o.kind)
  unfold Machine.nvmFailEffect
  dsimp only
  split
  · exact h.syncLog
  · split
    · exact h.saveFailed
    · exact h
  · exact (h.withFewerOps fun p hp => List.mem_of_mem_filter hp).setRec
  · exact h.syncLog

theorem fwStageEnd {j : Job} {st : Nat} (hs : StoresCanonical s) :
    StoresCanonical (fwStageEnd j st s) := .ite hs.closeSlot.finishJob hs.finishJob

theorem fwStageWaits (hs : StoresCanonical s) : StoresCanonical (fwStageWaits s) := by
  unfold Machine.fwStageWaits
  split
  · exact .ite hs hs.fwStageEnd
  · exact hs

theorem ownerEnds {seq st : Nat} (hs : StoresCanonical s) : StoresCanonical (ownerEnds seq st s) := by
  unfold Machine.ownerEnds
  split
  · exact hs
  · split
    · exact hs
    · split
      · split
        · exact .ite hs hs.endCal
        · exact hs
      · exact .ite hs.finishJob (.ite hs.fwStageEnd (.ite hs.finishJob (.ite hs.finishJob hs.finishJob)))

theorem ownerDone {owner : Option Nat} (hs : StoresCanonical s) : StoresCanonical (ownerDone owner s) := by
  cases owner with
  | none => exact hs
  | some q =>
    have h : StoresCanonical (Machine.ownerEnds q (if s.nvm.failed.contains q then St.nvmFail else St.ok)
        { s with nvm.failed := setErase q s.nvm.failed }) := .ownerEnds hs.same
    unfold Machine.ownerDone
    dsimp -zeta only
    extract_lets st _ t
    change StoresCanonical t at h
    clear_value t
    exact .ite hs (.ite h h.same)

theorem aimHead_canonical {l : List NvmOp} (s : State) (hl : ∀ o ∈ l, o.kind.Canonical) : ∀ o ∈ aimHead s l, o.kind.Canonical := by
  unfold aimHead
  split
  · obtain ⟨-, hl⟩ := List.forall_mem_cons.1 hl
    exact List.forall_mem_cons.2 ⟨nofun, hl⟩
  · exact hl

theorem nvmKick (hs : StoresCanonical s) : StoresCanonical (nvmKick s) := by
  refine hs.withOps ?_
  unfold Machine.nvmKick
  dsimp only
  split
  · exact aimHead_canonical s hs.ops
  · exact hs.ops

theorem lockAfter (hs : StoresCanonical s) : StoresCanonical (lockAfter s) := .ite hs.lockNow hs

theorem countUnits {o : NvmOp} (hs : StoresCanonical s) : StoresCanonical (countUnits o s) := by
  unfold Machine.countUnits
  dsimp only
  split
  · exact hs
  · exact (StoresCanonical.ite hs.noteProgress hs).same

theorem testOver {t : BistRec} {st : Nat} (hs : StoresCanonical s) : StoresCanonical (testOver t st s) := by
  unfold Machine.testOver
  dsimp only
  split
  · exact (StoresCanonical.ite hs.same hs.same).finishKey
  · exact .ite (.ite hs.same hs.same) (StoresCanonical.ite hs.same hs.same).finishOp
  · exact .ite (StoresCanonical.ite hs.same hs.same).finishKey (.ite hs.same hs.same)
  · exact .ite hs.same hs.same

theorem testCheck (hs : StoresCanonical s) : StoresCanonical (testCheck s) := by
  unfold Machine.testCheck
  split
  · exact hs
  · split
    · exact hs
    · split
      · exact hs.testOver
      · exact .ite hs.beginStep hs

theorem countPage {k : NvmKind} (hs : StoresCanonical s) : StoresCanonical (countPage k s) := by
  unfold Machine.countPage
  split
  · exact hs
  · exact hs.bump

/-- The operation at the front ended: its command and what waits for it go on. -/
theorem opEnds {owner : Option Nat} (hs : StoresCanonical s) :
    StoresCanonical (Machine.testCheck (Machine.lockAfter (Machine.nvmKick (Machine.fwStageWaits (Machine.ownerDone owner s))))) :=
  hs.ownerDone.fwStageWaits.nvmKick.lockAfter.testCheck

theorem nvmOpDone {ok : Bool} (hs : StoresCanonical s) : StoresCanonical (nvmOpDone ok s) := by
  unfold Machine.nvmOpDone
  split
  · exact hs
  · rename_i o rest ho
    have hk : o.kind.Canonical ∧ ∀ p ∈ rest, p.kind.Canonical := List.forall_mem_cons.1 (ho ▸ hs.ops)
    have hr : StoresCanonical { s with nvm.ops := rest, nvm.started := false } := hs.withOps hk.2
    generalize ({ s with nvm.ops := rest, nvm.started := false } : State) = r at hr ⊢
    have hf : StoresCanonical (((Machine.nvmFailEffect o r).bump F.NVM_CNT_FAIL_CNT).setB F.NVM_STATUS_FAIL true) :=
      hr.nvmFailEffect.bump.setB
    generalize ((Machine.nvmFailEffect o r).bump F.NVM_CNT_FAIL_CNT).setB F.NVM_STATUS_FAIL true = f at hf ⊢
    refine .ite hs (.ite (opEnds (StoresCanonical.nvmEffect hr.countUnits hk.1).countPage)
      (.ite (hs.withOps (List.forall_mem_cons.2 hk)) (opEnds ?_)))
    split
    · exact hf.same
    · exact hf

theorem resumeOps (hs : StoresCanonical s) : StoresCanonical (resumeOps s) := by
  unfold Machine.resumeOps
  dsimp only
  split
  · exact hs.same.raise
  · exact hs.nvmKick

theorem nvmResume (hs : StoresCanonical s) : StoresCanonical (nvmResume s) := by
  unfold Machine.nvmResume
  dsimp only
  split
  · exact hs
  · exact .ite hs hs.same.resumeOps.testCheck

theorem nvmSuspend (hs : StoresCanonical s) : StoresCanonical (nvmSuspend s) := .ite hs.same hs

theorem waitingOps_subset (s : State) : ∀ o ∈ waitingOps s, o ∈ s.nvm.ops := by
  unfold waitingOps
  split
  · exact fun _ ho => List.mem_of_mem_drop ho
  · exact fun _ ho => ho

theorem runningOps_subset (s : State) : ∀ o ∈ (if s.nvm.started then s.nvm.ops.take 1 else []), o ∈ s.nvm.ops := by
  split
  · exact fun _ ho => List.mem_of_mem_take ho
  · exact nofun

theorem sdOwner {q : Nat} (hs : StoresCanonical s) : StoresCanonical (sdOwner s q) := by
  unfold Machine.sdOwner
  extract_lets applied head keep _ s1
  have h1 : StoresCanonical s1 := StoresCanonical.syncLog (StoresCanonical.withFewerOps hs fun o ho =>
    (List.mem_append.1 ho).elim (runningOps_subset s o) fun ho => waitingOps_subset s o (List.mem_of_mem_filter ho))
  clear_value s1
  exact .ite h1.same (.ownerEnds h1.same)

/-- The part that a save's own map operations have in THERM_SD (R425): the page in progress goes on, the others go. -/
theorem sdSave (hs : StoresCanonical s) : StoresCanonical (sdSave s) := by
  unfold Machine.sdSave
  extract_lets _ s1
  have h1 : StoresCanonical s1 := by
    unfold s1
    split
    · exact hs.same.saveReplies
    · exact hs
  split
  · exact h1
  · refine .ite h1 (.ite h1.same.saveReplies (.ite ?_ ?_))
    · exact (h1.withFewerOps fun o ho => List.mem_of_mem_filter ho).addF.saveReplies
    · refine h1.saveFailed.withOps (List.forall_mem_append.2 ⟨fun o ho => ?_, h1.saveFailed.ops⟩)
      exact h1.ops o (runningOps_subset s1 o (List.mem_of_mem_filter ho))

theorem nvmSd (hs : StoresCanonical s) : StoresCanonical (nvmSd s) := by
  unfold Machine.nvmSd
  extract_lets s1
  have h1 : StoresCanonical s1 := by
    unfold s1
    split
    · exact .ite hs.nvmSuspend hs
    · exact hs
  exact (h1.foldl fun _ _ ht => ht.sdOwner).sdSave.lockAfter

theorem nvmSdClear (hs : StoresCanonical s) :
    StoresCanonical (nvmSdClear s) := .ite hs.same (StoresCanonical.ite hs hs.nvmKick).testCheck

theorem endHalfReset {h : Half} {key st : Nat} (hs : StoresCanonical s) :
    StoresCanonical (endHalfReset h key st s) := .ite hs hs.finishAll

theorem setHealth {h : Half} {new : Nat} (hs : StoresCanonical s) : StoresCanonical (setHealth h new s) := .ite hs hs.setF.raise

theorem enterProving {h : Half} (hs : StoresCanonical s) : StoresCanonical (enterProving h s) := hs.setHalf.setF.setF.setHealth

theorem enterGood {h : Half} (hs : StoresCanonical s) :
    StoresCanonical (enterGood h s) := .ite hs.setHealth.endHalfReset.setB.setF.sourceOff hs.setHealth.endHalfReset

theorem halfViews (hs : StoresCanonical s) : StoresCanonical (halfViews s) := hs.same

theorem resetHalf {h : Half} {slot : Nat} (hs : StoresCanonical s) : StoresCanonical (resetHalf h slot s) := by
  unfold Machine.resetHalf
  extract_lets s0 _ _ s1 s2
  have h0 : StoresCanonical s0 := (hs.halfViews.foldl fun _ _ ht => ht.setReg).endStaging
  clear_value s0
  have h1 : StoresCanonical s1 :=
    .setHealth (.same (h0.setHalf_of_wf (g := h) (x := { bootTime := s.time, served := s.time }) rfl))
  clear_value s1
  have h2 : StoresCanonical s2 := h1.setReg.setF
  exact h2.setHealth

theorem autoRestart {h : Half} (hs : StoresCanonical s) : StoresCanonical (autoRestart h s) := hs.bump.resetHalf

theorem noHalf (hs : StoresCanonical s) : StoresCanonical (noHalf s) := hs.same.finishOp.raiseSource

theorem cancelExchange (hs : StoresCanonical s) : StoresCanonical (cancelExchange s) := by
  unfold Machine.cancelExchange
  dsimp only
  split
  · exact hs
  · split
    · exact hs.same.endHalfReset
    · exact hs.same.finishOp

theorem failHalf {h : Half} {cause : Nat} (hs : StoresCanonical s) : StoresCanonical (failHalf h cause s) := by
  unfold Machine.failHalf
  extract_lets _ _ s2 s3
  have h2 : StoresCanonical s2 := hs.setF.setHealth.same.endHalfReset.cancelExchange
  have h3 : StoresCanonical s3 := .ite h2.autoRestart h2
  exact .ite h3.noHalf (.ite h3.raiseSource h3)

theorem skipImage {b : Bool} (hs : StoresCanonical s) : StoresCanonical (skipImage b s) := .ite hs.bump hs

theorem dropImages (hs : StoresCanonical s) : StoresCanonical (dropImages s) := hs.skipImage.skipImage.same

theorem stopBistRun (hs : StoresCanonical s) : StoresCanonical (stopBistRun s) := .ite hs.same hs

theorem abdicate {cause : Nat} (hs : StoresCanonical s) : StoresCanonical (abdicate cause s) := by
  have noExchange : ∀ t : State, StoresCanonical t → StoresCanonical { t with hlv.exchange := none } := fun _ h => h.same
  have handsOver : ∀ t : State, ∀ x : Abdicated, StoresCanonical t → StoresCanonical
      { t with hlv.quick := none, hlv.showNew := true, hlv.abdicated := some x } := fun _ _ h => h.same
  have noLimit : ∀ t : State, StoresCanonical t → StoresCanonical { t with hlv.limit := false } := fun _ h => h.same
  unfold Machine.abdicate
  extract_lets h other ready s1 _ s2 at_ _ _ s3 _ s4 s5
  have h1 : StoresCanonical s1 := hs.raise.setB.bump.setF
  have h2 : StoresCanonical s2 := by
    unfold s2
    split
    · exact (noExchange _ h1).endHalfReset
    · exact noExchange _ h1
  have h3 : StoresCanonical s3 := handsOver _ _ h2.stopBistRun.dropImages
  have h4 : StoresCanonical s4 := .setB (.ite h3 (noLimit _ h3).setF)
  have h5 : StoresCanonical s5 := .ite h4.autoRestart h4.setHealth
  exact .ite hs (.ite h5 h5.noHalf)

theorem halfFault {h : Half} {cause : Nat} (hs : StoresCanonical s) :
    StoresCanonical (halfFault h cause s) := .ite hs (.ite hs.abdicate (.ite hs.failHalf hs))

theorem watchdogExpiry {h : Half} {served : Nat} (hs : StoresCanonical s) : StoresCanonical (watchdogExpiry h served s) := by
  unfold Machine.watchdogExpiry
  have h1 : StoresCanonical (Machine.setHalf h { s.half h with served := max (min served s.time) (s.half h).served } s) := hs.setHalf
  exact .ite hs (.halfFault h1.same)

theorem rowUnderrun (hs : StoresCanonical s) : StoresCanonical (rowUnderrun s) := .ite hs hs.same.setB.bump.raise.abdicate

theorem holdLimit (hs : StoresCanonical s) :
    StoresCanonical (holdLimit s) :=
  .ite hs (.ite (.ite hs.setB.same.abdicate.raiseOnce hs.setB.same.abdicate) hs.setB.same.noHalf)

theorem bootDoneCheck (hs : StoresCanonical s) : StoresCanonical (bootDoneCheck s) := .ite hs hs.same.raise

theorem halfBootDone {h : Half} {crcOk : Bool} (hs : StoresCanonical s) : StoresCanonical (halfBootDone h crcOk s) := by
  unfold Machine.halfBootDone
  extract_lets v s1 _ s2
  have h1 : StoresCanonical s1 := hs.setReg
  clear_value s1
  have h2 : StoresCanonical s2 := (h1.setHalf_of_wf (Mem.wf_writeRun rfl _ _)).enterProving
  clear_value s2
  exact .ite hs (.ite hs.failHalf.bootDoneCheck (StoresCanonical.ite h2 h2.same).bootDoneCheck)

theorem halfBootTimeout {h : Half} (hs : StoresCanonical s) :
    StoresCanonical (halfBootTimeout h s) := .ite hs hs.same.failHalf.bootDoneCheck

theorem goodCheck (hs : StoresCanonical s) : StoresCanonical (goodCheck s) := .ite hs.enterGood hs

theorem mismatch {row : Nat} (hs : StoresCanonical s) :
    StoresCanonical (mismatch row s) :=
  .ite hs.setF.setF.bump.setB.setF.setReg.raise.same hs.setF.setF.bump.setB.setF.setReg.raise

theorem grazeState (hs : StoresCanonical s) : StoresCanonical (grazeState s) := (hs.withSet hs.grazeIn).setF

theorem matched (hs : StoresCanonical s) :
    StoresCanonical (matched s) := (StoresCanonical.ite hs.setF.setF.setHalf hs.setF.setF).goodCheck

theorem grazePool (hs : StoresCanonical s) : StoresCanonical (grazePool s) := hs.setHalf

theorem graze {errs : List Nat} {finished : Bool} (hs : StoresCanonical s) : StoresCanonical (graze errs finished s) := by
  unfold Machine.graze
  dsimp only
  split
  · exact hs
  · split
    · exact hs.same.bump
    · split
      · exact hs.same.grazePool.matched
      · exact hs.same.grazePool.mismatch

theorem selfTestSlice {pass : Bool} (hs : StoresCanonical s) :
    StoresCanonical (selfTestSlice pass s) := .ite hs (.ite hs.same.failHalf hs.same.setHalf.setF.goodCheck)

theorem quickSelfTest {passA passB : Bool} (hs : StoresCanonical s) : StoresCanonical (quickSelfTest passA passB s) := by
  unfold Machine.quickSelfTest
  dsimp only
  split
  · exact .ite (.ite (.ite hs.same hs.same.setB) (StoresCanonical.ite hs.same hs.same.setB).setB) hs
  · exact hs

theorem changeActive {h : Half} (hs : StoresCanonical s) : StoresCanonical (changeActive h s) := hs.setF.bump.setB.setReg

theorem halfExchange (hs : StoresCanonical s) : StoresCanonical (halfExchange s) := by
  unfold Machine.halfExchange
  split
  · exact hs
  · extract_lets old new _ _ s0 s1
    have h0 : StoresCanonical s0 := .same (hs.skipImage (b := s.hlv.grazeDue))
    clear_value s0
    have h1 : StoresCanonical s1 := h0.changeActive.raise
    clear_value s1
    refine .ite hs (.ite hs.cancelExchange ?_)
    split
    · exact h1.finishOp
    · exact .resetHalf (.setF h1.same)

theorem halfStatusBody {rq : Req} (hs : StoresCanonical s) : StoresCanonical (halfStatusBody rq s).1 := hs.withLen hs.okReply

theorem halfSwitchCmd {rq : Req} (hs : StoresCanonical s) :
    StoresCanonical (halfSwitchCmd rq s).1 :=
  hs.withLen (.ite_fst hs.refuse (.ite_fst hs.refuse (.ite_fst hs.okReply (.ite_fst hs.refuse hs.same))))

theorem halfResetCmd {rq : Req} (hs : StoresCanonical s) :
    StoresCanonical (halfResetCmd rq s).1 :=
  hs.withLen (.ite_fst hs.refuse (.ite_fst hs.refuse (.ite_fst hs.refuse (.ite_fst hs.same hs.setF.resetHalf))))

theorem tornEffect {k : NvmKind} (hs : StoresCanonical s) : StoresCanonical (tornEffect k s) := by
  unfold Machine.tornEffect
  dsimp only
  split
  · exact hs.same
  · exact hs.copyFails.same
  · exact hs.copyFails

theorem nvmCut (hs : StoresCanonical s) : StoresCanonical (nvmCut s) := by
  unfold Machine.nvmCut
  extract_lets s1 s2
  have h1 : StoresCanonical s1 := by
    unfold s1
    split
    · exact .ite hs.tornEffect hs
    · exact hs
  clear_value s1
  have h2 : StoresCanonical s2 := by
    unfold s2
    split
    · exact .ite h1.mapPartly h1
    · exact h1
  clear_value s2
  exact StoresCanonical.syncLog (StoresCanonical.withOps h2 nofun)

/-- The words that a loss of the other domains leaves. -/
theorem keptRegs_wf (s : State) (aonLost : Bool) {l : List RegRow} (hl : l.Pairwise (fun r q => r.addr < q.addr)) :
    Mem.wf 0 (keptRegs s aonLost l) = true ∧ ∀ e ∈ keptRegs s aonLost l, ∃ r ∈ l, e.1 = r.addr := by
  induction l with
  | nil => exact ⟨rfl, nofun⟩
  | cons r l ih =>
    obtain ⟨hr, hl⟩ := List.pairwise_cons.1 hl
    obtain ⟨hwf, hmem⟩ := ih hl
    have hmem' : ∀ e ∈ keptRegs s aonLost l, ∃ q ∈ r :: l, e.1 = q.addr := fun e he =>
      let ⟨q, hq, e⟩ := hmem e he
      ⟨q, List.mem_cons_of_mem _ hq, e⟩
    unfold keptRegs
    extract_lets v
    by_cases hv : v = 0
    · rw [if_pos hv]
      exact ⟨hwf, hmem'⟩
    · rw [if_neg hv]
      obtain ⟨hp, hne⟩ := (Mem.wf_iff _).1 hwf
      refine ⟨(Mem.wf_iff _).2 ⟨List.pairwise_cons.2 ⟨fun e he => ?_, hp⟩, List.forall_mem_cons.2 ⟨hv, hne⟩⟩,
        List.forall_mem_cons.2 ⟨⟨r, List.mem_cons_self, rfl⟩, hmem'⟩⟩
      obtain ⟨q, hq, e⟩ := hmem e he
      exact e ▸ hr q hq

theorem resetItems_wf : Mem.wf 0 resetItems = true := by decide +kernel

theorem noLayers_wf : ∀ n < 2, Mem.wf 0 (vnth {} (#v[{}, {}] : Vector VLayer 2) n).regs = true := by decide

/-- An input set with no register and no layer. -/
theorem setCanonical_default {c : Mem 32} (hc : Mem.wf 0 c = true) : SetCanonical { regs := c } #v[{}, {}] :=
  ⟨hc, noLayers_wf⟩

theorem coldState {aonLost : Bool} (hs : StoresCanonical s) : StoresCanonical (coldState aonLost s) := by
  have h := hs.nvmCut
  exact of_parts (keptRegs_wf _ _ regRows_rise).1 (setCanonical_default resetItems_wf) (setCanonical_default rfl)
    (setCanonical_default rfl) rfl nofun ⟨rfl, rfl⟩ ⟨rfl, rfl, rfl, ⟨rfl, rfl⟩, rfl, rfl⟩ h.nvm

theorem latchSleep {k : ResetKind} (hs : StoresCanonical s) : StoresCanonical (latchSleep k s) := .ite hs.setReg.setReg hs

theorem deviceReset {k : ResetKind} (hs : StoresCanonical s) : StoresCanonical (deviceReset k s) := by
  unfold Machine.deviceReset
  extract_lets t aonLost u _
  have h : StoresCanonical u := hs.latchSleep.coldState
  clear_value u
  exact h.same

theorem resetBody {rq : Req} (hs : StoresCanonical s) :
    StoresCanonical (resetBody rq s).1 := hs.withLen (.ite_fst hs.same.okReply hs.refuse)

theorem softReset (hs : StoresCanonical s) : StoresCanonical (softReset s) := .ite hs.same.deviceReset hs

theorem sensorFault {ch stat : Nat} {t : Int} (hs : StoresCanonical s) :
    StoresCanonical (sensorFault ch stat t s) := hs.setB.raise

theorem tsOne {n : Nat} {v : Nat × Nat} (hs : StoresCanonical s) : StoresCanonical (tsOne s n v) := by
  have last : ∀ (t : State) (v : Vector (Option Int) 4), StoresCanonical t → StoresCanonical { t with thm.tsLast := v } :=
    fun _ _ h => h.same
  unfold Machine.tsOne
  obtain ⟨stat, t, raw⟩ := tsReading s n v
  dsimp -zeta only
  extract_lets s1 s2 run put
  have h1 : StoresCanonical s1 := hs.setF.setF
  have h2 : StoresCanonical s2 := by
    unfold s2
    split
    · exact last _ _ h1.setF
    · exact h1
  have hput : ∀ k u, StoresCanonical u → StoresCanonical (put k u) := fun _ _ hu => hu.same
  exact .ite (hput _ _ h2).setB (.ite (.ite (.ite (hput _ _ h2).setB (hput _ _ h2)) (hput _ _ h2))
    (.ite (hput _ _ h2) (.ite (hput _ _ h2).setB.sensorFault (hput _ _ h2))))

theorem dieOne {m2 : Int} {n : Nat} {t : Int} (hs : StoresCanonical s) :
    StoresCanonical (dieOne m2 s n t) :=
  .ite (.ite (.ite hs.setF.same.setB.sensorFault hs.setF.same.setB) hs.setF.same) hs.setF.same

theorem bandInForce (hs : StoresCanonical s) : StoresCanonical (bandInForce s) := .ite hs hs.setF.setB.raise

theorem throttleNow (hs : StoresCanonical s) :
    StoresCanonical (throttleNow s) :=
  .ite (.ite hs.setF.setF.setB.setB hs.setF.setF.setB) (StoresCanonical.ite hs.setF.setF.setB.setB hs.setF.setF.setB).raise

theorem thmTick (hs : StoresCanonical s) : StoresCanonical (thmTick s) := hs.bandInForce.throttleNow

theorem fastRound (hs : StoresCanonical s) : StoresCanonical (fastRound s) := .ite hs.same (.ite hs (.ite hs.same hs.same))

theorem fastCadenceEnd (hs : StoresCanonical s) : StoresCanonical (fastCadenceEnd s) := by
  unfold Machine.fastCadenceEnd
  dsimp only
  split
  · exact hs.same
  · exact hs

theorem fadeMeets {dur : Nat} (hs : StoresCanonical s) : StoresCanonical (fadeMeets dur s) := by
  unfold Machine.fadeMeets
  dsimp only
  split
  · exact .ite hs.same hs
  · exact hs

theorem raiseSd {t : Int} (hs : StoresCanonical s) :
    StoresCanonical (raiseSd t s) :=
  (StoresCanonical.ite hs.setF.setF.setB.setB.bump.raise.fadeMeets hs.setF.setF.setB.setB.bump.raise).activate.requestStopDur.nvmSd

theorem clearSd (hs : StoresCanonical s) : StoresCanonical (clearSd s) := hs.setB.sourceOff.nvmSdClear

theorem sdCheck {t : Int} (hs : StoresCanonical s) :
    StoresCanonical (sdCheck t s) := .ite (.ite hs.clearSd hs) (.ite hs.raiseSd hs)

theorem takeArray {t : Int} (hs : StoresCanonical s) :
    StoresCanonical (takeArray t s) := (StoresCanonical.ite hs.setF.setF.setF hs.setF.setF).same

theorem roundOf {die : List Int} {ts : List (Nat × Nat)} (hs : StoresCanonical s) : StoresCanonical (roundOf die ts s) := by
  unfold Machine.roundOf
  extract_lets s1 s2 _ s3
  have h1 : StoresCanonical s1 := hs.foldl fun _ _ ht => ht.dieOne
  have h2 : StoresCanonical s2 := h1.foldl fun _ _ ht => ht.tsOne
  have h3 : StoresCanonical s3 := h2.takeArray.fastRound.sdCheck
  exact .ite h3 h3.thmTick

theorem thermalRound {die : List Int} {ts : List (Nat × Nat)} (hs : StoresCanonical s) :
    StoresCanonical (thermalRound die ts s) := .ite hs hs.roundOf

theorem thermalTrip {sensor : Nat} (hs : StoresCanonical s) : StoresCanonical (thermalTrip sensor s) := by
  unfold Machine.thermalTrip
  extract_lets s1 rel s2 t _
  have h : StoresCanonical t := hs.raiseOnce.setF.setF.setF.bump.coldState
  clear_value t
  exact .ite hs h.same

theorem tripHoldMonitor {die : List Int} (hs : StoresCanonical s) : StoresCanonical (tripHoldMonitor die s) := by
  unfold Machine.tripHoldMonitor
  dsimp only
  split
  · exact hs
  · exact .ite hs.same hs

theorem thermReadBody {rq : Req} (hs : StoresCanonical s) : StoresCanonical (thermReadBody rq s).1 := hs.withLen hs.okReply

theorem alignDone {asked : Rat} (hs : StoresCanonical s) : StoresCanonical (alignDone asked s) := by
  unfold Machine.alignDone
  dsimp only
  split
  · exact .ite hs.same hs.same.setB.raise
  · exact hs.same
  · exact hs

theorem cutSlots (hs : StoresCanonical s) : StoresCanonical (cutSlots s) := .ite hs.addF hs

theorem tickClock (hs : StoresCanonical s) : StoresCanonical (tickClock s) := .ite hs.same.setF.same hs.same

theorem flipLatch {w : FlipWait} (hs : StoresCanonical s) : StoresCanonical (flipLatch w s) := by
  unfold Machine.flipLatch
  extract_lets s1 _ s2 _
  have h1 : StoresCanonical s1 := hs.setF.setF.setF
  clear_value s1
  have h2 : StoresCanonical s2 := h1.same
  clear_value s2
  exact .ite h2.same h2

theorem flipAt {swapped : Bool} (hs : StoresCanonical s) : StoresCanonical (flipAt swapped s) := by
  unfold Machine.flipAt
  split
  · exact .ite hs.flipLatch hs
  · exact hs

theorem herdApplied (hs : StoresCanonical s) : StoresCanonical (herdApplied s) := by
  unfold Machine.herdApplied
  dsimp only
  split
  · exact .ite hs.same.setF hs
  · exact hs

theorem rateBreak {oldRate : Nat} (hs : StoresCanonical s) :
    StoresCanonical (rateBreak oldRate s) := .ite hs (.ite hs.same.setB.setB.raise hs.same)

theorem put_wf {c : CfgSet} (hc : Mem.wf 0 c.regs = true) (items : List (Nat × Word)) (tabs : List (Nat × List Nat)) :
    Mem.wf 0 (c.put items tabs).regs = true := by
  have h : ∀ m : Mem 32, Mem.wf 0 m = true → Mem.wf 0 (items.foldl (fun m e => Mem.write 0 m e.1 e.2) m) = true := by
    induction items with
    | nil => exact fun _ h => h
    | cons e l ih => exact fun m h => ih _ (Mem.wf_write h _ _)
  exact h _ hc

theorem putAt_wf {c : CfgSet} (hc : Mem.wf 0 c.regs = true) (sets : List Sampled) (tick : Nat) :
    Mem.wf 0 (c.putAt sets tick).regs = true := by
  unfold CfgSet.putAt
  generalize sets.filter _ = l
  induction l generalizing c with
  | nil => exact hc
  | cons x l ih => exact ih (put_wf hc _ _)

theorem applySets (hs : StoresCanonical s) : StoresCanonical (applySets s) := by
  unfold Machine.applySets
  exact (hs.withAct (putAt_wf hs.act _ _)).rateBreak.herdApplied

theorem srcAct (hs : StoresCanonical s) : StoresCanonical (srcAct s) := .ite hs.setF hs.setF.same.setB

theorem moveToFrc (hs : StoresCanonical s) : StoresCanonical (moveToFrc s) := hs.setF.setF.setF.setF.srcAct

theorem moveToPll (hs : StoresCanonical s) : StoresCanonical (moveToPll s) := hs.setF.setF.setF.setF.sourceOff

theorem clkTick (hs : StoresCanonical s) : StoresCanonical (clkTick s) := by
  unfold Machine.clkTick
  dsimp only
  split
  · exact hs
  · exact .ite (.ite hs hs.moveToPll.same.finishOp) hs.moveToFrc.same.finishOp

theorem retire (hs : StoresCanonical s) :
    StoresCanonical (retire s) := hs.foldl fun _ _ ht => .ite (.ite ht.setBuf.raise ht.setBuf) ht

theorem vset_wf {v : Vector VLayer 2} (hv : ∀ n < 2, Mem.wf 0 (vnth {} v n).regs = true) {l : VLayer} (hl : Mem.wf 0 l.regs = true)
    (n : Nat) : ∀ k < 2, Mem.wf 0 (vnth {} (vset v n l) k).regs = true := by
  intro k hk
  rw [vnth_vset]
  split
  · exact hl
  · exact hv k hk

theorem putLayer {n : Nat} {l : VLayer} (hs : StoresCanonical s) (hl : Mem.wf 0 l.regs = true) : StoresCanonical (putLayer n l s) :=
  hs.withSet ⟨hs.act, vset_wf hs.layers hl n⟩

theorem layerSet_wf (hs : StoresCanonical s) (n : Nat) : Mem.wf 0 (layerSet s.tck.act n) = true := Mem.wf_filter _ hs.act

theorem vLayer_wf (hs : StoresCanonical s) (n : Nat) : Mem.wf 0 (s.vLayer n).regs = true := by
  by_cases hn : n < 2
  · exact hs.layers n hn
  · have e : s.vLayer n = {} := by
      simp [State.vLayer, vnth, nth, List.getElem?_eq_none (show s.lyr.v.toList.length ≤ n by simp; omega)]
    rw [e]
    rfl

theorem notReady {bit layer d : Nat} (hs : StoresCanonical s) : StoresCanonical (notReady bit layer d s) := hs.setF.raise

theorem layerTick {due : List Sampled} {n : Nat} (hs : StoresCanonical s) : StoresCanonical (layerTick due s n) := by
  unfold Machine.layerTick
  extract_lets l c d s1 newly
  have h1 : StoresCanonical s1 := hs.putLayer (hs.vLayer_wf n)
  exact .ite (hs.putLayer (hs.layerSet_wf n)) (.ite (hs.putLayer (hs.layerSet_wf n)) (.ite h1 h1.notReady))

theorem baseTick {due : List Sampled} (hs : StoresCanonical s) :
    StoresCanonical (baseTick due s) := .ite hs.setF.setB (.ite hs.setF.setB (.ite hs.setB hs.setB.notReady))

theorem scanBufs (hs : StoresCanonical s) : StoresCanonical (scanBufs s) := hs.same

theorem animTick {due : List Sampled} {g : Nat} (hs : StoresCanonical s) : StoresCanonical (animTick due s g) := hs.same

theorem toneTick (hs : StoresCanonical s) : StoresCanonical (toneTick s) := by
  unfold Machine.toneTick
  dsimp only
  split
  · exact hs
  · exact hs.same.setF

theorem lyrTick {due : List Sampled} (hs : StoresCanonical s) : StoresCanonical (lyrTick due s) := by
  unfold Machine.lyrTick
  extract_lets s1 s2
  have h1 : StoresCanonical s1 := (hs.retire.foldl fun _ _ ht => ht.layerTick).baseTick.scanBufs
  clear_value s1
  have h2 : StoresCanonical s2 := h1.foldl fun _ _ ht => ht.animTick
  clear_value s2
  exact .toneTick h2.same

theorem swapAt {swapped fb : Bool} (hs : StoresCanonical s) : StoresCanonical (swapAt swapped fb s) := by
  obtain ⟨hfb, hfront, hback, hf⟩ := hs.drv
  unfold Machine.swapAt
  refine .ite hs ?_
  exact (hs.withDrv (t := { s with drv.front := s.drv.back, drv.back := s.drv.front }) ⟨hfb, hback, hfront, hf⟩).same.setF.setF.setF.setB

theorem govLimit {swapped : Bool} {gpOld gp : Nat} (hs : StoresCanonical s) :
    StoresCanonical (govLimit swapped gpOld gp s) :=
  .ite (StoresCanonical.ite hs.same.setB hs.same).raise (.ite hs.same.setB hs.same)

theorem supplyTick {mv : Nat} (hs : StoresCanonical s) :
    StoresCanonical (supplyTick mv s) := .ite hs.same.setF.setF (.ite hs.same.setF.setF.setB hs.same.setF.setF.setB.raise)

theorem dTick (hs : StoresCanonical s) : StoresCanonical (dTick s) := hs.setF.setF.setF

theorem startComp {gp : Nat} (hs : StoresCanonical s) : StoresCanonical (startComp gp s) := hs.same

/-- The factors of the next tick, where it has any of its own. -/
theorem getD_wf {x : Option (Mem 16)} {m : Mem 16} (hx : Mem.wf 0x8000 (x.getD []) = true) (hm : Mem.wf 0x8000 m = true) :
    Mem.wf 0x8000 (x.getD m) = true := by
  cases x with
  | none => exact hm
  | some _ => exact hx

theorem soon_wf (hs : StoresCanonical s) : Mem.wf 0x8000 s.foptSoon = true ∧ Mem.wf 0x8000 s.felSoon = true := by
  obtain ⟨-, -, -, ⟨hopt, hel⟩, hopt', hel'⟩ := hs.drv
  exact ⟨getD_wf hopt' hopt, getD_wf hel' hel⟩

/-- Other f_opt and f_el take effect at the next tick. -/
theorem withSoon (hs : StoresCanonical s) (ho : Mem.wf 0x8000 (t.drv.foptNext.getD []) = true)
    (hf : Mem.wf 0x8000 (t.drv.felNext.getD []) = true)
    (e : ({ t with drv.foptNext := s.drv.foptNext, drv.felNext := s.drv.felNext } : State).memories = s.memories := by rfl) :
    StoresCanonical t :=
  let ⟨h1, h2, h3, h4, h5, h6, h7, h8, ⟨d1, d2, d3, d4, _⟩, hn⟩ := hs.same e
  ⟨h1, h2, h3, h4, h5, h6, h7, h8, ⟨d1, d2, d3, d4, ho, hf⟩, hn⟩

theorem drvLatch (hs : StoresCanonical s) : StoresCanonical (drvLatch s) := by
  obtain ⟨hfb, hfront, hback, ⟨hopt, hel⟩, hopt', hel'⟩ := hs.drv
  unfold Machine.drvLatch
  extract_lets _ s1
  have h1 : StoresCanonical s1 := hs.withDrv ⟨hfb, hfront, hback, ⟨getD_wf hopt' hopt, getD_wf hel' hel⟩, rfl, rfl⟩
  exact .ite h1.setF h1

theorem drvTick {swapped : Bool} {mv : Nat} (hs : StoresCanonical s) : StoresCanonical (drvTick swapped mv s) := by
  unfold Machine.drvTick
  extract_lets _ _ s2
  have h2 : StoresCanonical s2 := hs.drvLatch.supplyTick.dTick.govLimit.startComp
  exact .ite h2.currentRefUpdate h2.setF

theorem holdTick {wordErr : Option Nat} (hs : StoresCanonical s) : StoresCanonical (holdTick wordErr s) := by
  unfold Machine.holdTick
  dsimp only
  split
  · exact hs
  · split
    · split
      · exact hs.same.setB.raise.leaveHold
      · exact hs.same.leaveHold
    · split
      · exact hs.same.setB.raise
      · exact hs.same

theorem safTick (hs : StoresCanonical s) :
    StoresCanonical (safTick s) :=
  .ite (StoresCanonical.ite hs.setB (.ite hs.setB hs)).same.same (StoresCanonical.ite hs.setB (.ite hs.setB hs)).same

theorem ceilingTick {viol : Option (Nat × Nat)} {fb : Bool} (hs : StoresCanonical s) :
    StoresCanonical (ceilingTick viol fb s) := by
  unfold Machine.ceilingTick
  dsimp only
  split
  · exact hs.sourceOff
  · exact hs.bump.setF.setF.raise.activate.requestStop

theorem becomeActive {h : Half} (hs : StoresCanonical s) :
    StoresCanonical (becomeActive h s) :=
  .ite hs.same.enterGood.sourceOff (.ite hs.same.enterGood.sourceOff.setF hs.same.enterGood.sourceOff.changeActive)

theorem activeTick (hs : StoresCanonical s) : StoresCanonical (activeTick s) := by
  unfold Machine.activeTick
  dsimp only
  split
  · exact (StoresCanonical.ite hs.setB hs).becomeActive
  · exact .ite hs.setB hs

theorem heldTick {own fb : Bool} (hs : StoresCanonical s) :
    StoresCanonical (heldTick own fb s) := .ite hs (.ite hs.same.raise (.ite hs hs.bump))

theorem grazeTick {composed : Bool} (hs : StoresCanonical s) : StoresCanonical (grazeTick composed s) := by
  unfold Machine.grazeTick
  extract_lets s0 _ _ s1
  have h0 : StoresCanonical s0 := hs.skipImage
  clear_value s0
  have h1 : StoresCanonical s1 := .same (h0.skipImage (b := composed && !s.grazing))
  clear_value s1
  exact h1.withInputs h1.lastIn hs.lastIn

theorem diverge (hs : StoresCanonical s) : StoresCanonical (diverge s) := hs.setB.setB.raise.raiseSource.cancelExchange

theorem quickOutcome (hs : StoresCanonical s) : StoresCanonical (quickOutcome s) := by
  unfold Machine.quickOutcome
  split
  · extract_lets _ s1
    have h1 : StoresCanonical s1 := hs.same
    refine .ite h1 (.ite (.ite h1.failHalf.abdicate (.ite h1.abdicate.same h1.abdicate)) ?_)
    exact .ite h1.failHalf (.ite h1.diverge (.ite h1.failHalf h1))
  · exact hs

theorem objTick (hs : StoresCanonical s) : StoresCanonical (objTick s) := .ite hs hs.same.staleEvent

theorem quickRecTick {swapped : Bool} (hs : StoresCanonical s) : StoresCanonical (quickRecTick swapped s) := by
  unfold Machine.quickRecTick
  split
  · exact .ite (StoresCanonical.nvmPush hs.same (bistOps_canonical _ _)) hs
  · exact hs

theorem doTick {mv : Nat} {wordErr : Option Nat} (hs : StoresCanonical s) : StoresCanonical (doTick mv wordErr s) := by
  unfold Machine.doTick
  extract_lets _ _ _ _ a _ c _ _ _ e _ g h
  have ha : StoresCanonical a := (StoresCanonical.ite hs.herdSample hs).cutSlots.sweepAdvance.frameEvents
  have hc : StoresCanonical c := ha.tickClock.alignDone.swapAt.flipAt.applySets
  have he : StoresCanonical e := hc.clkTick.srcAct.safTick.lyrTick.objTick
  have hg : StoresCanonical g := he.thmTick.drvTick.holdTick.switchesAtTick.testGate
  have hh : StoresCanonical h := hg.activeTick.heldTick.grazeTick
  exact (hh.quickRecTick.ceilingTick.quickOutcome.foldl fun _ _ ht => ht.herdSnap).bootDoneCheck

theorem tick {env : TickEnv} (hs : StoresCanonical s) : StoresCanonical (tick env s) := .ite hs hs.same.doTick

theorem layerMissLimit (hs : StoresCanonical s) : StoresCanonical (layerMissLimit s) :=
  hs.foldl fun _ n ht => .ite (ht.putLayer (ht.vLayer_wf n)) ht

theorem layerDisabledOne {n : Nat} (hs : StoresCanonical s) : StoresCanonical (layerDisabledOne s n) := by
  unfold Machine.layerDisabledOne
  refine .ite ?_ hs
  exact (StoresCanonical.putLayer (hs.withAct (Mem.wf_write hs.act _ _)).setReg (hs.layerSet_wf n)).setF.raise.scanBufs

theorem layerDisabled (hs : StoresCanonical s) : StoresCanonical (layerDisabled s) := hs.foldl fun _ _ ht => ht.layerDisabledOne

theorem tickInLost {reason : Nat} (hs : StoresCanonical s) :
    StoresCanonical (tickInLost reason s) := .ite hs.same.setB.setB.raise hs.same

theorem tickInLock {prev : Nat} (hs : StoresCanonical s) : StoresCanonical (tickInLock prev s) := .ite hs.setB.raise hs

theorem tickInEdge (hs : StoresCanonical s) : StoresCanonical (tickInEdge s) := by
  unfold Machine.tickInEdge
  extract_lets _ s1
  have h1 : StoresCanonical s1 := hs.same
  clear_value s1
  refine .ite hs ?_
  split
  · exact h1.same
  · exact .ite (.tickInLock h1.same) (.same (h1.tickInLost (reason := 1)))

theorem tickInTimeout (hs : StoresCanonical s) : StoresCanonical (tickInTimeout s) := .ite hs hs.same.tickInLost

theorem mapCopyBad (hs : StoresCanonical s) : StoresCanonical (mapCopyBad s) := by
  unfold Machine.mapCopyBad
  extract_lets _ s1 s2
  have h1 : StoresCanonical s1 := .ite hs hs.setB
  have h2 : StoresCanonical s2 := .ite h1 h1.setB
  exact .ite h2 h2.raise

theorem loadMap (hs : StoresCanonical s) : StoresCanonical (loadMap s) := hs.same.setF.setF.mapCopyBad

theorem disableV {freed : List Nat} {n : Nat} (hs : StoresCanonical s) : StoresCanonical (disableV freed s n) := by
  unfold Machine.disableV
  refine .ite ?_ hs
  have hw := Mem.wf_write hs.act 0x4000 (withField (Mem.read 0 s.tck.act.regs 0x4000) n n 0)
  exact StoresCanonical.putLayer (hs.withAct hw).setReg (Mem.wf_filter _ hw)

theorem disableBase {freed : List Nat} (hs : StoresCanonical s) : StoresCanonical (disableBase freed s) := by
  unfold Machine.disableBase
  exact .ite (hs.withAct (Mem.wf_write hs.act _ _)).setReg.setF.setB hs

theorem disableG {freed : List Nat} {g : Nat} (hs : StoresCanonical s) : StoresCanonical (disableG freed s g) := by
  unfold Machine.disableG
  exact .ite (hs.withAct (Mem.wf_write hs.act _ _)).setReg hs

theorem losePool {mask : Nat} (hs : StoresCanonical s) : StoresCanonical (losePool mask s) := by
  unfold Machine.losePool
  extract_lets bufs _ _ s1
  have h1 : StoresCanonical s1 := hs.withStore (Mem.wf_filter _ hs.store)
  have h2 := h1.foldl (l := List.range 2) (f := Machine.disableV bufs) fun _ _ ht => ht.disableV
  exact h2.disableBase.foldl fun _ _ ht => ht.disableG

theorem foldl_write_wf {m : Mem 32} (hm : Mem.wf 0 m = true) (l : List RegRow) (v : RegRow → Word) :
    Mem.wf 0 (l.foldl (fun t r => Mem.write 0 t r.addr (v r)) m) = true := by
  induction l generalizing m with
  | nil => exact hm
  | cons r l ih => exact ih (Mem.wf_write hm _ _)

theorem lyrRegsReset_wf {m : Mem 32} (hm : Mem.wf 0 m = true) : Mem.wf 0 (lyrRegsReset m) = true := by
  unfold lyrRegsReset
  exact foldl_write_wf hm _ _

theorem lyrItemsReset_wf {m : Mem 32} (hm : Mem.wf 0 m = true) : Mem.wf 0 (lyrItemsReset m) = true := by
  unfold lyrItemsReset
  exact foldl_write_wf hm _ _

theorem loseBank4 (hs : StoresCanonical s) : StoresCanonical (loseBank4 s) :=
  of_parts (lyrRegsReset_wf hs.regs) (setCanonical_default (lyrItemsReset_wf hs.act)) (setCanonical_default rfl)
    (setCanonical_default rfl) hs.store hs.snapshotWords hs.images hs.drv hs.nvm

theorem loseBanks {mask : Nat} (hs : StoresCanonical s) :
    StoresCanonical (loseBanks mask s) := .ite hs (StoresCanonical.ite hs.losePool.loseBank4 hs.losePool).same.setB.raise

theorem reloadGains (hs : StoresCanonical s) : StoresCanonical (reloadGains s) :=
  let ⟨hfb, hfront, hback, _⟩ := hs.drv
  hs.withDrv ⟨hfb, hfront, hback, hs.nvm.2.2.2.1, rfl, rfl⟩

theorem mapInvalid (hs : StoresCanonical s) : StoresCanonical (mapInvalid s) := hs.setMap.raise

theorem reloadOptics (hs : StoresCanonical s) : StoresCanonical (reloadOptics s) := by
  unfold Machine.reloadOptics
  split
  · exact hs.setMap.setB
  · exact hs.mapInvalid

theorem reloadBanks {mask : Nat} (hs : StoresCanonical s) : StoresCanonical (reloadBanks mask s) := by
  unfold Machine.reloadBanks
  extract_lets s1 s2 s3
  have h1 : StoresCanonical s1 := .ite hs hs.reloadGains
  have h2 : StoresCanonical s2 := .ite h1 h1.loadFallback
  have h3 : StoresCanonical s3 := .ite h2.reloadOptics.loadMap h2
  exact h3.same

theorem setRepair {map : List (Nat × Nat × Nat)} (hs : StoresCanonical s) : StoresCanonical (setRepair map s) := hs.same.setF.setF

theorem setBankBad {banks bad : Nat} (hs : StoresCanonical s) : StoresCanonical (setBankBad banks bad s) := hs.setReg

theorem showTest {t : BistRec} (hs : StoresCanonical s) : StoresCanonical (showTest t s) := hs.setF.setF.setF

theorem beginTest {t : BistRec} (hs : StoresCanonical s) : StoresCanonical (beginTest t s) := hs.same.showTest

theorem startTest {origin : Nat} (hs : StoresCanonical s) : StoresCanonical (startTest origin s) := hs.beginTest.nvmPush

/-- Other words stand in the two buffers of the pixel memory. -/
theorem withImage {x y : Mem 16} {n : Nat} (hs : StoresCanonical s) (hx : Mem.wf 0 x = true) (hy : Mem.wf 0 y = true) :
    StoresCanonical { s with drv.front := x, drv.back := y, fresh := n } :=
  let ⟨hfb, _, _, hf⟩ := hs.drv
  hs.withDrv ⟨hfb, hx, hy, hf⟩

theorem marchedWords_wf (s : State) (k : Nat) : Mem.wf 0 (marchedWords s k) = true := by
  unfold marchedWords
  exact Mem.wf_entries _ _

theorem marchPixels {t : BistRec} {n : Nat} (hs : StoresCanonical s) : StoresCanonical (marchPixels t n s) := by
  unfold Machine.marchPixels
  exact .ite (withImage hs (marchedWords_wf s 0) (marchedWords_wf s 1)) hs

theorem stepResult {t : BistRec} {n : Nat} {found : List StepFault} {complete : Bool} (hs : StoresCanonical s) :
    StoresCanonical (stepResult t n found complete s) := by
  unfold Machine.stepResult
  extract_lets banks fs map s1 t1 _
  have h1 : StoresCanonical s1 := hs.marchPixels.setRepair.setBankBad
  clear_value s1
  exact .showTest h1.same

theorem finishTest {t : BistRec} (hs : StoresCanonical s) : StoresCanonical (finishTest t s) := by
  unfold Machine.finishTest
  exact .nvmPush (.showTest hs.same) (List.forall_mem_append.2 ⟨bistOps_canonical _ _, bistOps_canonical _ _⟩)

theorem endBistRun {t : BistRec} {st : Nat} (hs : StoresCanonical s) : StoresCanonical (endBistRun t st s) := by
  unfold Machine.endBistRun
  extract_lets t1 _ _ _ s1
  have h1 : StoresCanonical s1 := .showTest hs.same
  clear_value s1
  exact h1.loseBanks.bistDone.nvmPush (bistOps_canonical _ _)

theorem runStep {t : BistRec} {found : List StepFault} (hs : StoresCanonical s) : StoresCanonical (runStep t found s) := by
  unfold Machine.runStep
  dsimp only
  split
  · exact hs.stepResult
  · split
    · exact hs.stepResult.endBistRun
    · split
      · exact hs.stepResult.beginStep
      · exact .ite hs.stepResult.endBistRun hs.stepResult.bistDone.finishTest

theorem bistRunBody {rq : Req} (hs : StoresCanonical s) :
    StoresCanonical (bistRunBody rq s).1 := hs.withLen (.ite_fst hs.refuse (.ite_fst hs (.ite_fst hs (.ite_fst hs hs.beginTest))))

theorem bistStart (hs : StoresCanonical s) : StoresCanonical (bistStart s) := by
  unfold Machine.bistStart
  dsimp only
  split
  · exact .ite (StoresCanonical.ite hs.same hs).beginStep hs
  · exact hs

theorem saveLife (hs : StoresCanonical s) : StoresCanonical (saveLife s) := hs.nvmPush

theorem shutSaves (hs : StoresCanonical s) : StoresCanonical (shutSaves s) := (StoresCanonical.ite hs.askSave.mapSave hs).saveLife

theorem shutdownBody {rq : Req} (hs : StoresCanonical s) :
    StoresCanonical (shutdownBody rq s).1 := hs.withLen (.ite_fst hs.same.shutSaves hs.noteRefusal)

theorem rxError (hs : StoresCanonical s) : StoresCanonical (rxError s) := hs.raise

theorem rxRefuse {h : Hdr} {rq : Req} {st reason : Nat} (hs : StoresCanonical s) :
    StoresCanonical (rxRefuse h rq st reason s) := by
  unfold Machine.rxRefuse
  extract_lets s1 s2
  have h1 : StoresCanonical s1 := .ite hs.bump (.ite hs.bump (.ite hs.bump.rxError hs.bump))
  have h2 : StoresCanonical s2 := (StoresCanonical.ite h1.abortBist h1).noteStatus
  exact .ite h2.pushReply.noteLastRef (.ite h2.bump.setB h2.bump.setB)

theorem enqueue {h : Hdr} {rq : Req} (hs : StoresCanonical s) :
    StoresCanonical (enqueue h rq s) := .ite hs.noteAlive.bump.setB hs.takeIn

theorem checkPacket {port : Port} {bs : List Byte} (hs : StoresCanonical s) : StoresCanonical (checkPacket port bs s) := by
  unfold Machine.checkPacket
  extract_lets _ _ _ _ _ _ s1
  have h1 : StoresCanonical s1 := .ite hs.noteMaster hs
  clear_value s1
  refine .ite hs.bump.setB.rxError (.ite hs.bump.setB ?_)
  refine .ite h1.rxRefuse ?_
  split
  · exact h1.rxRefuse
  · exact .ite h1.rxRefuse (.ite h1.rxRefuse (.ite h1.rxRefuse h1.enqueue))

theorem receive {port : Port} {bs : List Byte} (hs : StoresCanonical s) :
    StoresCanonical (receive port bs s) := hs.serveQueue.checkPacket.serveQueue

theorem takeNotice {bs : List Byte} (hs : StoresCanonical s) : StoresCanonical (takeNotice bs s) := hs.setB.same

theorem countBreak {bs : List Byte} (hs : StoresCanonical s) : StoresCanonical (countBreak bs s) := .ite hs.bump hs

theorem forward {bs : List Byte} {fits : Bool} (hs : StoresCanonical s) :
    StoresCanonical (forward bs fits s) := .ite hs.same (.ite hs.same.bump hs.same)

theorem sentPkt {p : OutPkt} (hs : StoresCanonical s) : StoresCanonical (sentPkt p s) := by
  unfold Machine.sentPkt
  extract_lets _ s1 s2 _ s3
  have h1 : StoresCanonical s1 := hs.same
  clear_value s1
  have h2 : StoresCanonical s2 := by
    unfold s2
    split
    · exact .ite h1.journalSent h1
    · exact h1
  clear_value s2
  have h3 : StoresCanonical s3 := .ite h2.same h2
  clear_value s3
  exact h3.lostReport.bistStart

theorem insertOwn {gap : Nat} (hs : StoresCanonical s) : StoresCanonical (insertOwn gap s) := by
  unfold Machine.insertOwn
  split
  · exact hs
  · exact .ite hs hs.same.sentPkt

theorem powerEvent {old new : PwrState} {cause : Nat} (hs : StoresCanonical s) :
    StoresCanonical (powerEvent old new cause s) := hs.raise

theorem setPower {new : PwrState} {cause : Nat} (hs : StoresCanonical s) :
    StoresCanonical (setPower new cause s) := hs.same.powerEvent

theorem pwrStateBody {target : Nat} {rq : Req} {body : State → State × Reply} (hs : StoresCanonical s)
    (hb : StoresCanonical (body s).1) : StoresCanonical (pwrStateBody target rq body s).1 := hs.withLen (.ite_fst hs.refuse hb)

theorem pwrRefused {target mask : Nat} (hs : StoresCanonical s) : StoresCanonical (pwrRefused target mask s).1 := hs.noteRefusal

theorem pwrActiveBody {rq : Req} (hs : StoresCanonical s) :
    StoresCanonical (pwrActiveBody rq s).1 := hs.pwrStateBody hs.same.leaveHold.okReply

theorem pwrHoldBody {rq : Req} (hs : StoresCanonical s) :
    StoresCanonical (pwrHoldBody rq s).1 := hs.pwrStateBody (.ite_fst hs.okReply (.ite_fst hs.same.okReply hs.pwrRefused))

theorem pwrIdleBody {rq : Req} (hs : StoresCanonical s) : StoresCanonical (pwrIdleBody rq s).1 := by
  refine hs.pwrStateBody ?_
  extract_lets _ t m
  have h : StoresCanonical t := .leaveHold hs.same
  clear_value t
  exact .ite_fst h.same hs.pwrRefused

theorem pwrSleepBody {rq : Req} (hs : StoresCanonical s) : StoresCanonical (pwrSleepBody rq s).1 := by
  refine hs.pwrStateBody ?_
  extract_lets _ t m
  have h : StoresCanonical t := .leaveHold hs.same
  clear_value t
  exact .ite_fst h.same hs.pwrRefused

theorem clkBodyOf {sel : Nat} {rq : Req} (hs : StoresCanonical s) :
    StoresCanonical (clkBodyOf sel rq s).1 :=
  hs.withLen (.ite_fst hs.refuse (.ite_fst hs.okReply (.ite_fst hs.refuse (.ite_fst hs (.ite_fst hs hs.same.same)))))

theorem pllLockTimeout (hs : StoresCanonical s) : StoresCanonical (pllLockTimeout s) := by
  unfold Machine.pllLockTimeout
  dsimp only
  split
  · exact .ite hs.same.finishOp hs
  · exact hs

theorem corePllLoss (hs : StoresCanonical s) : StoresCanonical (corePllLoss s) := .ite hs hs.moveToFrc.same.raiseSource

theorem holdRequest (hs : StoresCanonical s) : StoresCanonical (holdRequest s) := .ite hs.same hs

theorem stopTests (hs : StoresCanonical s) : StoresCanonical (stopTests s) := hs.abortCal.pauseTests.same

theorem holdEntry (hs : StoresCanonical s) : StoresCanonical (holdEntry s) := by
  unfold Machine.holdEntry
  dsimp only
  split
  · exact hs
  · exact .ite hs (.ite hs.same (.ite (.ite hs.same.stopTests.setPower.leaveHold hs.same.stopTests.setPower) (.ite hs hs.same.noteRefusal)))

theorem holdExit (hs : StoresCanonical s) : StoresCanonical (holdExit s) := by
  unfold Machine.holdExit
  dsimp only
  split
  · exact hs
  · exact .ite hs.same.setPower hs

theorem idleTimer (hs : StoresCanonical s) : StoresCanonical (idleTimer s) := .ite hs.same.same.leaveHold hs

theorem storeRcrc (hs : StoresCanonical s) : StoresCanonical (storeRcrc s) := hs.same

theorem idleSteps (hs : StoresCanonical s) : StoresCanonical (idleSteps s) := by
  unfold Machine.idleSteps
  extract_lets _ _ s1
  have h1 : StoresCanonical s1 := .storeRcrc (.setF (.stopTests hs.same))
  clear_value s1
  exact h1.withSnapshot nofun

theorem idleClock (hs : StoresCanonical s) : StoresCanonical (idleClock s) := hs.setF.setF

theorem idleReached {r : EntryReq} (hs : StoresCanonical s) : StoresCanonical (idleReached r s) := by
  unfold Machine.idleReached
  extract_lets _ t t1 _ _ t2
  have h : StoresCanonical t := .setPower (.idleClock hs.same)
  clear_value t
  have h1 : StoresCanonical t1 := h.finishKey
  clear_value t1
  have h2 : StoresCanonical t2 := h1.same
  clear_value t2
  exact .ite (.ite h2.startTest h2.finishKey) h2

theorem serviceImage {lost : Nat} (hs : StoresCanonical s) :
    StoresCanonical (serviceImage lost s) := hs.reloadBanks.same.startImage

theorem idleAbandoned (hs : StoresCanonical s) : StoresCanonical (idleAbandoned s) := by
  unfold Machine.idleAbandoned
  extract_lets _ t body t1 _ t2 _ _ t3
  have h : StoresCanonical t := .setB (.noteRefusal hs.same)
  clear_value t
  have h1 : StoresCanonical t1 := h.finishKey.finishKey
  clear_value t1
  have h2 : StoresCanonical t2 := h1.finishOp
  clear_value t2
  have h3 : StoresCanonical t3 := .same (h2.setF (x := F.PWR_CLK_PLL_LOCK) (v := b2n !t2.onFrc))
  clear_value t3
  exact (StoresCanonical.ite h3.serviceImage h3).doTick

theorem idleEntry {during : Option (Port × List Byte)} (hs : StoresCanonical s) : StoresCanonical (idleEntry during s) := by
  unfold Machine.idleEntry
  split
  · exact hs
  · extract_lets m _ s1 _
    have h1 : StoresCanonical s1 := hs.idleSteps
    clear_value s1
    refine .ite hs (.ite (.ite hs (.noteRefusal hs.same)) ?_)
    split
    · exact h1.idleReached
    · extract_lets t _
      have ht : StoresCanonical t := .receive h1.same
      clear_value t
      exact .ite (.idleAbandoned ht.same) (.idleReached ht.same)

theorem restoreClocks (hs : StoresCanonical s) : StoresCanonical (restoreClocks s) := hs.setF.setF.setF

theorem stopTest (hs : StoresCanonical s) : StoresCanonical (stopTest s) := by
  unfold Machine.stopTest
  split
  · exact hs
  · dsimp only
    refine (hs.withFewerOps fun o ho => ?_).bistDone
    rcases List.mem_append.1 ho with ho | ho
    · exact runningOps_subset s o ho
    · exact List.mem_of_mem_drop (List.mem_of_mem_filter ho)

theorem rebootHalves (hs : StoresCanonical s) :
    StoresCanonical (rebootHalves s) := .ite hs ((StoresCanonical.ite hs.same hs).foldl fun _ _ ht => ht.resetHalf)

theorem exitReplies (hs : StoresCanonical s) : StoresCanonical (exitReplies s) := .ite hs hs.finishKey

theorem idleExit {badBanks : Nat} (hs : StoresCanonical s) : StoresCanonical (idleExit badBanks s) := by
  unfold Machine.idleExit
  refine .ite hs ?_
  extract_lets _ _ _ _ _ _ s2 s3
  have h2 : StoresCanonical s2 := hs.stopTest.restoreClocks.setReg.loseBanks.same.rebootHalves
  have h3 : StoresCanonical s3 := .ite h2.serviceImage h2
  exact h3.doTick.powerEvent.exitReplies

theorem sleepTimer (hs : StoresCanonical s) : StoresCanonical (sleepTimer s) := .ite hs.same.same hs

theorem sleepSaves (hs : StoresCanonical s) : StoresCanonical (sleepSaves s) := .ite hs.same.shutSaves hs.same.shutSaves.startTest

theorem enterSleep (hs : StoresCanonical s) : StoresCanonical (enterSleep s) := by
  unfold Machine.enterSleep
  extract_lets s1 t _
  have ht : StoresCanonical t := hs.setReg.setReg.coldState
  clear_value t
  exact ht.same

theorem sleepStep (hs : StoresCanonical s) : StoresCanonical (sleepStep s) := by
  unfold Machine.sleepStep
  dsimp only
  split
  · exact hs
  · split
    · exact hs
    · split
      · exact .ite hs.sleepSaves (.ite hs hs.same.noteRefusal)
      · exact .ite hs hs.same.finishKey
      · exact hs.same.enterSleep

theorem sleepEntry {during : Option (Port × List Byte)} (hs : StoresCanonical s) : StoresCanonical (sleepEntry during s) := by
  unfold Machine.sleepEntry
  split
  · exact hs.sleepStep
  · exact (StoresCanonical.ite hs.receive hs).sleepStep

theorem roosterEdge {mv : Nat} (hs : StoresCanonical s) : StoresCanonical (roosterEdge mv s) := by
  unfold Machine.roosterEdge
  extract_lets _ _ s1
  have h1 : StoresCanonical s1 := hs.same.roosterTurn
  exact .ite h1 (.ite h1.deviceReset (.ite h1.same (.ite h1.serviceShutdown h1)))

theorem lampMinute (hs : StoresCanonical s) : StoresCanonical (lampMinute s) := .ite hs (.ite hs.same.setF.saveLife hs.same.setF)

theorem vsupWarn {mv : Nat} (hs : StoresCanonical s) : StoresCanonical (vsupWarn mv s) := .ite hs hs.same.nvmSuspend

theorem resumeLater (hs : StoresCanonical s) : StoresCanonical (resumeLater s) := .ite hs.same hs

theorem dipEnd {minMv mv : Nat} (hs : StoresCanonical s) : StoresCanonical (dipEnd minMv mv s) := by
  unfold Machine.dipEnd
  dsimp only
  split
  · exact hs
  · exact .ite hs (.ite hs.same.bump.setF hs.same.bump.setF.setB.raise.resumeLater)

theorem setLaneBits {x : Fld} {m : Nat} (hs : StoresCanonical s) :
    StoresCanonical (setLaneBits x m s) := hs.foldl fun _ _ ht => ht.setB

theorem setTxPower {m st : Nat} (hs : StoresCanonical s) :
    StoresCanonical (setTxPower m st s) := hs.foldl fun _ _ ht => .ite ht.setF ht

theorem coefReset (hs : StoresCanonical s) :
    StoresCanonical (coefReset s) := hs.setF.setF.foldl fun _ _ ht => ht.setF.setF.setF.setF.setF.setF

theorem adapt {m : Nat} (hs : StoresCanonical s) : StoresCanonical (adapt m s) := hs.foldl fun _ _ ht => .ite ht.draw.setReg ht

theorem leaveRun {why : Nat} (hs : StoresCanonical s) : StoresCanonical (leaveRun why s) := .ite hs.same.raise hs

theorem leaveRunAsked (hs : StoresCanonical s) : StoresCanonical (leaveRunAsked s) := .ite hs.draw.leaveRun hs

/-- A search starts: the ring's own marks. -/
theorem seekMarks {rate laneEn : Nat} {attempt : Nat} {last : Option Nat} (hs : StoresCanonical s) : StoresCanonical { s with
    rng.rate := rate, rng.laneEn := laneEn, rng.notice := none, rng.addAsk := 0, rng.goodSince := [], rng.transitFor := none,
    rng.dropNext := 0, rng.attempt := attempt, rng.lastBlock := last } := hs.same

theorem enterSeek (hs : StoresCanonical s) : StoresCanonical (enterSeek s) := by
  unfold Machine.enterSeek
  extract_lets s1 s2 s3 _
  have h1 : StoresCanonical s1 := .ite hs hs.coefReset
  have h2 : StoresCanonical s2 := h1.setF.setF
  have h3 : StoresCanonical s3 := h2.setLaneBits.setLaneBits.setLaneBits.setLaneBits
  exact seekMarks h3

theorem loopEnds {errors : Nat} (hs : StoresCanonical s) :
    StoresCanonical (loopEnds errors s) := (StoresCanonical.ite hs.closeBypass hs).setF.setF.raise.enterSeek

theorem loopCut (hs : StoresCanonical s) : StoresCanonical (loopCut s) := .ite hs hs.draw.loopEnds

theorem toSeek (hs : StoresCanonical s) : StoresCanonical (toSeek s) := .ite hs.leaveRunAsked.enterSeek hs.loopCut

theorem restartAttempt (hs : StoresCanonical s) : StoresCanonical (restartAttempt s) := .ite hs.same (.ite hs.enterSeek hs)

theorem signalDetect {lanes : Nat} (hs : StoresCanonical s) : StoresCanonical (signalDetect lanes s) := by
  unfold Machine.signalDetect
  extract_lets s1 s2 _ _
  have h1 : StoresCanonical s1 := hs.setLaneBits
  have h2 : StoresCanonical s2 := .ite h1 h1.restartAttempt
  clear_value s2
  exact .ite (.setF (.same (h2.setReg (a := 0x1020) (v := 0)))) h2

theorem seekAttempt (hs : StoresCanonical s) : StoresCanonical (seekAttempt s) := hs.same

theorem restLanes (hs : StoresCanonical s) : StoresCanonical (restLanes s) := by
  unfold Machine.restLanes
  extract_lets s1 _
  have h1 : StoresCanonical s1 := hs.foldl fun _ _ ht => .ite ht ht.setF
  clear_value s1
  exact .ite hs (.ite h1.same h1)

theorem signalLost (hs : StoresCanonical s) :
    StoresCanonical (signalLost s) :=
  .ite hs.setLaneBits.restLanes.bump.setB.enterSeek (.ite hs.setLaneBits.restLanes.leaveRun.enterSeek hs.setLaneBits.restLanes)

theorem cdrLock {lanes : Nat} (hs : StoresCanonical s) :
    StoresCanonical (cdrLock lanes s) := .ite hs (.ite hs.same.setLaneBits.setLaneBits.setF hs)

theorem dropLane {n reason : Nat} (hs : StoresCanonical s) : StoresCanonical (dropLane n reason s) := hs.setB.bump.setB.raise

theorem dropLanes {m reason : Nat} (hs : StoresCanonical s) :
    StoresCanonical (dropLanes m reason s) := hs.foldl fun _ _ ht => .ite ht.dropLane ht

theorem trainDone {efom : List Nat} (hs : StoresCanonical s) :
    StoresCanonical (trainDone efom s) :=
  .ite hs (hs.foldl fun _ _ ht => .ite ht.setF ht).setLaneBits.adapt.same.dropLanes.dropLanes.setF

theorem blockLock {lanes : Nat} {slips : List Nat} (hs : StoresCanonical s) :
    StoresCanonical (blockLock lanes slips s) :=
  .ite hs (StoresCanonical.ite hs (hs.foldl fun _ _ ht => .ite ht.setF ht)).setLaneBits.dropLanes.same.setF

theorem trainTimeout (hs : StoresCanonical s) : StoresCanonical (trainTimeout s) := by
  have attempt : ∀ (t : State) (n : Nat), StoresCanonical t → StoresCanonical { t with rng.attempt := n } := fun _ _ h => h.same
  have at_ : ∀ (t : State) (n : Nat), StoresCanonical t → StoresCanonical { t with time := n } := fun _ _ h => h.same
  unfold Machine.trainTimeout
  extract_lets t s1 _ _
  have h : StoresCanonical t := at_ _ _ hs
  have h1 : StoresCanonical s1 := h.bump.setB.raise
  exact attempt _ _ h1.enterSeek

theorem pushNotice (hs : StoresCanonical s) : StoresCanonical (pushNotice s) := .ite hs hs.same

theorem noteUpstream {marker : List Byte} (hs : StoresCanonical s) : StoresCanonical (noteUpstream marker s) := hs.same.setF

theorem noteTransit {transit : Nat} (hs : StoresCanonical s) : StoresCanonical (noteTransit transit s) := .ite hs hs.same.setF

theorem announceMap {map : Nat} (hs : StoresCanonical s) : StoresCanonical (announceMap map s) := .ite hs hs.same.setF

theorem ringRun {marker : List Byte} {transit : Nat} (hs : StoresCanonical s) : StoresCanonical (ringRun marker transit s) := by
  unfold Machine.ringRun
  extract_lets _ _ s1 _ s2 _ _ _ _ s3
  have h1 : StoresCanonical s1 := hs.noteUpstream.setF.setF
  have h2 : StoresCanonical s2 := .ite h1.setB.setB.announceMap h1
  have h3 : StoresCanonical s3 := h2.setB.same
  exact h3.lostReport.noteTransit.raise.pushNotice

theorem refreshLanes {lanes : List LaneIn} (hs : StoresCanonical s) : StoresCanonical (refreshLanes lanes s) := by
  refine hs.foldl fun t n ht => ?_
  split
  · exact ht
  · exact ht.setB.setB.setB.setF.setF

theorem followPower {marker : List Byte} (hs : StoresCanonical s) :
    StoresCanonical (followPower marker s) := hs.foldl fun _ _ ht => .ite ht.setF (.ite ht.setF ht)

theorem addLane {n : Nat} (hs : StoresCanonical s) : StoresCanonical (addLane n s) := hs.setB.setB.raise

theorem settleNotice {map : Nat} (hs : StoresCanonical s) : StoresCanonical (settleNotice map s) := hs.same

theorem applyDrops {d : Nat × Nat × Nat × Nat} (hs : StoresCanonical s) :
    StoresCanonical (applyDrops d s) :=
  .ite hs.dropLanes.dropLanes.dropLanes.dropLanes.same hs.dropLanes.dropLanes.dropLanes.dropLanes.same.same

theorem trackGood (hs : StoresCanonical s) : StoresCanonical (trackGood s) := hs.same

theorem markerRun {marker : List Byte} {lanes : List LaneIn} {transit : Nat} (hs : StoresCanonical s) :
    StoresCanonical (markerRun marker lanes transit s) := by
  unfold Machine.markerRun
  extract_lets _ _ _ _ _ s2
  have h2 : StoresCanonical s2 := hs.refreshLanes.noteUpstream.adapt.applyDrops.foldl fun _ _ ht => .ite ht.addLane ht
  exact .ite h2.leaveRun.enterSeek h2.same.setF.followPower.trackGood.noteTransit.settleNotice.pushNotice

theorem alignmentMarker {marker : List Byte} {lanes : List LaneIn} {transit : Nat} (hs : StoresCanonical s) :
    StoresCanonical (alignmentMarker marker lanes transit s) := .ite hs (.ite hs.markerRun (.ite hs.refreshLanes.noteUpstream hs))

theorem laneLockLoss {lane what : Nat} (hs : StoresCanonical s) : StoresCanonical (laneLockLoss lane what s) := by
  unfold Machine.laneLockLoss
  extract_lets _ _ s1 s2 s3
  have h1 : StoresCanonical s1 := hs.setB.same
  have h2 : StoresCanonical s2 := .ite h1.setB h1
  have h3 : StoresCanonical s3 := .ite h2.setB.restLanes h2
  exact .ite h3.leaveRun.enterSeek h3

theorem autoReadd {lane : Nat} (hs : StoresCanonical s) : StoresCanonical (autoReadd lane s) := by
  unfold Machine.autoReadd
  dsimp only
  split
  · exact hs
  · exact hs.same.pushNotice

theorem markerSend {ready : Bool} (hs : StoresCanonical s) : StoresCanonical (markerSend ready s) := by
  unfold Machine.markerSend
  extract_lets map lp live ver _ s1 s2 s3 s4
  have h1 : StoresCanonical s1 := hs.same
  clear_value s1
  have h2 : StoresCanonical s2 := h1.setF
  have h3 : StoresCanonical s3 := h2.foldl fun _ _ ht => ht.setF
  clear_value s3
  have h4 : StoresCanonical s4 := by
    unfold s4
    split
    · exact h3.setF.setF
    · exact h3
  clear_value s4
  exact h4.same

theorem lanePllLoss (hs : StoresCanonical s) : StoresCanonical (lanePllLoss s) := .ite hs.same.leaveRunAsked.enterSeek hs.same

theorem breakBeacon (hs : StoresCanonical s) : StoresCanonical (breakBeacon s) := hs.same.same.setB

theorem l2AllOff (hs : StoresCanonical s) : StoresCanonical (l2AllOff s) := hs.same.setF.setF.restLanes

theorem loopStart {kind dur : Nat} (hs : StoresCanonical s) : StoresCanonical (loopStart kind dur s) := by
  unfold Machine.loopStart
  extract_lets s0 _ _ s2
  have h2 : StoresCanonical s2 := (StoresCanonical.same hs : StoresCanonical s0).leaveRunAsked.same.setF.setF.setF.setF
  exact .ite h2.closeBypass (.ite h2 h2.setB.setB)

theorem laneOk (hs : StoresCanonical s) : StoresCanonical (laneOk s).1 := hs.okReply

theorem laneCtl {action : Nat} {rq : Req} {body : State → State × Reply} (hs : StoresCanonical s)
    (hb : ∀ t, StoresCanonical t → StoresCanonical (body t).1) : StoresCanonical (laneCtl action rq body s) :=
  hs.command fun t ht => ht.withLen (.ite_fst (hb t ht) ht.refuse)

theorem retrainBody (hs : StoresCanonical s) : StoresCanonical (retrainBody s).1 := hs.toSeek.laneOk

theorem setRateBody {rq : Req} (hs : StoresCanonical s) : StoresCanonical (setRateBody rq s).1 := hs.guarded hs.same.laneOk

theorem laneDropBody {rq : Req} (hs : StoresCanonical s) :
    StoresCanonical (laneDropBody rq s).1 := .ite_fst hs.refuse hs.same.laneOk

theorem laneAddBody {rq : Req} (hs : StoresCanonical s) :
    StoresCanonical (laneAddBody rq s).1 := .ite_fst hs.laneOk hs.same.pushNotice.laneOk

theorem lanePowerBody {rq : Req} (hs : StoresCanonical s) :
    StoresCanonical (lanePowerBody rq s).1 :=
  hs.guarded (.ite_fst (.ite_fst hs.same.laneOk hs.refuse) (.ite_fst hs.same.laneOk (.ite_fst hs.refuse hs.same.laneOk)))

theorem laneFfeBody {rq : Req} (hs : StoresCanonical s) : StoresCanonical (laneFfeBody rq s).1 := hs.guarded hs.same.laneOk

theorem laneLoopBody {rq : Req} (hs : StoresCanonical s) :
    StoresCanonical (laneLoopBody rq s).1 :=
  hs.guarded (.ite_fst (.ite_fst hs.same.loopCut.laneOk hs.laneOk) (hs.guarded hs.same.laneOk))

theorem laneSlipBody {rq : Req} (hs : StoresCanonical s) : StoresCanonical (laneSlipBody rq s).1 := hs.guarded hs.setF.laneOk

theorem laneEq {a b n : Nat} (hs : StoresCanonical s) : StoresCanonical (laneEq a b n s) := .ite hs.setB.setF hs.setB

theorem laneEqBody {rq : Req} (hs : StoresCanonical s) :
    StoresCanonical (laneEqBody rq s).1 := hs.guarded (hs.foldl fun _ _ ht => .ite ht.laneEq ht).laneOk

theorem ringStatusBody {rq : Req} (hs : StoresCanonical s) : StoresCanonical (ringStatusBody rq s).1 := hs.withLen hs.okReply

theorem enumIgnored (hs : StoresCanonical s) : StoresCanonical (enumIgnored s) := hs.bump.setB

theorem takeAddress {p : List Byte} (hs : StoresCanonical s) :
    StoresCanonical (takeAddress p s).1 := .ite_fst hs (.ite_fst hs.setF.setB.setB hs.setF.setB)

theorem enumPass1 {rq : Req} {crcOk : Bool} (hs : StoresCanonical s) :
    StoresCanonical (enumPass1 rq crcOk s) := hs.setF.takeAddress.same.setB.forward

theorem enumAccept {rq : Req} {crcOk : Bool} (hs : StoresCanonical s) :
    StoresCanonical (enumAccept rq crcOk s) := .ite hs.accept hs

theorem enumPass2 {rq : Req} (hs : StoresCanonical s) : StoresCanonical (enumPass2 rq s) := by
  unfold Machine.enumPass2
  dsimp only
  split
  · exact hs
  · exact .ite hs.setF.setB.setF.raise hs

theorem gainEcc {pixel : Nat} (hs : StoresCanonical s) : StoresCanonical (gainEcc pixel s) := by
  unfold Machine.gainEcc
  obtain ⟨ho, he⟩ := hs.soon_wf
  have h1 : StoresCanonical { s with
      drv.dark := setInsert (pixel % 0x100000 / 4 * 4) s.drv.dark
      drv.foptNext := some (reloadTile (pixel % 0x100000 / 4 * 4) (s.drv.foptNext.getD s.drv.fopt) s.nvm.fopt)
      drv.felNext := some (reloadTile (pixel % 0x100000 / 4 * 4) (s.drv.felNext.getD s.drv.fel) s.nvm.fel) } :=
    hs.withSoon (Mem.wf_write ho _ _) (Mem.wf_write he _ _)
  exact h1.setB.bump.raise

theorem commandEcc {addr : Nat} (hs : StoresCanonical s) : StoresCanonical (commandEcc addr s) := by
  unfold Machine.commandEcc
  split
  · exact hs
  · exact .ite hs (.ite (hs.runBody fun _ ht => ht.chkRunWith) hs.openEntry.unpark.finalReply.lostReport)

theorem eccCorrected {bank : Nat} {half : Option Half} (hs : StoresCanonical s) : StoresCanonical (eccCorrected bank half s) := by
  unfold Machine.eccCorrected
  dsimp only
  split
  · exact hs.same.bump
  · exact hs.same

theorem eccUncorrectable {r : EccReader} (hs : StoresCanonical s) : StoresCanonical (eccUncorrectable r s) := by
  cases r with
  | half h => exact hs.halfFault
  | gains p => exact hs.gainEcc
  | fallback _ => exact hs.setB.copiesFail.loadFallback
  | map => exact hs.loadMap
  | chk n addr => exact .ite hs.chkEcc hs
  | command addr => exact hs.commandEcc
  | corrected bank half => exact hs.eccCorrected

theorem lateSample (hs : StoresCanonical s) : StoresCanonical (lateSample s) := hs.sampleWith.same.staleEvent

theorem dropOps {q : Nat} (hs : StoresCanonical s) : StoresCanonical (dropOps q s) := by
  unfold Machine.dropOps
  split
  · exact hs
  · rename_i o l ho
    obtain ⟨hk, hl⟩ : o.kind.Canonical ∧ ∀ p ∈ l, p.kind.Canonical := List.forall_mem_cons.1 (ho ▸ hs.ops)
    have hrest : ∀ p ∈ l.filter (fun x => !(x.owner == some q)), p.kind.Canonical := fun p hp => hl p (List.mem_of_mem_filter hp)
    refine (hs.withOps ?_).syncLog
    dsimp only
    repeat' split
    · exact List.forall_mem_cons.2 ⟨hk, hrest⟩
    · exact hrest
    · exact List.forall_mem_cons.2 ⟨hk, hrest⟩

theorem dropTest (hs : StoresCanonical s) : StoresCanonical (dropTest s) := by
  unfold Machine.dropTest
  dsimp only
  split
  · exact hs
  · exact .ite hs (.ite hs.endWaiting hs.same)

theorem dropWork {e : JEntry} (hs : StoresCanonical s) :
    StoresCanonical (dropWork e s) :=
  .ite hs.dropOps.lockAfter.chkEnd (.ite hs.dropOps.lockAfter.dropTest (.ite hs.dropOps.lockAfter.same hs.dropOps.lockAfter))

theorem failEntry {a : Abdicated} {e : JEntry} {progress : Nat} (hs : StoresCanonical s) :
    StoresCanonical (failEntry a e progress s) := hs.same.finalReply

theorem endInFlight {e : JEntry} (ht : StoresCanonical t) : StoresCanonical (endInFlight e s t) := .ite ht.dropWork ht

theorem forgetEntry {e : JEntry} (hs : StoresCanonical s) : StoresCanonical (forgetEntry e s) := hs.same

theorem badEntry {a : Abdicated} {badPkt : List Nat} {e : JEntry} (hs : StoresCanonical s) :
    StoresCanonical (badEntry a badPkt e s) :=
  .ite hs.bump.forgetEntry.endInFlight.setB.raise hs.bump.failEntry.endInFlight.bump

theorem replayPower {j : Job} (hs : StoresCanonical s) : StoresCanonical (replayPower j s) := hs.same.noteRefusal.finishJob

theorem patternReplay {rq : Req} (hs : StoresCanonical s) : StoresCanonical (patternReplay rq s).1 := by
  unfold Machine.patternReplay
  split
  · exact hs.toneMapLoadBody
  · exact hs.patternCopyBody

theorem diagReplay {rq : Req} (hs : StoresCanonical s) : StoresCanonical (diagReplay rq s).1 := by
  unfold Machine.diagReplay
  generalize u8 rq.payload 0 = n
  match n with
  | 1 => exact hs.diagRunSuspendBody
  | 2 => exact hs.diagRunResumeBody
  | 4 => exact hs
  | 0 | 3 | _ + 5 => exact hs.diagRunSaveBody

theorem replayBody {op : Nat} {rq : Req} (hs : StoresCanonical s) : StoresCanonical (replayBody op rq s).1 := by
  unfold Machine.replayBody
  split
  · exact hs.patternReplay
  · exact hs.diagReplay
  · exact hs.pixelIsolateBody
  · exact hs.diagClearBody
  · exact hs.clkBodyOf
  · exact hs.fwActivateBody
  · exact hs.halfResetCmd

theorem releaseWork {e : JEntry} (hs : StoresCanonical s) : StoresCanonical (releaseWork e s) := hs.dropOps.same

theorem closeReplay {e : JEntry} {r : State × Reply} (hr : StoresCanonical r.1) : StoresCanonical (closeReplay e r) := by
  obtain ⟨t, rep⟩ := r
  cases rep with
  | final => exact (StoresCanonical.countReplayed hr).finalReply
  | accepted => exact StoresCanonical.same hr
  | later => exact StoresCanonical.same hr
  | both => exact (StoresCanonical.countReplayed hr).finalReply
  | silent => exact hr

theorem executeAgain {e : JEntry} (hs : StoresCanonical s) : StoresCanonical (executeAgain e s) := by
  unfold Machine.executeAgain
  extract_lets _ _ r
  have hr : StoresCanonical r.1 := StoresCanonical.replayBody hs.releaseWork.same
  clear_value r
  exact StoresCanonical.lockAfter (StoresCanonical.closeReplay hr.same)

theorem resumeCal {e : JEntry} (hs : StoresCanonical s) : StoresCanonical (resumeCal e s) := hs.same

theorem replayEntry {e : JEntry} (hs : StoresCanonical s) : StoresCanonical (replayEntry e s) := by
  unfold Machine.replayEntry
  split
  · exact hs
  · exact .ite hs.finishJob (.ite hs.replayPower (.ite hs.resumeCal hs.executeAgain))

theorem sweepEntry {a : Abdicated} {badCrc badPkt : List Nat} {e : JEntry} (hs : StoresCanonical s) :
    StoresCanonical (sweepEntry a badCrc badPkt s e) :=
  .ite hs (.ite hs.badEntry (.ite hs (.ite hs.replayEntry hs.failEntry.dropWork.bump)))

theorem sweep {a : Abdicated} {badCrc badPkt : List Nat} (hs : StoresCanonical s) :
    StoresCanonical (sweep a badCrc badPkt s) := hs.setF.setF.setF.foldl fun _ _ ht => ht.sweepEntry

theorem takeRole {a : Abdicated} (hs : StoresCanonical s) (e : takeRole a s = some t) : StoresCanonical t := by
  unfold Machine.takeRole at e
  dsimp only at e
  repeat' split at e
  all_goals cases e
  · exact hs.changeActive
  · exact hs

theorem takeover {badCrc badPkt : List Nat} {a : Abdicated} (hs : StoresCanonical s) :
    StoresCanonical (takeover badCrc badPkt a s) := by
  unfold Machine.takeover
  split
  · exact hs.noHalf
  · rename_i t e
    have ht := hs.takeRole e
    exact (StoresCanonical.ite ht ht.lateSample).sweep.same.lostReport

theorem recordCause {lowMs : Nat} (hs : StoresCanonical s) :
    StoresCanonical (recordCause lowMs s) := .ite hs.setF.setF.setB.setF.setF hs.setF.setF.setB

theorem copyBad {a : Nat} (hs : StoresCanonical s) : StoresCanonical (copyBad a s) := hs.setB.raise

theorem spoil {c : NvmCopy} (hs : StoresCanonical s) : StoresCanonical (spoil s c) := by
  unfold Machine.spoil
  split
  · exact hs.same
  · exact hs.same
  · exact hs.same
  · exact hs.same
  · exact hs.setBist
  · exact .ite hs.same hs.same
  · exact hs.same
  · exact hs.setSlot
  · exact hs.same
  · exact hs
  · exact hs
  · exact hs

theorem loadParam {e : Nat × Word} (hs : StoresCanonical s) : StoresCanonical (loadParam s e) := by
  unfold Machine.loadParam
  split
  · exact hs
  · exact .ite (StoresCanonical.withAct (s := s.setReg _ _) hs.setReg (Mem.wf_write hs.act _ _)) hs.setReg

theorem resetParam {a : Nat} (hs : StoresCanonical s) : StoresCanonical (resetParam s a) := by
  unfold Machine.resetParam
  split
  · exact hs.loadParam
  · exact hs

theorem loadSafety (hs : StoresCanonical s) : StoresCanonical (loadSafety s) := by
  unfold Machine.loadSafety
  extract_lets t bad t1 _
  have h : StoresCanonical t := hs.foldl fun _ _ ht => ht.resetParam
  have h1 : StoresCanonical t1 := .ite h h.raise
  clear_value t1
  split
  case h_1 r _ =>
    have h2 : StoresCanonical (r.regs.foldl Machine.loadParam t1) := h1.foldl fun _ _ ht => ht.loadParam
    generalize r.regs.foldl Machine.loadParam t1 = t2 at h2 ⊢
    exact .setB (.setMap h2.same)
  case h_2 => exact .mapInvalid (.setB h1.same)

theorem loadRepair (hs : StoresCanonical s) : StoresCanonical (loadRepair s) := by
  unfold Machine.loadRepair
  split
  · exact hs.setRepair.setF.setReg
  · exact hs.setRepair

theorem loadLife {bad : Bool} (hs : StoresCanonical s) :
    StoresCanonical (loadLife bad s) := .ite hs.same.setLife.setB.setF.setF hs.same.setLife.setF.setF

theorem loadFactors (hs : StoresCanonical s) : StoresCanonical (loadFactors s) := by
  obtain ⟨hb, hf, hm, hn, ho, hops⟩ := hs.nvm
  refine StoresCanonical.reloadGains (.ite hs (.ite ?_ ?_))
  · exact hs.withNvm ⟨hb, hf, hm, ho, ho, hops⟩
  · exact hs.withNvm ⟨hb, hf, hm, ⟨rfl, rfl⟩, ho, hops⟩

theorem loadBins (hs : StoresCanonical s) : StoresCanonical (loadBins s) := hs.setF.setF

theorem loadDiodes {bad : Bool} (hs : StoresCanonical s) :
    StoresCanonical (loadDiodes bad s) := hs.foldl fun _ _ ht => .ite ht.draw.setF ht.setF

theorem bootHalves (hs : StoresCanonical s) : StoresCanonical (bootHalves s) := by
  unfold Machine.bootHalves
  dsimp only
  split
  · exact hs.setF.setHealth.setF.setHealth.raiseSource
  · exact hs.setF.setB.resetHalf.resetHalf

theorem finishBoot (hs : StoresCanonical s) : StoresCanonical (finishBoot s) := by
  have marks : ∀ t : State, StoresCanonical t → StoresCanonical { t with pwr.marched := 0, nvm.stepNow := 0 } := fun _ h => h.same
  unfold Machine.finishBoot
  extract_lets s1 _ s2 s3
  have h1 : StoresCanonical s1 := hs.loadFactors.loadBins.loadMap
  have h2 : StoresCanonical s2 := .ite (.vledOnNow h1.same) h1
  have h3 : StoresCanonical s3 := h2.setReg.loadFallback
  exact (marks _ h3).dTick.startComp.startImage

theorem startQuick (hs : StoresCanonical s) : StoresCanonical (startQuick s) := hs.vledOff.beginTest.beginStep

theorem quickDone {t : BistRec} (hs : StoresCanonical s) : StoresCanonical (quickDone t s) := by
  unfold Machine.quickDone
  extract_lets t1 _ s1
  have h1 : StoresCanonical s1 := .bistDone (.showTest hs.same)
  clear_value s1
  exact .finishBoot (.bootDoneCheck h1.same)

theorem senseBoot {env : BootEnv} (hs : StoresCanonical s) : StoresCanonical (senseBoot env s) := hs.same.setF.setF.setB.setB.setF

theorem wakeEvents (hs : StoresCanonical s) :
    StoresCanonical (wakeEvents s) := .ite (StoresCanonical.ite hs.raise hs).raise (.ite hs.raise hs)

theorem loadRecords {bad : List NvmCopy} (hs : StoresCanonical s) : StoresCanonical (loadRecords bad s) := by
  unfold Machine.loadRecords
  extract_lets s1 _ s2 s3
  have h1 : StoresCanonical s1 := hs.foldl fun _ _ ht => ht.spoil
  have h2 : StoresCanonical s2 := h1.same.foldl fun _ _ ht => ht.copyBad
  have h3 : StoresCanonical s3 := h2.foldl fun _ _ ht => ht.bootVersion
  exact h3.setRec.loadLife.bootHalves.loadDiodes

theorem resetRelease {env : BootEnv} (hs : StoresCanonical s) : StoresCanonical (resetRelease env s) := by
  unfold Machine.resetRelease
  extract_lets _ s2 _ _ _ _ _ s5
  have h2 : StoresCanonical s2 := hs.same.recordCause.senseBoot.wakeEvents.loadRecords.loadSafety
  have h5 : StoresCanonical s5 := h2.loadRepair.roundOf.setF.enterR231.same
  exact .ite h5.finishBoot h5.startQuick

theorem quickStep {t : BistRec} {found : List StepFault} (hs : StoresCanonical s) : StoresCanonical (quickStep t found s) := by
  unfold Machine.quickStep
  dsimp only
  split
  · exact hs.stepResult
  · split
    · exact hs.stepResult.beginStep
    · exact hs.stepResult.quickDone

theorem selfTestStepDone {found : List StepFault} (hs : StoresCanonical s) : StoresCanonical (selfTestStepDone found s) := by
  unfold Machine.selfTestStepDone
  split
  · exact hs
  · exact .ite hs (.ite (.ite hs.testCheck hs.bistStart) (.ite hs.quickStep hs.runStep))

theorem fcStart {rq : Req} {supplied : Bool} {est : Nat} (hs : StoresCanonical s) :
    StoresCanonical (fcStart rq supplied est s).1 := hs.same

theorem fluxCalBody {rq : Req} (hs : StoresCanonical s) :
    StoresCanonical (fluxCalBody rq s).1 := hs.withLen (hs.guarded hs.fcStart)

theorem fluxCalSuppliedBody {rq : Req} (hs : StoresCanonical s) :
    StoresCanonical (fluxCalSuppliedBody rq s).1 := hs.withLen (hs.guarded hs.logChange.fcStart)

theorem tileDone {c : FluxCal} {res : Nat} (hs : StoresCanonical s) : StoresCanonical (tileDone c res s) := hs.same.noteProgress

theorem tileProgress {c : FluxCal} {res t px : Nat} (hs : StoresCanonical s) : StoresCanonical (tileProgress c res t px s) := by
  unfold Machine.tileProgress
  split
  · exact hs.progressReply
  · exact hs

theorem factorOps_canonical (hs : StoresCanonical s) : ∀ k ∈ factorOps s, k.Canonical := by
  have h := hs.soon_wf
  simp only [factorOps, List.forall_mem_cons]
  exact ⟨by rintro c q fo fe ⟨⟩; exact h, by rintro c q fo fe ⟨⟩; exact h, nofun⟩

theorem electricalTile {c : FluxCal} (hs : StoresCanonical s) : StoresCanonical (electricalTile c s) := by
  unfold Machine.electricalTile
  extract_lets t ms px r _ s1 s2
  have h1 : StoresCanonical s1 := by
    unfold s1
    cases r with
    | some p => exact hs.withSoon hs.drv.2.2.2.2.1 (Mem.wf_write hs.soon_wf.2 _ _)
    | none => exact hs
  clear_value s1
  have h2 : StoresCanonical s2 := h1.tileDone.tileProgress
  clear_value s2
  exact .ite (h2.nvmPush h2.factorOps_canonical) h2

theorem suppliedTile {c : FluxCal} (hs : StoresCanonical s) : StoresCanonical (suppliedTile c s) := by
  unfold Machine.suppliedTile
  split
  · exact hs
  · extract_lets f _ s1
    have h1 : StoresCanonical s1 :=
      .tileDone (StoresCanonical.withSoon hs (Mem.wf_write hs.soon_wf.1 _ _) hs.drv.2.2.2.2.2)
    clear_value s1
    exact .ite (h1.nvmPush h1.factorOps_canonical) h1

theorem fluxCalTile (hs : StoresCanonical s) : StoresCanonical (fluxCalTile s) := by
  unfold Machine.fluxCalTile
  dsimp only
  split
  · exact hs
  · exact .ite hs (.ite (StoresCanonical.ite hs.suppliedTile hs.electricalTile).endCal (.ite hs.suppliedTile hs.electricalTile))

theorem withFetchWord {nbits w : Nat} (hs : StoresCanonical s) : StoresCanonical (s.withFetchWord nbits w) := hs

end StoresCanonical

end Sys2Proof.Machine
end

section
namespace Sys2Proof.Machine

set_option Elab.async false

namespace StoresCanonical

variable {s t : State}

/-- The state an outcome goes on in is canonical. -/
def Next (o : Host.Outcome State Fault Refusal) : Prop := ∀ t, o = .next t → StoresCanonical t

theorem Next.next (h : StoresCanonical t) : Next (.next t) := by
  rintro _ ⟨⟩
  exact h

/-! The rows that are more than one command or one event. -/

theorem execEnumPass1 {rq : Req} {crcOk : Bool} (hs : StoresCanonical s) : Next (execEnumPass1 rq crcOk s) := by
  unfold Machine.execEnumPass1
  extract_lets s1 _
  have h1 : StoresCanonical s1 := hs.enumAccept.unpark
  clear_value s1
  exact .next (.ite hs (.ite h1.same (.ite h1 (.ite h1.enumPass1 h1.enumIgnored))))

theorem execEnumPass2 {rq : Req} (hs : StoresCanonical s) : Next (execEnumPass2 rq s) := by
  have h1 : StoresCanonical (Machine.unpark 0x03 rq (Machine.enumAccept rq true s)) := hs.enumAccept.unpark
  exact .next (.ite hs (.ite h1 (.ite h1.enumPass2 h1.enumIgnored)))

theorem execVideoPacket {rq : Req} (hs : StoresCanonical s) : Next (execVideoPacket rq s) :=
  .next (.ite hs.accept.unpark.videoPacket hs.accept)

theorem execSafeStop {rq : Req} (hs : StoresCanonical s) : Next (execSafeStop rq s) :=
  .next (.ite hs (hs.hwCommand fun _ h => h.safeStopBody))

theorem execEnable {rq : Req} (hs : StoresCanonical s) : Next (execEnable rq s) := by
  unfold Machine.execEnable
  extract_lets s1 _
  have h1 : StoresCanonical s1 := hs.accept
  clear_value s1
  exact .next (.ite (StoresCanonical.hwCommand h1.same fun _ h => h.enableBody) (h1.command fun _ h => h.enableBody))

theorem execNvmRead {rq : Req} (hs : StoresCanonical s) : Next (execNvmRead rq s) :=
  .next (.ite hs.accept.serveQueue (hs.command fun _ h => h.nvmReadBody))

theorem execSetRateApply (hs : StoresCanonical s) : Next (execSetRateApply s) := by
  refine .next ?_
  split
  · exact hs
  · exact .toSeek (.coefReset (.setF hs.same))

theorem execLoopStart (hs : StoresCanonical s) : Next (execLoopStart s) := by
  refine .next ?_
  split
  · exact .ite hs hs.loopStart
  · exact hs

theorem execLoopEnd {errors : Nat} (hs : StoresCanonical s) : Next (execLoopEnd errors s) := .next (.ite hs (.loopEnds hs.same))

theorem execPacketPass {bytes : List Byte} {fits : Bool} (hs : StoresCanonical s) : Next (execPacketPass bytes fits s) := by
  have h1 : StoresCanonical (Machine.forward (passAction s bytes).1 fits s) := hs.forward
  exact .next (.ite hs.same (.ite (.takeNotice hs.same) (.ite h1.bump.setB.rxError (.ite h1.receive h1.countBreak))))

theorem execPacketInsert {gap : Nat} (hs : StoresCanonical s) : Next (execPacketInsert gap s) := by
  refine .next ?_
  split
  · exact hs.insertOwn
  · exact .ite hs hs.same

theorem execSpiPut {bytes : List Byte} {csEarly : Bool} (hs : StoresCanonical s) : Next (execSpiPut bytes csEarly s) := by
  unfold Machine.execSpiPut
  extract_lets s1 _ bs _ _
  have h1 : StoresCanonical s1 := hs.same
  clear_value s1
  exact .next (.ite hs (.ite (.setB (.bump h1.same)) (.same (h1.receive (port := .spi) (bs := bs)))))

theorem execSpiGet {clocked : Nat} (hs : StoresCanonical s) : Next (execSpiGet clocked s) := by
  refine .next (.ite hs ?_)
  split
  · exact hs.same
  · exact .ite (.sentPkt hs.same) hs.same

theorem execSpiStat (hs : StoresCanonical s) : Next (execSpiStat s) := .next (.ite hs hs.same)

theorem execSpiBadOp {op : Nat} (hs : StoresCanonical s) : Next (execSpiBadOp op s) := .next (.ite hs (.bump hs.same))

theorem execTakeover {badCrc badPkt : List Nat} (hs : StoresCanonical s) : Next (execTakeover badCrc badPkt s) := by
  refine .next ?_
  split
  · exact .ite hs hs.takeover
  · exact hs

theorem execUpstreamSilent (hs : StoresCanonical s) : Next (execUpstreamSilent s) := by
  refine .next (.ite hs ?_)
  split
  · exact hs
  · exact .setB hs.same

theorem execBistRunWaitTimeout (hs : StoresCanonical s) : Next (execBistRunWaitTimeout s) := by
  refine .next ?_
  split
  · exact .ite (.endWaiting hs.same) hs
  · exact hs

/-- Every row keeps every memory in its canonical form. -/
theorem exec {c : Instr} (hs : StoresCanonical s) : Next (exec c s) := by
  cases c with
  | nop _ => exact .next (hs.command fun _ h => h.nopBody)
  | ping _ => exact .next (hs.command fun _ h => h.pingBody)
  | idRead _ => exact .next (hs.command fun _ h => h.idReadBody)
  | enumPass1 _ _ => exact hs.execEnumPass1
  | enumPass2 _ => exact hs.execEnumPass2
  | regRd _ => exact .next (hs.command fun _ h => h.regRdBody)
  | regWr _ => exact .next (hs.command fun _ h => h.regWrBody)
  | regRmw _ => exact .next (hs.command fun _ h => h.regRmwBody)
  | registerWrite _ _ _ => exact .next hs.registerWrite
  | drvFluxRestart => exact .next hs.fluxRestart
  | lyrSymWrite _ => exact .next hs.lyrSymWrite
  | bypassHoldWrite _ => exact .next hs.bypassHold
  | cmdbufApply => exact .next hs.cmdbufApply
  | eventCfg _ => exact .next (hs.command fun _ h => h.eventCfgBody)
  | commit _ => exact .next (hs.command fun _ h => h.commitBody)
  | herd _ => exact .next hs.herdPlain
  | herdSetFrame _ => exact .next hs.herdSetFrame
  | frameSet _ => exact .next (hs.command fun _ h => h.frameSetBody)
  | timeRead _ => exact .next (hs.command fun _ h => h.timeReadBody)
  | layerCfg _ => exact .next (hs.command fun _ h => h.layerCfgBody)
  | layerCfgRead _ => exact .next (hs.command fun _ h => h.layerCfgReadBody)
  | layerBuf _ => exact .next (hs.command fun _ h => h.layerBufBody)
  | bufWrite _ => exact .next (hs.command fun _ h => h.bufWriteBody)
  | bufRelease _ => exact .next (hs.command fun _ h => h.bufReleaseBody)
  | bufDefine _ => exact .next (hs.command fun _ h => h.bufDefineBody)
  | videoPacket _ => exact hs.execVideoPacket
  | objSet _ => exact .next (hs.command fun _ h => h.objSetBody)
  | objSetRead _ => exact .next (hs.command fun _ h => h.objSetReadBody)
  | objMove _ => exact .next (hs.command fun _ h => h.objMoveBody)
  | objClear _ => exact .next (hs.command fun _ h => h.objClearBody)
  | objBulk _ => exact .next (hs.command fun _ h => h.objBulkBody)
  | objBulkEnd _ => exact .next (hs.command fun _ h => h.objBulkEndBody)
  | objBulkAbort _ => exact .next (hs.command fun _ h => h.objBulkAbortBody)
  | geomSet _ => exact .next (hs.command fun _ h => h.geomSetBody)
  | opticsMap _ => exact .next (hs.command fun _ h => h.opticsMapBody)
  | opticsMapRead _ => exact .next (hs.command fun _ h => h.opticsMapReadBody)
  | patternLoad _ => exact .next (hs.command fun _ h => h.patternLoadBody)
  | patternLoadCopy _ => exact .next (hs.command fun _ h => h.patternCopyBody)
  | patternCopyDone => exact .next hs.patternCopyDone
  | toneMapLoad _ => exact .next (hs.command fun _ h => h.toneMapLoadBody)
  | symbolLoad _ => exact .next (hs.command fun _ h => h.symbolLoadBody)
  | symbolDelete _ => exact .next (hs.command fun _ h => h.symbolDeleteBody)
  | animSet _ => exact .next (hs.command fun _ h => h.animSetBody)
  | fluxCal _ => exact .next (hs.command fun _ h => h.fluxCalBody)
  | fluxCalSupplied _ => exact .next (hs.command fun _ h => h.fluxCalSuppliedBody)
  | fluxCalTile => exact .next hs.fluxCalTile
  | diagMapRead _ => exact .next (hs.command fun _ h => h.diagMapReadBody)
  | diagRunStatus _ => exact .next (hs.command fun _ h => h.diagRunStatusBody)
  | diagRunSuspend _ => exact .next (hs.command fun _ h => h.diagRunSuspendBody)
  | diagRunResume _ => exact .next (hs.command fun _ h => h.diagRunResumeBody)
  | diagRunRestart _ => exact .next (hs.command fun _ h => h.diagRunRestartBody)
  | diagRunReport _ => exact .next (hs.command fun _ h => h.diagRunReportBody)
  | diagRunSave _ => exact .next (hs.command fun _ h => h.diagRunSaveBody)
  | pixelIsolate _ => exact .next (hs.command fun _ h => h.pixelIsolateBody)
  | diagClear _ => exact .next (hs.command fun _ h => h.diagClearBody)
  | thermRead _ => exact .next (hs.command fun _ h => h.thermReadBody)
  | safeStop _ => exact hs.execSafeStop
  | safeRestart _ => exact .next (hs.command fun _ h => h.safeRestartBody)
  | safeUnlock _ => exact .next (hs.command fun _ h => h.safeUnlockBody)
  | safeLock _ => exact .next (hs.command fun _ h => h.safeLockBody)
  | safeWrite _ => exact .next (hs.command fun _ h => h.safeWriteBody)
  | logRead _ => exact .next (hs.command fun _ h => h.logReadBody)
  | enable _ => exact hs.execEnable
  | switchOff _ => exact .next (hs.command fun _ h => h.switchOffBody)
  | pwrStateActive _ => exact .next (hs.command fun _ h => h.pwrActiveBody)
  | pwrStateHold _ => exact .next (hs.command fun _ h => h.pwrHoldBody)
  | pwrStateIdle _ => exact .next (hs.command fun _ h => h.pwrIdleBody)
  | pwrStateSleep _ => exact .next (hs.command fun _ h => h.pwrSleepBody)
  | clkSwitch _ => exact .next (hs.command fun _ h => h.clkBodyOf)
  | clkSwitchFrc _ => exact .next (hs.command fun _ h => h.clkBodyOf)
  | snapArm _ => exact .next (hs.command fun _ h => h.snapArmBody)
  | snapRead _ => exact .next (hs.command fun _ h => h.snapReadBody)
  | chkRun _ => exact .next (hs.command fun _ h => h.chkRunBody)
  | chkRunPiece => exact .next hs.chkPiece
  | chkCtxRead _ => exact .next (hs.command fun _ h => h.chkCtxBody)
  | chkCtxWrite _ => exact .next (hs.command fun _ h => h.chkCtxBody)
  | chkCtxAbort _ => exact .next (hs.command fun _ h => h.chkCtxBody)
  | nvmRead _ => exact hs.execNvmRead
  | nvmWrite _ => exact .next (hs.command fun _ h => h.nvmWriteBody)
  | nvmErase _ => exact .next (hs.command fun _ h => h.nvmEraseBody)
  | fwStage _ => exact .next (hs.command fun _ h => h.fwStageBody)
  | fwActivate _ => exact .next (hs.command fun _ h => h.fwActivateBody)
  | bistRun _ => exact .next (hs.command fun _ h => h.bistRunBody).bistStart
  | bistResult _ => exact .next (hs.command fun _ h => h.bistResultBody)
  | shutdown _ => exact .next (hs.command fun _ h => h.shutdownBody)
  | laneCtlRetrain _ => exact .next (hs.laneCtl fun _ h => h.retrainBody)
  | laneCtlSetRate _ => exact .next (hs.laneCtl fun _ h => h.setRateBody)
  | setRateApply => exact hs.execSetRateApply
  | laneCtlDrop _ => exact .next (hs.laneCtl fun _ h => h.laneDropBody)
  | laneCtlAdd _ => exact .next (hs.laneCtl fun _ h => h.laneAddBody)
  | laneCtlPower _ => exact .next (hs.laneCtl fun _ h => h.lanePowerBody)
  | laneL2AllOff => exact .next (.ite hs hs.l2AllOff)
  | laneCtlFfe _ => exact .next (hs.laneCtl fun _ h => h.laneFfeBody)
  | laneCtlLoop _ => exact .next (hs.laneCtl fun _ h => h.laneLoopBody)
  | loopStart => exact hs.execLoopStart
  | loopEnd _ => exact hs.execLoopEnd
  | laneCtlSlip _ => exact .next (hs.laneCtl fun _ h => h.laneSlipBody)
  | laneCtlEq _ => exact .next (hs.laneCtl fun _ h => h.laneEqBody)
  | ringStatus _ => exact .next (hs.command fun _ h => h.ringStatusBody)
  | halfStatus _ => exact .next (hs.command fun _ h => h.halfStatusBody)
  | halfSwitch _ => exact .next (hs.command fun _ h => h.halfSwitchCmd)
  | halfExchange => exact .next hs.halfExchange
  | halfReset _ => exact .next (hs.command fun _ h => h.halfResetCmd)
  | reset _ => exact .next (hs.command fun _ h => h.resetBody)
  | softReset => exact .next hs.softReset
  | packetReceive _ _ => exact .next (.ite hs hs.receive)
  | packetPass _ _ => exact hs.execPacketPass
  | packetInsert _ => exact hs.execPacketInsert
  | laneNotice _ => exact .next (.ite hs (.ite (.takeNotice hs.same) hs.forward))
  | alignmentMarker _ _ _ => exact .next (.ite hs hs.alignmentMarker)
  | markerSend _ => exact .next (.ite hs hs.markerSend)
  | spiPut _ _ => exact hs.execSpiPut
  | spiGet _ => exact hs.execSpiGet
  | spiStat => exact hs.execSpiStat
  | spiBadOp _ => exact hs.execSpiBadOp
  | tick _ => exact .next hs.tick
  | layerMissLimit => exact .next hs.layerMissLimit
  | layerDisabled => exact .next hs.layerDisabled
  | takeover _ _ => exact hs.execTakeover
  | holdLimit => exact .next hs.holdLimit
  | alignTimeout => exact .next hs.alignTimeout
  | tickInEdge => exact .next hs.tickInEdge
  | tickInTimeout => exact .next hs.tickInTimeout
  | composeRow => exact .next hs.composeRow
  | objectSample => exact .next hs.objectSample
  | imageWriteDone _ => exact .next hs.imageWriteDone
  | rowUnderrun => exact .next hs.rowUnderrun
  | photodiodeRead _ => exact .next hs.photodiodeRead
  | referenceRefresh => exact .next hs.referenceRefresh
  | segmentOffCurrentCheck _ => exact .next hs.segmentCheck
  | darkTest _ _ _ _ _ _ => exact .next hs.darkTest
  | litTest _ _ _ _ => exact .next hs.litTest
  | zoneCount => exact .next hs.zoneCount
  | mapSave => exact .next hs.mapSave
  | currentRefUpdate => exact .next hs.currentRefUpdate
  | envelopeCheck _ => exact .next hs.envelopeCheck
  | class1FadeEnd => exact .next hs.class1FadeEnd
  | class2FadeEnd => exact .next hs.class2FadeEnd
  | switchOffEnd => exact .next hs.switchOffEnd
  | fallbackCrcCheck _ _ => exact .next hs.fallbackCrcCheck
  | graze _ _ => exact .next hs.graze
  | selfTestSlice _ => exact .next hs.selfTestSlice
  | quickSelfTest _ _ => exact .next hs.quickSelfTest
  | lockstepMiscompare _ => exact .next hs.halfFault
  | eccUncorrectable _ => exact .next (.ite hs hs.eccUncorrectable)
  | watchdogExpiry _ => exact .next hs.watchdogExpiry
  | halfBootDone _ _ => exact .next hs.halfBootDone
  | safeStopPin _ _ => exact .next (.ite hs hs.stopPinFall)
  | pinDisc => exact .next (.ite hs hs.pinDisc)
  | masterLoss => exact .next hs.masterLoss
  | unlockTimeout => exact .next hs.unlockTimeout
  | vledUvArm _ => exact .next hs.vledUvArm
  | vledNoRise => exact .next hs.vledNoRise
  | vledUv _ => exact .next hs.vledUv
  | vledUvRelease _ => exact .next hs.vledUvRelease
  | vledOv _ => exact .next hs.vledOv
  | vledOvRelease _ => exact .next hs.vledOvRelease
  | corePllLoss => exact .next hs.corePllLoss
  | lanePllLoss => exact .next (.ite hs hs.lanePllLoss)
  | thermalRound _ _ => exact .next hs.thermalRound
  | fastCadenceEnd => exact .next hs.fastCadenceEnd
  | thermalTrip _ => exact .next hs.thermalTrip
  | tripHoldMonitor _ => exact .next hs.tripHoldMonitor
  | holdRequest => exact .next hs.holdRequest
  | holdEntry => exact .next hs.holdEntry
  | holdExit => exact .next hs.holdExit
  | idleTimer => exact .next hs.idleTimer
  | idleEntry _ => exact .next hs.idleEntry
  | idleExit _ => exact .next hs.idleExit
  | bankReload => exact .next (.ite hs hs.reloadBanks)
  | sleepTimer => exact .next hs.sleepTimer
  | sleepEntry _ => exact .next hs.sleepEntry
  | roosterEdge _ => exact .next hs.roosterEdge
  | lpoMeasure _ => exact .next (.ite hs.setReg hs)
  | lampMinute => exact .next hs.lampMinute
  | vsupWarn _ => exact .next hs.vsupWarn
  | dipEnd _ _ => exact .next hs.dipEnd
  | nvmResume => exact .next hs.nvmResume
  | nvmOpDone _ => exact .next hs.nvmOpDone
  | por => exact .next hs.deviceReset
  | bor _ => exact .next (.ite hs.deviceReset hs)
  | resetNLow => exact .next hs.deviceReset
  | resetRelease _ => exact .next (.ite hs.resetRelease hs)
  | snapIoEdge => exact .next hs.snapIoEdge
  | signalDetect _ => exact .next (.ite hs hs.signalDetect)
  | seekAttempt => exact .next (.ite hs hs.seekAttempt)
  | signalLost => exact .next (.ite hs hs.signalLost)
  | cdrLock _ => exact .next (.ite hs hs.cdrLock)
  | trainDone _ => exact .next (.ite hs hs.trainDone)
  | blockLock _ _ => exact .next (.ite hs hs.blockLock)
  | ringRun _ _ => exact .next (.ite hs hs.ringRun)
  | trainTimeout => exact .next (.ite hs hs.trainTimeout)
  | autoReadd _ => exact .next (.ite hs hs.autoReadd)
  | upstreamSilent => exact hs.execUpstreamSilent
  | breakBeaconSend => exact .next (.ite hs hs.breakBeacon)
  | stopPinRelease _ _ => exact .next hs.stopPinRelease
  | halfBootTimeout _ => exact .next hs.halfBootTimeout
  | pipelineParityError _ => exact .next (.ite hs.halfFault hs)
  | laneLockLoss _ _ => exact .next (.ite hs hs.laneLockLoss)
  | pllLockTimeout => exact .next hs.pllLockTimeout
  | selfTestStepDone _ => exact .next (.ite hs hs.selfTestStepDone)
  | lpoStop => exact .next (.ite hs.same hs)
  | bistRunWaitTimeout => exact hs.execBistRunWaitTimeout

/-- A step keeps every memory in its canonical form: a row of the queue, or the passing of time. -/
theorem step (hs : StoresCanonical s) : Next (step s) := by
  unfold Machine.step
  split
  · exact .next hs.idle
  · refine StoresCanonical.exec ?_
    exact hs.same

end StoresCanonical

/-- Settles O60: each part of a row keeps the memories canonical, and so does the row. -/
theorem everyStepKeepsTheStoresCanonical : Obligations.EveryStepKeepsTheStoresCanonical := by
  unfold Obligations.EveryStepKeepsTheStoresCanonical
  intro s t hs ht
  exact hs.step t ht

end Sys2Proof.Machine
end

section
/-! The two halves: what a change of health, a HALF reset, a failed half and an exchange leave (R265 to R290); the half commands;
O53. -/

namespace Sys2Proof.Machine

section halves

variable {k : List OutKind} {p : List Part} {w l : List Nat} {s t : State} {g h : Half} {x : Fld}

/-! ### Fields outside a frame -/

theorem KeepsRegs.f (hk : KeepsRegs l s t) (hx : x.addr ∉ l) : t.f x = s.f x := by simp only [State.f, hk _ hx]

theorem KeepsRegs.fb (hk : KeepsRegs l s t) (hx : x.addr ∉ l) : t.fb x = s.fb x := by simp only [State.fb, hk.f hx]

/-- What raises events moves within its frame. -/
theorem EvIn.moves (he : EvIn (.snp :: p) (eventRegs ++ w) s t) (hk : OutKind.event ∈ k) : Moves k p w s t :=
  ⟨he.keeps, he.words, he.sends.of hk⟩

/-- A change of listed parts that are neither words nor the front end. -/
theorem EvIn.parts (hk : Keeps p s t) (hr : Part.regs ∉ p) (hc : Part.cmd ∉ p) : EvIn p w s t := by
  have ec : t.cmd = s.cmd := hk .cmd hc
  have er : t.regs = s.regs := hk .regs hr
  refine ⟨hk.mono (by intro q hq; simp [hq]), fun a _ => by simp [State.reg, er], ⟨[], by simp, by simp [ec]⟩, ?_, ?_, ?_, ?_, ?_, ?_, ?_⟩ <;>
    simp [ec]

/-! ### Health (R267) -/

/-- The word that holds the health of a half, and that of its firmware version. -/
abbrev healthWord (h : Half) : Nat := 0x9008 + 4 * halfCode h
abbrev versionWord (h : Half) : Nat := 0x9010 + 4 * halfCode h

theorem ofHalf_ok (hx : x.ok) : (ofHalf x h).ok := hx

theorem setHealth_eq (h : Half) (n : Nat) (s : State) : setHealth h n s = if s.health h = n then s else
    (s.setF (ofHalf F.HLV_HEALTH_A_HEALTH h) n).raise 0x92 (q4 (halfCode h) ++ q4 (s.health h) ++ q4 n ++ q4 (s.lastCause h)) := rfl

theorem setHealth_ev (h : Half) (n : Nat) (s : State) : EvIn [.snp] (eventRegs ++ [healthWord h]) s (setHealth h n s) := by
  rw [setHealth_eq]
  exact .ite (.refl s) (.trans (.setF s n (by simp [ofHalf, Fld.at])) ((raise_ev _ _ _).mono (by simp) (by simp)))

theorem setHealth_health {n : Nat} (hn : n < 8) : (setHealth h n s).health h = n := by
  rw [setHealth_eq]
  split
  · next e => exact e
  · exact (raise_f _ _ _ (by cases h <;> decide)).trans (f_setF_same _ (ofHalf_ok (by decide)) hn)

/-- The other fields of the words stay. -/
theorem setHealth_f (n : Nat) (hx : x.ok) (he : x.addr ∉ eventRegs) (ha : (ofHalf F.HLV_HEALTH_A_HEALTH h).apart x) :
    (setHealth h n s).f x = s.f x := by
  rw [setHealth_eq]
  split
  · rfl
  · exact (raise_f _ _ _ he).trans (f_setF_other _ n (ofHalf_ok (by decide)) hx ha)

/-! ### A HALF reset (R11, R267, R288, R447) -/

theorem endStaging_keeps (n : Nat) (s : State) : Keeps [.nvm] s (endStaging n s) := by
  unfold endStaging setSlot
  split
  · exact Keeps.refl _ s
  · split <;> exact fun q hq => by cases q <;> first | rfl | exact absurd (by simp) hq

theorem endStaging_staging (n : Nat) (s : State) : ((endStaging n s).fwSlot n).staging = none := by
  unfold endStaging
  split
  · next e => simpa using e
  · unfold setSlot State.fwSlot
    split <;> rfl

/-- What a HALF reset loads before the half boots: the views and the words kept across none, and the slot's staging. -/
def halfLoaded (slot : Nat) (s : State) : State := endStaging slot (halfRegs.foldl (fun t a => t.setReg a 0) (halfViews s))

theorem halfViews_keeps (s : State) : Keeps [.lyr, .obj, .dia] s (halfViews s) := fun q hq => by
  cases q <;> first | rfl | exact absurd (by simp) hq

theorem halfLoaded_ev (slot : Nat) (s : State) : EvIn [.lyr, .obj, .dia, .nvm] halfRegs s (halfLoaded slot s) := by
  have h1 : EvIn [.lyr, .obj, .dia, .nvm] halfRegs s (halfViews s) :=
    (EvIn.parts (halfViews_keeps s) (by decide) (by decide)).mono (by simp) (List.Subset.refl _)
  have h2 : ∀ (l : List Nat), l ⊆ halfRegs → ∀ u, EvIn [.lyr, .obj, .dia, .nvm] halfRegs u (l.foldl (fun t a => t.setReg a 0) u) := by
    intro l
    induction l with
    | nil => exact fun _ u => .refl u
    | cons a l ih => exact fun hl u => (EvIn.setReg u 0 (hl (by simp))).trans (ih (fun b hb => hl (by simp [hb])) _)
  exact (h1.trans (h2 _ (List.Subset.refl _) _)).trans
    ((EvIn.parts (endStaging_keeps slot _) (by decide) (by decide)).mono (by simp) (List.Subset.refl _))

theorem halfLoaded_reg {a : Nat} (ha : a ∈ halfRegs) (slot : Nat) (s : State) : (halfLoaded slot s).reg a = 0 := by
  have h : ∀ (l : List Nat) (u : State), a ∈ l ∨ u.reg a = 0 → (l.foldl (fun t a => t.setReg a 0) u).reg a = 0 := by
    intro l
    induction l with
    | nil => exact fun u hu => hu.resolve_left (by simp)
    | cons b l ih =>
      refine fun u hu => ih _ ?_
      rw [reg_setReg]
      by_cases e : a = b
      · simp [e]
      · simpa [e] using hu
  have e : (halfLoaded slot s).regs = (halfRegs.foldl (fun t a => t.setReg a 0) (halfViews s)).regs :=
    endStaging_keeps slot _ .regs (by decide)
  simp only [State.reg, e]
  exact h _ _ (.inl ha)

theorem halfLoaded_views (slot : Nat) (s : State) :
    (halfLoaded slot s).lyr = { s.lyr with statReset := true } ∧
      (halfLoaded slot s).obj = { s.obj with lastReset := true, rdReset := true } ∧
      (halfLoaded slot s).dia = { s.dia with readV := [], readI := [] } := by
  have e := endStaging_keeps slot (halfRegs.foldl (fun t a => t.setReg a 0) (halfViews s))
  exact ⟨e .lyr (by decide), e .obj (by decide), e .dia (by decide)⟩

/-- The half itself starts anew. -/
def halfCleared (h : Half) (slot : Nat) (s : State) : State :=
  { setHalf h { bootTime := s.time, served := s.time } (halfLoaded slot s) with hlv.ready := s.hlv.ready.filter (fun x => !(x == h)) }

theorem halfCleared_keeps (h : Half) (slot : Nat) (s : State) : Keeps [.hlv] (halfLoaded slot s) (halfCleared h slot s) :=
  (setHalf_keeps h _ _).trans fun q hq => by cases q <;> first | rfl | exact absurd (by simp) hq

theorem halfCleared_ev (h : Half) (slot : Nat) (s : State) : EvIn [.lyr, .obj, .dia, .nvm, .hlv] halfRegs s (halfCleared h slot s) :=
  ((halfLoaded_ev slot s).mono (by simp) (List.Subset.refl _)).trans
    ((EvIn.parts (halfCleared_keeps h slot s) (by decide) (by decide)).mono (by simp) (List.Subset.refl _))

theorem halfCleared_reg {a : Nat} (ha : a ∈ halfRegs) (h : Half) (slot : Nat) (s : State) : (halfCleared h slot s).reg a = 0 := by
  rw [State.reg, halfCleared_keeps h slot s .regs (by decide)]
  exact halfLoaded_reg ha slot s

theorem resetHalf_eq (h : Half) (slot : Nat) (s : State) : resetHalf h slot s = setHealth h Health.boot
    (((setHealth h Health.reset (halfCleared h slot s)).setReg (versionWord h) 0).setF (ofHalf F.HLV_HEALTH_A_SLOT h) slot) := rfl

/-- The words a HALF reset writes. -/
abbrev resetWords (h : Half) : List Nat := halfRegs ++ [healthWord h, versionWord h]

theorem resetHalf_ev (h : Half) (slot : Nat) (s : State) :
    EvIn [.snp, .hlv, .nvm, .lyr, .obj, .dia] (eventRegs ++ resetWords h) s (resetHalf h slot s) := by
  have h1 : EvIn [.snp, .hlv, .nvm, .lyr, .obj, .dia] (eventRegs ++ resetWords h) s (halfCleared h slot s) :=
    (halfCleared_ev h slot s).mono (by decide) (by intro a ha; simp [ha])
  have hs : ∀ n u, EvIn [.snp, .hlv, .nvm, .lyr, .obj, .dia] (eventRegs ++ resetWords h) u (setHealth h n u) := fun n u =>
    (setHealth_ev h n u).mono (by simp) (by intro a ha; simp at ha ⊢; tauto)
  rw [resetHalf_eq]
  exact (((h1.trans (hs _ _)).trans
    (.setReg _ _ (by simp))).trans (.setF _ _ (by simp [ofHalf, Fld.at]))).trans (hs _ _)

/-- The fields outside what it writes. -/
theorem resetHalf_f (slot : Nat) (s : State) (hx : x.ok) (he : x.addr ∉ eventRegs ++ halfRegs) (hv : x.addr ≠ versionWord h)
    (hs : (ofHalf F.HLV_HEALTH_A_SLOT h).apart x) (hh : (ofHalf F.HLV_HEALTH_A_HEALTH h).apart x) : (resetHalf h slot s).f x = s.f x := by
  have he' : x.addr ∉ eventRegs := fun m => he (List.mem_append_left _ m)
  have hl : (halfCleared h slot s).f x = s.f x := (halfCleared_ev h slot s).words.f fun m => he (List.mem_append_right _ m)
  rw [resetHalf_eq, setHealth_f _ hx he' hh, f_setF_other _ _ (x := ofHalf F.HLV_HEALTH_A_SLOT h) (ofHalf_ok (x := F.HLV_HEALTH_A_SLOT) (by decide)) hx hs, f_setReg_other _ _ hv, setHealth_f _ hx he' hh]
  exact hl

theorem resetHalf_health (h : Half) (slot : Nat) (s : State) : (resetHalf h slot s).health h = Health.boot :=
  setHealth_health (by decide)

theorem resetHalf_slot (h : Half) (slot : Nat) (s : State) : (resetHalf h slot s).f (ofHalf F.HLV_HEALTH_A_SLOT h) = slot % 2 := by
  rw [resetHalf_eq, setHealth_f _ (ofHalf_ok (by decide)) (by cases h <;> decide) (by cases h <;> decide), f_setF_mod _ _ (ofHalf_ok (by decide))]
  rfl

theorem resetHalf_hlv (h : Half) (slot : Nat) (s : State) : (resetHalf h slot s).hlv =
    { (setHalf h { bootTime := s.time, served := s.time } s).hlv with ready := s.hlv.ready.filter (fun x => !(x == h)) } := by
  have e : ∀ n u, (setHealth h n u).hlv = u.hlv := fun n u => (setHealth_ev h n u).keeps .hlv (by decide)
  have el : (halfLoaded slot s).hlv = s.hlv := (halfLoaded_ev slot s).keeps .hlv (by decide)
  rw [resetHalf_eq, e, setF_hlv, setReg_hlv, e]
  cases h <;> simp [halfCleared, setHalf, el]

theorem resetHalf_half (h : Half) (slot : Nat) (s : State) : (resetHalf h slot s).half h = { bootTime := s.time, served := s.time } := by
  have e := resetHalf_hlv h slot s
  cases h <;> simp [State.half, e, setHalf]

theorem resetHalf_reg {a : Nat} (ha : a ∈ halfRegs) (slot : Nat) (s : State) : (resetHalf h slot s).reg a = 0 := by
  have hd : a ∉ eventRegs ++ [healthWord h] ∧ a ≠ versionWord h ∧ a ≠ healthWord h := by
    revert a
    cases h <;> decide
  obtain ⟨he, hv, hh⟩ := hd
  rw [resetHalf_eq, (setHealth_ev h _ _).words a he, reg_setF_other _ _ _ hh, reg_setReg_other _ _ hv, (setHealth_ev h _ _).words a he]
  exact halfCleared_reg ha h slot s

theorem resetHalf_views (h : Half) (slot : Nat) (s : State) :
    (resetHalf h slot s).lyr = { s.lyr with statReset := true } ∧
      (resetHalf h slot s).obj = { s.obj with lastReset := true, rdReset := true } ∧
      (resetHalf h slot s).dia = { s.dia with readV := [], readI := [] } := by
  have e : ∀ q, q ∉ [Part.cmd, .regs, .snp] → ∀ n u, q.same u (setHealth h n u) := fun q hq n u => (setHealth_ev h n u).keeps q hq
  have ec : ∀ q, q ∉ [Part.hlv] → q.same (halfLoaded slot s) (halfCleared h slot s) := halfCleared_keeps h slot s
  obtain ⟨h1, h2, h3⟩ := halfLoaded_views slot s
  rw [resetHalf_eq]
  exact ⟨(e .lyr (by decide) _ _).trans ((e .lyr (by decide) _ _).trans ((ec .lyr (by decide)).trans h1)),
    (e .obj (by decide) _ _).trans ((e .obj (by decide) _ _).trans ((ec .obj (by decide)).trans h2)),
    (e .dia (by decide) _ _).trans ((e .dia (by decide) _ _).trans ((ec .dia (by decide)).trans h3))⟩

theorem resetHalf_staging (h : Half) (slot : Nat) (s : State) : ((resetHalf h slot s).fwSlot slot).staging = none := by
  have e : (resetHalf h slot s).nvm = (halfLoaded slot s).nvm := by
    have e : ∀ n u, (setHealth h n u).nvm = u.nvm := fun n u => (setHealth_ev h n u).keeps .nvm (by decide)
    rw [resetHalf_eq, e, setF_nvm, setReg_nvm, e]
    exact halfCleared_keeps h slot s .nvm (by decide)
  simp only [State.fwSlot, e]
  exact endStaging_staging slot _

/-! ### Ending commands, and a half that fails (R269, R270, R278) -/

theorem Moves.finishAll (hm : Moves anyReply p w s t) (hw : 0x20C4 ∈ w) (hc : 0x9030 ∈ w) (op key st : Nat) (body : List Byte) :
    Moves anyReply p w s (finishAll op key st body t) := by
  unfold Machine.finishAll
  generalize List.filter _ t.cmd.jobs = l
  induction l generalizing t with
  | nil => exact hm
  | cons j l ih => exact ih (hm.finishJob hw j st body (.inl hc))

theorem Moves.endHalfReset (hm : Moves anyReply p w s t) (hw : 0x20C4 ∈ w) (hc : 0x9030 ∈ w) (h : Half) (key st : Nat) :
    Moves anyReply p w s (endHalfReset h key st t) := by
  unfold Machine.endHalfReset
  exact .ite hm (hm.finishAll hw hc _ _ _ _)

theorem Moves.cancelExchange (hm : Moves anyReply p w s t) (hp : Part.hlv ∈ p) (hw : 0x20C4 ∈ w) (hc : 0x9030 ∈ w) :
    Moves anyReply p w s (cancelExchange t) := by
  unfold Machine.cancelExchange
  split
  · exact hm
  · dsimp only
    split
    · exact (hm.hlv hp).endHalfReset hw hc _ _ _
    · exact (hm.hlv hp).finishOp hw _ _ _ (.inl hc)

theorem Moves.noHalf (hm : Moves anyReply p w s t) (hp : Part.hlv ∈ p) (hs : stopParts ⊆ p) (hw : stopWords ⊆ w) (hc : 0x9030 ∈ w) :
    Moves anyReply p w s (noHalf t) := by
  unfold Machine.noHalf
  exact ((hm.hlv hp).finishOp (hw (by simp)) _ _ _ (.inl hc)).raiseSource hs hw _

/-- The parts and words that a half which fails may change, but for its own word. -/
abbrev failParts : List Part := .hlv :: stopParts
abbrev failWords : List Nat := 0x9030 :: stopWords

/-- A half is FAILED, its commands end and a planned exchange is cancelled. -/
def failedHalf (h : Half) (cause : Nat) (s : State) : State :=
  cancelExchange (endHalfReset h (halfCode h) St.aborted
    { setHealth h Health.failed (s.setF (ofHalf F.HLV_HEALTH_A_LAST_CAUSE h) cause) with
      hlv.ready := (setHealth h Health.failed (s.setF (ofHalf F.HLV_HEALTH_A_LAST_CAUSE h) cause)).hlv.ready.filter (fun x => !(x == h)) })

/-- With the other half abdicated, or unable to boot, no half is left. -/
def noHalfLeft (s : State) : State :=
  if s.hlv.active && s.hlv.abdicated.isSome then noHalf s
  else if !s.hlv.active && s.health .a == Health.failed && s.health .b == Health.failed then raiseSource Src.halves s
  else s

theorem failHalf_eq (h : Half) (cause : Nat) (s : State) : failHalf h cause s =
    noHalfLeft (if mayRestart (failedHalf h cause s) h then autoRestart h (failedHalf h cause s) else failedHalf h cause s) := rfl

theorem noHalfLeft_moves (s : State) : Moves anyReply failParts failWords s (noHalfLeft s) := by
  have hm := Moves.refl anyReply failParts failWords s
  unfold noHalfLeft
  exact .ite (hm.noHalf (by simp) (by simp) (by simp) (by simp)) (.ite (hm.raiseSource (by simp) (by simp) _) hm)

theorem failedHalf_moves (h : Half) (cause : Nat) (s : State) :
    Moves anyReply [.hlv] [0x20C4, 0x9030] (setHealth h Health.failed (s.setF (ofHalf F.HLV_HEALTH_A_LAST_CAUSE h) cause))
      (failedHalf h cause s) :=
  (((Moves.refl anyReply [.hlv] [0x20C4, 0x9030] _).hlv (by simp)).endHalfReset (by simp) (by simp) _ _ _).cancelExchange
    (by simp) (by simp) (by simp)

/-- The fields of HLV_CTRL and of the half's word, but for its HEALTH and LAST_CAUSE, stay. -/
theorem failedHalf_f (cause : Nat) (s : State) (hx : x.ok) (he : x.addr ∉ eventRegs ++ [0x20C4, 0x9030])
    (hh : (ofHalf F.HLV_HEALTH_A_HEALTH h).apart x) (hl : (ofHalf F.HLV_HEALTH_A_LAST_CAUSE h).apart x) :
    (failedHalf h cause s).f x = s.f x :=
  ((failedHalf_moves h cause s).regs.f he).trans ((setHealth_f _ hx (fun m => he (List.mem_append_left _ m)) hh).trans
    (f_setF_other _ _ (ofHalf_ok (x := F.HLV_HEALTH_A_LAST_CAUSE) (by decide)) hx hl))

theorem failedHalf_cause {cause : Nat} (hc : cause < 16) (s : State) : (failedHalf h cause s).f (ofHalf F.HLV_HEALTH_A_LAST_CAUSE h) = cause :=
  ((failedHalf_moves h cause s).regs.f (by cases h <;> decide)).trans
    ((setHealth_f _ (ofHalf_ok (x := F.HLV_HEALTH_A_LAST_CAUSE) (by decide)) (by cases h <;> decide) (by cases h <;> decide)).trans
      (f_setF_same _ (ofHalf_ok (x := F.HLV_HEALTH_A_LAST_CAUSE) (by decide)) hc))

theorem failedHalf_health (h : Half) (cause : Nat) (s : State) : (failedHalf h cause s).health h = Health.failed :=
  ((failedHalf_moves h cause s).regs.f (by cases h <;> decide)).trans (setHealth_health (by decide))

theorem mayRestart_failedHalf (h : Half) (cause : Nat) (s : State) : mayRestart (failedHalf h cause s) h = mayRestart s h := by
  simp only [mayRestart, State.fb]
  rw [failedHalf_f (x := F.HLV_CTRL_AUTO_RESTART) _ _ (by decide) (by decide) (by cases h <;> decide) (by cases h <;> decide),
    failedHalf_f (x := F.HLV_CTRL_RESTART_MAX) _ _ (by decide) (by decide) (by cases h <;> decide) (by cases h <;> decide),
    failedHalf_f (x := ofHalf F.HLV_HEALTH_A_RESTARTS h) _ _ (ofHalf_ok (x := F.HLV_HEALTH_A_RESTARTS) (by decide))
      (by cases h <;> decide) (by cases h <;> decide) (by cases h <;> decide)]

theorem autoRestart_cause (h : Half) (s : State) :
    (autoRestart h s).f (ofHalf F.HLV_HEALTH_A_LAST_CAUSE h) = s.f (ofHalf F.HLV_HEALTH_A_LAST_CAUSE h) := by
  unfold autoRestart
  rw [resetHalf_f (x := ofHalf F.HLV_HEALTH_A_LAST_CAUSE h) _ _ (ofHalf_ok (x := F.HLV_HEALTH_A_LAST_CAUSE) (by decide))
    (by cases h <;> decide) (by cases h <;> decide) (by cases h <;> decide) (by cases h <;> decide)]
  exact f_bump_other _ (x := ofHalf F.HLV_HEALTH_A_RESTARTS h) (ofHalf_ok (x := F.HLV_HEALTH_A_RESTARTS) (by decide))
    (ofHalf_ok (x := F.HLV_HEALTH_A_LAST_CAUSE) (by decide)) (by cases h <;> decide)

theorem failHalf_fields (h : Half) {cause : Nat} (hc : cause < 16) (s : State) :
    (failHalf h cause s).f (ofHalf F.HLV_HEALTH_A_LAST_CAUSE h) = cause ∧
      (failHalf h cause s).health h = if mayRestart s h then Health.boot else Health.failed := by
  rw [failHalf_eq, mayRestart_failedHalf]
  have hk := fun u => (noHalfLeft_moves u).regs
  refine ⟨((hk _).f (by cases h <;> decide)).trans ?_, ((hk _).f (by cases h <;> decide)).trans ?_⟩
  · split
    · exact (autoRestart_cause h _).trans (failedHalf_cause hc s)
    · exact failedHalf_cause hc s
  · split
    · exact resetHalf_health h _ _
    · exact failedHalf_health h cause s

theorem subset_hlvRegs (h : Half) : [healthWord h, versionWord h] ⊆ hlvRegs := by cases h <;> decide

theorem autoRestart_ev (h : Half) (s : State) :
    EvIn [.snp, .hlv, .nvm, .lyr, .obj, .dia] (eventRegs ++ resetWords h) s (autoRestart h s) :=
  (EvIn.bump s (by simp [ofHalf, Fld.at])).trans (resetHalf_ev h _ _)

theorem failHalf_moves (h : Half) (cause : Nat) (s : State) :
    Moves anyReply (.hlv :: .lyr :: .obj :: stopParts) (halfRegs ++ hlvRegs ++ stopWords) s (failHalf h cause s) := by
  have hw : healthWord h ∈ halfRegs ++ hlvRegs ++ stopWords := by cases h <;> decide
  have h1 : Moves anyReply (.hlv :: .lyr :: .obj :: stopParts) (halfRegs ++ hlvRegs ++ stopWords) s (failedHalf h cause s) :=
    (((Moves.refl _ _ _ s).setF (x := ofHalf F.HLV_HEALTH_A_LAST_CAUSE h) cause (List.mem_append_right _ hw)).andThen
      ((setHealth_ev h Health.failed _).moves (p := []) (by simp)) (by simp) (by simpa using hw)).andThen
      (failedHalf_moves h cause s) (by simp) (by decide)
  have h2 : Moves anyReply (.hlv :: .lyr :: .obj :: stopParts) (halfRegs ++ hlvRegs ++ stopWords) s (autoRestart h (failedHalf h cause s)) :=
    h1.trans (((autoRestart_ev h _).moves (by simp)).mono (by decide) (by cases h <;> decide))
  rw [failHalf_eq]
  exact (Moves.ite h2 h1).andThen (noHalfLeft_moves _) (by simp) (by decide)

/-! ### The end of BOOT (R267, R269, R468) -/

theorem bootDoneCheck_ev (s : State) : EvIn [.snp, .sys] eventRegs s (bootDoneCheck s) := by
  unfold bootDoneCheck
  exact .ite (.refl s) (EvIn.trans (.mono (EvIn.parts (p := [.sys]) (w := eventRegs)
    (fun q hq => by cases q <;> first | rfl | exact absurd (by simp) hq) (by decide) (by decide)) (by simp) (List.Subset.refl _))
    ((raise_ev _ _ _).mono (by simp) (List.Subset.refl _)))

theorem enterProving_ev (h : Half) (s : State) : EvIn [.snp, .hlv] (eventRegs ++ [healthWord h, 0x9018]) s (enterProving h s) :=
  (((EvIn.mono (EvIn.parts (setHalf_keeps h { s.half h with slices := 0, matched := false } s) (by decide) (by decide))
    (by simp) (List.Subset.refl _)).trans (.setF _ 0 (by simp))).trans (.setF _ 0 (by simp))).trans
    ((setHealth_ev h _ _).mono (by simp) (by intro a ha; simp at ha ⊢; tauto))

theorem enterProving_health (h : Half) (s : State) : (enterProving h s).health h = Health.proving := setHealth_health (by decide)

theorem enterProving_runs (h : Half) (s : State) :
    (enterProving h s).f F.HLV_GRAZE_MATCH_RUN = 0 ∧ (enterProving h s).f F.HLV_GRAZE_MISMATCH_RUN = 0 := by
  unfold enterProving
  rw [setHealth_f _ (by decide) (by decide) (by cases h <;> decide), setHealth_f _ (by decide) (by decide) (by cases h <;> decide)]
  exact ⟨f_setF_same _ (by decide) (by decide),
    (f_setF_other _ _ (by decide) (by decide) (by decide)).trans (f_setF_same _ (by decide) (by decide))⟩

theorem enterProving_hlv (h : Half) (s : State) :
    (enterProving h s).hlv = (setHalf h { s.half h with slices := 0, matched := false } s).hlv :=
  (setHealth_ev h _ _).keeps .hlv (by decide)

/-- The half runs the image of its slot. -/
def halfRuns (h : Half) (s : State) : State :=
  let v := s.fwSlot (s.f (ofHalf F.HLV_HEALTH_A_SLOT h))
  let s1 := s.setReg (0x9010 + 4 * halfCode h) (BitVec.ofNat 32 (v.major * 2 ^ 24 + v.minor * 2 ^ 16 + v.build))
  setHalf h { s1.half h with
    ram := some (s.f (ofHalf F.HLV_HEALTH_A_SLOT h)), image := ramImage s (s.f (ofHalf F.HLV_HEALTH_A_SLOT h)), served := s.time } s1

theorem halfRuns_ev (h : Half) (s : State) : EvIn [.snp, .hlv] (eventRegs ++ hlvRegs) s (halfRuns h s) := by
  have hv : versionWord h ∈ eventRegs ++ hlvRegs := by cases h <;> decide
  exact (EvIn.setReg s _ hv).trans ((EvIn.parts (setHalf_keeps h _ _) (by decide) (by decide)).mono (by simp) (List.Subset.refl _))

theorem half_setReg (h : Half) (a : Nat) (v : Word) (s : State) : (s.setReg a v).half h = s.half h := by cases h <;> rfl

theorem setHalf_setReg_hlv (h : Half) (x : HalfSt) (a : Nat) (v : Word) (s : State) :
    (setHalf h x (s.setReg a v)).hlv = (setHalf h x s).hlv := by cases h <;> rfl

theorem halfRuns_hlv (h : Half) (s : State) : (halfRuns h s).hlv = (setHalf h { s.half h with
    ram := some (s.f (ofHalf F.HLV_HEALTH_A_SLOT h)), image := ramImage s (s.f (ofHalf F.HLV_HEALTH_A_SLOT h)), served := s.time } s).hlv := by
  simp only [halfRuns, half_setReg, setHalf_setReg_hlv]

/-- Without an active half it may become active. -/
def standsReady (h : Half) (s : State) : State := if s.hlv.active then s else { s with hlv.ready := s.hlv.ready ++ [h] }

theorem exec_halfBootDone {h : Half} (hb : s.health h = Health.boot) (ho : s.off = false) :
    exec (.halfBootDone h true) s = .next (bootDoneCheck (standsReady h (enterProving h (halfRuns h s)))) ∧
      exec (.halfBootDone h false) s = .next (bootDoneCheck (failHalf h 7 s)) := by
  have hc : (!(s.health h == Health.boot) || s.off) = false := by simp [hb, ho]
  refine ⟨?_, ?_⟩
  · simp only [exec, execHalfBootDone, halfBootDone, hc, Bool.false_eq_true, if_false, Bool.not_true]
    rfl
  · simp only [exec, execHalfBootDone, halfBootDone, hc, Bool.false_eq_true, if_false, Bool.not_false, if_true]

theorem exec_halfBootTimeout {h : Half} (hb : s.health h = Health.boot) (ho : s.off = false) :
    exec (.halfBootTimeout h) s =
      .next (bootDoneCheck (failHalf h 7 { s with time := max s.time ((s.half h).bootTime + 2000000) })) := by
  simp only [exec, execHalfBootTimeout, halfBootTimeout, hb, ho, beq_self_eq_true, Bool.not_true, Bool.or_false, Bool.false_eq_true,
    if_false]

theorem standsReady_keeps (h : Half) (s : State) : Keeps [.hlv] s (standsReady h s) := by
  unfold standsReady
  split
  · exact Keeps.refl _ s
  · exact fun q hq => by cases q <;> first | rfl | exact absurd (by simp) hq

theorem halfBooted_ev (h : Half) (s : State) :
    EvIn [.snp, .hlv] (eventRegs ++ hlvRegs) s (standsReady h (enterProving h (halfRuns h s))) :=
  ((halfRuns_ev h s).trans ((enterProving_ev h _).mono (by simp) (by cases h <;> decide))).trans
    ((EvIn.parts (standsReady_keeps h _) (by decide) (by decide)).mono (by simp) (List.Subset.refl _))

theorem standsReady_half (g h : Half) (s : State) : (standsReady g s).half h = s.half h := by
  unfold standsReady
  split
  · rfl
  · cases h <;> rfl

end halves
end Sys2Proof.Machine
end

section
namespace Sys2Proof.Machine

section exchange

variable {s t : State} {h : Half} {x : Fld}

/-! ### The planned exchange (R287, R288, R291) -/

theorem halfOf_halfCode (h : Half) : halfOf (halfCode h) = h := by cases h <;> rfl

/-- The roles exchange: the other half is active, and what was planned or due of Grazing is over. -/
def exchanged (s : State) : State :=
  (changeActive s.standby { skipImage s.hlv.grazeDue s with hlv.exchange := none, hlv.grazeDue := false }).raise 0x91
    (q4 (halfCode s.standby) ++ q4 0)

/-- The words an exchange writes. -/
abbrev exchangeWords : List Nat := [0x9004, 0x901C, 0x9028, 0x902C, 0x9034]

theorem skipImage_ev (b : Bool) (s : State) : EvIn [.snp, .hlv] (eventRegs ++ exchangeWords) s (skipImage b s) :=
  .ite (.bump s (by simp)) (.refl s)

theorem exchanged_ev (s : State) : EvIn [.snp, .hlv] (eventRegs ++ exchangeWords) s (exchanged s) := by
  refine (skipImage_ev s.hlv.grazeDue s).trans (EvIn.trans (t := { skipImage s.hlv.grazeDue s with
    hlv.exchange := none, hlv.grazeDue := false }) ?_ (EvIn.trans ?_ ((raise_ev _ _ _).mono (by simp) (by simp))))
  · exact (EvIn.parts (p := [.hlv]) (fun q hq => by cases q <;> first | rfl | exact absurd (by simp) hq) (by decide) (by decide)).mono
      (by simp) (List.Subset.refl _)
  · exact (((EvIn.setF _ _ (by simp)).trans (.bump _ (by simp))).trans (.setB _ _ (by simp))).trans (.setReg _ _ (by simp))

theorem skipImage_keeps (b : Bool) (s : State) : Keeps [.regs] s (skipImage b s) := by
  unfold skipImage
  split
  · exact bump_keeps [] s _
  · exact Keeps.refl _ s

theorem exchanged_hlv (s : State) : (exchanged s).hlv = { s.hlv with exchange := none, grazeDue := false } := by
  have e : (skipImage s.hlv.grazeDue s).hlv = s.hlv := skipImage_keeps _ s .hlv (by decide)
  simp [exchanged, changeActive, e]

theorem exchanged_active (s : State) : (exchanged s).activeHalf = s.standby := by
  have e : (exchanged s).f F.HLV_ROLE_ACTIVE = halfCode s.standby := by
    refine (raise_f _ _ _ (by decide)).trans ?_
    unfold changeActive
    rw [f_setReg_other _ _ (by decide), f_setB_other _ _ (by decide) (by decide) (by decide), f_bump_other _ (by decide) (by decide) (by decide)]
    exact f_setF_same _ (by decide) (by cases s.standby <;> decide)
  rw [State.activeHalf, e, halfOf_halfCode]

theorem exchanged_marks (s : State) : (exchanged s).fb F.HLV_STATUS_SWITCHED = true ∧
    (exchanged s).reg 0x902C = BitVec.ofNat 32 s.tck.frame ∧
    (exchanged s).f F.HLV_SW_CNT_SWITCH_CNT = satAdd F.HLV_SW_CNT_SWITCH_CNT.top (s.f F.HLV_SW_CNT_SWITCH_CNT) 1 ∧
    (s.hlv.grazeDue = true →
      (exchanged s).f F.HLV_GRAZE_CNT_SKIP_CNT = satAdd F.HLV_GRAZE_CNT_SKIP_CNT.top (s.f F.HLV_GRAZE_CNT_SKIP_CNT) 1) := by
  have et : (skipImage s.hlv.grazeDue s).tck = s.tck := skipImage_keeps _ s .tck (by decide)
  have ef : ∀ x : Fld, x.addr ≠ 0x901C → (skipImage s.hlv.grazeDue s).f x = s.f x := fun x hx => by
    unfold skipImage
    split
    · exact f_setReg_other _ _ hx
    · rfl
  refine ⟨(raise_fb _ _ _ (by decide)).trans ?_, (raise_reg _ _ _ (by decide)).trans ?_, (raise_f _ _ _ (by decide)).trans ?_,
    fun hg => (raise_f _ _ _ (by decide)).trans ?_⟩ <;> unfold changeActive
  · rw [State.fb, f_setReg_other _ _ (by decide)]
    exact fb_setB_same _ _ (by decide)
  · rw [reg_setReg_same]
    exact congrArg (fun c : TckSt => BitVec.ofNat 32 c.frame) et
  · rw [f_setReg_other _ _ (by decide), f_setB_other _ _ (by decide) (by decide) (by decide), f_bump_same _ (by decide),
      f_setF_other _ _ (by decide) (by decide) (by decide)]
    exact congrArg (fun n => satAdd _ n 1) (ef F.HLV_SW_CNT_SWITCH_CNT (by decide))
  · rw [f_setReg_other _ _ (by decide), f_setB_other _ _ (by decide) (by decide) (by decide), f_bump_other _ (by decide) (by decide) (by decide),
      f_setF_other _ _ (by decide) (by decide) (by decide)]
    show (skipImage s.hlv.grazeDue s).f F.HLV_GRAZE_CNT_SKIP_CNT = _
    rw [hg]
    exact f_bump_same _ (by decide)

/-- The old active half's word stays. -/
theorem exchanged_f (s : State) (hx : x.addr ∉ eventRegs ++ exchangeWords) : (exchanged s).f x = s.f x := (exchanged_ev s).words.f hx

/-- A command in flight that ends now: its reply stands last. -/
theorem finishJob_sendsLast {j : Job} (hq : j.rq.quiet = false) (hr : j.replayed = false) {st : Nat} (hs : st ≠ St.doneReplayed)
    (body : List Byte) (s : State) : SendsLast (replyOf j.op j.rq true st body j.seq) s (finishJob j st body s) := by
  have e : finishJob j st body s = lostReport (finalReply j.op j.rq j.seq st body
      { s with cmd.jobs := s.cmd.jobs.filter (fun k => !(k.seq == j.seq)) }) := by
    simp [finishJob, hr, countReplayed, hs]
  obtain ⟨evs, he, ho⟩ := (lostReport_step (finalReply j.op j.rq j.seq st body
      { s with cmd.jobs := s.cmd.jobs.filter (fun k => !(k.seq == j.seq)) })).sends
  exact ⟨[], evs, he, by rw [e, ho, finalReply_out hq]; simp⟩

theorem SendsLast.after {p : OutPkt} {s t u : State} (hs : SendsEvents s t) (hl : SendsLast p t u) : SendsLast p s u := by
  obtain ⟨evs, -, e⟩ := hs
  obtain ⟨ps, evs', he, e'⟩ := hl
  exact ⟨evs ++ ps, evs', he, by rw [e', e]; simp⟩

theorem exec_halfExchange {x : Exchange} (hx : s.hlv.exchange = some x) (ht : x.tick = s.tck.frame) (he : s.executes = true)
    (hg : s.health s.standby = Health.good) : exec .halfExchange s = .next (match x.resetHalf with
      | none => finishOp 0x79 St.ok (halfSwitchBody (exchanged s) false (exchanged s).tck.frame) (exchanged s)
      | some h => resetHalf s.activeHalf x.slot (({ exchanged s with
          cmd.jobs := (exchanged s).cmd.jobs.map (Job.rekey 0x7A (2 + halfCode h) (halfCode h)) } : State).setF
            (ofHalf F.HLV_HEALTH_A_RESTARTS h) 0)) := by
  simp only [exec, execHalfExchange, halfExchange, hx, ht, he, hg, beq_self_eq_true, Bool.not_true, Bool.or_false, Bool.false_eq_true, if_false]
  rfl

end exchange
end Sys2Proof.Machine
end

section
namespace Sys2Proof.Machine

section commands

variable {op : Nat} {rq : Req} {idemp : Bool} {body : State → State × Reply} {s t : State} {parts : List Part} {words : List Nat}

/-! ### What an accepted or a deferred command leaves beside the front end -/

/-- Beside the front end and what an EVT_LOST writes, an accepted command leaves what its body left. -/
theorem runBody_accepted_rest {bod fin : List Byte} {key : Nat} (hl : s.longRunning < 8)
    (hb : body (startCommand op idemp rq s) = (t, .accepted bod key fin)) :
    Keeps [.cmd, .regs] t (runBody op idemp rq body s) ∧ KeepsRegs replyRegs t (runBody op idemp rq body s) := by
  have hl' : ({ startCommand op idemp rq s with cmd.cur := none } : State).longRunning < 8 := hl
  simp only [runBody, hb, endBody, closeCommand, hl', if_true]
  have h1 := (pushReply_step op rq false St.accepted bod (some s.cmd.seq)
    { t with cmd.cur := none, cmd.jobs := t.cmd.jobs ++ [⟨s.cmd.seq, op, rq, true, key, fin, false⟩] }).trans (.of_send (lostReport_step _))
  exact ⟨((Keeps.refl [.cmd, .regs] t).of_cur (by simp) _).trans h1.keeps, h1.words⟩

/-! ### HALF_STATUS, HALF_SWITCH and HALF_RESET (R292 to R294) -/

theorem halfSwitchCmd_eq (hl : rq.payload.length = 4) (u : State) : halfSwitchCmd rq u =
    if 2 < u8 rq.payload 0 then refuse St.badParam u
    else if halfBusy u then refuse St.busy u
    else if u8 rq.payload 0 < 2 && halfOf (u8 rq.payload 0) == u.activeHalf then okReply (halfSwitchBody u true u.tck.frame) u
    else if u.fb F.HLV_ROLE_DIVERGE || !(u.health u.standby == Health.good) then refuse St.refusedState u
    else ({ u with hlv.exchange := some ⟨exchangeTick u, none, 0⟩ }, .later 0 []) := by
  simp only [halfSwitchCmd, withLen, len, hl, beq_self_eq_true, if_true]

theorem halfResetCmd_eq (hl : rq.payload.length = 4) (hn : u8 rq.payload 0 ≤ 1) (hi : u8 rq.payload 1 ≤ 3) (u : State) {h : Half}
    (hh : h = halfOf (u8 rq.payload 0)) : halfResetCmd rq u =
    if u16 rq.payload 2 ≠ 0 then refuse St.badParam u
    else if halfBusy u then refuse St.busy u
    else if !(u.health (otherHalf h) == Health.good) then refuse St.refusedState u
    else if h == u.activeHalf then ({ u with hlv.exchange := some ⟨exchangeTick u, some h, imageSlot u h (u8 rq.payload 1)⟩ },
      .accepted (zeros 3 ++ bytesLE 4 (exchangeTick u)) (2 + halfCode h) [])
    else (resetHalf h (imageSlot u h (u8 rq.payload 1)) (u.setF (ofHalf F.HLV_HEALTH_A_RESTARTS h) 0),
      .accepted (zeros 3 ++ bytesLE 4 u.tck.frame) (halfCode h) []) := by
  have h1 : ¬ 1 < u8 rq.payload 0 := by omega
  have h3 : ¬ 3 < u8 rq.payload 1 := by omega
  simp only [halfResetCmd, withLen, len, hl, beq_self_eq_true, if_true, h1, h3, decide_false, Bool.false_or, ← hh]
  by_cases e : u16 rq.payload 2 = 0 <;> simp [e]

/-- A half command whose body refuses. -/
theorem exec_half_refuses {c : Instr} {st : Nat} (hr : Runs op rq s) (hc : exec c s = .next (command op rq body s)) (hn : noRow op = none)
    (hb : body (startCommand op (!reqClassN op rq) rq s) = refuse st (startCommand op (!reqClassN op rq) rq s)) :
    ∃ t, exec c s = .next t ∧ Refuses op rq st s t := by
  obtain ⟨he, ha, hf, -⟩ := exec_answers (parts := []) hr hc hn hb (Keeps.refl _ _) (by simp) rfl
  exact ⟨_, he, ha, hf⟩

/-- HALF_STATUS reads nothing of the front end (R292). -/
theorem halfStatusBody_eq (hl : rq.payload = []) (s : State) (c : CmdSt) : halfStatusBody rq { s with cmd := c } = okReply
    (bytesLE 1 (s.f F.HLV_ROLE_ACTIVE + 2 * b2n s.hlv.exchange.isSome + 4 * s.f F.HLV_ROLE_DIVERGE + 8 * b2n s.grazing) ++
      zeros 2 ++ bytesLE 4 (match s.hlv.exchange with | some x => x.tick | none => (s.reg 0x902C).toNat) ++
      halfBlock s .a ++ halfBlock s .b ++ bytesLE 2 (s.f F.HLV_GRAZE_CNT_MISMATCH_CNT) ++
      bytesLE 2 (s.f F.HLV_GRAZE_CNT_SKIP_CNT) ++ bytesLE 4 s.tck.frame) { s with cmd := c } := by
  simp only [halfStatusBody, withLen, len, hl, List.length_nil, beq_self_eq_true, if_true]
  rfl

theorem halfStatus_answers (hr : Runs 0x78 rq s) (hl : rq.payload = []) :
    ∃ t, exec (.halfStatus rq) s = .next t ∧ CmdFrame [] [] s t ∧ Answers 0x78 rq St.ok
        (bytesLE 1 (s.f F.HLV_ROLE_ACTIVE + 2 * b2n s.hlv.exchange.isSome + 4 * s.f F.HLV_ROLE_DIVERGE + 8 * b2n s.grazing) ++
          zeros 2 ++ bytesLE 4 (match s.hlv.exchange with | some x => x.tick | none => (s.reg 0x902C).toNat) ++
          halfBlock s .a ++ halfBlock s .b ++ bytesLE 2 (s.f F.HLV_GRAZE_CNT_MISMATCH_CNT) ++
          bytesLE 2 (s.f F.HLV_GRAZE_CNT_SKIP_CNT) ++ bytesLE 4 s.tck.frame) s t := by
  obtain ⟨c, hc, -⟩ := startCommand_eq 0x78 (!reqClassN 0x78 rq) rq s
  obtain ⟨he, ha, hf, -⟩ := exec_answers (c := .halfStatus rq) (parts := []) hr rfl (by decide)
    (by rw [hc]; exact halfStatusBody_eq hl s c) (by rw [hc]; exact Keeps.refl _ _) (by simp) (by rw [hc])
  exact ⟨_, he, hf, ha⟩

theorem exec_halfSwitch (hr : Runs 0x79 rq s) :
    exec (.halfSwitch rq) s = .next (runBody 0x79 (!reqClassN 0x79 rq) rq (halfSwitchCmd rq) s) :=
  congrArg Host.Outcome.next (command_eq hr)

theorem exec_halfReset (hr : Runs 0x7A rq s) :
    exec (.halfReset rq) s = .next (runBody 0x7A (!reqClassN 0x7A rq) rq (halfResetCmd rq) s) :=
  congrArg Host.Outcome.next (command_eq hr)

/-- A planned exchange stands in HLV alone. -/
theorem exchange_keeps (e : Option Exchange) (c : CmdSt) (s : State) :
    Keeps [.cmd, .regs, .hlv] s { s with cmd := c, hlv.exchange := e } := fun q hq => by
  cases q <;> first | rfl | exact absurd (by simp) hq

theorem halfSwitchCmd_plans (hl : rq.payload.length = 4) (hn : u8 rq.payload 0 ≤ 2) (hb : halfBusy s = false)
    (hh : u8 rq.payload 0 = 2 ∨ halfOf (u8 rq.payload 0) ≠ s.activeHalf) (hd : s.fb F.HLV_ROLE_DIVERGE = false)
    (hg : s.health s.standby = Health.good) (c : CmdSt) : halfSwitchCmd rq { s with cmd := c } =
      ({ s with cmd := c, hlv.exchange := some ⟨exchangeTick s, none, 0⟩ }, .later 0 []) := by
  have hb' : halfBusy { s with cmd := c } = false := hb
  have hc : (u8 rq.payload 0 < 2 && halfOf (u8 rq.payload 0) == ({ s with cmd := c } : State).activeHalf) = false := by
    show (u8 rq.payload 0 < 2 && halfOf (u8 rq.payload 0) == s.activeHalf) = false
    rcases hh with e | e <;> simp [e]
  have hd' : (({ s with cmd := c } : State).fb F.HLV_ROLE_DIVERGE ||
      !(({ s with cmd := c } : State).health ({ s with cmd := c } : State).standby == Health.good)) = false := by
    show (s.fb F.HLV_ROLE_DIVERGE || !(s.health s.standby == Health.good)) = false
    simp [hd, hg]
  rw [halfSwitchCmd_eq hl, if_neg (by omega), hb', hc, hd']
  rfl

theorem halfSwitch_plans (hr : Runs 0x79 rq s) (hl : rq.payload.length = 4) (hn : u8 rq.payload 0 ≤ 2) (hb : halfBusy s = false)
    (hh : u8 rq.payload 0 = 2 ∨ halfOf (u8 rq.payload 0) ≠ s.activeHalf) (hd : s.fb F.HLV_ROLE_DIVERGE = false)
    (hg : s.health s.standby = Health.good) :
    ∃ t, exec (.halfSwitch rq) s = .next t ∧ Defers 0x79 rq s t ∧ CmdFrame [.hlv] [] s t ∧
      t.hlv = { s.hlv with exchange := some ⟨exchangeTick s, none, 0⟩ } := by
  obtain ⟨c, hc, ho, hj, -⟩ := startCommand_eq 0x79 (!reqClassN 0x79 rq) rq s
  have hbody := halfSwitchCmd_plans hl hn hb hh hd hg c
  rw [← hc] at hbody
  obtain ⟨h1, h2⟩ := runBody_defers hbody (exchange_keeps _ c s) (KeepsRegs.refl _ s) ⟨[], by simp, by simp [ho]⟩ hj
  exact ⟨_, exec_halfSwitch hr, h1, h2, (runBody_later hbody).keeps .hlv (by simp)⟩

/-- A half to switch to that is active already is answered at once (R293). -/
theorem halfSwitchCmd_same (hl : rq.payload.length = 4) (hn : u8 rq.payload 0 < 2) (hb : halfBusy s = false)
    (hh : halfOf (u8 rq.payload 0) = s.activeHalf) (c : CmdSt) : halfSwitchCmd rq { s with cmd := c } =
      okReply (halfSwitchBody s true s.tck.frame) { s with cmd := c } := by
  have hb' : halfBusy { s with cmd := c } = false := hb
  have hc : (u8 rq.payload 0 < 2 && halfOf (u8 rq.payload 0) == ({ s with cmd := c } : State).activeHalf) = true := by
    show (u8 rq.payload 0 < 2 && halfOf (u8 rq.payload 0) == s.activeHalf) = true
    simp [hn, hh]
  rw [halfSwitchCmd_eq hl, if_neg (by omega), hb', hc]
  rfl

theorem halfSwitch_answers (hr : Runs 0x79 rq s) (hl : rq.payload.length = 4) (hn : u8 rq.payload 0 < 2) (hb : halfBusy s = false)
    (hh : halfOf (u8 rq.payload 0) = s.activeHalf) :
    ∃ t, exec (.halfSwitch rq) s = .next t ∧ CmdFrame [] [] s t ∧
      Answers 0x79 rq St.ok (halfSwitchBody s true s.tck.frame) s t := by
  obtain ⟨c, hc, -⟩ := startCommand_eq 0x79 (!reqClassN 0x79 rq) rq s
  obtain ⟨he, ha, hf, -⟩ := exec_answers (c := .halfSwitch rq) (parts := []) hr rfl (by decide)
    (by rw [hc]; exact halfSwitchCmd_same hl hn hb hh c) (by rw [hc]; exact Keeps.refl _ _) (by simp) (by rw [hc])
  exact ⟨_, he, hf, ha⟩

theorem halfSwitch_busy (hr : Runs 0x79 rq s) (hl : rq.payload.length = 4) (hn : u8 rq.payload 0 ≤ 2) (hb : halfBusy s = true) :
    ∃ t, exec (.halfSwitch rq) s = .next t ∧ Refuses 0x79 rq St.busy s t :=
  exec_half_refuses hr rfl (by decide) (by rw [halfSwitchCmd_eq hl, if_neg (by omega)]; exact if_pos hb)

/-- No half to switch to: the standby half is not GOOD, or the halves diverge (R290). -/
theorem halfSwitch_refuses (hr : Runs 0x79 rq s) (hl : rq.payload.length = 4) (hn : u8 rq.payload 0 ≤ 2) (hb : halfBusy s = false)
    (hh : u8 rq.payload 0 = 2 ∨ halfOf (u8 rq.payload 0) ≠ s.activeHalf)
    (hd : s.fb F.HLV_ROLE_DIVERGE = true ∨ s.health s.standby ≠ Health.good) :
    ∃ t, exec (.halfSwitch rq) s = .next t ∧ Refuses 0x79 rq St.refusedState s t := by
  refine exec_half_refuses hr rfl (by decide) ?_
  obtain ⟨c, hc, -⟩ := startCommand_eq 0x79 (!reqClassN 0x79 rq) rq s
  have hb' : halfBusy { s with cmd := c } = false := hb
  have hs : (u8 rq.payload 0 < 2 && halfOf (u8 rq.payload 0) == ({ s with cmd := c } : State).activeHalf) = false := by
    show (u8 rq.payload 0 < 2 && halfOf (u8 rq.payload 0) == s.activeHalf) = false
    rcases hh with e | e <;> simp [e]
  have hd' : (({ s with cmd := c } : State).fb F.HLV_ROLE_DIVERGE ||
      !(({ s with cmd := c } : State).health ({ s with cmd := c } : State).standby == Health.good)) = true := by
    show (s.fb F.HLV_ROLE_DIVERGE || !(s.health s.standby == Health.good)) = true
    rcases hd with e | e <;> simp [e]
  rw [hc, halfSwitchCmd_eq hl, if_neg (by omega), hb', hs, hd']
  rfl

/-! ### HALF_RESET -/

section reset

variable {h : Half} (hl : rq.payload.length = 4) (hn : u8 rq.payload 0 ≤ 1) (hi : u8 rq.payload 1 ≤ 3) (hh : h = halfOf (u8 rq.payload 0))
include hl hn hi hh

theorem halfReset_badParam (hr : Runs 0x7A rq s) (hz : u16 rq.payload 2 ≠ 0) :
    ∃ t, exec (.halfReset rq) s = .next t ∧ Refuses 0x7A rq St.badParam s t :=
  exec_half_refuses hr rfl (by decide) (by rw [halfResetCmd_eq hl hn hi _ hh, if_pos hz])

variable (hz : u16 rq.payload 2 = 0)
include hz

theorem halfReset_busy (hr : Runs 0x7A rq s) (hb : halfBusy s = true) :
    ∃ t, exec (.halfReset rq) s = .next t ∧ Refuses 0x7A rq St.busy s t :=
  exec_half_refuses hr rfl (by decide) (by rw [halfResetCmd_eq hl hn hi _ hh, if_neg (not_not.2 hz)]; exact if_pos hb)

theorem halfReset_refuses (hr : Runs 0x7A rq s) (hb : halfBusy s = false) (hg : s.health (otherHalf h) ≠ Health.good) :
    ∃ t, exec (.halfReset rq) s = .next t ∧ Refuses 0x7A rq St.refusedState s t := by
  refine exec_half_refuses hr rfl (by decide) ?_
  obtain ⟨c, hc, -⟩ := startCommand_eq 0x7A (!reqClassN 0x7A rq) rq s
  have hb' : halfBusy { s with cmd := c } = false := hb
  have hg' : (!(({ s with cmd := c } : State).health (otherHalf h) == Health.good)) = true := by
    show (!(s.health (otherHalf h) == Health.good)) = true
    simp [hg]
  rw [hc, halfResetCmd_eq hl hn hi _ hh, if_neg (not_not.2 hz), hb', hg']
  rfl

variable (hb : halfBusy s = false) (hg : s.health (otherHalf h) = Health.good)
include hb hg

theorem halfResetCmd_accepts (c : CmdSt) : halfResetCmd rq { s with cmd := c } =
    if h == s.activeHalf then
      ({ s with cmd := c, hlv.exchange := some ⟨exchangeTick s, some h, imageSlot s h (u8 rq.payload 1)⟩ },
        .accepted (zeros 3 ++ bytesLE 4 (exchangeTick s)) (2 + halfCode h) [])
    else (resetHalf h (imageSlot s h (u8 rq.payload 1)) (({ s with cmd := c } : State).setF (ofHalf F.HLV_HEALTH_A_RESTARTS h) 0),
      .accepted (zeros 3 ++ bytesLE 4 s.tck.frame) (halfCode h) []) := by
  have hb' : halfBusy { s with cmd := c } = false := hb
  have hg' : (!(({ s with cmd := c } : State).health (otherHalf h) == Health.good)) = false := by
    show (!(s.health (otherHalf h) == Health.good)) = false
    simp [hg]
  rw [halfResetCmd_eq hl hn hi _ hh, if_neg (not_not.2 hz), hb', hg']
  rfl

theorem halfReset_plans (hr : Runs 0x7A rq s) (hlong : s.longRunning < 8) (ha : h = s.activeHalf) :
    ∃ t, exec (.halfReset rq) s = .next t ∧ Accepts 0x7A rq (zeros 3 ++ bytesLE 4 (exchangeTick s)) s t ∧ CmdFrame [.hlv] [] s t ∧
      t.hlv = { s.hlv with exchange := some ⟨exchangeTick s, some h, imageSlot s h (u8 rq.payload 1)⟩ } := by
  obtain ⟨c, hc, ho, hj, -⟩ := startCommand_eq 0x7A (!reqClassN 0x7A rq) rq s
  have hbody := halfResetCmd_accepts hl hn hi hh hz hb hg c
  rw [← hc, if_pos (beq_iff_eq.2 ha)] at hbody
  obtain ⟨h1, h2⟩ := runBody_accepts (parts := [.hlv]) (words := []) hr.2 hlong hbody (exchange_keeps _ c s) (KeepsRegs.refl _ s)
    ⟨[], by simp, by simp [ho]⟩ hj
  exact ⟨_, exec_halfReset hr, h1, h2, (runBody_accepted_rest hlong hbody).1 .hlv (by simp)⟩

end reset

/-- A HALF reset at a command (R288): the count of restarts is cleared, and the half starts anew. -/
def halfAnew (h : Half) (slot : Nat) (s : State) : State := resetHalf h slot (s.setF (ofHalf F.HLV_HEALTH_A_RESTARTS h) 0)

theorem halfAnew_ev (h : Half) (slot : Nat) (s : State) :
    EvIn [.snp, .hlv, .nvm, .lyr, .obj, .dia] (eventRegs ++ resetWords h) s (halfAnew h slot s) :=
  (EvIn.setF (x := ofHalf F.HLV_HEALTH_A_RESTARTS h) s 0 (by simp [ofHalf, Fld.at])).trans (resetHalf_ev h _ _)

/-- The fields outside the words of the half. -/
theorem halfAnew_f (slot : Nat) (s : State) {x : Fld} {h : Half} (hx : x.addr ∉ eventRegs ++ resetWords h) :
    (halfAnew h slot s).f x = s.f x := (halfAnew_ev h slot s).words.f hx

theorem halfAnew_restarts (h : Half) (slot : Nat) (s : State) : (halfAnew h slot s).f (ofHalf F.HLV_HEALTH_A_RESTARTS h) = 0 := by
  rw [halfAnew, resetHalf_f _ _ (ofHalf_ok (x := F.HLV_HEALTH_A_RESTARTS) (by decide)) (by cases h <;> decide) (by cases h <;> decide)
    (by cases h <;> decide) (by cases h <;> decide)]
  exact f_setF_same _ (ofHalf_ok (x := F.HLV_HEALTH_A_RESTARTS) (by decide)) (by cases h <;> decide)

theorem halfAnew_half (h : Half) (slot : Nat) (s : State) : (halfAnew h slot s).half h = { bootTime := s.time, served := s.time } :=
  resetHalf_half h slot _

theorem halfAnew_views (h : Half) (slot : Nat) (s : State) :
    (halfAnew h slot s).lyr = { s.lyr with statReset := true } ∧
      (halfAnew h slot s).obj = { s.obj with lastReset := true, rdReset := true } ∧
      (halfAnew h slot s).dia = { s.dia with readV := [], readI := [] } := resetHalf_views h slot _

theorem bootSlot_lt {n : Nat} (h : bootSlot s = some n) : n < 2 := by
  unfold bootSlot at h
  split at h <;> cases h
  · decide
  · decide
  · unfold highSlot
    split <;> decide

theorem imageSlot_lt {n : Nat} (h : Half) : imageSlot s h n < 2 := by
  have hf : s.f (ofHalf F.HLV_HEALTH_A_SLOT h) < 2 := f_lt s (ofHalf F.HLV_HEALTH_A_SLOT h)
  unfold imageSlot
  split
  · assumption
  · split
    · exact hf
    · cases hb : bootSlot s with
      | none => exact hf
      | some m => exact bootSlot_lt hb

section standby

variable {h : Half} (hl : rq.payload.length = 4) (hn : u8 rq.payload 0 ≤ 1) (hi : u8 rq.payload 1 ≤ 3) (hh : h = halfOf (u8 rq.payload 0))
  (hz : u16 rq.payload 2 = 0) (hb : halfBusy s = false) (hg : s.health (otherHalf h) = Health.good)
include hl hn hi hh hz hb hg

/-- A HALF_RESET of the standby half resets it at once (R294). -/
theorem halfReset_resets (hr : Runs 0x7A rq s) (hlong : s.longRunning < 8) (ha : h ≠ s.activeHalf) :
    ∃ c t, exec (.halfReset rq) s = .next t ∧ Accepts 0x7A rq (zeros 3 ++ bytesLE 4 s.tck.frame) s t ∧
      Keeps [.cmd, .regs] (halfAnew h (imageSlot s h (u8 rq.payload 1)) { s with cmd := c }) t ∧
      KeepsRegs replyRegs (halfAnew h (imageSlot s h (u8 rq.payload 1)) { s with cmd := c }) t ∧
      CmdFrame [.hlv, .snp, .nvm, .lyr, .obj, .dia] (eventRegs ++ resetWords h) s t := by
  obtain ⟨c, hc, ho, hj, -⟩ := startCommand_eq 0x7A (!reqClassN 0x7A rq) rq s
  have hbody := halfResetCmd_accepts hl hn hi hh hz hb hg c
  rw [← hc, if_neg (by simpa using ha)] at hbody
  have he : EvIn [.snp, .hlv, .nvm, .lyr, .obj, .dia] (eventRegs ++ resetWords h) (startCommand 0x7A (!reqClassN 0x7A rq) rq s)
      (resetHalf h (imageSlot s h (u8 rq.payload 1)) ((startCommand 0x7A (!reqClassN 0x7A rq) rq s).setF (ofHalf F.HLV_HEALTH_A_RESTARTS h) 0)) :=
    halfAnew_ev h _ _
  obtain ⟨evs, h1, h2⟩ := he.sends
  obtain ⟨k1, k2⟩ := runBody_accepted_rest hlong hbody
  obtain ⟨ha, hf⟩ := runBody_accepts (parts := [.hlv, .snp, .nvm, .lyr, .obj, .dia]) (words := eventRegs ++ resetWords h) hr.2 hlong hbody
    ((startCommand_keeps _ _ _ _ s).trans (he.keeps.mono (by decide)))
    (he.words.mono (List.subset_append_right _ _)) ⟨evs, h1, h2⟩ he.jobs
  rw [hc] at k1 k2
  exact ⟨c, _, exec_halfReset hr, ha, k1, k2, hf⟩

end standby

/-! ### HALF_EXCHANGE and the end of BOOT -/

section exchange

variable {h : Half} {x : Exchange}

/-- The exchange with the old active half reset (R288). -/
def exchangedAnew (h : Half) (slot : Nat) (s : State) : State :=
  resetHalf s.activeHalf slot (({ exchanged s with
    cmd.jobs := (exchanged s).cmd.jobs.map (Job.rekey 0x7A (2 + halfCode h) (halfCode h)) } : State).setF (ofHalf F.HLV_HEALTH_A_RESTARTS h) 0)

/-- What an exchange leaves of itself, whether it resets the old active half or ends a HALF_SWITCH. -/
structure AfterExchange (s t : State) : Prop where
  moves : Moves anyReply [.hlv, .nvm, .lyr, .obj, .dia] (0x20C4 :: 0x9030 :: halfRegs ++ [0x9008, 0x900C, 0x9010, 0x9014]) (exchanged s) t
  planned : t.hlv.exchange = none
  due : t.hlv.grazeDue = false

theorem afterExchange_finishOp (st : Nat) (body : List Byte) (s : State) :
    AfterExchange s (finishOp 0x79 st body (exchanged s)) := by
  have hm : Moves anyReply [] [0x20C4, 0x9030] (exchanged s) (finishOp 0x79 st body (exchanged s)) :=
    (Moves.refl _ _ _ _).finishOp (by simp) _ _ _ (.inl (by simp))
  have eh : (finishOp 0x79 st body (exchanged s)).hlv = (exchanged s).hlv := hm.keeps .hlv (by decide)
  exact ⟨hm.mono (by decide) (by decide), by rw [eh, exchanged_hlv], by rw [eh, exchanged_hlv]⟩

theorem afterExchange_anew (h : Half) (slot : Nat) (s : State) : AfterExchange s (exchangedAnew h slot s) := by
  have hw : (ofHalf F.HLV_HEALTH_A_RESTARTS h).addr ∈ 0x20C4 :: 0x9030 :: halfRegs ++ [0x9008, 0x900C, 0x9010, 0x9014] := by
    cases h <;> decide
  have hw' := List.mem_append_right eventRegs hw
  have hj : Moves anyReply [.hlv, .nvm, .lyr, .obj, .dia] (0x20C4 :: 0x9030 :: halfRegs ++ [0x9008, 0x900C, 0x9010, 0x9014]) (exchanged s)
      { exchanged s with cmd.jobs := (exchanged s).cmd.jobs.map (Job.rekey 0x7A (2 + halfCode h) (halfCode h)) } :=
    ⟨(Keeps.refl _ _).of_cur (by simp) _, KeepsRegs.refl _ _, SendsOf.refl _ _⟩
  have hr : ∀ u, Moves anyReply [.hlv, .nvm, .lyr, .obj, .dia] (0x20C4 :: 0x9030 :: halfRegs ++ [0x9008, 0x900C, 0x9010, 0x9014]) u
      (resetHalf s.activeHalf slot u) := fun u =>
    ((resetHalf_ev s.activeHalf slot u).moves (by simp)).mono (by decide) (by cases s.activeHalf <;> decide)
  have eh : (exchangedAnew h slot s).hlv = _ := resetHalf_hlv s.activeHalf slot _
  refine ⟨(hj.setF (x := ofHalf F.HLV_HEALTH_A_RESTARTS h) 0 hw').trans (hr _), ?_, ?_⟩ <;>
  · rw [eh]
    cases s.activeHalf <;> simp [setHalf, exchanged_hlv]

theorem AfterExchange.active (ha : AfterExchange s t) : t.activeHalf = s.standby := by
  rw [State.activeHalf, ha.moves.regs.f (by decide)]
  exact exchanged_active s

theorem AfterExchange.frame (ha : AfterExchange s t) : EvFrame [.hlv, .nvm, .lyr, .obj, .dia] (0x20C4 :: halfRegs ++ hlvRegs) s t :=
  ((((exchanged_ev s).moves (k := anyReply) (by simp)).mono (by decide) (by decide) :
    Moves anyReply [.hlv, .nvm, .lyr, .obj, .dia] (0x20C4 :: halfRegs ++ hlvRegs) s _).trans
      (ha.moves.mono (List.Subset.refl _) (by decide))).frame

theorem finishOp_sendsLast {op : Nat} {j : Job} (hj : s.job? op = some j) (hq : j.rq.quiet = false) (hr : j.replayed = false) {st : Nat}
    (hs : st ≠ St.doneReplayed) (body : List Byte) : SendsLast (replyOf op j.rq true st body j.seq) s (finishOp op st body s) := by
  have ho : j.op = op := by simpa using List.find?_some hj
  simp only [finishOp, hj]
  exact ho ▸ finishJob_sendsLast hq hr hs body s

/-- HALF_EXCHANGE at its tick (R287, R288). -/
theorem halfExchange_acts (hx : s.hlv.exchange = some x) (ht : x.tick = s.tck.frame) (he : s.executes = true)
    (hg : s.health s.standby = Health.good) :
    ∃ t, exec .halfExchange s = .next t ∧ AfterExchange s t ∧
      (x.resetHalf = none → t.health s.activeHalf = s.health s.activeHalf ∧ (∀ j, s.job? 0x79 = some j → j.rq.quiet = false → j.replayed = false →
        SendsLast (replyOf 0x79 j.rq true St.ok (halfSwitchBody t false s.tck.frame) j.seq) s t)) ∧
      (x.resetHalf = some s.activeHalf → t.health s.activeHalf = Health.boot ∧
        t.f (ofHalf F.HLV_HEALTH_A_SLOT s.activeHalf) = x.slot % 2) := by
  have hexec := exec_halfExchange hx ht he hg
  cases hr : x.resetHalf with
  | some h =>
    rw [hr] at hexec
    exact ⟨exchangedAnew h x.slot s, hexec, afterExchange_anew h x.slot s, fun e => (nomatch e),
      fun _ => ⟨resetHalf_health _ _ _, resetHalf_slot _ _ _⟩⟩
  | none =>
    rw [hr] at hexec
    have hm : Moves anyReply [] [0x20C4, 0x9030] (exchanged s)
        (finishOp 0x79 St.ok (halfSwitchBody (exchanged s) false (exchanged s).tck.frame) (exchanged s)) :=
      (Moves.refl _ _ _ _).finishOp (by simp) _ _ _ (.inl (by simp))
    refine ⟨_, hexec, afterExchange_finishOp _ _ s, fun _ => ⟨?_, fun j hj hq hrep => ?_⟩, fun e => (nomatch e)⟩
    · exact (hm.regs.f (by cases s.activeHalf <;> decide)).trans (exchanged_f s (by cases s.activeHalf <;> decide))
    · have hb : halfSwitchBody (finishOp 0x79 St.ok (halfSwitchBody (exchanged s) false (exchanged s).tck.frame) (exchanged s)) false
          s.tck.frame = halfSwitchBody (exchanged s) false (exchanged s).tck.frame := by
        have et : (exchanged s).tck = s.tck := (exchanged_ev s).keeps .tck (by decide)
        have ef := hm.regs.f (x := F.HLV_ROLE_ACTIVE) (by decide)
        rw [halfSwitchBody, ef, et, halfSwitchBody]
      have hj' : (exchanged s).job? 0x79 = some j := by rw [State.job?, (exchanged_ev s).jobs]; exact hj
      rw [hb]
      exact (finishOp_sendsLast hj' hq hrep (by decide) _).after (exchanged_ev s).sends

theorem exec_halfExchange_none (hx : s.hlv.exchange = none) : exec .halfExchange s = .next s := by
  have e : halfExchange s = s := by rw [halfExchange, hx]
  exact congrArg Host.Outcome.next e

/-- A half is read from the state of HLV. -/
theorem half_of_hlv (e : t.hlv = s.hlv) (h : Half) : t.half h = s.half h := by cases h <;> simp only [State.half, e]

theorem setHalf_active (h : Half) (x : HalfSt) (s : State) : (setHalf h x s).hlv.active = s.hlv.active := by cases h <;> rfl

theorem setHalf_ready (h : Half) (x : HalfSt) (s : State) : (setHalf h x s).hlv.ready = s.hlv.ready := by cases h <;> rfl

theorem halfRuns_half (h : Half) (s : State) : (halfRuns h s).half h = { s.half h with
    ram := some (s.f (ofHalf F.HLV_HEALTH_A_SLOT h)), image := ramImage s (s.f (ofHalf F.HLV_HEALTH_A_SLOT h)), served := s.time } :=
  (half_of_hlv (halfRuns_hlv h s) h).trans (half_setHalf h _ s)

/-- The half of a slot's image that is PROVING, before the check of R468. -/
theorem halfBooted_half (h : Half) (s : State) : (standsReady h (enterProving h (halfRuns h s))).half h = { s.half h with
    ram := some (s.f (ofHalf F.HLV_HEALTH_A_SLOT h)), image := ramImage s (s.f (ofHalf F.HLV_HEALTH_A_SLOT h)), served := s.time,
    slices := 0, matched := false } := by
  rw [standsReady_half, half_of_hlv (enterProving_hlv h _) h, half_setHalf, halfRuns_half]

theorem halfBooted_ready (h : Half) (s : State) : (standsReady h (enterProving h (halfRuns h s))).hlv.ready =
    if s.hlv.active then s.hlv.ready else s.hlv.ready ++ [h] := by
  have ea : (enterProving h (halfRuns h s)).hlv.active = s.hlv.active := by
    rw [enterProving_hlv, setHalf_active, halfRuns_hlv, setHalf_active]
  have er : (enterProving h (halfRuns h s)).hlv.ready = s.hlv.ready := by
    rw [enterProving_hlv, setHalf_ready, halfRuns_hlv, setHalf_ready]
  unfold standsReady
  rw [ea]
  split
  · exact er
  · exact congrArg (· ++ [h]) er

theorem halfBooted_f {y : Fld} (h : Half) (s : State) :
    (standsReady h (enterProving h (halfRuns h s))).f y = (enterProving h (halfRuns h s)).f y := by
  rw [State.f, State.reg, standsReady_keeps h _ .regs (by decide)]
  rfl

/-- What the check of R468 leaves of a half and of the words. -/
theorem bootDoneCheck_hlv (s : State) : (bootDoneCheck s).hlv = s.hlv := (bootDoneCheck_ev s).keeps .hlv (by decide)

theorem bootDoneCheck_f {y : Fld} (s : State) (hy : y.addr ∉ eventRegs) : (bootDoneCheck s).f y = s.f y := (bootDoneCheck_ev s).words.f hy

/-- BOOT ends with a good CRC (R267). -/
theorem halfBootDone_proves (hb : s.health h = Health.boot) (ho : s.off = false) :
    ∃ t, exec (.halfBootDone h true) s = .next t ∧ t.health h = Health.proving ∧ (t.half h).slices = 0 ∧
      (t.half h).matched = false ∧ (t.half h).ram = some (s.f (ofHalf F.HLV_HEALTH_A_SLOT h)) ∧ (t.half h).served = s.time ∧
      (t.half h).image = ramImage s (s.f (ofHalf F.HLV_HEALTH_A_SLOT h)) ∧
      t.f F.HLV_GRAZE_MATCH_RUN = 0 ∧ t.f F.HLV_GRAZE_MISMATCH_RUN = 0 ∧
      t.hlv.ready = (if s.hlv.active then s.hlv.ready else s.hlv.ready ++ [h]) ∧ EvFrame [.hlv, .sys] hlvRegs s t := by
  refine ⟨_, (exec_halfBootDone hb ho).1, ?_⟩
  obtain ⟨hm, hmm⟩ := enterProving_runs h (halfRuns h s)
  have hframe := (((halfBooted_ev h s).mono (p' := [.snp, .hlv, .sys]) (by decide) (List.Subset.refl _)).trans
    ((bootDoneCheck_ev _).mono (by decide) (by decide))).moves (k := anyReply) (by simp)
  have hr := halfBooted_ready h s
  have hh := halfBooted_half h s
  have hp := (halfBooted_f (y := ofHalf F.HLV_HEALTH_A_HEALTH h) h s).trans (enterProving_health h (halfRuns h s))
  rw [← halfBooted_f] at hm hmm
  generalize standsReady h (enterProving h (halfRuns h s)) = u at *
  rw [half_of_hlv (bootDoneCheck_hlv u) h, bootDoneCheck_hlv u, hr, hh]
  exact ⟨(bootDoneCheck_f u (by cases h <;> decide)).trans hp, rfl, rfl, rfl, rfl, rfl, (bootDoneCheck_f u (by decide)).trans hm,
    (bootDoneCheck_f u (by decide)).trans hmm, rfl, hframe.frame⟩

/-- BOOT fails, or takes more than 20 ms (R267, R269). -/
theorem halfBoot_fails (hb : s.health h = Health.boot) (ho : s.off = false) {c : Instr}
    (hc : c = .halfBootDone h false ∨ c = .halfBootTimeout h) :
    ∃ t, exec c s = .next t ∧ t.f (ofHalf F.HLV_HEALTH_A_LAST_CAUSE h) = 7 ∧
      t.health h = (if mayRestart s h then Health.boot else Health.failed) ∧
      (c = .halfBootTimeout h → t.time = max s.time ((s.half h).bootTime + 2000000)) ∧
      EvFrame (.time :: .hlv :: .sys :: .lyr :: .obj :: stopParts) (halfRegs ++ hlvRegs ++ stopWords) s t := by
  have main : ∀ n, ∃ t, t = bootDoneCheck (failHalf h 7 { s with time := n }) ∧ t.f (ofHalf F.HLV_HEALTH_A_LAST_CAUSE h) = 7 ∧
      t.health h = (if mayRestart s h then Health.boot else Health.failed) ∧ t.time = n ∧
      EvFrame (.time :: .hlv :: .sys :: .lyr :: .obj :: stopParts) (halfRegs ++ hlvRegs ++ stopWords) s t := by
    intro n
    have hd := bootDoneCheck_ev (failHalf h 7 { s with time := n })
    have hm := failHalf_moves h 7 { s with time := n }
    obtain ⟨h1, h2⟩ := failHalf_fields h (cause := 7) (by decide) { s with time := n }
    have ht : Moves anyReply (.time :: .hlv :: .sys :: .lyr :: .obj :: stopParts) (halfRegs ++ hlvRegs ++ stopWords) s { s with time := n } :=
      ⟨fun q hq => by cases q <;> first | rfl | exact absurd (by simp) hq, KeepsRegs.refl _ s, SendsOf.refl _ s⟩
    refine ⟨_, rfl, (hd.words.f (by cases h <;> decide)).trans h1, (hd.words.f (by cases h <;> decide)).trans h2,
      (hd.keeps .time (by decide)).trans (hm.keeps .time (by decide)),
      ((ht.trans (hm.mono (by decide) (List.Subset.refl _))).trans ((hd.mono (by decide) (by decide)).moves (by simp))).frame⟩
  obtain ⟨e1, e2⟩ := And.intro (exec_halfBootDone hb ho).2 (exec_halfBootTimeout hb ho)
  rcases hc with rfl | rfl
  · obtain ⟨t, ht, h1, h2, -, h4⟩ := main s.time
    exact ⟨t, by rw [e1, ht], h1, h2, fun e => (nomatch e), h4⟩
  · obtain ⟨t, ht, h1, h2, h3, h4⟩ := main (max s.time ((s.half h).bootTime + 2000000))
    exact ⟨t, by rw [e2, ht], h1, h2, fun _ => h3, h4⟩

end exchange

/-- Settles O53, from what each half command, the exchange and the end of BOOT do. -/
theorem halfCommandsAct : Obligations.HalfCommandsAct := by
  intro rq s
  refine ⟨halfStatus_answers, ?_, ?_, ?_, exec_halfExchange_none, fun h hb ho => ⟨halfBootDone_proves hb ho, fun c hc => halfBoot_fails hb ho hc⟩⟩
  · rintro n hr hl rfl hn
    exact ⟨halfSwitch_busy hr hl hn, fun hb h2 hh => halfSwitch_answers hr hl h2 hb hh,
      fun hb hh => ⟨halfSwitch_plans hr hl hn hb hh, halfSwitch_refuses hr hl hn hb hh⟩⟩
  · rintro n im h hr hl rfl hn hh rfl hi
    refine ⟨halfReset_badParam hl hn hi hh hr, fun hz => ⟨halfReset_busy hl hn hi hh hz hr, halfReset_refuses hl hn hi hh hz hr,
      fun hb hg hlong => ⟨?_, fun ha => ?_⟩⟩⟩
    · rintro ha k rfl
      exact halfReset_plans hl hn hi hh hz hb hg hr hlong ha
    · obtain ⟨c, t, he, hacc, hk, hw, hf⟩ := halfReset_resets hl hn hi hh hz hb hg hr hlong ha
      have hs : imageSlot s h (u8 rq.payload 1) % 2 = imageSlot s h (u8 rq.payload 1) := Nat.mod_eq_of_lt (imageSlot_lt h)
      obtain ⟨e1, e2, e3⟩ := halfAnew_views h (imageSlot s h (u8 rq.payload 1)) { s with cmd := c }
      have hn : ∀ m, (t.fwSlot m).staging = ((halfAnew h (imageSlot s h (u8 rq.payload 1)) { s with cmd := c }).fwSlot m).staging :=
        fun m => by simp only [State.fwSlot, show t.nvm = _ from hk .nvm (by decide)]
      refine ⟨t, he, hacc, (hw.f (by cases h <;> decide)).trans (resetHalf_health h _ _),
        (half_of_hlv (hk .hlv (by decide)) h).trans (halfAnew_half h _ _),
        fun a ha => (hw a (by revert a; decide)).trans (resetHalf_reg ha _ _), (hk .lyr (by decide)).trans e1, (hk .obj (by decide)).trans e2,
        (hk .dia (by decide)).trans e3, (hn _).trans (resetHalf_staging h _ _),
        ((hw.f (by cases h <;> decide)).trans (resetHalf_slot h _ _)).trans hs, (hw.f (by cases h <;> decide)).trans (halfAnew_restarts h _ _),
        (hw.f (by cases h <;> decide)).trans (halfAnew_f _ _ (by cases h <;> decide)), ?_, by rwa [← List.append_assoc] at hf⟩
      rw [State.activeHalf, hw.f (by decide), halfAnew_f _ _ (by cases h <;> decide)]
      rfl
  · intro x hx ht he hg
    obtain ⟨t, h1, ha, h2, h3⟩ := halfExchange_acts hx ht he hg
    obtain ⟨m1, m2, m3, m4⟩ := exchanged_marks s
    have hw := ha.moves.regs
    exact ⟨t, h1, ha.active, ha.planned, (hw.fb (by decide)).trans m1, (hw _ (by decide)).trans m2, (hw.f (by decide)).trans m3, h2, h3,
      ha.due, fun e => (hw.f (by decide)).trans (m4 e), ha.frame⟩

end commands
end Sys2Proof.Machine
end

section
/-! What of a state a tick, its events and its stops leave (R16, R45, R49); O31. -/

namespace Sys2Proof.Machine

set_option Elab.async false

/-! ### What a stop, an event and a test leave -/

/-- What decides the instant and the number of the tick that comes, and the image it swaps in. -/
structure BeforeTick where
  tck : TckSt
  words : Word × Word × Word
  comp : ImgInfo
  mapComp : List Nat

/-- What of a state only the clock, the sets, the swap and the image that starts move. -/
structure TickView where
  before : Option BeforeTick
  pending : List Instr
  latch : List (Nat × Word)
  chk : Vector ChkEng 4
  rng : RngSt
  dn : List Byte
  spiOut : List Byte
  store : Mem 8
  slots : List (Nat × ObjSlot)
  off : Bool
  vsupMv : Nat
  vsupAt : Nat
  time : Nat
  frame : Nat
  tickTime : Nat
  exact : Rat
  pull : Rat
  row : Nat
  running : Bool
  started : Bool
  act : CfgSet
  sets : List Sampled
  dirty : List Nat
  mofs : Int
  shownWord : Word
  front : Mem 16
  back : Mem 16
  shown : ImgInfo
  mapShown : List Nat
  rows : Nat
  begun : Bool
  written : Bool
  sig : Nat

/-- The view of a state, with what only the time before the clock has moved needs (`b`). -/
def tickView (b : Bool) (s : State) : TickView where
  before := if b then some ⟨s.tck, (s.reg 0x10, s.reg 0x304C, s.reg 0xC050), s.drv.comp, s.dia.mapComp⟩ else none
  pending := s.pending
  latch := s.latch
  chk := s.chk
  rng := s.rng
  dn := s.dn
  spiOut := s.spiOut
  store := s.lyr.store
  slots := s.obj.slots
  off := s.off
  vsupMv := s.pwr.vsupMv
  vsupAt := s.pwr.vsupAt
  time := s.time
  frame := s.tck.frame
  tickTime := s.tck.tickTime
  exact := s.tck.exact
  pull := s.tck.pull
  row := s.tck.row
  running := s.tck.running
  started := s.tck.started
  act := s.tck.act
  sets := s.tck.sets
  dirty := s.tck.dirty
  mofs := s.tck.mofs
  shownWord := s.reg 0x6010
  front := s.drv.front
  back := s.drv.back
  shown := s.drv.shown
  mapShown := s.dia.mapShown
  rows := s.drv.rows
  begun := s.drv.begun
  written := s.drv.written
  sig := s.drv.sig

/-- The words that stand in the view. -/
abbrev viewWords : List Nat := [0x10, 0x304C, 0xC050, 0x6010]

/-- The parts of which something stands in the view. -/
abbrev viewParts : List Part := [.pending, .latch, .chk, .rng, .dn, .spiOut, .lyr, .obj, .sys, .pwr, .time, .tck, .drv, .dia]

/-- A state has this view. -/
def Shows (b : Bool) (v : TickView) (s : State) : Prop := tickView b s = v

namespace Shows

variable {b : Bool} {v : TickView} {s t u : State}

theorem same (h : Shows b v s) (e : tickView b t = tickView b s := by rfl) : Shows b v t := e.trans h

theorem ite {c : Prop} [Decidable c] (ht : Shows b v t) (hu : Shows b v u) : Shows b v (if c then t else u) := by
  split
  · exact ht
  · exact hu

theorem foldl {α : Type} {l : List α} {f : State → α → State} (h : Shows b v s)
    (hf : ∀ t x, Shows b v t → Shows b v (f t x)) : Shows b v (l.foldl f s) := by
  induction l generalizing s with
  | nil => exact h
  | cons x l ih => exact ih (hf s x h)

theorem setReg {a : Nat} {w : Word} (h : Shows b v s) (ha : a ∉ viewWords := by decide) : Shows b v (s.setReg a w) := by
  simp only [viewWords, List.mem_cons, List.not_mem_nil, or_false, not_or] at ha
  obtain ⟨h1, h2, h3, h4⟩ := ha
  refine h.same ?_
  simp only [tickView, reg_setReg_other s w (Ne.symm h1), reg_setReg_other s w (Ne.symm h2), reg_setReg_other s w (Ne.symm h3),
    reg_setReg_other s w (Ne.symm h4)]
  rfl

theorem setF {x : Fld} {n : Nat} (h : Shows b v s) (hx : x.addr ∉ viewWords := by decide) : Shows b v (s.setF x n) := h.setReg hx

theorem setB {x : Fld} {n : Bool} (h : Shows b v s) (hx : x.addr ∉ viewWords := by decide) : Shows b v (s.setB x n) := h.setF hx

theorem addF {x : Fld} {n : Nat} (h : Shows b v s) (hx : x.addr ∉ viewWords := by decide) : Shows b v (s.addF x n) := h.setF hx

theorem bump {x : Fld} (h : Shows b v s) (hx : x.addr ∉ viewWords := by decide) : Shows b v (s.bump x) := h.addF hx

/-- What keeps the parts and the words of the view keeps it. -/
theorem of_keeps {l : List Part} {w : List Nat} (h : Shows b v s) (hk : Keeps l s t) (hw : KeepsRegs w s t)
    (hl : ∀ p ∈ viewParts, p ∉ l) (ha : ∀ a ∈ viewWords, a ∉ w) : Shows b v t := by
  have e : ∀ p ∈ viewParts, p.same s t := fun p hp => hk p (hl p hp)
  have er : ∀ a ∈ viewWords, t.reg a = s.reg a := fun a hm => hw a (ha a hm)
  simp only [viewParts, viewWords, List.forall_mem_cons, List.not_mem_nil, false_implies, implies_true, and_true, Part.same] at e er
  obtain ⟨e1, e2, e3, e4, e5, e6, e7, e8, e9, e10, e11, e12, e13, e14⟩ := e
  obtain ⟨r1, r2, r3, r4⟩ := er
  refine h.same ?_
  simp only [tickView, State.off, e1, e2, e3, e4, e5, e6, e7, e8, e9, e10, e11, e12, e13, e14, r1, r2, r3, r4]

/-- Once the clock has moved, only the word of DRV_IPRED stands in the view. -/
theorem setReg_late {a : Nat} {w : Word} (h : Shows false v s) (ha : a ≠ 0x6010 := by decide) : Shows false v (s.setReg a w) := by
  refine h.same ?_
  simp only [tickView, reg_setReg_other s w (Ne.symm ha)]
  rfl

theorem setF_late {x : Fld} {n : Nat} (h : Shows false v s) (hx : x.addr ≠ 0x6010 := by decide) : Shows false v (s.setF x n) :=
  h.setReg_late hx

theorem raise {code : Nat} {data : List Byte} (h : Shows b v s) : Shows b v (s.raise code data) :=
  h.of_keeps (raise_ev s code data).keeps (raise_ev s code data).words (by decide) (by decide)

theorem takeSnap {src id srcId : Nat} (h : Shows b v s) : Shows b v (takeSnap src id srcId s) :=
  h.of_keeps (takeSnap_ev src id srcId s).keeps (takeSnap_ev src id srcId s).words (by decide) (by decide)

theorem finishJob {j : Job} {st : Nat} {body : List Byte} (h : Shows b v s) : Shows b v (finishJob j st body s) := by
  have hm := (Moves.refl anyReply [] [0x20C4, 0x9030] s).finishJob (by simp) j st body (.inl (by simp))
  exact h.of_keeps hm.keeps hm.regs (by decide) (by decide)

theorem setHealth {g : Half} {n : Nat} (h : Shows b v s) : Shows b v (setHealth g n s) :=
  h.of_keeps (setHealth_ev g n s).keeps (setHealth_ev g n s).words (by decide) (by cases g <;> decide)

theorem skipImage {c : Bool} (h : Shows b v s) : Shows b v (skipImage c s) :=
  h.of_keeps (skipImage_ev c s).keeps (skipImage_ev c s).words (by decide) (by decide)

theorem bootDoneCheck (h : Shows b v s) : Shows b v (bootDoneCheck s) := .ite h h.same.raise

theorem putLayer {n : Nat} {l : VLayer} (h : Shows b v s) : Shows b v (putLayer n l s) := h.same

theorem nvmPush {owner : Option Nat} {ks : List NvmKind} (h : Shows b v s) : Shows b v (nvmPush owner ks s) := h.same

theorem drvLatch (h : Shows b v s) : Shows b v (drvLatch s) := .ite h.same.setF h.same

/-- A HALF reset. -/
theorem resetHalf {g : Half} {slot : Nat} (h : Shows b v s) : Shows b v (resetHalf g slot s) := by
  have he := resetHalf_ev g slot s
  obtain ⟨h1, h2, h3⟩ := resetHalf_views g slot s
  have e : ∀ a ∈ viewWords, (Machine.resetHalf g slot s).reg a = s.reg a := fun a ha => he.words a (by revert a; cases g <;> decide)
  have k : ∀ q ∈ viewParts, q ∉ [Part.cmd, .regs, .snp, .hlv, .nvm, .lyr, .obj, .dia] → q.same s (Machine.resetHalf g slot s) :=
    fun q _ hq => he.keeps q hq
  refine h.same ?_
  simp only [tickView, State.off, h1, h2, h3, e 0x10 (by decide), e 0x304C (by decide), e 0xC050 (by decide), e 0x6010 (by decide),
    show _ = s.pending from k .pending (by decide) (by decide), show _ = s.latch from k .latch (by decide) (by decide),
    show _ = s.chk from k .chk (by decide) (by decide), show _ = s.rng from k .rng (by decide) (by decide),
    show _ = s.dn from k .dn (by decide) (by decide), show _ = s.spiOut from k .spiOut (by decide) (by decide),
    show _ = s.sys from k .sys (by decide) (by decide), show _ = s.pwr from k .pwr (by decide) (by decide),
    show _ = s.time from k .time (by decide) (by decide), show _ = s.tck from k .tck (by decide) (by decide),
    show _ = s.drv from k .drv (by decide) (by decide)]

theorem frameEvents (hs : Shows b v s) : Shows b v (frameEvents s) := by
  unfold Machine.frameEvents
  dsimp only
  split
  · split
    · exact (Shows.ite hs hs.raise).same
    · exact (Shows.ite hs.raise hs.raise.raise).same
  · split
    · exact (Shows.ite hs.raise hs.raise.raise).same
    · exact (Shows.ite hs.raise.raise hs.raise.raise.raise).same

theorem newFrame (hs : Shows b v s) : Shows b v (newFrame s) := hs.same

theorem driftEnds {p : Nat} (hs : Shows b v s) : Shows b v (driftEnds p s) := hs.same

theorem clearSuspect {i : Nat} (hs : Shows b v s) : Shows b v (clearSuspect i s) := hs.same.bump

theorem addEntry {e : FaultEntry} (hs : Shows b v s) : Shows b v (addEntry e s) := by
  unfold Machine.addEntry
  dsimp only
  split
  · exact hs.same
  · exact .ite hs.same.bump hs

theorem driftResult {p test reading : Nat} (hs : Shows b v s) : Shows b v (driftResult p test reading s) := by
  unfold Machine.driftResult
  dsimp only
  split
  · exact hs
  · split
    · exact hs.same.setB.addEntry
    · exact hs.same

theorem askSave {owner : Option Nat} (hs : Shows b v s) : Shows b v (askSave owner s) := hs.same

theorem mapAdd {ps : List Nat} (hs : Shows b v s) :
    Shows b v (mapAdd ps s) := .ite hs (.ite hs.same.setF.askSave hs.same.setF)

theorem confirmAt {pos : Option Nat} {e : FaultEntry} (hs : Shows b v s) :
    Shows b v (confirmAt pos e s) := hs.same.setF.setF.setF.setReg.setB.mapAdd

theorem confirmFault {i : Nat} {e : FaultEntry} (hs : Shows b v s) : Shows b v (confirmFault i e s) := hs.confirmAt

theorem newSuspect {p cls test nb reading : Nat} (hs : Shows b v s) :
    Shows b v (newSuspect p cls test nb reading s) := hs.same.addEntry

theorem decidePixel {p res test reading : Nat} (hs : Shows b v s) : Shows b v (decidePixel p res test reading s) := by
  unfold Machine.decidePixel
  dsimp only
  split
  · exact .ite hs.same.clearSuspect.driftEnds (.ite hs.same.clearSuspect.driftResult hs.same.driftEnds.confirmFault)
  · exact .ite hs.same.driftEnds (.ite hs.same.driftResult hs.same.driftEnds.newSuspect)

theorem settleTests (hs : Shows b v s) : Shows b v (settleTests s) := hs.same.foldl fun _ _ ht => ht.decidePixel

theorem clearCounts (hs : Shows b v s) : Shows b v (clearCounts s) := hs.same

theorem finishReport {st : Nat} {body : List Byte} (hs : Shows b v s) :
    Shows b v (finishReport st body s) := hs.foldl fun _ _ ht => ht.finishJob

theorem sweepAdvance (hs : Shows b v s) :
    Shows b v (sweepAdvance s) :=
  .ite hs (.ite hs.settleTests.newFrame.setF.setF.finishReport.clearCounts hs.settleTests.newFrame.setF)

theorem cutSlots (hs : Shows b v s) : Shows b v (cutSlots s) := .ite hs.addF hs

theorem sourceOff {src : Nat} (hs : Shows b v s) : Shows b v (sourceOff src s) := hs.same

theorem finishOp {op st : Nat} {body : List Byte} (hs : Shows b v s) : Shows b v (finishOp op st body s) := by
  unfold Machine.finishOp
  split
  · exact hs.finishJob
  · exact hs

theorem staleEvent {old new : ObjSample} (hs : Shows b v s) : Shows b v (staleEvent old new s) := by
  unfold Machine.staleEvent
  dsimp only
  split
  · exact hs
  · exact hs.setB.raise

theorem objTick (hs : Shows b v s) : Shows b v (objTick s) := .ite hs hs.same.staleEvent

theorem scanBufs (hs : Shows b v s) : Shows b v (scanBufs s) := hs.same

theorem notReady {bit layer d : Nat} (hs : Shows b v s) : Shows b v (notReady bit layer d s) := hs.setF.raise

theorem baseTick {due : List Sampled} (hs : Shows b v s) :
    Shows b v (baseTick due s) := .ite hs.setF.setB (.ite hs.setF.setB (.ite hs.setB hs.setB.notReady))

theorem layerTick {due : List Sampled} {n : Nat} (hs : Shows b v s) : Shows b v (layerTick due s n) := by
  unfold Machine.layerTick
  exact .ite hs.putLayer (.ite hs.putLayer (.ite hs.putLayer hs.putLayer.notReady))

theorem setBuf {d : Nat} {x : BufDesc} (hs : Shows b v s) : Shows b v (setBuf d x s) := hs.same

theorem retire (hs : Shows b v s) :
    Shows b v (retire s) := hs.foldl fun _ _ ht => .ite (.ite ht.setBuf.raise ht.setBuf) ht

theorem animTick {due : List Sampled} {g : Nat} (hs : Shows b v s) : Shows b v (animTick due s g) := hs.same

theorem toneTick (hs : Shows b v s) : Shows b v (toneTick s) := by
  unfold Machine.toneTick
  dsimp only
  split
  · exact hs
  · exact hs.same.setF

theorem lyrTick {due : List Sampled} (hs : Shows b v s) : Shows b v (lyrTick due s) := by
  unfold Machine.lyrTick
  extract_lets s1 s2
  have h1 : Shows b v s1 := (hs.retire.foldl fun _ _ ht => ht.layerTick).baseTick.scanBufs
  clear_value s1
  have h2 : Shows b v s2 := h1.foldl fun _ _ ht => ht.animTick
  clear_value s2
  exact .toneTick h2.same

theorem safTick (hs : Shows b v s) : Shows b v (safTick s) := by
  unfold Machine.safTick
  have h1 : Shows b v (if s.saf.fbSelect then s.setB F.SAF_STATE_FB_SRC true else if s.saf.fbRelease then s.setB F.SAF_STATE_FB_SRC false
      else s) := .ite hs.setB (.ite hs.setB hs)
  exact .ite h1.same.same h1.same

theorem leaveHold (hs : Shows b v s) : Shows b v (leaveHold s) := .ite hs.same hs.same

theorem holdTick {wordErr : Option Nat} (hs : Shows b v s) : Shows b v (holdTick wordErr s) := by
  unfold Machine.holdTick
  dsimp only
  split
  · exact hs
  · split
    · split
      · exact hs.same.setB.raise.leaveHold
      · exact hs.same.leaveHold
    · split
      · exact hs.same.setB.raise
      · exact hs.same

theorem dTick (hs : Shows b v s) : Shows b v (dTick s) := hs.setF.setF.setF

theorem supplyTick {mv : Nat} (hs : Shows b v s) :
    Shows b v (supplyTick mv s) := .ite hs.same.setF.setF (.ite hs.same.setF.setF.setB hs.same.setF.setF.setB.raise)

theorem govLimit {swapped : Bool} {gpOld gp : Nat} (hs : Shows b v s) : Shows b v (govLimit swapped gpOld gp s) := by
  unfold Machine.govLimit
  extract_lets _ _ _ _ _ s1 s2
  have h2 : Shows b v s2 := .ite hs.same.setB hs.same
  exact .ite h2.raise h2

theorem currentRefUpdate (hs : Shows b v s) : Shows b v (currentRefUpdate s) := by
  unfold Machine.currentRefUpdate
  dsimp only
  split
  · exact hs
  · exact hs.setF

theorem throttleNow (hs : Shows b v s) : Shows b v (throttleNow s) := by
  unfold Machine.throttleNow
  split
  extract_lets _ _ _ s1 s2
  have h1 : Shows b v s1 := hs.setF.setF.setB
  have h2 : Shows b v s2 := .ite h1.setB h1
  exact .ite h2 h2.raise

theorem bandInForce (hs : Shows b v s) : Shows b v (bandInForce s) := .ite hs hs.setF.setB.raise

theorem thmTick (hs : Shows b v s) : Shows b v (thmTick s) := hs.bandInForce.throttleNow

theorem restartSweep (hs : Shows b v s) : Shows b v (restartSweep s) := by
  have h1 : Shows b v (s.setF F.DIA_SWEEP_FRAME 0) := hs.setF
  exact h1.same

theorem testGate {swapped : Bool} (hs : Shows b v s) : Shows b v (testGate swapped s) := by
  unfold Machine.testGate
  extract_lets s1 _ _ _ _ _ s3 s4 s5
  have h3 : Shows b v s3 := (Shows.ite hs.restartSweep hs : Shows b v s1).same
  have h4 : Shows b v s4 := .ite h3 h3.raise
  have h5 : Shows b v s5 := .ite h4.finishReport h4
  clear_value s5
  exact h5.same

theorem switchesAtTick {swapped : Bool} (hs : Shows b v s) : Shows b v (switchesAtTick swapped s) := by
  unfold Machine.switchesAtTick
  dsimp only
  split
  · exact hs.same
  · exact hs.same.setB.raise

theorem grazeTick {composed : Bool} (hs : Shows b v s) : Shows b v (grazeTick composed s) := by
  have h1 : Shows b v (Machine.skipImage (composed && !s.grazing) (Machine.skipImage s.hlv.grazeDue s)) := hs.skipImage.skipImage
  exact h1.same

theorem heldTick {own fb : Bool} (hs : Shows b v s) :
    Shows b v (heldTick own fb s) := .ite hs (.ite hs.same.raise (.ite hs hs.bump))

theorem finishAll {op key st : Nat} {body : List Byte} (hs : Shows b v s) :
    Shows b v (finishAll op key st body s) := hs.foldl fun _ _ ht => ht.finishJob

theorem endHalfReset {h : Half} {key st : Nat} (hs : Shows b v s) :
    Shows b v (endHalfReset h key st s) := .ite hs hs.finishAll

theorem enterGood {h : Half} (hs : Shows b v s) :
    Shows b v (enterGood h s) := .ite hs.setHealth.endHalfReset.setB.setF.sourceOff hs.setHealth.endHalfReset

theorem becomeActive {h : Half} (hs : Shows b v s) : Shows b v (becomeActive h s) := by
  unfold Machine.becomeActive
  extract_lets _ s1 s2
  have h2 : Shows b v s2 := (hs.same : Shows b v s1).enterGood.sourceOff
  exact .ite h2 (.ite h2.setF (by unfold changeActive; exact h2.setF.bump.setB.setReg))

theorem activeTick (hs : Shows b v s) : Shows b v (activeTick s) := by
  unfold Machine.activeTick
  extract_lets s1
  have h1 : Shows b v s1 := .ite hs.setB hs
  split
  · exact h1.becomeActive
  · exact h1

theorem dropImages (hs : Shows false v s) : Shows false v (dropImages s) := by
  have h1 : Shows false v (Machine.skipImage s.hlv.grazeDue (Machine.skipImage (!s.drv.comp.rowIn.isEmpty) s)) := hs.skipImage.skipImage
  exact h1.same

theorem stopBistRun (hs : Shows b v s) : Shows b v (stopBistRun s) := .ite hs.same hs

theorem autoRestart {h : Half} (hs : Shows b v s) : Shows b v (autoRestart h s) :=
  (hs.bump (x := ofHalf F.HLV_HEALTH_A_RESTARTS h) (by cases h <;> decide)).resetHalf

theorem stampStop {cls src : Nat} (hs : Shows b v s) : Shows b v (stampStop cls src s) := by
  unfold Machine.stampStop
  exact hs.setF.setF.setReg.setReg.setReg.raise

theorem vledOff (hs : Shows b v s) : Shows b v (vledOff s) := (hs.setB (x := F.SAF_STATE_VLED_EN)).same

theorem lampClock {new : Nat} (hs : Shows b v s) : Shows b v (lampClock new s) := .ite hs (.ite hs.same hs.same)

theorem bistDone {r : BistRec} {st : Nat} (hs : Shows b v s) : Shows b v (bistDone r st s) := hs.raise

theorem endWaiting {st : Nat} {t : BistRec} (hs : Shows b v s) :
    Shows b v (endWaiting st t s) := hs.same.bistDone.finishOp

theorem abortBist (hs : Shows b v s) : Shows b v (abortBist s) := by
  unfold Machine.abortBist
  dsimp only
  split
  · exact .ite hs (.ite hs.endWaiting hs.same)
  · exact hs

theorem clearElapsed (hs : Shows b v s) : Shows b v (clearElapsed s) := hs.same

theorem pauseTests {cause : Nat} (hs : Shows b v s) :
    Shows b v (pauseTests cause s) := .ite (.ite hs.same.raise hs) (Shows.ite hs.same.raise hs).finishReport

theorem endCal {st : Nat} (hs : Shows b v s) : Shows b v (endCal st s) := by
  unfold Machine.endCal
  dsimp only
  split
  · exact hs
  · split
    · exact hs.same.finishJob
    · exact hs.same

theorem abortCal (hs : Shows b v s) : Shows b v (abortCal s) := hs.endCal

theorem lampEnds {new : Nat} (hs : Shows b v s) : Shows b v (lampEnds new s) := .ite hs.abortCal.pauseTests hs

theorem setLamp {new : Nat} (hs : Shows b v s) :
    Shows b v (setLamp new s) := .ite hs.lampClock hs.lampClock.setF.raise.lampEnds.leaveHold.clearElapsed.abortBist

theorem removeLight (hs : Shows b v s) : Shows b v (removeLight s) := hs.vledOff.same.setB.setLamp

theorem class0 {src : Nat} (hs : Shows b v s) : Shows b v (class0 src s) := hs.removeLight.stampStop

theorem beginClass1 {src dur : Nat} (hs : Shows b v s) :
    Shows b v (beginClass1 src dur s) := hs.same.setF.setLamp.stampStop

theorem beginClass2 {src : Nat} (hs : Shows b v s) : Shows b v (beginClass2 src s) := hs.same.setF.setLamp.stampStop

theorem requestStopDur {cls src dur : Nat} (hs : Shows b v s) : Shows b v (requestStopDur cls src dur s) := by
  unfold Machine.requestStopDur
  dsimp only
  split
  · exact hs.setReg.raise
  · split
    · split
      · exact hs.setReg.leaveHold.class0
      · exact hs.setReg.leaveHold.beginClass1
      · exact .ite hs.setReg.leaveHold.beginClass2 hs.setReg.leaveHold.beginClass1
    · split
      · split
        · exact hs.setReg.leaveHold.class0
        · exact .ite hs.setReg.leaveHold hs.setReg.leaveHold.beginClass1
        · exact hs.setReg.leaveHold
      · split
        · split
          · exact hs.setReg.leaveHold.class0
          · exact hs.setReg.leaveHold.beginClass1
          · exact hs.setReg.leaveHold
        · exact hs.setReg.leaveHold

theorem requestStop {cls src : Nat} (hs : Shows b v s) : Shows b v (requestStop cls src s) := hs.requestStopDur

theorem activate {src : Nat} (hs : Shows b v s) : Shows b v (activate src s) := hs.same

theorem raiseSource {src : Nat} (hs : Shows b v s) : Shows b v (raiseSource src s) := hs.activate.requestStop

theorem noHalf (hs : Shows b v s) : Shows b v (noHalf s) := hs.same.finishOp.raiseSource

theorem abdicate {cause : Nat} (hs : Shows false v s) : Shows false v (abdicate cause s) := by
  have noExchange : ∀ t : State, Shows false v t → Shows false v { t with hlv.exchange := none } := fun _ h => h.same
  have handsOver : ∀ t : State, ∀ x : Abdicated, Shows false v t → Shows false v
      { t with hlv.quick := none, hlv.showNew := true, hlv.abdicated := some x } := fun _ _ h => h.same
  have noLimit : ∀ t : State, Shows false v t → Shows false v { t with hlv.limit := false } := fun _ h => h.same
  unfold Machine.abdicate
  extract_lets h other ready s1 _ s2 at_ _ _ s3 _ s4 s5
  have h0 : Shows false v (((s.raise 0x90 (q4 (halfCode h) ++ q4 cause ++ q4 s.tck.row)).setB F.HLV_STATUS_ABDICATED true).bump
      F.HLV_SW_CNT_ABDICATE_CNT) := hs.raise.setB.bump
  have h1 : Shows false v s1 := h0.setF (by cases h <;> decide)
  have h2 : Shows false v s2 := by
    unfold s2
    split
    · exact (noExchange _ h1).endHalfReset
    · exact noExchange _ h1
  have h3 : Shows false v s3 := handsOver _ _ h2.stopBistRun.dropImages
  have h4 : Shows false v s4 := .setB (.ite h3 (noLimit _ h3).setF)
  have h5 : Shows false v s5 := .ite h4.autoRestart h4.setHealth
  exact .ite hs (.ite h5 h5.noHalf)

theorem cancelExchange (hs : Shows b v s) : Shows b v (cancelExchange s) := by
  unfold Machine.cancelExchange
  dsimp only
  split
  · exact hs
  · split
    · exact hs.same.endHalfReset
    · exact hs.same.finishOp

theorem failHalf {h : Half} {cause : Nat} (hs : Shows b v s) : Shows b v (failHalf h cause s) := by
  unfold Machine.failHalf
  extract_lets _ _ s2 s3
  have h1 : Shows b v (s.setF (ofHalf F.HLV_HEALTH_A_LAST_CAUSE h) cause) := hs.setF (by cases h <;> decide)
  have h2 : Shows b v s2 := h1.setHealth.same.endHalfReset.cancelExchange
  have h3 : Shows b v s3 := .ite h2.autoRestart h2
  exact .ite h3.noHalf (.ite h3.raiseSource h3)

theorem diverge (hs : Shows b v s) : Shows b v (diverge s) := hs.setB.setB.raise.raiseSource.cancelExchange

theorem quickOutcome (hs : Shows false v s) : Shows false v (quickOutcome s) := by
  unfold Machine.quickOutcome
  split
  · extract_lets _ s1
    have h1 : Shows false v s1 := hs.same
    refine .ite h1 (.ite (.ite h1.failHalf.abdicate (.ite h1.abdicate.same h1.abdicate)) ?_)
    exact .ite h1.failHalf (.ite h1.diverge (.ite h1.failHalf h1))
  · exact hs

theorem ceilingTick {viol : Option (Nat × Nat)} {fb : Bool} (hs : Shows b v s) :
    Shows b v (ceilingTick viol fb s) := by
  unfold Machine.ceilingTick
  dsimp only
  split
  · exact hs.sourceOff
  · exact hs.bump.setF.setF.raise.activate.requestStop

theorem quickRecTick {swapped : Bool} (hs : Shows b v s) : Shows b v (quickRecTick swapped s) := by
  unfold Machine.quickRecTick
  split
  · exact .ite (Shows.nvmPush hs.same) hs
  · exact hs

end Shows
end Sys2Proof.Machine
end

section
namespace Sys2Proof.Machine

set_option Elab.async false

section

variable {b : Bool} {v : TickView} {s t : State}

/-! ### Up to the clock -/

/-- What a tick does before the clock moves (R61, R196, R209, R214). -/
def beforeClock (s : State) : State :=
  frameEvents (sweepAdvance (cutSlots (if s.tck.started && herdSampleDue s then herdSample s else s)))

/-- The instant, the number and the HERDs with SNAP of the tick that comes follow from the view. -/
theorem tickInstant_of_view (h : Shows true (tickView true s) t) : tickInstant t = tickInstant s ∧ tickNumber t = tickNumber s ∧
    snapsDue t = snapsDue s := by
  have hb := congrArg TickView.before h
  have ht : t.time = s.time := congrArg TickView.time h
  simp only [tickView, if_true, Option.some.injEq, BeforeTick.mk.injEq, Prod.mk.injEq] at hb
  obtain ⟨e, ⟨e1, e2, e3⟩, -, -⟩ := hb
  have f1 : t.f F.SYS_BOOT_QUICK_WHY = s.f F.SYS_BOOT_QUICK_WHY := congrArg (fieldOf · _ _) e1
  have f2 : t.trim = s.trim := congrArg (fun w => signedOf 24 (fieldOf w _ _)) e2
  have f3 : t.onFrc = s.onFrc := congrArg (fun w => fieldOf w _ _ == 1) e3
  have ep : t.periodAct = s.periodAct := by simp only [State.periodAct, State.rate, State.a, e, f2, f3]; rfl
  have en : tickNumber t = tickNumber s := by simp only [tickNumber, State.tickNo, e]
  refine ⟨?_, en, ?_⟩
  · simp only [tickInstant, firstTick, tickCorr, alignCorr, State.nextExact, State.periodLen, e, ep, ht, f1]
  · simp only [snapsDue, e, en]

/-! ### The clock, the swap and the sets -/

namespace Shows

theorem alignDone {asked : Rat} (hs : Shows false v s) : Shows false v (alignDone asked s) := by
  unfold Machine.alignDone
  dsimp only
  split
  · exact .ite hs.same hs.same.setB.raise
  · exact hs.same
  · exact hs

/-- The clock moves (R45, R49). -/
theorem tickClock (hs : Shows false v s) : Shows false { v with
    time := (tickInstant s).floor.toNat, tickTime := (tickInstant s).floor.toNat, exact := tickInstant s, frame := tickNumber s,
    row := 0, started := true, running := true, pull := 0 } (tickClock s) := by
  subst hs
  unfold Machine.tickClock
  extract_lets e t first _ _ s1
  split
  · next hf =>
    have ho : s.off = (s.pwr.state == .sleep) := by
      simp only [first, Bool.and_eq_true, beq_iff_eq] at hf
      simp [State.off, hf.1]
    have h1 : Shows false (tickView false s1) (s1.setF F.SYS_BOOT_LIGHT_READY (min 65535 (t / 1000))) := setF_late rfl
    show ({ tickView false (s1.setF F.SYS_BOOT_LIGHT_READY (min 65535 (t / 1000))) with off := s.pwr.state == .sleep } : TickView) = _
    rw [h1, ← ho]
    rfl
  · rfl

theorem flipLatch {w : FlipWait} (hs : Shows false v s) : Shows false v (flipLatch w s) := by
  unfold Machine.flipLatch
  extract_lets s1 _ s2 _
  have h1 : Shows false v s1 := hs.setF.setF.setF
  have h2 : Shows false v s2 := h1.same
  exact .ite h2.same h2

theorem flipAt {swapped : Bool} (hs : Shows false v s) : Shows false v (flipAt swapped s) := by
  unfold Machine.flipAt
  split
  · exact .ite hs.flipLatch hs
  · exact hs

theorem herdApplied (hs : Shows false v s) : Shows false v (herdApplied s) := by
  unfold Machine.herdApplied
  split
  · exact .ite (hs.same.setF (s := { s with tck.herd := none })) hs
  · exact hs

theorem rateBreak {oldRate : Nat} (hs : Shows false v s) : Shows false v (rateBreak oldRate s) := by
  unfold Machine.rateBreak
  extract_lets _ s1
  have h1 : Shows false v s1 := hs.same
  exact .ite hs (.ite h1.setB.setB.raise h1)

/-- C(k) is applied (R16, R56). -/
theorem applySets (hs : Shows false v s) : Shows false { v with
    act := s.tck.act.putAt s.tck.sets s.tck.frame, sets := s.tck.sets.filter (fun x => !(x.applyAt == s.tck.frame)) } (applySets s) := by
  subst hs
  unfold Machine.applySets
  exact .herdApplied (.rateBreak rfl)

theorem srcAct (hs : Shows false v s) : Shows false v (srcAct s) := by
  unfold Machine.srcAct
  extract_lets n s1
  have h1 : Shows false v s1 := hs.setF
  exact .ite h1 (h1.same.setB (s := { s1 with tck.tickInRun := 0 }))

theorem clkTick (hs : Shows false v s) : Shows false v (clkTick s) := by
  have h1 : Shows false v (moveToPll s) := ((hs.setF_late (x := F.PWR_CLK_SEL)).setF_late (x := F.PWR_CLK_PLL_LOCK)).setF.setF.sourceOff
  have h2 : Shows false v (moveToFrc s) := ((hs.setF_late (x := F.PWR_CLK_SEL)).setF_late (x := F.PWR_CLK_PLL_LOCK)).setF.setF.srcAct
  unfold Machine.clkTick
  dsimp only
  split
  · exact hs
  · exact .ite (.ite hs h1.same.finishOp) h2.same.finishOp

/-- The image of the period that starts (R22, R80). -/
theorem drvTick {swapped : Bool} {mv : Nat} (hs : Shows false v s) :
    Shows false { v with rows := 0, begun := false, written := false, sig := 0xFFFFFFFF } (drvTick swapped mv s) := by
  have start : ∀ gp u, Shows false v u →
      Shows false { v with rows := 0, begun := false, written := false, sig := 0xFFFFFFFF } (startComp gp u) := by
    rintro gp u rfl
    rfl
  unfold Machine.drvTick
  extract_lets s1 gp s2
  have h2 := start gp _ ((hs.drvLatch.supplyTick (mv := mv)).dTick.govLimit (swapped := swapped) (gpOld := s.drv.comp.gp) (gp := gp))
  exact .ite h2.currentRefUpdate h2.setF

theorem swapAt {fb : Bool} (hs : Shows false v s) : Shows false { v with
    front := s.drv.back, back := s.drv.front, shown := s.drv.comp, mapShown := s.dia.mapComp,
    shownWord := (swapAt true fb s).reg 0x6010 } (swapAt true fb s) := by
  subst hs
  rfl

end Shows

theorem swapAt_false (fb : Bool) (s : State) : swapAt false fb s = s := rfl

theorem f_swapAt (fb : Bool) (s : State) :
    (swapAt true fb s).f F.DRV_IPRED_SHOWN = ipredShown s.drv.comp.s (gcOf s.drv.comp) := by
  unfold swapAt
  simp only [Bool.not_true, Bool.false_eq_true, if_false]
  rw [f_setB_other _ _ (by decide) (by decide) (by decide), f_setF_other _ _ (by decide) (by decide) (by decide),
    f_setF_other _ _ (by decide) (by decide) (by decide)]
  exact f_setF_same _ (by decide) (by unfold ipredShown; exact Nat.lt_of_le_of_lt (Nat.min_le_left _ _) (by decide))

/-! ### The snapshots of a HERD (R374) -/

/-- A snapshot disarms the unit (R373). -/
theorem snapshot_triggers (src id srcId : Nat) (s : State) : (snapshot src id srcId s).f F.SNP_CTRL_TRIGGERS = 0 := by
  have hf : ∀ u, faultTrigger 0xB0 u = u := fun u => rfl
  unfold snapshot State.raise
  rw [hf, (sendEvent_step _ _ _).words.f (by decide)]
  unfold takeSnap
  exact (f_bump_other (s.setF F.SNP_CTRL_TRIGGERS 0) (x := F.SNP_CNT_TAKEN_CNT) (by decide) (by decide) (by decide)).trans
    (f_setF_same s (by decide) (by decide))

/-- A HERD's snapshot that the unit is not armed for counts as missed. -/
theorem herdSnap_unarmed {id : Nat} (hd : bitOf (s.f F.SNP_CTRL_TRIGGERS) 1 = false) : herdSnap id s = s.bump F.SNP_CNT_MISSED_CNT := by
  simp only [herdSnap, hd, Bool.false_eq_true, if_false]

theorem herdSnap_armed {id : Nat} (hd : bitOf (s.f F.SNP_CTRL_TRIGGERS) 1 = true) :
    herdSnap id s = snapshot 1 id id { s with time := s.time + 2 } := by
  simp only [herdSnap, hd, if_true]

namespace Shows

theorem herdSnaps_unarmed (hs : Shows b v s) (hd : bitOf (s.f F.SNP_CTRL_TRIGGERS) 1 = false) (l : List Nat) :
    Shows b v (l.foldl (fun t id => herdSnap id t) s) := by
  induction l generalizing s with
  | nil => exact hs
  | cons id l ih =>
    rw [List.foldl_cons, herdSnap_unarmed hd]
    exact ih hs.bump (by rw [f_bump_other _ (by decide) (by decide) (by decide)]; exact hd)

/-- The snapshots of the HERDs whose tick this is: the first takes one, 20 ns after the tick, if the unit is armed for it. -/
theorem herdSnaps (hs : Shows b v s) (l : List Nat) :
    Shows b v (l.foldl (fun t id => herdSnap id t) s) ∨
      l ≠ [] ∧ Shows b { v with time := v.time + 2 } (l.foldl (fun t id => herdSnap id t) s) := by
  cases l with
  | nil => exact .inl hs
  | cons id l =>
    cases hd : bitOf (s.f F.SNP_CTRL_TRIGGERS) 1 with
    | false => exact .inl (hs.herdSnaps_unarmed hd _)
    | true =>
      have h1 : Shows b { v with time := v.time + 2 } { s with time := s.time + 2 } := by
        subst hs
        rfl
      have h2 : Shows b { v with time := v.time + 2 } (herdSnap id s) := herdSnap_armed hd ▸ h1.takeSnap.raise
      refine .inr ⟨by simp, h2.herdSnaps_unarmed ?_ l⟩
      rw [herdSnap_armed hd, snapshot_triggers]
      decide

end Shows

/-! ### The whole tick -/

/-- The HERD target of this tick is sampled, if the cut-off was not reached (R61). -/
def herdTaken (s : State) : State := if s.tck.started && herdSampleDue s then herdSample s else s

/-- The clock has moved. -/
def clocked (s : State) : State := alignDone (s.nextExact + alignCorr s) (tickClock (beforeClock s))

/-- The swap has taken place, and C(k) is applied. -/
def swapped (s : State) : State := applySets (flipAt (swapOk s) (swapAt (swapOk s) (fallbackDrives s) (clocked s)))

/-- What acts at the tick, but for the snapshots. -/
def acted (mv : Nat) (wordErr : Option Nat) (s : State) : State :=
  let fb := fallbackDrives s
  let composed := s.drv.comp.rowIn.length == 512
  let due := setsDue { swapped s with tck.sets := (clocked s).tck.sets }
  let e := objTick (lyrTick due (safTick (srcAct (clkTick (swapped s)))))
  let g := testGate (swapOk s) (switchesAtTick (swapOk s) (holdTick wordErr (drvTick (swapOk s) mv (thmTick e))))
  quickOutcome (ceilingTick s.saf.viol fb (quickRecTick (swapOk s)
    (grazeTick composed (heldTick (swapOk s && composed && !fb) fb (activeTick g)))))

theorem doTick_eq (mv : Nat) (wordErr : Option Nat) (s : State) : doTick mv wordErr s =
    bootDoneCheck ((snapsDue (beforeClock s)).foldl (fun t id => herdSnap id t) (acted mv wordErr s)) := by
  simp only [doTick, acted, swapped, clocked, beforeClock]

theorem beforeClock_shows (s : State) : Shows true (tickView true (herdTaken s)) (beforeClock s) :=
  (Shows.cutSlots rfl).sweepAdvance.frameEvents

theorem herdTaken_cases (s : State) : herdTaken s = s ∧ (s.tck.started && herdSampleDue s) = false ∨
    ∃ id, herdTaken s = sampleSet 1 id true s ∧ (s.tck.started && herdSampleDue s) = true := by
  unfold herdTaken
  cases hc : s.tck.started && herdSampleDue s with
  | false => exact .inl ⟨rfl, rfl⟩
  | true =>
    obtain ⟨-, hd⟩ := Bool.and_eq_true_iff.1 hc
    cases hh : s.tck.herd with
    | none => simp [herdSampleDue, hh] at hd
    | some h => exact .inr ⟨h.id, by simp only [if_true, herdSample, hh], rfl⟩

/-- A sample of a set moves neither the instant nor the number of the tick, nor the HERDs with SNAP of it. -/
theorem tickInstant_herdTaken (s : State) : tickInstant (herdTaken s) = tickInstant s ∧ tickNumber (herdTaken s) = tickNumber s ∧
    snapsDue (herdTaken s) = snapsDue s := by
  rcases herdTaken_cases s with ⟨e, -⟩ | ⟨id, e, -⟩ <;> rw [e]
  · exact ⟨rfl, rfl, rfl⟩
  · exact ⟨rfl, rfl, rfl⟩

theorem clockOf (s : State) : tickInstant (beforeClock s) = tickInstant s ∧ tickNumber (beforeClock s) = tickNumber s ∧
    snapsDue (beforeClock s) = snapsDue s := by
  obtain ⟨e1, e2, e3⟩ := tickInstant_of_view (beforeClock_shows s)
  obtain ⟨f1, f2, f3⟩ := tickInstant_herdTaken s
  exact ⟨e1.trans f1, e2.trans f2, e3.trans f3⟩

/-- The view once the clock has moved. -/
def clockView (s : State) : TickView := { tickView false (herdTaken s) with
  time := (tickInstant s).floor.toNat, tickTime := (tickInstant s).floor.toNat, exact := tickInstant s, frame := tickNumber s,
  row := 0, started := true, running := true, pull := 0 }

theorem clocked_shows (s : State) : Shows false (clockView s) (clocked s) := by
  obtain ⟨e1, e2, -⟩ := clockOf s
  have h : Shows false (tickView false (herdTaken s)) (beforeClock s) := by
    have e := congrArg (fun w : TickView => { w with before := none }) (beforeClock_shows s)
    exact e
  have hc := h.tickClock
  rw [e1, e2] at hc
  exact hc.alignDone

/-- The image composed stands as it was at the end of its period. -/
theorem clocked_comp (s : State) : (clocked s).drv.comp = s.drv.comp ∧ (clocked s).dia.mapComp = s.dia.mapComp := by
  have hb := congrArg TickView.before (beforeClock_shows s)
  have hh : (herdTaken s).drv = s.drv ∧ (herdTaken s).dia = s.dia := by
    rcases herdTaken_cases s with ⟨e, -⟩ | ⟨id, e, -⟩ <;> rw [e] <;> exact ⟨rfl, rfl⟩
  simp only [tickView, if_true, Option.some.injEq, BeforeTick.mk.injEq] at hb
  obtain ⟨-, -, h1, h2⟩ := hb
  have ht : ∀ u, (tickClock u).drv = u.drv ∧ (tickClock u).dia = u.dia := fun u => by
    unfold tickClock
    extract_lets
    split <;> exact ⟨rfl, rfl⟩
  have ha : ∀ q u, (alignDone q u).drv = u.drv ∧ (alignDone q u).dia = u.dia := fun q u => by
    unfold alignDone
    dsimp only
    split
    · split <;> simp
    · exact ⟨rfl, rfl⟩
    · exact ⟨rfl, rfl⟩
  simp only [clocked, ha, ht, h1, h2, hh, and_self]

/-- What acts at the tick leaves the view, but for the image that starts. -/
theorem acted_shows {mv : Nat} {wordErr : Option Nat} (hs : Shows false v (swapped s)) :
    Shows false { v with rows := 0, begun := false, written := false, sig := 0xFFFFFFFF } (acted mv wordErr s) := by
  unfold acted
  exact hs.clkTick.srcAct.safTick.lyrTick.objTick.thmTick.drvTick.holdTick.switchesAtTick.testGate.activeTick.heldTick
    |>.grazeTick.quickRecTick.ceilingTick.quickOutcome

/-- The view once C(k) is applied. -/
def setView (s : State) (v : TickView) : TickView := { v with
  act := (herdTaken s).tck.act.putAt (herdTaken s).tck.sets (tickNumber s),
  sets := (herdTaken s).tck.sets.filter (fun x => !(x.applyAt == tickNumber s)) }

theorem swapped_shows {u : State} (hs : Shows false v u) (ha : v.act = (herdTaken s).tck.act) (hv : v.sets = (herdTaken s).tck.sets)
    (hf : v.frame = tickNumber s) : Shows false (setView s v) (applySets (flipAt (swapOk s) u)) := by
  have h1 := hs.flipAt (swapped := swapOk s)
  have h2 := h1.applySets
  have e1 : (flipAt (swapOk s) u).tck.act = v.act := congrArg TickView.act h1
  have e2 : (flipAt (swapOk s) u).tck.sets = v.sets := congrArg TickView.sets h1
  have e3 : (flipAt (swapOk s) u).tck.frame = v.frame := congrArg TickView.frame h1
  rw [e1, e2, e3, ha, hv] at h2
  unfold setView
  rwa [← hf]

/-- The view with the image on show: the back words', or the one it was (R80). -/
def imageView (s : State) : TickView :=
  if swapOk s then { clockView s with
    front := s.drv.back, back := s.drv.front, shown := s.drv.comp, mapShown := s.dia.mapComp,
    shownWord := (swapAt true (fallbackDrives s) (clocked s)).reg 0x6010 }
  else clockView s

theorem herdTaken_drv (s : State) : (herdTaken s).drv = s.drv ∧ (herdTaken s).dia = s.dia := by
  rcases herdTaken_cases s with ⟨e, -⟩ | ⟨id, e, -⟩ <;> rw [e] <;> exact ⟨rfl, rfl⟩

theorem imageView_shows (s : State) : Shows false (imageView s) (swapAt (swapOk s) (fallbackDrives s) (clocked s)) := by
  have h := clocked_shows s
  unfold imageView
  cases swapOk s with
  | false => exact h
  | true =>
    obtain ⟨e1, e2⟩ := clocked_comp s
    have e3 : (clocked s).drv.back = (herdTaken s).drv.back := congrArg TickView.back h
    have e4 : (clocked s).drv.front = (herdTaken s).drv.front := congrArg TickView.front h
    have h1 := h.swapAt (fb := fallbackDrives s)
    rw [e1, e2, e3, e4, (herdTaken_drv s).1] at h1
    exact h1

/-- The view of the tick's end, the snapshots of HERDs apart. -/
def endView (s : State) : TickView :=
  { setView s (imageView s) with rows := 0, begun := false, written := false, sig := 0xFFFFFFFF }

theorem doTick_shows (mv : Nat) (wordErr : Option Nat) (s : State) : Shows false (endView s) (doTick mv wordErr s) ∨
    snapsDue s ≠ [] ∧ Shows false { endView s with time := (endView s).time + 2 } (doTick mv wordErr s) := by
  have hv : (imageView s).act = (herdTaken s).tck.act ∧ (imageView s).sets = (herdTaken s).tck.sets ∧ (imageView s).frame = tickNumber s := by
    unfold imageView
    split <;> exact ⟨rfl, rfl, rfl⟩
  have h := acted_shows (mv := mv) (wordErr := wordErr) (swapped_shows (imageView_shows s) hv.1 hv.2.1 hv.2.2)
  rw [doTick_eq, (clockOf s).2.2]
  rcases h.herdSnaps (snapsDue s) with h1 | ⟨hn, h1⟩
  · exact .inl h1.bootDoneCheck
  · exact .inr ⟨hn, h1.bootDoneCheck⟩

end
end Sys2Proof.Machine
end

section
namespace Sys2Proof.Machine

section tick

variable {s t : State}

/-- What the sample of a HERD's set leaves of the view. -/
theorem herdTaken_view (s : State) : ∃ x y, tickView false (herdTaken s) = { tickView false s with sets := x, dirty := y } ∧
    (herdTaken s).tck.act = s.tck.act ∧ (herdTaken s).tck.sets = x ∧ ((s.tck.started && herdSampleDue s) = false → x = s.tck.sets ∧ y = s.tck.dirty) := by
  rcases herdTaken_cases s with ⟨e, -⟩ | ⟨id, e, h⟩
  · rw [e]
    exact ⟨_, _, rfl, rfl, rfl, fun _ => ⟨rfl, rfl⟩⟩
  · rw [e]
    exact ⟨_, _, rfl, rfl, rfl, fun hn => absurd (h.symm.trans hn) (by decide)⟩

/-- The image on show, by the swap. -/
theorem imageView_eq (s : State) : ∃ f k i m w, imageView s = { clockView s with front := f, back := k, shown := i, mapShown := m, shownWord := w } ∧
    (swapOk s = true → f = s.drv.back ∧ k = s.drv.front ∧ i = s.drv.comp ∧ m = s.dia.mapComp ∧
      fieldOf w 31 16 = ipredShown s.drv.comp.s (gcOf s.drv.comp)) ∧
    (swapOk s = false → f = s.drv.front ∧ k = s.drv.back ∧ i = s.drv.shown ∧ m = s.dia.mapShown) := by
  obtain ⟨hd, hm⟩ := herdTaken_drv s
  cases hs : swapOk s with
  | true =>
    refine ⟨_, _, _, _, _, by rw [imageView, hs, if_pos rfl], fun _ => ⟨rfl, rfl, rfl, rfl, ?_⟩, fun e => absurd e (by decide)⟩
    have h := f_swapAt (fallbackDrives s) (clocked s)
    rwa [(clocked_comp s).1] at h
  | false =>
    refine ⟨_, _, _, _, _, by rw [imageView, hs]; rfl, fun e => absurd e (by decide), fun _ => ⟨?_, ?_, ?_, ?_⟩⟩
    · exact congrArg DrvSt.front hd
    · exact congrArg DrvSt.back hd
    · exact congrArg DrvSt.shown hd
    · exact congrArg DiaSt.mapShown hm

theorem Shows.off_eq {b : Bool} {v : TickView} (h : Shows b v t) : t.off = v.off := congrArg TickView.off h

/-- TICK_OUT is high at a tick where it is enabled (R48). -/
theorem tickOut_of_tick (ho : t.off = false) (hs : t.tck.started = true) (ht : t.time < t.tck.tickTime + 100) :
    t.tickOut = (t.a F.TCK_CTRL_TICK_OUT_EN == 1) := by
  simp [State.tickOut, ho, hs, ht]

/-- The tick with the measurement of VSUP that it brings (R406). -/
def supplied (env : TickEnv) (s : State) : State :=
  { s with pwr.vsupMv := env.vsupMv, pwr.vsupAt := (tickInstant s).floor.toNat }

theorem exec_tick (env : TickEnv) (ho : s.off = false) (hi : s.pwr.state ≠ .idle)
    (hr : s.tck.running = true ∨ s.sys.phase = .boot ∧ s.nvm.test = none) :
    exec (.tick env) s = .next (doTick env.vledMv env.wordErr (supplied env s)) := by
  have hc : (s.off || s.pwr.state == .idle || !(s.tck.running || (s.sys.phase == .boot && s.nvm.test.isNone))) = false := by
    rcases hr with h | ⟨h1, h2⟩
    · simp [ho, hi, h]
    · simp [ho, hi, h1, h2]
  have e : tick env s = doTick env.vledMv env.wordErr (supplied env s) := by
    rw [tick, hc]
    rfl
  exact congrArg Host.Outcome.next e

/-- Settles O31, from the view that a tick leaves: the clock, the swap, C(k) and the image that starts. -/
theorem theTickSwapsAndApplies : Obligations.TheTickSwapsAndApplies := by
  intro env s ho hi hr
  obtain ⟨x, y, e1, e2, e3, hsets⟩ := herdTaken_view (supplied env s)
  obtain ⟨f, k, i, m, w, e4, hswap, hhold⟩ := imageView_eq (supplied env s)
  have hv : endView (supplied env s) = { tickView false s with
      vsupMv := env.vsupMv, vsupAt := (tickInstant s).floor.toNat, time := (tickInstant s).floor.toNat,
      tickTime := (tickInstant s).floor.toNat, exact := tickInstant s, frame := tickNumber s, row := 0, started := true,
      running := true, pull := 0, act := s.tck.act.putAt x (tickNumber s), sets := x.filter (fun z => !(z.applyAt == tickNumber s)),
      dirty := y, front := f, back := k, shown := i, mapShown := m, shownWord := w, rows := 0, begun := false, written := false,
      sig := 0xFFFFFFFF } := by
    rw [endView, setView, e4, clockView, e1, e2, e3]
    rfl
  obtain ⟨n, hn, hshow⟩ : ∃ n, (n = (tickInstant s).floor.toNat ∨ snapsDue s ≠ [] ∧ n = (tickInstant s).floor.toNat + 2) ∧
      Shows false { endView (supplied env s) with time := n } (doTick env.vledMv env.wordErr (supplied env s)) := by
    rcases doTick_shows env.vledMv env.wordErr (supplied env s) with h | ⟨hs, h⟩
    · exact ⟨_, .inl rfl, by rw [hv] at h ⊢; exact h⟩
    · exact ⟨_, .inr ⟨hs, rfl⟩, by rw [hv] at h ⊢; exact h⟩
  rw [hv] at hshow
  refine ⟨_, exec_tick env ho hi hr, ?_⟩
  generalize doTick env.vledMv env.wordErr (supplied env s) = t at hshow ⊢
  have ht : t.time = n := congrArg TickView.time hshow
  have hc : t.tck.tickTime = (tickInstant s).floor.toNat := congrArg TickView.tickTime hshow
  have hstart : t.tck.started = true := congrArg TickView.started hshow
  have hoff : t.off = s.off := Shows.off_eq hshow
  have htime : t.time = t.tck.tickTime ∨ snapsDue s ≠ [] ∧ t.time = t.tck.tickTime + 2 := by rwa [ht, hc]
  have hout : t.tickOut = (t.a F.TCK_CTRL_TICK_OUT_EN == 1) :=
    tickOut_of_tick (hoff.trans ho) hstart (by omega)
  refine ⟨congrArg TickView.frame hshow, hc, congrArg TickView.exact hshow, htime, congrArg TickView.vsupMv hshow,
    (congrArg TickView.vsupAt hshow).trans hc.symm, congrArg TickView.row hshow, congrArg TickView.running hshow, hstart, hout,
    congrArg TickView.pull hshow, fun h => ?_, fun h => ?_, fun h => ?_, congrArg TickView.rows hshow, congrArg TickView.begun hshow,
    congrArg TickView.written hshow, congrArg TickView.sig hshow, congrArg TickView.pending hshow, congrArg TickView.latch hshow,
    congrArg TickView.rng hshow, congrArg TickView.chk hshow, congrArg TickView.dn hshow, congrArg TickView.spiOut hshow,
    congrArg TickView.store hshow, congrArg TickView.slots hshow, congrArg TickView.mofs hshow⟩
  · obtain ⟨h1, h2, h3, h4, h5⟩ := hswap h
    have hr : t.reg 0x6010 = w := congrArg TickView.shownWord hshow
    have hw : t.f F.DRV_IPRED_SHOWN = fieldOf w 31 16 := congrArg (fieldOf · 31 16) hr
    exact ⟨(congrArg TickView.front hshow).trans h1, (congrArg TickView.back hshow).trans h2, (congrArg TickView.shown hshow).trans h3,
      (congrArg TickView.mapShown hshow).trans h4, hw.trans h5⟩
  · obtain ⟨h1, h2, h3, h4⟩ := hhold h
    exact ⟨(congrArg TickView.front hshow).trans h1, (congrArg TickView.back hshow).trans h2, (congrArg TickView.shown hshow).trans h3,
      (congrArg TickView.mapShown hshow).trans h4⟩
  · obtain ⟨rfl, rfl⟩ := hsets h
    exact ⟨congrArg TickView.act hshow, congrArg TickView.sets hshow, congrArg TickView.dirty hshow⟩

end tick
end Sys2Proof.Machine
end

section
/-! A SOFT reset in a supply dip (R406, R467); O59. -/

namespace Sys2Proof.Machine

/-- A supply dip began at TIME 0, and the SOFT reset that a RESET asked for stands 1.0 ms later. -/
def softInDip : State :=
  { sys := { phase := .run, softAsked := true, softAt := 100000 }, pwr := { dip := some (0, 1600) } }

/-- SOFT_RESET moves TIME on to its instant before it resets the part, so the dip counts up to there (R467). -/
theorem exec_softReset_softInDip :
    exec .softReset softInDip = .next (deviceReset .soft { softInDip with time := 100000 }) := rfl

theorem dipBefore_softInDip : (deviceReset .soft { softInDip with time := 100000 }).pwr.dipBefore = 100000 := rfl

/-- Refutes O59: the stated length of a dip that outlives a SOFT reset ends at the TIME before SOFT_RESET, but the reset
comes at its own instant, 1.0 ms after the reply of RESET (R467), and the model counts the dip up to it: 1.0 ms in `softInDip`,
where the statement asks for 0. -/
theorem not_resetsAreAssertedAndReleased : ¬ Obligations.ResetsAreAssertedAndReleased := by
  unfold Obligations.ResetsAreAssertedAndReleased
  rintro ⟨-, hasserted, -⟩
  obtain ⟨t, ht, -, -, -, -, -, -, -, -, -, -, -, -, -, -, -, -, -, hdip, -⟩ := hasserted softInDip .softReset .soft
    (.inr (.inr (.inr ⟨rfl, rfl, rfl, rfl, fun p hp => absurd hp List.not_mem_nil⟩)))
  rw [exec_softReset_softInDip] at ht
  cases ht
  rw [dipBefore_softInDip] at hdip
  exact absurd hdip (by decide)

end Sys2Proof.Machine
end

section
/-! Row slots: what COMPOSE_ROW makes of the next row, with the half composing and with the fallback source driving (R18, R25,
R27, R271); O27. -/

namespace Sys2Proof.Machine

section rows

variable {s t : State} {y : Nat}

/-! ### Stages 4 to 11 of a row -/

/-- DRV stands alike in two states, but for the CRCs of the rows that left stage 3. -/
def SameDrive (s t : State) : Prop := ∃ l, t.drv = { s.drv with comp.rowIn := l } ∧ t.dia.mapComp = s.dia.mapComp

theorem drvPixel_congr (h : SameDrive s t) (k : DrvPass) (zs : List Zone) (m0 mu md : List Nat) (p v : Nat) :
    drvPixel t k zs m0 mu md p v = drvPixel s k zs m0 mu md p v := by
  obtain ⟨l, hd, -⟩ := h
  have hk : t.drv.dark = s.drv.dark := by rw [hd]
  have hg : t.gain p = s.gain p := by simp only [State.gain, State.gFact, hd]
  unfold drvPixel
  rw [hk, hg]

/-- A row reads nothing of the rows that left stage 3, and leaves them alone. -/
theorem drvRow_congr (h : SameDrive s t) (k : DrvPass) (y : Nat) (v : Array Nat) :
    (drvRow k y v t).drv.back = (drvRow k y v s).drv.back ∧ (drvRow k y v t).drv.comp.s = (drvRow k y v s).drv.comp.s ∧
      (drvRow k y v t).drv.comp.rowCrc = (drvRow k y v s).drv.comp.rowCrc ∧ (drvRow k y v t).drv.sig = (drvRow k y v s).drv.sig := by
  have hp := drvPixel_congr h k
  obtain ⟨l, hd, hm⟩ := h
  simp only [drvRow, hm, hp, hd, and_self]

/-- A row writes the back words, goes on with the sum, the signature and the CRCs, and may note a violation. -/
theorem drvRow_eq (k : DrvPass) (y : Nat) (v : Array Nat) (s : State) : ∃ b g n l f, drvRow k y v s = { s with
    drv := { s.drv with back := b, begun := true, sig := g, comp := { s.drv.comp with s := n, rowCrc := l } }, saf.viol := f } :=
  ⟨_, _, _, _, _, rfl⟩

/-- What a row leaves: the slots, the front words and the rows that left stage 3. -/
theorem drvRow_rest (k : DrvPass) (y : Nat) (v : Array Nat) (s : State) : Keeps [.drv, .saf] s (drvRow k y v s) ∧
    (drvRow k y v s).drv.rows = s.drv.rows ∧ (drvRow k y v s).drv.front = s.drv.front ∧
    (drvRow k y v s).drv.comp.rowIn = s.drv.comp.rowIn := by
  obtain ⟨b, g, n, l, f, e⟩ := drvRow_eq k y v s
  rw [e]
  exact ⟨fun q hq => by cases q <;> first | rfl | exact absurd (by simp) hq, rfl, rfl, rfl⟩

/-! ### The row of the active half -/

/-- The next row slot has come. -/
def rowSlot (s : State) : State := { s with drv.rows := s.drv.rows + 1, tck.row := max s.tck.row s.drv.rows }

theorem rowSlot_keeps (s : State) : Keeps [.drv, .tck] s (rowSlot s) := fun q hq => by
  cases q <;> first | rfl | exact absurd (by simp) hq

/-- The active half composes row `y`: it has composed all rows before it. -/
def halfTakes (y : Nat) (s : State) : Bool := halfComposes s && s.drv.comp.rowIn.length == y

/-- What the row slot reads: the values of the half's row, if it composes. -/
def rowRead (y : Nat) (s : State) : Array Nat × State := if halfTakes y s then composeHalf y s else (#[], s)

theorem noteFill_keeps (r : RowObjs) (s : State) : Keeps [.obj] s (noteFill r s) := by
  unfold noteFill
  split
  · exact fun q hq => by cases q <;> first | rfl | exact absurd (by simp) hq
  · exact Keeps.refl _ s

theorem setHalf_hlv_congr (h : Half) (x : HalfSt) (e : t.hlv = s.hlv) : (setHalf h x t).hlv = (setHalf h x s).hlv := by
  cases h <;> simp only [setHalf, e]

theorem composeHalf_values (y : Nat) (s : State) : (composeHalf y s).1 = (halfRow s y).1 := rfl

theorem composeHalf_keeps (y : Nat) (s : State) : Keeps [.drv, .hlv, .obj] s (composeHalf y s).2 := by
  have h : Keeps [.drv, .hlv, .obj] s { s with drv.comp.rowIn := s.drv.comp.rowIn ++ [rowInCrc (halfRow s y).1] } := fun q hq => by
    cases q <;> first | rfl | exact absurd (by simp) hq
  exact (h.trans ((setHalf_keeps s.activeHalf _ _).mono (by simp))).trans ((noteFill_keeps _ _).mono (by simp))

theorem composeHalf_drv (y : Nat) (s : State) : (composeHalf y s).2.drv =
    { s.drv with comp := { s.drv.comp with rowIn := s.drv.comp.rowIn ++ [rowInCrc (halfRow s y).1] } } :=
  (noteFill_keeps _ _ .drv (by simp)).trans (setHalf_keeps s.activeHalf _ _ .drv (by simp))

theorem composeHalf_hlv (y : Nat) (s : State) :
    (composeHalf y s).2.hlv = (setHalf s.activeHalf { s.half s.activeHalf with pool := linePool s y } s).hlv :=
  (noteFill_keeps _ _ .hlv (by simp)).trans (setHalf_hlv_congr _ _ rfl)

theorem rowRead_of_takes (h : halfTakes y s = true) : rowRead y s = composeHalf y s := by simp [rowRead, h]

theorem rowRead_of_idle (h : halfTakes y s = false) : rowRead y s = (#[], s) := by simp [rowRead, h]

theorem rowRead_keeps (y : Nat) (s : State) : Keeps [.drv, .hlv, .obj] s (rowRead y s).2 := by
  unfold rowRead
  split
  · exact composeHalf_keeps y s
  · exact Keeps.refl _ s

theorem rowRead_sameDrive (y : Nat) (s : State) : SameDrive s (rowRead y s).2 := by
  unfold rowRead
  split
  · exact ⟨_, composeHalf_drv y s, congrArg DiaSt.mapComp (composeHalf_keeps y s .dia (by decide))⟩
  · exact ⟨_, rfl, rfl⟩

/-! ### COMPOSE_ROW -/

/-- Row `y` is not written: its image is discarded, or a row before it has not been written. -/
def rowLost (y : Nat) (s : State) : Bool := s.drv.noSwap || s.bistTests || !(s.drv.comp.rowCrc.length == y)

/-- What drives the row that was read. -/
def rowDrive (y : Nat) (s : State) : State :=
  if rowLost y s then (rowRead y s).2
  else if fallbackDrives s then drvRow (drvPass s true) y (fallbackRow s y) (rowRead y s).2
  else if halfTakes y s then drvRow (drvPass s false) y (rowRead y s).1 (rowRead y s).2
  else (rowRead y s).2

theorem composeRow_eq (hr : s.tck.running = true) (hn : s.drv.rows < 512) : composeRow s = rowDrive s.drv.rows (rowSlot s) := by
  have hc : ¬ (!s.tck.running || decide (511 < s.drv.rows)) = true := by simp [hr]; omega
  exact if_neg hc

/-- The row that drives is written over what was read, or nothing is. -/
theorem rowDrive_cases (y : Nat) (s : State) :
    (∃ k v, rowDrive y s = drvRow k y v (rowRead y s).2) ∨ rowDrive y s = (rowRead y s).2 := by
  unfold rowDrive
  split
  · exact .inr rfl
  · split
    · exact .inl ⟨_, _, rfl⟩
    · split
      · exact .inl ⟨_, _, rfl⟩
      · exact .inr rfl

/-- Beside what it drives, a row slot leaves what the half read. -/
theorem rowDrive_rest (y : Nat) (s : State) : Keeps [.drv, .saf] (rowRead y s).2 (rowDrive y s) ∧
    (rowDrive y s).drv.rows = s.drv.rows ∧ (rowDrive y s).drv.front = s.drv.front ∧
    (rowDrive y s).drv.comp.rowIn = (rowRead y s).2.drv.comp.rowIn := by
  obtain ⟨l, hd, -⟩ := rowRead_sameDrive y s
  have hrows : (rowRead y s).2.drv.rows = s.drv.rows := by rw [hd]
  have hfront : (rowRead y s).2.drv.front = s.drv.front := by rw [hd]
  rcases rowDrive_cases y s with ⟨k, v, e⟩ | e
  · rw [e]
    obtain ⟨hk, h1, h2, h3⟩ := drvRow_rest k y v (rowRead y s).2
    exact ⟨hk, h1.trans hrows, h2.trans hfront, h3⟩
  · rw [e]
    exact ⟨Keeps.refl _ _, hrows, hfront, rfl⟩

theorem rowDrive_fallback (hw : rowLost y s = false) (hf : fallbackDrives s = true) :
    rowDrive y s = drvRow (drvPass s true) y (fallbackRow s y) (rowRead y s).2 := by simp [rowDrive, hw, hf]

theorem rowDrive_half (hw : rowLost y s = false) (hf : fallbackDrives s = false) (ht : halfTakes y s = true) :
    rowDrive y s = drvRow (drvPass s false) y (halfRow s y).1 (rowRead y s).2 := by
  simp [rowDrive, hw, hf, ht, rowRead_of_takes ht, composeHalf_values]

theorem rowDrive_lost (hw : rowLost y s = true) : rowDrive y s = (rowRead y s).2 := by simp [rowDrive, hw]

end rows

/-- Settles O27, from what the slot reads and what it drives. -/
theorem rowSlotsComposeInOrder : Obligations.RowSlotsComposeInOrder := by
  rintro s hr hn u rfl
  have he : exec .composeRow s = .next (rowDrive s.drv.rows (rowSlot s)) := congrArg Host.Outcome.next (composeRow_eq hr hn)
  obtain ⟨hk, hrows, hfront, hin⟩ := rowDrive_rest s.drv.rows (rowSlot s)
  have hread := rowRead_keeps s.drv.rows (rowSlot s)
  have hkeep : Keeps [.drv, .saf, .hlv, .obj] (rowSlot s) (rowDrive s.drv.rows (rowSlot s)) :=
    (hread.mono (by simp)).trans (hk.mono (by simp))
  refine ⟨_, he, hrows, hkeep .tck (by decide), hfront, ?_, ?_, ?_, ?_, ((rowSlot_keeps s).mono (by simp)).trans (hkeep.mono (by simp))⟩
  · rintro hf hs hb hl v rfl w rfl
    rw [rowDrive_fallback (s := rowSlot s) (by simp [rowLost, rowSlot, hs, hl]; exact hb) hf]
    exact drvRow_congr (rowRead_sameDrive _ _) _ _ _
  · rintro hh hl v rfl
    have ht : halfTakes s.drv.rows (rowSlot s) = true := Bool.and_eq_true_iff.2 ⟨hh, by simpa [rowSlot] using hl⟩
    refine ⟨?_, ?_, ?_⟩
    · rw [hin, rowRead_of_takes ht, composeHalf_drv]
      rfl
    · rw [hk .hlv (by decide), rowRead_of_takes ht, composeHalf_hlv]
      exact setHalf_hlv_congr _ _ rfl
    · rintro hf hb hc w rfl
      have hs : s.drv.noSwap = false := by
        simp only [halfComposes, Bool.and_eq_true, Bool.not_eq_true'] at hh
        exact hh.1.2
      rw [rowDrive_half (s := rowSlot s) (by simp [rowLost, rowSlot, hs, hc]; exact hb) hf ht]
      exact drvRow_congr (rowRead_sameDrive _ _) _ _ _
  · intro hh
    have ht : halfTakes s.drv.rows (rowSlot s) = false := by
      rcases hh with hh | hh
      · exact Bool.and_eq_false_iff.2 (.inl hh)
      · exact Bool.and_eq_false_iff.2 (.inr (by simpa [rowSlot] using hh))
    rw [hk .hlv (by decide), hin, rowRead_of_idle ht]
    exact ⟨rfl, rfl⟩
  · intro hu
    have hw : rowLost s.drv.rows (rowSlot s) = true := by
      rcases hu with hu | hu <;> simp [rowLost, rowSlot, hu]
    obtain ⟨l, hd, -⟩ := rowRead_sameDrive s.drv.rows (rowSlot s)
    rw [rowDrive_lost hw, hd]
    exact ⟨rfl, hread .saf (by decide)⟩

end Sys2Proof.Machine
end

section
/-! The end of an image: what IMAGE_WRITE_DONE signs and keeps (R22, R91, R108, R271); O28. -/

namespace Sys2Proof.Machine

section images

variable {k : List OutKind} {p : List Part} {w : List Nat} {s t : State}

/-- A fold of steps that each stay in a frame stays in it. -/
theorem Moves.foldl {α : Type} {g : State → α → State} (xs : List α)
    (hg : ∀ u : State, ∀ x ∈ xs, Moves k p w s u → Moves k p w s (g u x)) (h : Moves k p w s t) : Moves k p w s (xs.foldl g t) := by
  induction xs generalizing t with
  | nil => exact h
  | cons x xs ih => exact ih (fun u y hy => hg u y (.tail _ hy)) (hg t x (.head _) h)

/-! ### The written words -/

def signWords : List Nat := [0x6010, 0x6048, 0x604C, 0x6050]

theorem writeDone_short (cf : Option Nat) (h : s.drv.comp.rowCrc.length ≠ 512) : writeDone cf s = s := by
  simp [writeDone, h]

theorem writeDone_moves (cf : Option Nat) (s : State) : Moves [.event] [.drv, .saf] signWords s (writeDone cf s) :=
  .ite (.refl _ _ _ s) (((((Moves.refl _ _ _ s).setF _ (by decide)).setReg _ (by decide)).setReg _ (by decide)).setB _ (by decide)
    |>.parts (fun q hq => by cases q <;> first | rfl | exact absurd (by simp) hq) rfl rfl)

theorem writeDone_drv (cf : Option Nat) (s : State) :
    ∃ b, (writeDone cf s).drv = { s.drv with written := b } := by
  unfold writeDone
  split
  · exact ⟨_, rfl⟩
  · exact ⟨_, rfl⟩

/-- The readings of a written image. -/
def signed (s : State) : State :=
  (((s.setF F.DRV_IPRED_LAST (ipredMa s.drv.comp.s)).setReg 0x6048 (BitVec.ofNat 32 (s.drv.sig ^^^ 0xFFFFFFFF))).setReg 0x604C
    (BitVec.ofNat 32 (tickNumber s))).setB F.DRV_STATUS_SIG_SHOWN false

/-- The pixel of the ceiling monitor, at the first clamp fault. -/
def clampViol (cf : Option Nat) (v : Option (Nat × Nat)) : Option (Nat × Nat) :=
  match v, cf with
  | none, some p => some (pixX p, pixY p)
  | o, _ => o

theorem writeDone_whole (cf : Option Nat) (h : s.drv.comp.rowCrc.length = 512) :
    writeDone cf s = { signed s with drv.written := true, saf.viol := clampViol cf s.saf.viol } :=
  if_neg (by simp [h])

/-- An image with all its rows is signed: its current, its CRC, the number of its flip, and a clamp fault. -/
theorem writeDone_signs (cf : Option Nat) (h : s.drv.comp.rowCrc.length = 512) :
    (writeDone cf s).f F.DRV_IPRED_LAST = ipredMa s.drv.comp.s ∧
    (writeDone cf s).reg 0x6048 = BitVec.ofNat 32 (s.drv.sig ^^^ 0xFFFFFFFF) ∧
    (writeDone cf s).reg 0x604C = BitVec.ofNat 32 (tickNumber s) ∧ (writeDone cf s).fb F.DRV_STATUS_SIG_SHOWN = false ∧
    (writeDone cf s).drv.written = true ∧ (writeDone cf s).saf.viol = clampViol cf s.saf.viol := by
  have hi : ipredMa s.drv.comp.s < 2 ^ 16 := by unfold ipredMa; omega
  have hreg : ∀ a, (writeDone cf s).reg a = (signed s).reg a := fun a => by rw [writeDone_whole cf h]; rfl
  have hf : ∀ x, (writeDone cf s).f x = (signed s).f x := fun x => by simp only [State.f, hreg]
  refine ⟨?_, ?_, ?_, ?_, by rw [writeDone_whole cf h], by rw [writeDone_whole cf h]⟩
  · rw [hf, signed, f_setB_other _ _ (by decide) (by decide) (by decide), f_setReg_other _ _ (by decide),
      f_setReg_other _ _ (by decide), f_setF_same _ (by decide) hi]
  · rw [hreg, signed, reg_setB_other _ _ _ (by decide), reg_setReg_other _ _ (by decide), reg_setReg_same]
  · rw [hreg, signed, reg_setB_other _ _ _ (by decide), reg_setReg_same]
  · rw [State.fb, hf]
    exact fb_setB_same _ _ (by decide)

/-! ### What it was composed from -/

def animWords : List Nat := [F.LYR_STATUS_SYMBOL_MISSING.addr, F.LYR_G0_ANIM_F.addr, F.LYR_G0_ANIM_F.addr + 0x10,
  F.LYR_G0_ANIM_F.addr + 0x20, F.LYR_G0_ANIM_F.addr + 0x30]

def composeWords : List Nat := [0x5018, 0x5024, 0x4024, 0x4138, 0x41B8] ++ animWords

theorem animOne_moves {n : Nat} (hn : n < 4) (hm : Moves [.event] [.lyr] animWords s t) :
    Moves [.event] [.lyr] animWords s (animOne t n) := by
  have ha : F.LYR_G0_ANIM_F.addr + 0x10 * n ∈ eventRegs ++ animWords := by
    have : n ∈ List.range 4 := List.mem_range.2 hn
    revert this
    revert n
    decide
  refine Moves.foldl _ (fun u e _ hu => (hu.setB _ (by decide)).raise (by decide) _ _) ?_
  exact (((hm.setF _ ha).setF _ ha).setF _ ha).lyr (by decide)

theorem overloadDone_moves (s : State) : Moves [.event] [.obj] [0x5018, 0x5024] s (overloadDone s) :=
  have h1 := ((Moves.refl [.event] [.obj] [0x5018, 0x5024] s).setF (x := F.OBJ_OVL_OVL_ROWS) s.obj.fillRows (by decide)).obj (by decide)
  .ite h1 (((h1.bump (by decide)).setB _ (by decide)).raise (by decide) _ _)

theorem inputCrcs_moves (s : State) : Moves [.event] [] [0x4024, 0x4138, 0x41B8] s (inputCrcs s) :=
  (((Moves.refl _ _ _ s).setReg _ (by decide)).setReg _ (by decide)).setReg _ (by decide)

/-- The image's rows over the limit, and the objects it was drawn from. -/
def overloadNoted (s : State) : State :=
  { s.setF F.OBJ_OVL_OVL_ROWS s.obj.fillRows with obj.lastFilled := s.obj.filled, obj.last := s.obj.cur, obj.lastReset := false }

theorem overloadDone_eq (s : State) : overloadDone s = if s.obj.fillRows = 0 then overloadNoted s else
    (((overloadNoted s).bump F.OBJ_OVL_OVL_IMAGES).setB F.OBJ_STATUS_OVERLOAD true).raise 0x52 (q4 s.obj.fillRows) := rfl

theorem overloadDone_obj (s : State) : (overloadDone s).obj =
    { s.obj with lastFilled := s.obj.filled, last := s.obj.cur, lastReset := false } := by
  rw [overloadDone_eq]
  split
  · rfl
  · exact raise_obj _ _ _

theorem overloadDone_rows (s : State) : (overloadDone s).f F.OBJ_OVL_OVL_ROWS = s.obj.fillRows % 1024 := by
  have h1 : (overloadNoted s).f F.OBJ_OVL_OVL_ROWS = s.obj.fillRows % 1024 :=
    f_setF_mod s (x := F.OBJ_OVL_OVL_ROWS) s.obj.fillRows (by decide)
  rw [overloadDone_eq]
  split
  · exact h1
  · rw [raise_f _ _ _ (by decide), f_setB_other _ _ (by decide) (by decide) (by decide),
      f_bump_other _ (by decide) (by decide) (by decide), h1]

/-- The image stands as the one before it, and no item was applied for it. -/
def imageSame (s : State) : Bool := s.drv.comp.rowIn == s.drv.prevIn && !s.tck.itemsApplied

/-- The image kept for Grazing, and counted while nothing changes. -/
def imageKept (s : State) : State := { s with
  drv.prevIn := s.drv.comp.rowIn, obj.lastIn := composeInputs s,
  pwr.unchanged := if imageSame s then min 65535 (s.pwr.unchanged + 1) else 0 }

theorem imageKept_moves (s : State) : Moves [.event] [.drv, .obj, .pwr] [] s (imageKept s) :=
  (Moves.refl _ _ _ s).parts (fun q hq => by cases q <;> first | rfl | exact absurd (by simp) hq) rfl rfl

theorem composeDone_short (h : s.drv.comp.rowIn.length ≠ 512) : composeDone s = s := by simp [composeDone, h]

theorem composeDone_whole (h : s.drv.comp.rowIn.length = 512) :
    composeDone s = (List.range 4).foldl animOne (inputCrcs (overloadDone (imageKept s))) :=
  if_neg (by simp [h])

/-- Behind the overload, an image only notes its animations and what its layers read. -/
theorem composeDone_rest (h : s.drv.comp.rowIn.length = 512) : Moves [.event] [.lyr] ([0x4024, 0x4138, 0x41B8] ++ animWords)
    (overloadDone (imageKept s)) (composeDone s) := by
  rw [composeDone_whole h]
  have hi := (inputCrcs_moves (overloadDone (imageKept s))).mono (p' := [.lyr]) (w' := [0x4024, 0x4138, 0x41B8] ++ animWords)
    (by simp) (List.subset_append_left _ _)
  exact hi.andThen (Moves.foldl _ (fun u n hn hu => animOne_moves (List.mem_range.1 hn) hu) (.refl _ _ _ _)) (by simp) (List.subset_append_right _ _)

theorem composeDone_moves (s : State) : Moves [.event] [.drv, .obj, .pwr, .lyr] composeWords s (composeDone s) := by
  by_cases h : s.drv.comp.rowIn.length = 512
  · exact (((imageKept_moves s).mono (by simp) (by simp)).andThen (overloadDone_moves _) (by simp) (by decide)).andThen
      (composeDone_rest h) (by simp) (by decide)
  · rw [composeDone_short h]
    exact .refl _ _ _ s

theorem composeDone_drv (s : State) : ∃ l, (composeDone s).drv = { s.drv with prevIn := l } := by
  by_cases h : s.drv.comp.rowIn.length = 512
  · exact ⟨_, ((composeDone_rest h).keeps .drv (by decide)).trans ((overloadDone_moves _).keeps .drv (by decide))⟩
  · rw [composeDone_short h]
    exact ⟨_, rfl⟩

/-- A composed image is kept: what it was composed from, its overload, its rows, and whether it stands unchanged. -/
theorem composeDone_keepsImage (h : s.drv.comp.rowIn.length = 512) :
    (composeDone s).obj = { s.obj with
      lastIn := composeInputs s, lastFilled := s.obj.filled, last := s.obj.cur, lastReset := false } ∧
    (composeDone s).drv.prevIn = s.drv.comp.rowIn ∧ (composeDone s).f F.OBJ_OVL_OVL_ROWS = s.obj.fillRows % 1024 ∧
    (composeDone s).pwr.unchanged = if imageSame s then min 65535 (s.pwr.unchanged + 1) else 0 := by
  have hr := composeDone_rest h
  have ho := overloadDone_moves (imageKept s)
  refine ⟨(hr.keeps .obj (by decide)).trans (overloadDone_obj _), ?_, (hr.regs.f (by decide)).trans (overloadDone_rows _), ?_⟩
  · exact congrArg DrvSt.prevIn ((hr.keeps .drv (by decide)).trans (ho.keeps .drv (by decide)))
  · exact congrArg PwrSt.unchanged ((hr.keeps .pwr (by decide)).trans (ho.keeps .pwr (by decide)))

/-! ### IMAGE_WRITE_DONE -/

theorem imageWriteDone_eq (cf : Option Nat) (hr : s.tck.running = true) (hn : s.drv.rows = 512) (ht : s.tck.row < 512) :
    imageWriteDone cf s = composeDone (writeDone cf { s with tck.row := 512 }) :=
  if_neg (by simp [hr, hn, ht])

/-- The inputs of an image are the same behind its signature. -/
theorem composeInputs_writeDone (cf : Option Nat) (s : State) : composeInputs (writeDone cf s) = composeInputs s := by
  have hm := writeDone_moves cf s
  have htck : (writeDone cf s).tck = s.tck := hm.keeps .tck (by decide)
  have hlyr : (writeDone cf s).lyr = s.lyr := hm.keeps .lyr (by decide)
  have hobj : (writeDone cf s).obj = s.obj := hm.keeps .obj (by decide)
  have hbase : (writeDone cf s).baseSlot = s.baseSlot := hm.regs.f (x := F.LYR_BASE_SHOWN) (by decide)
  simp only [composeInputs, htck, hlyr, hobj, hbase]

end images

/-- Settles O28: the signature and what is kept of the composition stand in different words and parts. -/
theorem theEndOfAnImageIsSigned : Obligations.TheEndOfAnImageIsSigned := by
  unfold Obligations.TheEndOfAnImageIsSigned
  intro cf s hr hn ht
  have hw := writeDone_moves cf { s with tck.row := 512 }
  have hc := composeDone_moves (writeDone cf { s with tck.row := 512 })
  obtain ⟨b, hdw⟩ := writeDone_drv cf { s with tck.row := 512 }
  obtain ⟨l, hdc⟩ := composeDone_drv (writeDone cf { s with tck.row := 512 })
  have hrow : Moves [.event] [.tck, .drv, .saf, .pwr, .obj, .lyr] [] s { s with tck.row := 512 } := (Moves.refl _ _ _ s).tck (by decide)
  refine ⟨_, congrArg Host.Outcome.next (imageWriteDone_eq cf hr hn ht),
    (hc.keeps .tck (by decide)).trans (hw.keeps .tck (by decide)), ?_, ?_, ?_, ?_, ?_⟩
  · intro hl
    obtain ⟨h1, h2, h3, h4, h5, h6⟩ := writeDone_signs cf (s := { s with tck.row := 512 }) hl
    refine ⟨(hc.regs.f (by decide)).trans h1, (hc.regs _ (by decide)).trans h2, (hc.regs _ (by decide)).trans h3,
      (hc.regs.fb (by decide)).trans h4, ?_, fun p hp hv => ?_⟩
    · rw [hdc]
      exact h5
    · rw [hc.keeps .saf (by decide)]
      rw [h6, hp]
      exact (congrArg (clampViol (some p)) hv :)
  · intro hl
    have hobj : (writeDone cf { s with tck.row := 512 }).obj = s.obj := hw.keeps .obj (by decide)
    have hpwr : (writeDone cf { s with tck.row := 512 }).pwr = s.pwr := hw.keeps .pwr (by decide)
    have hsame : imageSame (writeDone cf { s with tck.row := 512 }) = imageSame s := by
      have htck : (writeDone cf { s with tck.row := 512 }).tck = { s.tck with row := 512 } := hw.keeps .tck (by decide)
      simp only [imageSame, hdw, htck]
    obtain ⟨h1, h2, h3, h4⟩ := composeDone_keepsImage (s := writeDone cf { s with tck.row := 512 }) (by rw [hdw]; exact hl)
    rw [h1, h2, h3, h4, hobj, hpwr, hsame, composeInputs_writeDone, hdw]
    refine ⟨rfl, rfl, rfl, rfl, rfl, fun hi he => ?_, fun hi => ?_⟩
    · rw [if_pos (by simp [imageSame, hi, he])]
    · rw [if_neg (by rcases hi with hi | hi <;> simp [imageSame, hi])]
  · rw [hdc, hdw]
  · rw [hdc, hdw]
  · exact ((hrow.mono (by simp) (by simp)).andThen hw (by simp) (by decide)).andThen hc (by simp) (by decide) |>.frame

end Sys2Proof.Machine
end

section
/-! What ending a command in flight does to the commands in flight and to the packets that wait, with any status (R338, R343). -/

namespace Sys2Proof.Machine

section ends

variable {s t : State} {j i : Job} {st : Nat}

theorem find?_filter_of_some {α : Type} {keep q : α → Bool} {x : α} : ∀ {l : List α}, l.find? q = some x → keep x = true →
    (l.filter keep).find? q = some x
  | y :: l, h, hk => by
    rw [List.find?_cons] at h
    cases hq : q y
    · rw [hq] at h
      have ih := find?_filter_of_some (l := l) h hk
      by_cases hy : keep y = true
      · rw [List.filter_cons_of_pos hy, List.find?_cons, hq]
        exact ih
      · rw [List.filter_cons_of_neg hy]
        exact ih
    · rw [hq] at h
      obtain rfl : y = x := Option.some.inj h
      rw [List.filter_cons_of_pos hk, List.find?_cons, hq]

theorem countReplayed_jobs (st : Nat) (s : State) : (countReplayed st s).cmd = s.cmd := by
  unfold countReplayed
  split <;> rfl

/-- The jobs that go on beside one that ends. -/
theorem finishJob_jobs (j : Job) (st : Nat) (body : List Byte) (s : State) :
    (finishJob j st body s).cmd.jobs = s.cmd.jobs.filter (fun k => !(k.seq == j.seq)) := by
  unfold finishJob
  rw [(lostReport_step _).jobs, (finalReply_step _ _ _ _ _ _).jobs, countReplayed_jobs]

/-- The status a command in flight ends with: executed again, DONE_REPLAYED for OK. -/
def endStatus (j : Job) (st : Nat) : Nat := if j.replayed then replayStatus st else st

theorem endStatus_of_error (j : Job) (h : st ≠ St.ok) : endStatus j st = st := by
  unfold endStatus replayStatus
  rw [if_neg h, ite_self]

theorem finalReply_tells {rq : Req} (hq : quietDrops rq st = false) (op seq : Nat) (body : List Byte) (s : State) :
    (finalReply op rq seq st body s).cmd.out = s.cmd.out ++ [replyOf op rq true st body seq] := by
  simp [finalReply, pushReply, hq, replyOf]

/-- A command in flight that ends now: its reply stands last, unless QUIET drops it. -/
theorem finishJob_tells (hq : quietDrops j.rq (endStatus j st) = false) (body : List Byte) (s : State) :
    SendsLast (replyOf j.op j.rq true (endStatus j st) body j.seq) s (finishJob j st body s) := by
  obtain ⟨evs, he, ho⟩ := (lostReport_step (finalReply j.op j.rq j.seq (endStatus j st) body
    (countReplayed (endStatus j st) { s with cmd.jobs := s.cmd.jobs.filter (fun k => !(k.seq == j.seq)) }))).sends
  refine ⟨[], evs, he, ho.trans ?_⟩
  rw [finalReply_tells hq, countReplayed_jobs]
  simp

/-- QUIET drops no error (R343). -/
theorem quietDrops_error (rq : Req) (h : 0x10 ≤ st) : quietDrops rq st = false := by
  have : ¬ st ≤ 2 := by omega
  simp [quietDrops, this]

theorem SendsLast.mem {p : OutPkt} (h : SendsLast p s t) : p ∈ t.cmd.out := by
  obtain ⟨ps, evs, -, e⟩ := h
  rw [e]
  simp

theorem SendsOf.mem {k : List OutKind} {p : OutPkt} (h : SendsOf k s t) (hp : p ∈ s.cmd.out) : p ∈ t.cmd.out := by
  obtain ⟨ps, -, e⟩ := h
  rw [e]
  exact List.mem_append_left _ hp

/-- Ending a command changes the front end alone, but for register words. -/
theorem finishJob_keeps (j : Job) (st : Nat) (body : List Byte) (s : State) : Keeps [.cmd, .regs] s (finishJob j st body s) := by
  have h0 : Keeps [.cmd, .regs] s { s with cmd.jobs := s.cmd.jobs.filter (fun k => !(k.seq == j.seq)) } :=
    (Keeps.refl _ s).of_cur (by decide) _
  have h1 : ∀ (st : Nat) (u : State), Keeps [.cmd, .regs] u (countReplayed st u) := fun st u => by
    unfold countReplayed
    split
    · exact (bump_keeps [] u _).mono (by simp)
    · exact .refl _ u
  exact ((h0.trans (h1 _ _)).trans (finalReply_step _ _ _ _ _ _).keeps).trans ((lostReport_step _).keeps.mono (by simp))

theorem finishKey_keeps (op key st : Nat) (body : List Byte) (s : State) : Keeps [.cmd, .regs] s (finishKey op key st body s) := by
  unfold finishKey
  split
  · exact finishJob_keeps _ st body s
  · exact .refl _ s

theorem jobKey?_mem {op key : Nat} (h : s.jobKey? op key = some j) : j ∈ s.cmd.jobs ∧ j.op = op ∧ j.key = key :=
  ⟨List.mem_of_find?_eq_some h, by simpa using List.find?_some h⟩

/-- With one SEQ each, the end of a command leaves the command in flight of another key. -/
theorem jobKey?_finishJob {op key : Nat} (hn : (s.cmd.jobs.map Job.seq).Nodup) (hj : s.jobKey? op key = some j) (hi : i ∈ s.cmd.jobs)
    (hne : i ≠ j) (st : Nat) (body : List Byte) : (finishJob i st body s).jobKey? op key = some j := by
  rw [State.jobKey?, finishJob_jobs]
  refine find?_filter_of_some hj ?_
  have : j.seq ≠ i.seq := fun e => hne (List.inj_on_of_nodup_map hn hi (jobKey?_mem hj).1 e.symm)
  simpa using this

theorem finishJob_nodup (hn : (s.cmd.jobs.map Job.seq).Nodup) (j : Job) (st : Nat) (body : List Byte) :
    ((finishJob j st body s).cmd.jobs.map Job.seq).Nodup := by
  rw [finishJob_jobs]
  exact hn.sublist (List.filter_sublist.map _)

/-- An error ends the command in flight of a key with its reply. -/
theorem finishKey_tells {op key : Nat} (hj : s.jobKey? op key = some j) (h : 0x10 ≤ st) (body : List Byte) :
    SendsLast (replyOf op j.rq true st body j.seq) s (finishKey op key st body s) := by
  have he : endStatus j st = st := endStatus_of_error j (by rintro rfl; exact absurd h (by decide))
  have ht := finishJob_tells (j := j) (st := st) (by rw [he]; exact quietDrops_error _ h) body s
  rw [he, (jobKey?_mem hj).2.1] at ht
  simpa only [finishKey, hj] using ht

end ends

end Sys2Proof.Machine
end

section
/-! FALLBACK_CRC_CHECK: the fallback copy reloaded, the copies of it that end, the tone map reset (R26, R36, R135, R139); O30. -/

namespace Sys2Proof.Machine

section fallback

variable {s t : State} {j : Job} {slot : Nat} {xs : List Nat}

/-! ### The copies of the fallback copy -/

/-- The pattern slot of a copy is FREE. -/
def freeSlot (slot : Nat) (s : State) : State :=
  match s.buf? (60 + slot) with
  | some b => setBuf (60 + slot) { b with st := 0 } s
  | none => s

/-- A copy into a pattern slot ends with BAD_CRC. -/
def failCopy (s : State) (slot : Nat) : State := finishKey 0x28 slot St.badCrc [] (freeSlot slot s)

theorem copiesFail_eq (s : State) : copiesFail s = s.lyr.copies.foldl failCopy { s with lyr.copies := [] } := rfl

theorem freeSlot_lyr (slot : Nat) (s : State) : ∃ l, freeSlot slot s = { s with lyr.bufs := l } := by
  unfold freeSlot
  split
  · exact ⟨_, rfl⟩
  · exact ⟨_, rfl⟩

theorem freeSlot_buf (slot e : Nat) (s : State) : (freeSlot slot s).buf? e =
    if e = 60 + slot then (s.buf? e).map (fun b => { b with st := 0 }) else s.buf? e := by
  unfold freeSlot
  split
  · next b hb =>
    rw [State.buf?, setBuf, kvGet_kvPut]
    split
    · next he => rw [he, hb]; rfl
    · rfl
  · next hb =>
    split
    · next he => rw [he, hb]; rfl
    · rfl

theorem failCopy_lyr (s : State) (slot : Nat) : (failCopy s slot).lyr = (freeSlot slot s).lyr :=
  finishKey_keeps 0x28 slot St.badCrc [] (freeSlot slot s) .lyr (by decide)

theorem failCopy_buf (s : State) (slot e : Nat) : (failCopy s slot).buf? e =
    if e = 60 + slot then (s.buf? e).map (fun b => { b with st := 0 }) else s.buf? e := by
  rw [← freeSlot_buf, State.buf?, failCopy_lyr, State.buf?]

theorem failCopy_moves {u : State} (h : Moves anyReply [.lyr] [0x20C4] u s) (slot : Nat) :
    Moves anyReply [.lyr] [0x20C4] u (failCopy s slot) := by
  obtain ⟨l, e⟩ := freeSlot_lyr slot s
  refine Moves.finishKey ?_ (by decide) _ _ _ _ (.inr ⟨by decide, by decide⟩)
  rw [e]
  exact h.lyr (by decide)

theorem failCopies_moves (xs : List Nat) (s : State) : Moves anyReply [.lyr] [0x20C4] s (xs.foldl failCopy s) :=
  Moves.foldl xs (fun _ x _ h => failCopy_moves h x) (.refl _ _ _ s)

/-- Only descriptors change with the copies. -/
theorem failCopies_lyr (xs : List Nat) : ∀ s : State, ∃ l, (xs.foldl failCopy s).lyr = { s.lyr with bufs := l } := by
  induction xs with
  | nil => exact fun s => ⟨_, rfl⟩
  | cons x xs ih =>
    intro s
    obtain ⟨l, e⟩ := ih (failCopy s x)
    obtain ⟨l', e'⟩ := freeSlot_lyr x s
    exact ⟨l, by rw [List.foldl_cons, e, failCopy_lyr, e']⟩

theorem failCopies_buf_other (xs : List Nat) {e : Nat} (he : ∀ slot ∈ xs, e ≠ 60 + slot) :
    ∀ s : State, (xs.foldl failCopy s).buf? e = s.buf? e := by
  induction xs with
  | nil => exact fun s => rfl
  | cons x xs ih =>
    intro s
    rw [List.foldl_cons, ih (fun y hy => he y (.tail _ hy)), failCopy_buf, if_neg (he x (.head _))]

theorem failCopies_buf (xs : List Nat) (hs : slot ∈ xs) : ∀ (s : State) (b : BufDesc), s.buf? (60 + slot) = some b →
    (xs.foldl failCopy s).buf? (60 + slot) = some { b with st := 0 } := by
  induction xs with
  | nil => exact absurd hs (by simp)
  | cons x xs ih =>
    intro s b hb
    rw [List.foldl_cons]
    by_cases hx : slot ∈ xs
    · by_cases he : 60 + slot = 60 + x
      · exact ih hx _ { b with st := 0 } (by rw [failCopy_buf, if_pos he, hb]; rfl)
      · exact ih hx _ b (by rw [failCopy_buf, if_neg he, hb])
    · obtain rfl : slot = x := (List.mem_cons.1 hs).resolve_right hx
      rw [failCopies_buf_other xs (fun y hy e => hx (by rwa [Nat.add_left_cancel e])), failCopy_buf, if_pos rfl, hb]
      rfl

theorem freeSlot_cmd (slot : Nat) (s : State) : (freeSlot slot s).cmd = s.cmd := by
  obtain ⟨l, e⟩ := freeSlot_lyr slot s
  rw [e]

/-- Another slot's copy leaves the command that copies into a slot. -/
theorem failCopy_jobKey {x : Nat} (hn : (s.cmd.jobs.map Job.seq).Nodup) (hj : s.jobKey? 0x28 slot = some j) (hx : x ≠ slot) :
    (failCopy s x).jobKey? 0x28 slot = some j := by
  have hc := freeSlot_cmd x s
  have hj' : (freeSlot x s).jobKey? 0x28 slot = some j := by rw [State.jobKey?, hc]; exact hj
  unfold failCopy finishKey
  split
  · next i hi =>
    refine jobKey?_finishJob (by rw [hc]; exact hn) hj' (jobKey?_mem hi).1 ?_ _ _
    rintro rfl
    exact hx ((jobKey?_mem hi).2.2.symm.trans (jobKey?_mem hj).2.2)
  · exact hj'

theorem failCopy_nodup (hn : (s.cmd.jobs.map Job.seq).Nodup) (x : Nat) : ((failCopy s x).cmd.jobs.map Job.seq).Nodup := by
  have hn' : ((freeSlot x s).cmd.jobs.map Job.seq).Nodup := by rwa [freeSlot_cmd]
  unfold failCopy finishKey
  split
  · exact finishJob_nodup hn' _ _ _
  · exact hn'

/-- Every command that copies into one of the slots ends with BAD_CRC. -/
theorem failCopies_reply (xs : List Nat) (hs : slot ∈ xs) : ∀ s : State, (s.cmd.jobs.map Job.seq).Nodup →
    s.jobKey? 0x28 slot = some j → replyOf j.op j.rq true St.badCrc [] j.seq ∈ (xs.foldl failCopy s).cmd.out := by
  induction xs with
  | nil => exact absurd hs (by simp)
  | cons x xs ih =>
    intro s hn hj
    rw [List.foldl_cons]
    by_cases hx : x = slot
    · subst hx
      refine (failCopies_moves xs (failCopy s x)).sends.mem ?_
      have hj' : (freeSlot x s).jobKey? 0x28 x = some j := by rw [State.jobKey?, freeSlot_cmd]; exact hj
      rw [(jobKey?_mem hj).2.1]
      exact (finishKey_tells hj' (by decide) []).mem
    · have hxs : slot ∈ xs := (List.mem_cons.1 hs).resolve_left (fun e => hx e.symm)
      exact ih hxs _ (failCopy_nodup hn x) (failCopy_jobKey hn hj hx)

/-! ### The reload and the reset of the tone map -/

theorem fallbackIpred_lt (s : State) : fallbackIpred s < 2 ^ 16 := by
  have hi : ∀ n, ipredMa n < 2 ^ 16 := fun n => by unfold ipredMa; omega
  unfold fallbackIpred
  split
  · decide
  · exact hi _

theorem loadFallback_eq (s : State) : ∃ n, loadFallback s =
    ({ s with drv.fb := s.nvm.fb }.setB F.SAF_FB_VALID s.nvm.fbValid).setF F.SAF_FB_IPRED n := ⟨_, rfl⟩

theorem loadFallback_moves {u : State} (h : Moves anyReply [.drv, .lyr] [0x8038, 0x20C4] u s) :
    Moves anyReply [.drv, .lyr] [0x8038, 0x20C4] u (loadFallback s) := by
  obtain ⟨n, e⟩ := loadFallback_eq s
  rw [e]
  exact ((h.drv (by decide)).setB _ (by decide)).setF _ (by decide)

theorem loadFallback_loads (s : State) : (loadFallback s).drv.fb = s.nvm.fb ∧ (loadFallback s).fb F.SAF_FB_VALID = s.nvm.fbValid ∧
    (loadFallback s).lyr = s.lyr ∧ (loadFallback s).cmd = s.cmd ∧ (loadFallback s).fresh = s.fresh := by
  obtain ⟨n, e⟩ := loadFallback_eq s
  rw [e]
  exact ⟨rfl, (fb_setF_other _ _ (by decide) (by decide) (by decide)).trans (fb_setB_same _ _ (by decide)), rfl, rfl, rfl⟩

theorem toneReset_eq (s : State) : ∃ d, toneReset s = ((({ s with fresh := s.fresh + 1, lyr.tone := none } : State).setReg 0x4020
    (BitVec.ofNat 32 (toneCrc toneIdentity))).setB F.LYR_STATUS_TONE_RESET true).raise 0x45 d := ⟨_, rfl⟩

theorem toneReset_moves (s : State) : Moves anyReply [.lyr, .fresh] [0x4018, 0x4020] s (toneReset s) := by
  obtain ⟨d, e⟩ := toneReset_eq s
  rw [e]
  have h0 : Moves anyReply [.lyr, .fresh] [0x4018, 0x4020] s { s with fresh := s.fresh + 1, lyr.tone := none } :=
    (Moves.refl _ _ _ s).parts (fun q hq => by cases q <;> first | rfl | exact absurd (by simp) hq) rfl rfl
  exact ((h0.setReg _ (by decide)).setB _ (by decide)).raise (by decide) _ _

theorem toneReset_resets (s : State) : (toneReset s).lyr = { s.lyr with tone := none } ∧
    (toneReset s).fb F.LYR_STATUS_TONE_RESET = true ∧ (toneReset s).reg 0x4020 = BitVec.ofNat 32 (toneCrc toneIdentity) := by
  obtain ⟨d, e⟩ := toneReset_eq s
  rw [e]
  refine ⟨raise_lyr _ _ _, (raise_fb _ _ _ (by decide)).trans (fb_setB_same _ _ (by decide)), ?_⟩
  rw [raise_reg _ _ _ (by decide), reg_setB_other _ _ _ (by decide), reg_setReg_same]

/-! ### The check -/

/-- The fallback copy was found good, or is loaded again. -/
def fallbackChecked (fbOk : Bool) (s : State) : State :=
  if fbOk then s.setF F.SAF_FB_IPRED (fallbackIpred s) else loadFallback (copiesFail s)

theorem fallbackCrcCheck_eq (fbOk toneOk : Bool) (h : s.tck.running = true) :
    fallbackCrcCheck fbOk toneOk s = if toneOk then fallbackChecked fbOk s else toneReset (fallbackChecked fbOk s) :=
  if_neg (by simp [h])

theorem copiesFail_moves (s : State) : Moves anyReply [.drv, .lyr] [0x8038, 0x20C4] s (copiesFail s) := by
  have h0 : Moves anyReply [.drv, .lyr] [0x8038, 0x20C4] s { s with lyr.copies := [] } := (Moves.refl _ _ _ s).lyr (by decide)
  exact h0.andThen (failCopies_moves _ _) (by decide) (by decide)

theorem fallbackChecked_moves (fbOk : Bool) (s : State) : Moves anyReply [.drv, .lyr] [0x8038, 0x20C4] s (fallbackChecked fbOk s) := by
  unfold fallbackChecked
  exact .ite ((Moves.refl _ _ _ s).setF _ (by decide)) (loadFallback_moves (copiesFail_moves s))

/-- What the check of the tone map leaves of the check of the copy. -/
theorem toneChecked (toneOk : Bool) (u : State) (e : t = if toneOk then u else toneReset u) :
    Moves anyReply [.lyr, .fresh] [0x4018, 0x4020] u t ∧ t.lyr = (if toneOk then u.lyr else { u.lyr with tone := none }) := by
  cases toneOk
  · rw [e]
    exact ⟨toneReset_moves u, (toneReset_resets u).1⟩
  · rw [e]
    exact ⟨.refl _ _ _ u, rfl⟩

end fallback

/-- Settles O30: the copies end one after the other, each leaving the others' slots and commands. -/
theorem fallbackCopyAndToneMapAreChecked : Obligations.FallbackCopyAndToneMapAreChecked := by
  unfold Obligations.FallbackCopyAndToneMapAreChecked
  intro s hr fbOk toneOk
  have hm := fallbackChecked_moves fbOk s
  obtain ⟨ht, hl⟩ := toneChecked toneOk (fallbackChecked fbOk s) rfl
  refine ⟨_, congrArg Host.Outcome.next (fallbackCrcCheck_eq fbOk toneOk hr), ?_, ?_, ?_, ?_, ?_⟩
  · rintro rfl
    refine ⟨(congrArg DrvSt.fb (ht.keeps .drv (by decide))).trans rfl, ?_, ?_, hl⟩
    · exact (ht.regs.fb (by decide)).trans (fb_setF_other _ _ (by decide) (by decide) (by decide))
    · exact (ht.regs.f (by decide)).trans (f_setF_same _ (by decide) (fallbackIpred_lt s))
  · rintro rfl
    obtain ⟨h1, h2, h3, h4, -⟩ := loadFallback_loads (copiesFail s)
    have hnvm : (copiesFail s).nvm = s.nvm := (copiesFail_moves s).keeps .nvm (by decide)
    obtain ⟨l, e⟩ := failCopies_lyr s.lyr.copies { s with lyr.copies := [] }
    rw [← copiesFail_eq] at e
    have hlyr : (fallbackChecked false s).lyr = (copiesFail s).lyr := h3
    have hbuf : ∀ d, State.buf? (if toneOk then fallbackChecked false s else toneReset (fallbackChecked false s)) d =
        (copiesFail s).buf? d := fun d => by
      rw [State.buf?, hl, hlyr]
      cases toneOk <;> rfl
    rw [hl, hlyr, e]
    refine ⟨(congrArg DrvSt.fb (ht.keeps .drv (by decide))).trans (h1.trans (by rw [hnvm])),
      (ht.regs.fb (by decide)).trans (h2.trans (by rw [hnvm])), by cases toneOk <;> rfl, by cases toneOk <;> rfl,
      by cases toneOk <;> rfl, fun slot hs b hb => ?_, fun d hd => ?_, fun hn slot hs j hj => ?_⟩
    · exact (hbuf _).trans (failCopies_buf _ hs _ b hb)
    · exact (hbuf d).trans (failCopies_buf_other _ hd _)
    · refine ht.sends.mem ?_
      show _ ∈ (loadFallback (copiesFail s)).cmd.out
      rw [h4]
      exact failCopies_reply _ hs { s with lyr.copies := [] } hn hj
  · rintro rfl
    exact hm.keeps .fresh (by decide)
  · rintro rfl
    exact (toneReset_resets _).2
  · exact ((hm.mono (by decide) (by decide)).andThen ht (by decide) (by decide)).frame

end Sys2Proof.Machine
end

section
/-! The lamp state and the removal of the light: what a change of the lamp state writes, and what it leaves (R230, R233, R234). -/

namespace Sys2Proof.Machine

section lamp

variable {s t : State} {new : Nat} {y : Fld}

/-- A field reads the register words alone. -/
theorem f_of_regs (h : t.regs = s.regs) (x : Fld) : t.f x = s.f x := by simp only [State.f, State.reg, h]

theorem fb_of_regs (h : t.regs = s.regs) (x : Fld) : t.fb x = s.fb x := by rw [State.fb, f_of_regs h, State.fb]

/-- What a change of the lamp state may touch, beside SAF_STATE and LAST_ERROR. -/
def lampParts : List Part := [.pwr, .nvm, .drv, .dia]

/-- What a lamp state ends (R103, R213, R390, R391, R457). -/
def lampFollows (new : Nat) (s : State) : State := abortBist (clearElapsed (leaveHold (lampEnds new s)))

theorem setLamp_eq (new : Nat) (s : State) : setLamp new s = if (lampClock new s).lamp = new then lampClock new s
    else lampFollows new (((lampClock new s).setF F.SAF_STATE_LAMP new).raise 0x81 (q4 (lampClock new s).lamp ++ q4 new)) := rfl

theorem lampFollows_moves (new : Nat) (s : State) : Moves anyReply lampParts [0x20C4] s (lampFollows new s) := by
  have h := Moves.refl anyReply lampParts [0x20C4] s
  refine ((Moves.leaveHold ?_ (by decide)).clearElapsed (by decide)).abortBist (by decide) (by decide)
  unfold lampEnds
  exact .ite ((h.abortCal (by decide) (by decide)).pauseTests (by decide) (by decide) 0) h

/-- A change of the lamp state writes SAF_STATE.LAMP and nothing else of SAF (R230). -/
theorem setLamp_moves (new : Nat) (s : State) : Moves anyReply lampParts [0x20C4, 0x8000] s (setLamp new s) :=
  (Moves.refl _ _ _ s).setLamp (by decide) (by decide) (by decide) (by decide) (by decide) (by decide) new

theorem lampClock_f (new : Nat) (s : State) (x : Fld) : (lampClock new s).f x = s.f x := by
  unfold lampClock
  split
  · rfl
  · split <;> rfl

theorem setLamp_lamp (h : new < 8) (s : State) : (setLamp new s).lamp = new := by
  rw [setLamp_eq]
  split
  · assumption
  · rw [State.lamp, (lampFollows_moves new _).regs.f (by decide), raise_f _ _ _ (by decide)]
    exact f_setF_same _ (by decide) h

theorem setLamp_f (hy : y.ok) (ha : F.SAF_STATE_LAMP.apart y) (hw : y.addr ∉ eventRegs ++ [0x20C4]) (s : State) :
    (setLamp new s).f y = s.f y := by
  rw [setLamp_eq]
  split
  · exact lampClock_f new s y
  · rw [(lampFollows_moves new _).regs.f hw, raise_f _ _ _ (fun h => hw (List.mem_append_left _ h)),
      f_setF_other _ _ (by decide) hy ha, lampClock_f]

/-! ### The class-0 removal -/

/-- The switches open and the supply goes low, before the lamp state is STOPPED. -/
def lightGone (s : State) : State :=
  ({ vledOff s with saf.switches := false, saf.fade := none, saf.fbSelect := false } : State).setB F.SAF_STATE_LATCHED true

theorem removeLight_eq (s : State) : removeLight s = setLamp Lamp.stopped (lightGone s) := rfl

theorem lightGone_moves (s : State) : Moves anyReply stopParts [0x20C4, 0x8000] s (lightGone s) := by
  have h : Moves anyReply stopParts [0x20C4, 0x8000] s (s.setB F.SAF_STATE_VLED_EN false) := (Moves.refl _ _ _ s).setB _ (by decide)
  unfold lightGone vledOff
  refine Moves.setB ?_ _ (by decide)
  exact h.parts (fun q hq => by cases q <;> first | rfl | exact absurd (by decide) hq) rfl rfl

theorem removeLight_frame (s : State) : Moves anyReply stopParts [0x20C4, 0x8000] s (removeLight s) := by
  rw [removeLight_eq]
  exact (lightGone_moves s).andThen (setLamp_moves _ _) (by decide) (by decide)

theorem removeLight_saf (s : State) : (removeLight s).saf =
    { s.saf with awaitArm := false, switches := false, fade := none, fbSelect := false } :=
  (setLamp_moves Lamp.stopped (lightGone s)).keeps .saf (by decide)

theorem lightGone_regs (s : State) :
    (lightGone s).regs = ((s.setB F.SAF_STATE_VLED_EN false).setB F.SAF_STATE_LATCHED true).regs := rfl

theorem removeLight_stopped (s : State) : Stopped (removeLight s) := by
  refine ⟨setLamp_lamp (by decide) _, ?_, ?_, by rw [removeLight_saf]⟩
  · rw [removeLight_eq, State.fb, setLamp_f (by decide) (by decide) (by decide), f_of_regs (lightGone_regs s)]
    exact fb_setB_same _ _ (by decide)
  · rw [removeLight_eq, State.fb, setLamp_f (by decide) (by decide) (by decide), f_of_regs (lightGone_regs s),
      f_setB_other _ _ (by decide) (by decide) (by decide)]
    exact fb_setB_same _ _ (by decide)

/-! ### The stamps of a stop -/

/-- The words of the stamps. -/
def stampWords : List Nat := [0x8000, 0x8024, 0x8028, 0x802C]

theorem stampStop_moves (cls src : Nat) (s : State) : Moves anyReply [] stampWords s (stampStop cls src s) :=
  (Moves.refl _ _ _ s).stampStop (by decide) (by decide) (by decide) (by decide) cls src

/-- The stamps leave the lamp state, the latch and the supply. -/
theorem stampStop_f (cls src : Nat) (hy : y.ok) (hc : F.SAF_STATE_CLASS.apart y) (hs : F.SAF_STATE_SOURCE.apart y)
    (hw : y.addr ∉ eventRegs ++ [0x8024, 0x8028, 0x802C]) (s : State) : (stampStop cls src s).f y = s.f y := by
  simp only [List.mem_append, List.mem_cons, List.not_mem_nil, or_false, not_or] at hw
  obtain ⟨he, h1, h2, h3⟩ := hw
  unfold stampStop
  rw [raise_f _ _ _ he, f_setReg_other _ _ h3, f_setReg_other _ _ h2, f_setReg_other _ _ h1,
    f_setF_other _ _ (by decide) hy hs, f_setF_other _ _ (by decide) hy hc]

theorem stampStop_class {cls : Nat} (h : cls < 4) (src : Nat) (s : State) : (stampStop cls src s).f F.SAF_STATE_CLASS = cls := by
  unfold stampStop
  rw [raise_f _ _ _ (by decide), f_setReg_other _ _ (by decide), f_setReg_other _ _ (by decide), f_setReg_other _ _ (by decide),
    f_setF_other _ _ (by decide) (by decide) (by decide), f_setF_same _ (by decide) h]

theorem stampStop_source (cls : Nat) {src : Nat} (h : src < 16) (s : State) : (stampStop cls src s).f F.SAF_STATE_SOURCE = src := by
  unfold stampStop
  rw [raise_f _ _ _ (by decide), f_setReg_other _ _ (by decide), f_setReg_other _ _ (by decide), f_setReg_other _ _ (by decide),
    f_setF_same _ (by decide) h]

theorem stampStop_stopped (cls src : Nat) (h : Stopped s) : Stopped (stampStop cls src s) := by
  obtain ⟨hl, hk, hv, hs⟩ := h
  refine ⟨(stampStop_f cls src (by decide) (by decide) (by decide) (by decide) s).trans hl, ?_, ?_, ?_⟩
  · rw [State.fb, stampStop_f cls src (by decide) (by decide) (by decide) (by decide)]
    exact hk
  · rw [State.fb, stampStop_f cls src (by decide) (by decide) (by decide) (by decide)]
    exact hv
  · rw [(stampStop_moves cls src s).keeps .saf (by decide)]
    exact hs

/-- A class-0 stop removes the light, and says by which source (R234, R258). -/
theorem class0_stops {src : Nat} (h : src < 16) (s : State) : Stopped (class0 src s) ∧ (class0 src s).f F.SAF_STATE_CLASS = 0 ∧
    (class0 src s).f F.SAF_STATE_SOURCE = src :=
  ⟨stampStop_stopped 0 src (removeLight_stopped s), stampStop_class (by decide) src _, stampStop_source 0 h _⟩

/-- A request of class 0 while the lamp is on is the class-0 stop at once (R234, R239). -/
theorem requestStopDur_class0 (src dur : Nat) (s : State)
    (hl : s.lamp = Lamp.lit ∨ s.lamp = Lamp.fading ∨ s.lamp = Lamp.safeHold) :
    requestStopDur 0 src dur s = class0 src (leaveHold (s.setReg 0x801C (s.reg 0x801C ||| BitVec.ofNat 32 (2 ^ src)))) := by
  have hu : (leaveHold (s.setReg 0x801C (s.reg 0x801C ||| BitVec.ofNat 32 (2 ^ src)))).lamp = s.lamp := by
    unfold leaveHold
    split <;> exact f_setReg_other _ _ (by decide)
  unfold requestStopDur
  simp only [hu]
  rcases hl with h | h | h <;> rw [h] <;> rfl

end lamp

end Sys2Proof.Machine
end

section
/-! Fades: the scale of each update, the check of the envelope, and the three ends (R23, R24, R235 to R237, R240); O40. -/

namespace Sys2Proof.Machine

section fades

variable {s : State} {f : Fade}

/-! ### CURRENT_REF_UPDATE -/

/-- The scale of a fade, before G_c bounds it (R24). -/
def fadeScale (s : State) : Nat :=
  if s.drv.shown.f = 0 then 0
  else min 0x8000 (s.f F.DRV_GOV_STAT_GC * (fadeF s s.time).1 * 0x8000 / ((fadeF s s.time).2 * s.drv.shown.f))

theorem currentRefUpdate_fading (h : s.saf.fade = some f) :
    currentRefUpdate s = s.setF F.DRV_SCALE_SCALE (min (fadeScale s) (s.f F.DRV_GOV_STAT_GC)) := by
  simp only [currentRefUpdate, h]
  rfl

theorem currentRefUpdate_scale (h : s.saf.fade = some f) :
    (currentRefUpdate s).f F.DRV_SCALE_SCALE = min (fadeScale s) (s.f F.DRV_GOV_STAT_GC) := by
  rw [currentRefUpdate_fading h]
  exact f_setF_same _ (by decide) (lt_of_le_of_lt (min_le_right _ _) (f_lt s F.DRV_GOV_STAT_GC))

/-! ### ENVELOPE_CHECK -/

/-- What the current is checked against: the envelope of the fade, or the budget in SAFE_HOLD. -/
def checkedAgainst (s : State) : Nat :=
  match s.saf.fade with
  | some f => f.env s.time
  | none => s.budgetMa

/-- The measured current is above its limit and the tolerance (R237). -/
abbrev EnvelopeBroken (imeas : Nat) (s : State) : Prop :=
  checkedAgainst s * (100 + s.f F.SAF_ENV_TOL) + 100 * s.f F.SAF_ENV_OFS < imeas * 100

/-- The current of a check is read. -/
def imeasRead (imeas : Nat) (s : State) : State := s.setF F.DRV_IMEAS_IMEAS (min 65535 imeas)

/-- The readings of a check: the current, and in a fade the envelope. -/
def envelopeRead (imeas : Nat) (s : State) : State :=
  if s.saf.fade.isSome then (imeasRead imeas s).setF F.SAF_ENV_STAT_ENV (min 65535 (checkedAgainst s)) else imeasRead imeas s

theorem imeasRead_f (imeas : Nat) {x : Fld} (hx : x.addr ≠ 0x6014) (s : State) : (imeasRead imeas s).f x = s.f x :=
  f_setReg_other _ _ hx

theorem checkedAgainst_imeasRead (imeas : Nat) (s : State) : checkedAgainst (imeasRead imeas s) = checkedAgainst s := by
  unfold checkedAgainst State.budgetMa
  rw [imeasRead_f imeas (by decide)]
  rfl

theorem envelopeBroken_imeasRead (imeas : Nat) (s : State) : EnvelopeBroken imeas (imeasRead imeas s) ↔ EnvelopeBroken imeas s := by
  unfold EnvelopeBroken
  rw [checkedAgainst_imeasRead, imeasRead_f imeas (by decide), imeasRead_f imeas (by decide)]

theorem envelopeCheck_eq (imeas : Nat) (h : s.saf.fade.isSome = true ∨ s.lamp = Lamp.safeHold) :
    envelopeCheck imeas s = if EnvelopeBroken imeas s then raiseOnce Src.envelope (envelopeRead imeas s) else envelopeRead imeas s := by
  have e : ∀ u, u = imeasRead imeas s → envelopeCheck imeas s =
      if u.saf.fade.isSome = true then
        (if EnvelopeBroken imeas u then raiseOnce Src.envelope (u.setF F.SAF_ENV_STAT_ENV (min 65535 (checkedAgainst u)))
          else u.setF F.SAF_ENV_STAT_ENV (min 65535 (checkedAgainst u)))
      else if u.lamp = Lamp.safeHold then (if EnvelopeBroken imeas u then raiseOnce Src.envelope u else u) else u := by
    rintro u rfl
    rfl
  have hf : (imeasRead imeas s).saf.fade = s.saf.fade := rfl
  have hl : (imeasRead imeas s).lamp = s.lamp := imeasRead_f imeas (by decide) s
  rw [e _ rfl]
  simp only [envelopeBroken_imeasRead, checkedAgainst_imeasRead, hf, hl]
  by_cases hs : s.saf.fade.isSome = true
  · rw [if_pos hs, envelopeRead, if_pos hs]
  · rw [if_neg hs, if_pos (h.resolve_left hs), envelopeRead, if_neg hs]

theorem envelopeRead_moves (imeas : Nat) (s : State) : Moves anyReply [] [0x6014, 0x8020] s (envelopeRead imeas s) := by
  have h : Moves anyReply [] [0x6014, 0x8020] s (imeasRead imeas s) := (Moves.refl _ _ _ s).setF _ (by decide)
  exact .ite (h.setF _ (by decide)) h

theorem envelopeRead_keeps (imeas : Nat) (s : State) :
    Keeps [.regs] s (envelopeRead imeas s) ∧ KeepsRegs [0x6014, 0x8020] s (envelopeRead imeas s) := by
  have hk : Keeps [.regs] s (imeasRead imeas s) := setF_keeps [] s _ _
  have hr : KeepsRegs [0x6014, 0x8020] s (imeasRead imeas s) := setF_keepsRegs s _ (by decide)
  unfold envelopeRead
  split
  · exact ⟨hk.trans (setF_keeps [] _ _ _), hr.trans (setF_keepsRegs _ _ (by decide))⟩
  · exact ⟨hk, hr⟩

theorem envelopeRead_imeas (imeas : Nat) (s : State) : (envelopeRead imeas s).f F.DRV_IMEAS_IMEAS = min 65535 imeas := by
  have h : (imeasRead imeas s).f F.DRV_IMEAS_IMEAS = min 65535 imeas :=
    f_setF_same _ (by decide) (lt_of_le_of_lt (min_le_left _ _) (by decide))
  unfold envelopeRead
  split
  · rw [f_setF_other _ _ (by decide) (by decide) (by decide), h]
  · exact h

theorem raiseOnce_envelope (s : State) : raiseOnce Src.envelope s = requestStopDur 0 Src.envelope (msUnits (s.f F.SAF_FADE_T1)) s := rfl

/-! ### The ends -/

theorem atFadeEnd_moves (f : Fade) (s : State) : Moves anyReply [.time] [] s (atFadeEnd f s) := (Moves.refl _ _ _ s).time (by decide)

/-- SAFE_HOLD, at full scale. -/
def safeHeld (f : Fade) (s : State) : State :=
  { atFadeEnd f s with saf.fade := none }.setF F.DRV_SCALE_SCALE (s.f F.DRV_GOV_STAT_GC)

theorem class2FadeEnd_eq (h : s.saf.fade = some f) (hk : f.kind = .class2) : class2FadeEnd s = setLamp Lamp.safeHold (safeHeld f s) := by
  simp only [class2FadeEnd, h, hk, if_true]
  rfl

theorem safeHeld_moves (f : Fade) (s : State) : Moves anyReply (.time :: stopParts) [0x20C4, 0x8000, 0x605C] s (safeHeld f s) := by
  refine Moves.setF ?_ _ (by decide)
  exact (Moves.refl _ _ _ s).parts (fun q hq => by cases q <;> first | rfl | exact absurd (by decide) hq) rfl rfl

/-- The supply and the switches are off, at the end of a switch-off. -/
def switchedOff (f : Fade) (s : State) : State := { vledOff (atFadeEnd f s) with
  saf.fade := none, saf.switches := false, saf.fbRelease := !s.saf.fbUntilFlip, saf.fbSelect := false }

theorem switchOffEnd_eq (h : s.saf.fade = some f) (hk : f.kind = .switchOff) : switchOffEnd s = setLamp Lamp.dark (switchedOff f s) := by
  simp only [switchOffEnd, h, hk, if_true]
  rfl

theorem switchedOff_regs (f : Fade) (s : State) : (switchedOff f s).regs = (s.setB F.SAF_STATE_VLED_EN false).regs := rfl

theorem switchedOff_moves (f : Fade) (s : State) : Moves anyReply (.time :: stopParts) [0x20C4, 0x8000] s (switchedOff f s) := by
  have h : Moves anyReply (.time :: stopParts) [0x20C4, 0x8000] s (s.setB F.SAF_STATE_VLED_EN false) := (Moves.refl _ _ _ s).setB _ (by decide)
  exact h.parts (fun q hq => by cases q <;> first | rfl | exact absurd (by decide) hq) rfl rfl

theorem class1FadeEnd_eq (h : s.saf.fade = some f) (hk : f.kind = .class1) : class1FadeEnd s = removeLight (atFadeEnd f s) := by
  simp only [class1FadeEnd, h, hk, if_true]

end fades

/-- Settles O40: a check reads before it stops, and each end writes SAF_STATE alone beside the scale. -/
theorem fadesFollowTheirEnvelope : Obligations.FadesFollowTheirEnvelope := by
  unfold Obligations.FadesFollowTheirEnvelope
  intro s
  refine ⟨fun f hf => ?_, fun hf => ?_, fun imeas e hs he => ?_, fun f hf hk => ?_, fun f hf hk => ?_, fun f hf hk => ?_⟩
  · have hv := currentRefUpdate_scale hf
    refine ⟨_, rfl, ?_, ?_, ?_, fun h0 => ?_, fun h0 => ?_⟩
    · rw [currentRefUpdate_fading hf]
      exact setF_keeps [] s _ _
    · rw [currentRefUpdate_fading hf]
      exact setF_keepsRegs s _ (by decide)
    · rw [hv]
      exact min_le_right _ _
    · rw [hv, fadeScale, if_neg h0]
    · rw [hv, fadeScale, if_pos h0, Nat.zero_min]
  · simp only [exec, execCurrentRefUpdate, currentRefUpdate, hf]
  · have hb : EnvelopeBroken imeas s ↔ e * (100 + s.f F.SAF_ENV_TOL) + 100 * s.f F.SAF_ENV_OFS < imeas * 100 := by
      rw [he]; rfl
    have heq := envelopeCheck_eq imeas hs
    have hr := envelopeRead_moves imeas s
    refine ⟨_, congrArg Host.Outcome.next heq, ?_, fun hlt hl => ?_, fun hge => ?_, ?_⟩
    · split
      · rw [raiseOnce_envelope, (requestStopDur_moves _ _ _ _).regs.f (by decide), envelopeRead_imeas]
      · exact envelopeRead_imeas imeas s
    · have hlamp : (envelopeRead imeas s).lamp = s.lamp := hr.regs.f (by decide)
      rw [if_pos (hb.2 hlt), raiseOnce_envelope, requestStopDur_class0 _ _ _ (by rw [hlamp]; exact hl)]
      exact class0_stops (by decide) _
    · rw [if_neg (fun h => absurd (hb.1 h) (Nat.not_lt.2 hge))]
      exact envelopeRead_keeps imeas s
    · have hr' := hr.mono (p' := stopParts) (w' := 0x6014 :: stopWords) (by decide) (by decide)
      exact (Moves.ite (hr'.raiseOnce (by decide) (by decide) _) hr').frame
  · refine ⟨_, congrArg Host.Outcome.next (class1FadeEnd_eq hf hk), removeLight_stopped _, ?_, ?_, ?_⟩
    · rw [removeLight_saf]
    · exact (removeLight_frame _).keeps .time (by decide)
    · exact ((atFadeEnd_moves f s).mono (by decide) (by decide)).andThen (removeLight_frame _) (by decide) (by decide) |>.frame
  · have hl := setLamp_moves Lamp.safeHold (safeHeld f s)
    refine ⟨_, congrArg Host.Outcome.next (class2FadeEnd_eq hf hk), setLamp_lamp (by decide) _, hl.keeps .saf (by decide),
      hl.keeps .time (by decide), ?_, ((safeHeld_moves f s).andThen hl (by decide) (by decide)).frame⟩
    rw [hl.regs.f (by decide)]
    exact f_setF_same _ (by decide) (f_lt s F.DRV_GOV_STAT_GC)
  · have hl := setLamp_moves Lamp.dark (switchedOff f s)
    have hsaf := hl.keeps .saf (by decide)
    refine ⟨_, congrArg Host.Outcome.next (switchOffEnd_eq hf hk), setLamp_lamp (by decide) _, ⟨?_, congrArg SafSt.switches hsaf⟩,
      congrArg SafSt.fade hsaf, ?_, hl.keeps .time (by decide), ((switchedOff_moves f s).andThen hl (by decide) (by decide)).frame⟩
    · rw [State.fb, setLamp_f (by decide) (by decide) (by decide), f_of_regs (switchedOff_regs f s)]
      exact fb_setB_same _ _ (by decide)
    · rw [State.fb, setLamp_f (by decide) (by decide) (by decide), f_of_regs (switchedOff_regs f s)]
      exact fb_setB_other _ _ (by decide) (by decide) (by decide)

end Sys2Proof.Machine
end

section
/-! What a stop request leaves alone, whatever its class: the sources that are active, and the image in composition (R230, R239). -/

namespace Sys2Proof.Machine

section stops

variable {s t : State}

/-- DRV stands as it did, but for a FLUX_CAL that ends. -/
def CalEnds (s t : State) : Prop := ∃ c m, t.drv = { s.drv with cal := c, calMeas := m }

theorem CalEnds.refl (s : State) : CalEnds s s := ⟨_, _, rfl⟩

theorem CalEnds.trans {u : State} (h : CalEnds s t) (h' : CalEnds t u) : CalEnds s u := by
  obtain ⟨c, m, e⟩ := h
  obtain ⟨c', m', e'⟩ := h'
  exact ⟨c', m', by rw [e', e]⟩

theorem CalEnds.of_drv (h : t.drv = s.drv) : CalEnds s t := ⟨_, _, h⟩

theorem endCal_calEnds (st : Nat) (s : State) : CalEnds s (endCal st s) := by
  unfold endCal
  split
  · exact .refl s
  · simp only []
    split
    · exact ⟨none, [], finishJob_keeps _ st _ _ .drv (by decide)⟩
    · exact ⟨none, [], rfl⟩

theorem lampFollows_calEnds (new : Nat) (s : State) : CalEnds s (lampFollows new s) := by
  have hp : ∀ u : State, CalEnds u (pauseTests 0 u) := fun u =>
    .of_drv (((Moves.refl anyReply [.dia] [0x20C4] u).pauseTests (by decide) (by decide) 0).keeps .drv (by decide))
  have h1 : CalEnds s (lampEnds new s) := by
    unfold lampEnds
    split
    · exact (endCal_calEnds _ s).trans (hp _)
    · exact .refl s
  refine h1.trans (.of_drv ?_)
  exact ((((Moves.refl anyReply [.pwr, .nvm] [0x20C4] (lampEnds new s)).leaveHold (by decide)).clearElapsed (by decide)).abortBist
    (by decide) (by decide)).keeps .drv (by decide)

theorem setLamp_calEnds (new : Nat) (s : State) : CalEnds s (setLamp new s) := by
  have h0 : (lampClock new s).drv = s.drv := ((Moves.refl anyReply [.pwr] [] s).lampClock (by decide) new).keeps .drv (by decide)
  rw [setLamp_eq]
  split
  · exact .of_drv h0
  · refine .trans (.of_drv ?_) (lampFollows_calEnds _ _)
    exact (raise_drv _ _ _).trans h0

/-! ### The branches of a request -/

/-- The words a stop writes beside STOP_SEEN. -/
def stopOwnWords : List Nat := [0x20C4, 0x8000, 0x8024, 0x8028, 0x802C, 0x8020]

/-- A step of a stop that leaves the active sources and the image in composition. -/
structure StopStep (s t : State) : Prop where
  moves : Moves anyReply stopParts stopOwnWords s t
  active : t.saf.active = s.saf.active
  cal : CalEnds s t

theorem StopStep.refl (s : State) : StopStep s s := ⟨.refl _ _ _ s, rfl, .refl s⟩

theorem StopStep.trans {u : State} (h : StopStep s t) (h' : StopStep t u) : StopStep s u :=
  ⟨h.moves.trans h'.moves, h'.active.trans h.active, h.cal.trans h'.cal⟩

theorem StopStep.setLamp (new : Nat) (s : State) : StopStep s (setLamp new s) :=
  ⟨(setLamp_moves new s).mono (by decide) (by decide), congrArg SafSt.active ((setLamp_moves new s).keeps .saf (by decide)),
    setLamp_calEnds new s⟩

theorem StopStep.stampStop (cls src : Nat) (s : State) : StopStep s (stampStop cls src s) :=
  ⟨(stampStop_moves cls src s).mono (by decide) (by decide), congrArg SafSt.active ((stampStop_moves cls src s).keeps .saf (by decide)),
    .of_drv ((stampStop_moves cls src s).keeps .drv (by decide))⟩

theorem StopStep.class0 (src : Nat) (s : State) : StopStep s (class0 src s) :=
  .trans (t := removeLight s) ⟨(removeLight_frame s).mono (by decide) (by decide), by rw [removeLight_saf],
    (CalEnds.of_drv rfl).trans (setLamp_calEnds _ (lightGone s))⟩ (.stampStop 0 src _)

/-- A fade begins: I_START is noted, and the lamp fades. -/
theorem StopStep.fading (x : SafSt) (iStart : Nat) (ha : x.active = s.saf.active) :
    StopStep s (Machine.setLamp Lamp.fading ({ s with saf := x }.setF F.SAF_ENV_STAT_I_START iStart)) := by
  refine .trans ⟨?_, ?_, ?_⟩ (.setLamp _ _)
  · exact ((Moves.refl _ _ _ s).saf (by decide)).setF _ (by decide)
  · exact ha
  · exact .of_drv rfl

theorem StopStep.beginClass1 (src dur : Nat) (s : State) : StopStep s (beginClass1 src dur s) := by
  unfold Machine.beginClass1
  refine StopStep.trans (StopStep.fading _ _ ?_) (.stampStop 1 src _)
  rfl

theorem StopStep.beginClass2 (src : Nat) (s : State) : StopStep s (beginClass2 src s) := by
  unfold Machine.beginClass2
  refine StopStep.trans (StopStep.fading _ _ ?_) (.stampStop 2 src _)
  rfl

theorem StopStep.leaveHold (s : State) : StopStep s (leaveHold s) := by
  refine ⟨(Moves.refl _ _ _ s).leaveHold (by decide), ?_, .of_drv ?_⟩ <;>
  · unfold Machine.leaveHold
    split <;> rfl

/-- What a request does once it is seen: nothing more than its event, or one of the stops. -/
theorem requestStopDur_step (cls src dur : Nat) (s : State) :
    StopStep (s.setReg 0x801C (s.reg 0x801C ||| BitVec.ofNat 32 (2 ^ src))) (requestStopDur cls src dur s) := by
  have hl := StopStep.leaveHold (s.setReg 0x801C (s.reg 0x801C ||| BitVec.ofNat 32 (2 ^ src)))
  have h0 := hl.trans (.class0 src _)
  have h1 := hl.trans (.beginClass1 src dur _)
  have h2 := hl.trans (.beginClass2 src _)
  unfold requestStopDur
  simp only []
  split
  · exact ⟨(Moves.refl _ _ _ _).raise (by decide) _ _, congrArg SafSt.active (raise_saf _ _ _), .of_drv (raise_drv _ _ _)⟩
  · split
    · split
      · exact h0
      · exact h1
      · split
        · exact h2
        · exact h1
    · split
      · split
        · exact h0
        · split
          · exact hl
          · exact h1
        · exact hl
      · split
        · split
          · exact h0
          · exact h1
          · exact hl
        · exact hl

/-- A source that is raised is active, and was seen (R243). -/
theorem raiseSource_raises {src : Nat} (h : src < 32) (s : State) : src ∈ (raiseSource src s).saf.active ∧
    ((raiseSource src s).reg 0x801C).getLsbD src = true ∧ CalEnds s (raiseSource src s) := by
  have hs := requestStopDur_step (classOf s src) src (msUnits ((activate src s).f F.SAF_FADE_T1)) (activate src s)
  refine ⟨?_, ?_, ?_⟩
  · have ha : (raiseSource src s).saf.active = setInsert src s.saf.active := hs.active
    rw [ha]
    exact mem_setInsert src _
  · have hr : (raiseSource src s).reg 0x801C = s.reg 0x801C ||| BitVec.ofNat 32 (2 ^ src) :=
      (hs.moves.regs 0x801C (by decide)).trans (reg_setReg_same _ _ _)
    rw [hr, BitVec.getLsbD_or, BitVec.getLsbD_ofNat, Nat.testBit_two_pow_self, decide_eq_true h]
    exact Bool.or_true _
  · exact .trans (.of_drv rfl) hs.cal

end stops

end Sys2Proof.Machine
end

section
/-! Clocks, supplies and lamp time: the loss of the core PLL, a switch that does not lock, the lamp minutes, a dip (R31, R399,
R403, R405 to R407); O43. -/

namespace Sys2Proof.Machine

section clocks

variable {s t : State}

/-! ### CORE_PLL_LOSS -/

/-- The words of the clocks: PWR_CLK, TCK_TIME_Q, TCK_STATUS. -/
def clockWords : List Nat := [0xC050, 0x3020, 0x3008]

/-- The selection and the quality of TIME on FRC. -/
def frcSelected (s : State) : State :=
  (((s.setF F.PWR_CLK_SEL 1).setF F.PWR_CLK_PLL_LOCK 0).setF F.TCK_TIME_Q_Q 2).setF F.TCK_TIME_Q_SRC 1

theorem frcSelected_moves (s : State) : Moves anyReply [.tck] clockWords s (frcSelected s) :=
  ((((Moves.refl _ _ _ s).setF _ (by decide)).setF _ (by decide)).setF _ (by decide)).setF _ (by decide)

theorem frcSelected_reads (s : State) : (frcSelected s).fb F.PWR_CLK_SEL = true ∧ (frcSelected s).fb F.PWR_CLK_PLL_LOCK = false ∧
    (frcSelected s).f F.TCK_TIME_Q_Q = 2 := by
  unfold frcSelected State.fb
  refine ⟨?_, ?_, ?_⟩
  · rw [f_setF_other _ _ (by decide) (by decide) (by decide), f_setF_other _ _ (by decide) (by decide) (by decide),
      f_setF_other _ _ (by decide) (by decide) (by decide), f_setF_same _ (by decide) (by decide)]
    rfl
  · rw [f_setF_other _ _ (by decide) (by decide) (by decide), f_setF_other _ _ (by decide) (by decide) (by decide),
      f_setF_same _ (by decide) (by decide)]
    rfl
  · rw [f_setF_other _ _ (by decide) (by decide) (by decide), f_setF_same _ (by decide) (by decide)]

/-- On FRC the source in use is FRC, and there is no lock. -/
theorem srcAct_onFrc (h : s.onFrc = true) :
    srcAct s = { s.setF F.TCK_STATUS_SRC_ACT 2 with tck.tickInRun := 0 }.setB F.TCK_STATUS_LOCKED false := by
  unfold srcAct
  rw [h]
  rfl

theorem f_tck (x : Fld) (c : TckSt) (s : State) : ({ s with tck := c } : State).f x = s.f x := rfl

theorem srcAct_f {x : Fld} (hx : x.addr ≠ 0x3008) (h : s.onFrc = true) : (srcAct s).f x = s.f x := by
  rw [srcAct_onFrc h]
  exact (f_setReg_other _ _ hx).trans ((f_tck x _ _).trans (f_setReg_other _ _ hx))

theorem srcAct_reads (h : s.onFrc = true) :
    (srcAct s).f F.TCK_STATUS_SRC_ACT = 2 ∧ (srcAct s).fb F.TCK_STATUS_LOCKED = false := by
  rw [srcAct_onFrc h]
  exact ⟨(f_setB_other _ _ (by decide) (by decide) (by decide)).trans ((f_tck _ _ _).trans (f_setF_same _ (by decide) (by decide))),
    fb_setB_same _ _ (by decide)⟩

theorem srcAct_moves (h : s.onFrc = true) : Moves anyReply [.tck] clockWords s (srcAct s) := by
  rw [srcAct_onFrc h]
  exact (((Moves.refl _ _ _ s).setF _ (by decide)).tck (by decide)).setB _ (by decide)

theorem moveToFrc_moves (s : State) : Moves anyReply [.tck] clockWords s (moveToFrc s) :=
  (frcSelected_moves s).trans (srcAct_moves (frcSelected_reads s).1)

/-- What the clock registers show on FRC. -/
theorem moveToFrc_reads (s : State) : (moveToFrc s).fb F.PWR_CLK_SEL = true ∧ (moveToFrc s).fb F.PWR_CLK_PLL_LOCK = false ∧
    (moveToFrc s).f F.TCK_TIME_Q_Q = 2 ∧ (moveToFrc s).f F.TCK_STATUS_SRC_ACT = 2 ∧ (moveToFrc s).fb F.TCK_STATUS_LOCKED = false := by
  obtain ⟨h1, h2, h3⟩ := frcSelected_reads s
  have hf : ∀ {x : Fld}, x.addr ≠ 0x3008 → (moveToFrc s).f x = (frcSelected s).f x := fun hx => srcAct_f hx h1
  refine ⟨?_, ?_, (hf (by decide)).trans h3, srcAct_reads h1⟩
  · rw [State.fb, hf (by decide)]
    exact h1
  · rw [State.fb, hf (by decide)]
    exact h2

/-- The domains on FRC, the period as planned, and the image in composition discarded. -/
def pllLost (s : State) : State :=
  { moveToFrc s with tck.planned := some s.nextExact, tck.sixty := false, drv.noSwap := true }

theorem pllLost_regs (s : State) : (pllLost s).regs = (moveToFrc s).regs := rfl

theorem pllLost_moves (s : State) : Moves anyReply (.tck :: stopParts) (clockWords ++ stopWords) s (pllLost s) := by
  have h := (moveToFrc_moves s).mono (p' := .tck :: stopParts) (w' := clockWords ++ stopWords) (by decide) (by decide)
  unfold pllLost
  generalize moveToFrc s = u at h
  exact h.parts (fun q hq => by cases q <;> first | rfl | exact absurd (by decide) hq) rfl rfl

theorem corePllLoss_eq (ho : s.off = false) (hf : s.onFrc = false) (hi : s.pwr.state ≠ .idle) :
    corePllLoss s = raiseSource Src.corePll (pllLost s) :=
  if_neg (by simp [ho, hf, hi])

/-! ### PLL_LOCK_TIMEOUT, LAMP_MINUTE -/

theorem finishOp_keeps (op st : Nat) (body : List Byte) (s : State) : Keeps [.cmd, .regs] s (finishOp op st body s) := by
  unfold finishOp
  split
  · exact finishJob_keeps _ st body s
  · exact .refl _ s

/-- The switch toward the PLL is over, 1.0 ms after its start. -/
def switchOver (c : ClkReq) (s : State) : State := { s with time := max s.time (c.start + 100000), pwr.clk := none }

/-- The minute that has passed. -/
def minuteOver (s : State) : State :=
  { s with time := max s.time (s.pwr.lampFrom + (6000000000 - s.pwr.lampPart)),
           pwr.lampFrom := max s.time (s.pwr.lampFrom + (6000000000 - s.pwr.lampPart)), pwr.lampPart := 0 }.setF
    F.PWR_HOURS_MINUTES (s.minutes + 1)

theorem lampMinute_eq (ho : s.off = false) (hl : s.lamp = Lamp.lit ∨ s.lamp = Lamp.fading ∨ s.lamp = Lamp.safeHold) :
    lampMinute s = if (s.minutes + 1) % 6 = 0 then saveLife (minuteOver s) else minuteOver s :=
  if_neg (by rcases hl with h | h | h <;> simp [ho, lampOn, h])

theorem minuteOver_keeps (s : State) : Keeps [.regs, .nvm, .time, .pwr] s (minuteOver s) := fun q hq => by
  cases q <;> first | rfl | exact absurd (by simp) hq

theorem minuteOver_regs (s : State) : KeepsRegs [F.PWR_HOURS_MINUTES.addr] s (minuteOver s) :=
  fun _ hb => reg_setF_other s _ _ (fun e => hb (by simp [e]))

theorem minuteOver_minutes (s : State) : (minuteOver s).f F.PWR_HOURS_MINUTES = (s.minutes + 1) % 2 ^ 32 :=
  f_setF_mod _ _ (by decide)

theorem saveLife_keeps (s : State) : Keeps [.nvm] s (saveLife s) := fun q hq => by
  cases q <;> first | rfl | exact absurd (by simp) hq

/-! ### Dips -/

theorem nvmSuspend_keeps (s : State) : Keeps [.nvm] s (nvmSuspend s) := by
  unfold nvmSuspend
  split
  · exact fun q hq => by cases q <;> first | rfl | exact absurd (by simp) hq
  · exact .refl _ s

theorem nvmSuspend_ops (s : State) : (nvmSuspend s).nvm.ops = s.nvm.ops := by
  unfold nvmSuspend
  split <;> rfl

theorem nvmSuspend_suspends (h : s.nvm.started = true) (hn : s.nvm.suspended = none) :
    (nvmSuspend s).nvm.suspended = some s.time := by
  rw [nvmSuspend, if_pos (by simp [h, hn])]

/-- The dip has begun. -/
def dipBegun (mv : Nat) (s : State) : State :=
  { s with pwr.dip := some (s.time, mv), pwr.dipBefore := 0, pwr.vsupMv := mv, pwr.vsupAt := s.time }

theorem vsupWarn_eq {mv : Nat} (hm : mv < 1660) (hd : s.pwr.dip = none) (hp : ResetKind.por ∉ s.sys.causes)
    (hb : ResetKind.bor ∉ s.sys.causes) : vsupWarn mv s = nvmSuspend (dipBegun mv s) := by
  have hc : s.sys.causes.any (fun k => k == .por || k == .bor) = false := by
    rw [List.any_eq_false]
    intro k hk h
    rcases Bool.or_eq_true_iff.1 h with h | h
    · exact hp (eq_of_beq h ▸ hk)
    · exact hb (eq_of_beq h ▸ hk)
  exact if_neg (by simp only [hd, hc]; simp [hm])

/-- The dip is over: it is counted, with its lowest voltage. -/
def dipOver (low mv : Nat) (s : State) : State :=
  ({ s with pwr.dip := none, pwr.vsupMv := mv, pwr.vsupAt := s.time }.bump F.PWR_DIP_DIP_CNT).setF F.PWR_DIP_MIN_MV
    (min low (s.f F.PWR_DIP_MIN_MV))

theorem dipEnd_eq {t0 m minMv mv : Nat} (hd : s.pwr.dip = some (t0, m)) (hv : 1700 ≤ mv) :
    ∃ d, dipEnd minMv mv s = if s.off then dipOver (min m minMv) mv s
      else resumeLater (((dipOver (min m minMv) mv s).setB F.PWR_FLAGS_SUPPLY_WARN true).raise 0xC2 d) := by
  simp only [dipEnd, hd]
  exact ⟨_, if_neg (by omega)⟩

theorem resumeLater_keeps (s : State) : Keeps [.nvm] s (resumeLater s) := by
  unfold resumeLater
  split
  · exact fun q hq => by cases q <;> first | rfl | exact absurd (by simp) hq
  · exact .refl _ s

theorem resumeLater_regs (s : State) : (resumeLater s).regs = s.regs := by
  unfold resumeLater
  split <;> rfl

theorem resumeLater_idle (h : s.nvm.suspended = none ∧ s.nvm.ops = [] ∧ s.nvm.test = none) : resumeLater s = s := by
  obtain ⟨h1, h2, h3⟩ := h
  exact if_neg (by simp [h1, h2, h3])

theorem resumeLater_holds (h : s.nvm.suspended ≠ none ∨ s.nvm.ops ≠ [] ∨ s.nvm.test ≠ none) :
    resumeLater s = { s with nvm.resumeAt := some (s.time + 100000) } :=
  if_pos (by
    simp only [Bool.or_eq_true, Option.isSome_iff_ne_none, Bool.not_eq_true', List.isEmpty_eq_false_iff, or_assoc]
    exact h)

theorem dipOver_regs (low mv : Nat) (s : State) : (dipOver low mv s).regs =
    ((s.bump F.PWR_DIP_DIP_CNT).setF F.PWR_DIP_MIN_MV (min low (s.f F.PWR_DIP_MIN_MV))).regs := rfl

theorem dipOver_reads (low mv : Nat) (s : State) :
    (dipOver low mv s).f F.PWR_DIP_DIP_CNT = satAdd F.PWR_DIP_DIP_CNT.top (s.f F.PWR_DIP_DIP_CNT) 1 ∧
    (dipOver low mv s).f F.PWR_DIP_MIN_MV = min low (s.f F.PWR_DIP_MIN_MV) := by
  rw [f_of_regs (dipOver_regs low mv s), f_of_regs (dipOver_regs low mv s)]
  exact ⟨(f_setF_other _ _ (by decide) (by decide) (by decide)).trans (f_bump_same _ (by decide)),
    f_setF_same _ (by decide) (lt_of_le_of_lt (min_le_right _ _) (f_lt s F.PWR_DIP_MIN_MV))⟩

theorem dipOver_moves (low mv : Nat) (s : State) : Moves [.event] [.pwr, .nvm] [0xC030, 0xC004] s (dipOver low mv s) := by
  have h : Moves [.event] [.pwr, .nvm] [0xC030, 0xC004] s
      ((s.bump F.PWR_DIP_DIP_CNT).setF F.PWR_DIP_MIN_MV (min low (s.f F.PWR_DIP_MIN_MV))) :=
    ((Moves.refl _ _ _ s).bump (by decide)).setF _ (by decide)
  exact h.parts (fun q hq => by cases q <;> first | rfl | exact absurd (by decide) hq) (dipOver_regs low mv s) rfl

/-- The dip reported. -/
def dipTold (d : List Byte) (s : State) : State := (s.setB F.PWR_FLAGS_SUPPLY_WARN true).raise 0xC2 d

theorem dipTold_moves (d : List Byte) (s : State) : Moves [.event] [] [0xC004] s (dipTold d s) :=
  ((Moves.refl _ _ _ s).setB _ (by decide)).raise (by decide) _ _

theorem dipTold_warns (d : List Byte) (s : State) : (dipTold d s).fb F.PWR_FLAGS_SUPPLY_WARN = true :=
  (raise_fb _ _ _ (by decide)).trans (fb_setB_same _ _ (by decide))

end clocks

/-- Settles O43: the stop that CORE_PLL_LOSS asks for leaves the clocks, the active sources and the image. -/
theorem clocksAndSuppliesAreWatched : Obligations.ClocksAndSuppliesAreWatched := by
  unfold Obligations.ClocksAndSuppliesAreWatched
  intro s
  refine ⟨fun ho hf hi => ?_, fun c hc hp hl => ?_, fun hc => ?_, fun p ho hf hi => ?_, fun ho hl => ?_,
    fun mv hm hd hp hb => ?_, fun t0 m minMv mv hd hv => ?_⟩
  · have hm : Moves anyReply stopParts stopWords (pllLost s) (raiseSource Src.corePll (pllLost s)) :=
      (Moves.refl _ _ _ _).raiseSource (by decide) (by decide) _
    obtain ⟨hact, hseen, c, cm, hdrv⟩ := raiseSource_raises (src := Src.corePll) (by decide) (pllLost s)
    obtain ⟨h1, h2, h3, h4, h5⟩ := moveToFrc_reads s
    have hf' : ∀ {x : Fld}, x.addr ∉ eventRegs ++ stopWords → (raiseSource Src.corePll (pllLost s)).f x = (moveToFrc s).f x :=
      fun hx => (hm.regs.f hx).trans (f_of_regs (pllLost_regs s) _)
    refine ⟨_, congrArg Host.Outcome.next (corePllLoss_eq ho hf hi), ?_, ?_, ?_, ?_, ?_, ?_, hact, hseen, ?_, ?_⟩
    · rw [State.onFrc, State.fb, hf' (by decide)]
      exact h1
    · rw [State.fb, hf' (by decide)]
      exact h2
    · rw [hf' (by decide), h3]
    · rw [hf' (by decide), h4]
    · rw [State.fb, hf' (by decide)]
      exact h5
    · rw [hm.keeps .tck (by decide)]
      rfl
    · rw [hdrv]
      rfl
    · exact ((pllLost_moves s).andThen hm (by decide) (by decide)).frame
  · have he : pllLockTimeout s = finishOp 0x49 St.aborted (clkBody (switchOver c s) 2) (switchOver c s) := by
      simp only [pllLockTimeout, hc]
      exact if_pos (by simp [hp, hl])
    have hk := finishOp_keeps 0x49 St.aborted (clkBody (switchOver c s) 2) (switchOver c s)
    have hs : Keeps [.cmd, .regs, .time, .pwr] s (switchOver c s) := fun q hq => by
      cases q <;> first | rfl | exact absurd (by simp) hq
    refine ⟨_, congrArg Host.Outcome.next he, hk .pwr (by decide), hk .time (by decide), hs.trans (hk.mono (by simp)), ?_⟩
    exact (TrafficStep.finishOp_aborted 0x49 _ (switchOver c s)).words.mono (by simp)
  · simp only [exec, execPllLockTimeout, pllLockTimeout, hc]
  · exact congrArg Host.Outcome.next (if_pos (by simp [ho, hf, hi]))
  · have hk := saveLife_keeps (minuteOver s)
    refine ⟨_, congrArg Host.Outcome.next (lampMinute_eq ho hl), ?_⟩
    split
    · next h6 =>
      refine ⟨minuteOver_minutes s, fun h => absurd h6 h, fun _ => ⟨_, rfl, rfl⟩, hk .time (by decide), ?_, ?_, ?_⟩
      · exact (hk .pwr (by decide)).trans rfl
      · exact (minuteOver_keeps s).trans (hk.mono (by simp))
      · exact minuteOver_regs s
    · next h6 =>
      exact ⟨minuteOver_minutes s, fun _ => rfl, fun h => absurd h h6, rfl, rfl, minuteOver_keeps s, minuteOver_regs s⟩
  · have hk := nvmSuspend_keeps (dipBegun mv s)
    have hs : Keeps [.pwr] s (dipBegun mv s) := fun q hq => by cases q <;> first | rfl | exact absurd (by simp) hq
    exact ⟨_, congrArg Host.Outcome.next (vsupWarn_eq hm hd hp hb), hk .pwr (by decide), fun h1 h2 => nvmSuspend_suspends h1 h2,
      nvmSuspend_ops _, (hs.mono (by simp)).trans (hk.mono (by simp))⟩
  · obtain ⟨d, he⟩ := dipEnd_eq (minMv := minMv) hd hv
    obtain ⟨hcnt, hmin⟩ := dipOver_reads (min m minMv) mv s
    have ho := dipOver_moves (min m minMv) mv s
    cases hoff : s.off with
    | true =>
      rw [hoff, if_pos rfl] at he
      refine ⟨_, congrArg Host.Outcome.next he, rfl, hcnt, hmin, ?_, fun _ => rfl, ?_, ho.frame⟩
      · exact fun h => absurd h (by simp)
      · exact fun h => absurd h (by simp)
    | false =>
      rw [hoff, if_neg (by simp)] at he
      have ht := dipTold_moves d (dipOver (min m minMv) mv s)
      have hnvm : (dipTold d (dipOver (min m minMv) mv s)).nvm = s.nvm := ht.keeps .nvm (by decide)
      have htime : (dipTold d (dipOver (min m minMv) mv s)).time = s.time := ht.keeps .time (by decide)
      have hpwr : (dipTold d (dipOver (min m minMv) mv s)).pwr = (dipOver (min m minMv) mv s).pwr := ht.keeps .pwr (by decide)
      have hm : Moves [.event] [.pwr, .nvm] [0xC030, 0xC004] s (dipTold d (dipOver (min m minMv) mv s)) :=
        ho.andThen ht (by simp) (by simp)
      have hcnt' := (ht.regs.f (by decide)).trans hcnt
      have hmin' := (ht.regs.f (by decide)).trans hmin
      have hw := dipTold_warns d (dipOver (min m minMv) mv s)
      change dipEnd minMv mv s = resumeLater (dipTold d (dipOver (min m minMv) mv s)) at he
      generalize dipTold d (dipOver (min m minMv) mv s) = u at *
      have hk := resumeLater_keeps u
      have hr := resumeLater_regs u
      refine ⟨_, congrArg Host.Outcome.next he, (hk .pwr (by decide)).trans hpwr, (f_of_regs hr _).trans hcnt',
        (f_of_regs hr _).trans hmin', fun _ => (fb_of_regs hr _).trans hw, fun h => ?_, fun _ h => ?_, ?_⟩
      · rw [resumeLater_idle (by rw [hnvm]; exact h.resolve_left (by simp)), hnvm]
      · rw [resumeLater_holds (by rw [hnvm]; exact h), htime, hnvm]
      · exact (hm.parts (hk.mono (by simp)) hr (by unfold resumeLater; split <;> rfl)).frame

end Sys2Proof.Machine
end

section
/-! The active half abdicates: what it tells, what becomes of its images, and of the half itself (R269, R272, R274, R275, R277,
R278). -/

namespace Sys2Proof.Machine

section abdicate

variable {s t : State} {h : Half} {cause : Nat} {x : Fld}

/-- A source that is asked to stop the light at its own instant is seen (R243). -/
theorem requestStopDur_seen {src : Nat} (hs : src < 32) (cls dur : Nat) (s : State) :
    ((requestStopDur cls src dur s).reg 0x801C).getLsbD src = true := by
  have hr : (requestStopDur cls src dur s).reg 0x801C = s.reg 0x801C ||| BitVec.ofNat 32 (2 ^ src) :=
    ((requestStopDur_step cls src dur s).moves.regs 0x801C (by decide)).trans (reg_setReg_same _ _ _)
  rw [hr, BitVec.getLsbD_or, BitVec.getLsbD_ofNat, Nat.testBit_two_pow_self, decide_eq_true hs]
  exact Bool.or_true _

/-! ### What it tells -/

/-- ABDICATED with its cause and count (R274, R291). -/
def abdTold (cause : Nat) (s : State) : State :=
  (((s.raise 0x90 (q4 (halfCode s.activeHalf) ++ q4 cause ++ q4 s.tck.row)).setB F.HLV_STATUS_ABDICATED true).bump
    F.HLV_SW_CNT_ABDICATE_CNT).setF (ofHalf F.HLV_HEALTH_A_LAST_CAUSE s.activeHalf) cause

theorem abdTold_moves (cause : Nat) (s : State) : Moves anyReply [] hlvRegs s (abdTold cause s) :=
  ((((Moves.refl _ _ _ s).raise (by decide) _ _).setB _ (by decide)).bump (by decide)).setF _ (by cases s.activeHalf <;> decide)

theorem abdTold_f (hx : x.ok) (he : x.addr ∉ eventRegs) (h1 : F.HLV_STATUS_ABDICATED.apart x) (h2 : F.HLV_SW_CNT_ABDICATE_CNT.apart x)
    (h3 : (ofHalf F.HLV_HEALTH_A_LAST_CAUSE s.activeHalf).apart x) : (abdTold cause s).f x = s.f x := by
  unfold abdTold
  rw [f_setF_other _ _ (ofHalf_ok (x := F.HLV_HEALTH_A_LAST_CAUSE) (by decide)) hx h3, f_bump_other _ (by decide) hx h2,
    f_setB_other _ _ (by decide) hx h1, raise_f _ _ _ he]

theorem abdTold_tells (hc : cause < 16) (s : State) : (abdTold cause s).fb F.HLV_STATUS_ABDICATED = true ∧
    (abdTold cause s).f F.HLV_SW_CNT_ABDICATE_CNT = satAdd F.HLV_SW_CNT_ABDICATE_CNT.top (s.f F.HLV_SW_CNT_ABDICATE_CNT) 1 ∧
    (abdTold cause s).f (ofHalf F.HLV_HEALTH_A_LAST_CAUSE s.activeHalf) = cause := by
  have ho : (ofHalf F.HLV_HEALTH_A_LAST_CAUSE s.activeHalf).ok := ofHalf_ok (x := F.HLV_HEALTH_A_LAST_CAUSE) (by decide)
  unfold abdTold State.fb
  refine ⟨?_, ?_, f_setF_same _ ho hc⟩
  · rw [f_setF_other _ _ ho (by decide) (by cases s.activeHalf <;> decide), f_bump_other _ (by decide) (by decide) (by decide)]
    exact fb_setB_same _ _ (by decide)
  · rw [f_setF_other _ _ ho (by decide) (by cases s.activeHalf <;> decide), f_bump_same _ (by decide),
      f_setB_other _ _ (by decide) (by decide) (by decide), raise_f _ _ _ (by decide)]

/-! ### The exchange and the images -/

theorem finishAll_keeps (op key st : Nat) (body : List Byte) (s : State) : Keeps [.cmd, .regs] s (finishAll op key st body s) := by
  unfold finishAll
  exact Keeps.foldl (fun u j => finishJob_keeps j st body u) _ s

theorem endHalfReset_keeps (h : Half) (key st : Nat) (s : State) : Keeps [.cmd, .regs] s (endHalfReset h key st s) := by
  unfold endHalfReset
  split
  · exact .refl _ s
  · exact finishAll_keeps _ _ _ _ s

/-- A planned exchange falls away; a HALF_RESET that waits for it is refused. -/
def exchangeDropped (s : State) : State :=
  match s.hlv.exchange with
  | some ⟨_, some r, _⟩ => endHalfReset r (2 + halfCode r) St.refusedState { s with hlv.exchange := none }
  | _ => { s with hlv.exchange := none }

theorem exchangeDropped_moves (s : State) : Moves anyReply [.hlv] [0x20C4, 0x9030] s (exchangeDropped s) := by
  have h0 : Moves anyReply [.hlv] [0x20C4, 0x9030] s { s with hlv.exchange := none } := (Moves.refl _ _ _ s).hlv (by decide)
  unfold exchangeDropped
  split
  · exact h0.endHalfReset (by decide) (by decide) _ _ _
  · exact h0

theorem exchangeDropped_hlv (s : State) : (exchangeDropped s).hlv = { s.hlv with exchange := none } := by
  unfold exchangeDropped
  split
  · exact endHalfReset_keeps _ _ _ _ .hlv (by decide)
  · rfl

theorem stopBistRun_keeps (s : State) : Keeps [.nvm] s (stopBistRun s) := by
  unfold stopBistRun
  split
  · exact fun q hq => by cases q <;> first | rfl | exact absurd (by simp) hq
  · exact .refl _ s

theorem dropImages_keeps (s : State) : Keeps [.regs, .hlv, .drv] s (dropImages s) ∧ KeepsRegs [0x901C] s (dropImages s) := by
  have hr : ∀ b u, KeepsRegs [0x901C] u (skipImage b u) := fun b u => by
    unfold skipImage
    split
    · exact bump_keepsRegs u (by decide)
    · exact .refl _ u
  have h1 := ((skipImage_keeps (!s.drv.comp.rowIn.isEmpty) s).trans (skipImage_keeps s.hlv.grazeDue _)).mono
    (l' := [.regs, .hlv, .drv]) (by simp)
  exact ⟨h1.trans (fun q hq => by cases q <;> first | rfl | exact absurd (by simp) hq), (hr _ s).trans (hr _ _)⟩

theorem dropImages_hlv (s : State) : (dropImages s).hlv = { s.hlv with grazeDue := false } := by
  have e : (skipImage s.hlv.grazeDue (skipImage (!s.drv.comp.rowIn.isEmpty) s)).hlv = s.hlv :=
    (skipImage_keeps _ _ .hlv (by decide)).trans (skipImage_keeps _ _ .hlv (by decide))
  simp only [dropImages, e]

theorem dropImages_drv (s : State) : (dropImages s).drv =
    { s.drv with noSwap := s.drv.noSwap || !fallbackDrives s, comp := { s.drv.comp with rowIn := [] } } := by
  have e : (skipImage s.hlv.grazeDue (skipImage (!s.drv.comp.rowIn.isEmpty) s)).drv = s.drv :=
    (skipImage_keeps _ _ .drv (by decide)).trans (skipImage_keeps _ _ .drv (by decide))
  simp only [dropImages, e]

/-- What is noted of the abdication (R275, R276). -/
def abdRecord (cause : Nat) (s : State) : Abdicated :=
  ⟨s.activeHalf, cause, s.tck.frame,
    if s.health (otherHalf s.activeHalf) == Health.good then some (s.tickNo (if s.time + 2000 ≤ s.nextTick then 1 else 2)) else none,
    decide (s.cutoff ≤ s.tck.row) && s.tickNo (if s.time + 2000 ≤ s.nextTick then 1 else 2) == s.tickNo 1⟩

/-- With the other half GOOD it names the tick of the takeover. -/
theorem abdRecord_good (hg : s.health (otherHalf s.activeHalf) = Health.good) : abdRecord cause s =
    ⟨s.activeHalf, cause, s.tck.frame, some (s.tickNo (if s.time + 2000 ≤ s.nextTick then 1 else 2)), (abdRecord cause s).sampled⟩ := by
  unfold abdRecord
  rw [if_pos (beq_iff_eq.2 hg)]

/-- The images of the half are dropped, and the abdication is noted. -/
def abdNoted (cause : Nat) (s : State) : State := { dropImages (stopBistRun (exchangeDropped (abdTold cause s))) with
  hlv.quick := none, hlv.showNew := true, hlv.abdicated := some (abdRecord cause s) }

/-- HELD starts anew with the first abdication of a switch-over, and the half refuses. -/
def heldAnew (showNew : Bool) (s : State) : State :=
  (if showNew then s else { s with hlv.limit := false }.setF F.HLV_ROLE_HELD 0).setB F.HLV_ROLE_REFUSER true

/-- The half restarts if it may, else it is FAILED. -/
def halfLost (h : Half) (s : State) : State := if mayRestart s h then autoRestart h s else setHealth h Health.failed s

/-- The abdication, before the question who takes over. -/
def abdHeld (cause : Nat) (s : State) : State := heldAnew s.hlv.showNew (abdNoted cause s)

theorem abdicate_eq (ha : s.hlv.active = true) (hn : s.hlv.abdicated = none) (cause : Nat) : abdicate cause s =
    if s.health (otherHalf s.activeHalf) == Health.good then halfLost s.activeHalf (abdHeld cause s)
    else noHalf (halfLost s.activeHalf (abdHeld cause s)) :=
  if_neg (by simp [ha, hn])

theorem abdicate_id (h : s.hlv.active = false ∨ s.hlv.abdicated ≠ none) (cause : Nat) : abdicate cause s = s :=
  if_pos (by
    rw [Bool.or_eq_true, Bool.not_eq_true', Option.isSome_iff_ne_none]
    exact h)

theorem noHalfLeft_of_active (ha : s.hlv.active = true) (hn : s.hlv.abdicated = none) : noHalfLeft s = s := by
  simp [noHalfLeft, ha, hn]

/-! ### Its fields -/

theorem abdDropped_keeps (u : State) : Keeps [.cmd, .regs, .hlv, .nvm, .drv] u (dropImages (stopBistRun (exchangeDropped u))) := by
  have h1 : Keeps [.cmd, .regs, .hlv, .nvm, .drv] u (exchangeDropped u) := by
    have h0 : Keeps [.cmd, .regs, .hlv, .nvm, .drv] u { u with hlv.exchange := none } := fun q hq => by
      cases q <;> first | rfl | exact absurd (by simp) hq
    unfold exchangeDropped
    split
    · exact h0.trans ((endHalfReset_keeps _ _ _ _).mono (by simp))
    · exact h0
  exact (h1.trans ((stopBistRun_keeps _).mono (by simp))).trans ((dropImages_keeps _).1.mono (by simp))

theorem abdDropped_regs (u : State) :
    KeepsRegs (eventRegs ++ [0x20C4, 0x9030, 0x901C]) u (dropImages (stopBistRun (exchangeDropped u))) := by
  have h2 : (stopBistRun (exchangeDropped u)).regs = (exchangeDropped u).regs := stopBistRun_keeps _ .regs (by decide)
  refine (((exchangeDropped_moves u).regs.mono (by decide)).trans (t := exchangeDropped u) ?_)
  intro a ha
  rw [(dropImages_keeps _).2 a (fun h => ha (by simp at h ⊢; omega)), State.reg, h2, State.reg]

theorem abdDropped_moves (u : State) :
    Moves anyReply [.hlv, .nvm, .drv] [0x20C4, 0x9030, 0x901C] u (dropImages (stopBistRun (exchangeDropped u))) := by
  have hc : (dropImages (stopBistRun (exchangeDropped u))).cmd = (exchangeDropped u).cmd :=
    ((dropImages_keeps _).1 .cmd (by decide)).trans (stopBistRun_keeps _ .cmd (by decide))
  have hs : SendsOf anyReply u (dropImages (stopBistRun (exchangeDropped u))) := by
    obtain ⟨ps, hp, e⟩ := (exchangeDropped_moves u).sends
    exact ⟨ps, hp, by rw [hc, e]⟩
  exact ⟨(abdDropped_keeps u).mono (by simp), abdDropped_regs u, hs⟩

theorem abdNoted_moves (cause : Nat) (s : State) :
    Moves anyReply [.hlv, .nvm, .drv] [0x20C4, 0x9030, 0x901C] (abdTold cause s) (abdNoted cause s) := by
  have h := abdDropped_moves (abdTold cause s)
  unfold abdNoted
  generalize dropImages (stopBistRun (exchangeDropped (abdTold cause s))) = u at h
  exact h.hlv (by decide)

theorem abdNoted_hlv (cause : Nat) (s : State) : (abdNoted cause s).hlv = { s.hlv with
    exchange := none, grazeDue := false, quick := none, showNew := true, abdicated := some (abdRecord cause s) } := by
  have e : (dropImages (stopBistRun (exchangeDropped (abdTold cause s)))).hlv = { s.hlv with exchange := none, grazeDue := false } := by
    rw [dropImages_hlv, stopBistRun_keeps _ .hlv (by decide), exchangeDropped_hlv, (abdTold_moves cause s).keeps .hlv (by decide)]
  exact congrArg (fun x : HlvSt => { x with quick := none, showNew := true, abdicated := some (abdRecord cause s) }) e

theorem abdNoted_drv (cause : Nat) (s : State) : ∃ b, (abdNoted cause s).drv = { s.drv with noSwap := b, comp := { s.drv.comp with rowIn := [] } } ∧
    b = (s.drv.noSwap || !fallbackDrives s) := by
  have h1 := stopBistRun_keeps (exchangeDropped (abdTold cause s))
  have h2 := (exchangeDropped_moves (abdTold cause s))
  have h3 := abdTold_moves cause s
  have ed : (stopBistRun (exchangeDropped (abdTold cause s))).drv = s.drv :=
    (h1 .drv (by decide)).trans ((h2.keeps .drv (by decide)).trans (h3.keeps .drv (by decide)))
  have ep : (stopBistRun (exchangeDropped (abdTold cause s))).pwr = s.pwr :=
    (h1 .pwr (by decide)).trans ((h2.keeps .pwr (by decide)).trans (h3.keeps .pwr (by decide)))
  have es : (stopBistRun (exchangeDropped (abdTold cause s))).sys = s.sys :=
    (h1 .sys (by decide)).trans ((h2.keeps .sys (by decide)).trans (h3.keeps .sys (by decide)))
  have ef : ∀ {x : Fld}, x.addr ∉ eventRegs ++ (0x20C4 :: hlvRegs) → (stopBistRun (exchangeDropped (abdTold cause s))).fb x = s.fb x := by
    intro x hx
    simp only [List.mem_append, List.mem_cons, not_or] at hx
    obtain ⟨hx1, hx2, hx3⟩ := hx
    refine (fb_of_regs (h1 .regs (by decide)) x).trans ((h2.regs.fb ?_).trans (h3.regs.fb ?_))
    · simp only [List.mem_append, List.mem_cons, List.not_mem_nil, or_false, not_or]
      exact ⟨hx1, hx2, fun e => hx3 (by rw [e]; decide)⟩
    · simp only [List.mem_append, not_or]
      exact ⟨hx1, hx3⟩
  have hfb : fallbackDrives (stopBistRun (exchangeDropped (abdTold cause s))) = fallbackDrives s := by
    simp only [fallbackDrives, State.fbDrives, State.onFrc, ep, es, ef (x := F.SAF_STATE_FB_SRC) (by decide),
      ef (x := F.PWR_CLK_SEL) (by decide)]
  have e := dropImages_drv (stopBistRun (exchangeDropped (abdTold cause s)))
  rw [ed, hfb] at e
  refine ⟨_, ?_, rfl⟩
  unfold abdNoted
  exact e

theorem heldAnew_moves (b : Bool) (s : State) : Moves anyReply [.hlv] [0x9004] s (heldAnew b s) := by
  have h := Moves.refl anyReply [.hlv] [0x9004] s
  have h1 : Moves anyReply [.hlv] [0x9004] s ({ s with hlv.limit := false }.setF F.HLV_ROLE_HELD 0) := (h.hlv (by decide)).setF _ (by decide)
  exact (Moves.ite h h1).setB _ (by decide)

theorem heldAnew_f {b : Bool} (hx : x.ok) (hr : F.HLV_ROLE_REFUSER.apart x) (hd : b = true ∨ F.HLV_ROLE_HELD.apart x) (s : State) :
    (heldAnew b s).f x = s.f x := by
  unfold heldAnew
  rw [f_setB_other _ _ (by decide) hx hr]
  split
  · rfl
  · next hb => exact f_setF_other _ _ (by decide) hx (hd.resolve_left hb)

theorem heldAnew_hlv (b : Bool) (s : State) : (heldAnew b s).hlv = { s.hlv with limit := b && s.hlv.limit } := by
  cases b <;> rfl

theorem heldAnew_drv (b : Bool) (s : State) : (heldAnew b s).drv = s.drv := (heldAnew_moves b s).keeps .drv (by decide)

theorem halfLost_moves (h : Half) (s : State) :
    Moves anyReply [.hlv, .nvm, .lyr, .obj, .dia] (resetWords h) s (halfLost h s) := by
  have h1 := (autoRestart_ev h s).moves (k := anyReply) (by decide)
  have h2 := (setHealth_ev h Health.failed s).moves (k := anyReply) (p := []) (by decide)
  exact .ite h1 (h2.mono (by decide) (by cases h <;> decide))

theorem halfLost_f (hx : x.ok) (he : x.addr ∉ eventRegs ++ halfRegs) (hv : x.addr ≠ versionWord h)
    (hs : (ofHalf F.HLV_HEALTH_A_SLOT h).apart x) (hh : (ofHalf F.HLV_HEALTH_A_HEALTH h).apart x)
    (hr : (ofHalf F.HLV_HEALTH_A_RESTARTS h).apart x) (s : State) : (halfLost h s).f x = s.f x := by
  unfold halfLost
  split
  · unfold autoRestart
    rw [resetHalf_f _ _ hx he hv hs hh,
      f_bump_other _ (x := ofHalf F.HLV_HEALTH_A_RESTARTS h) (ofHalf_ok (x := F.HLV_HEALTH_A_RESTARTS) (by decide)) hx hr]
  · exact setHealth_f _ hx (fun m => he (List.mem_append_left _ m)) hh

theorem halfLost_health (h : Half) (s : State) :
    (halfLost h s).health h = if mayRestart s h then Health.boot else Health.failed := by
  unfold halfLost
  split
  · exact resetHalf_health h _ _
  · exact setHealth_health (by decide)

theorem autoRestart_hlv (h : Half) (s : State) : ∃ a b r, (autoRestart h s).hlv = { s.hlv with halfA := a, halfB := b, ready := r } := by
  have e := resetHalf_hlv h (s.f (ofHalf F.HLV_HEALTH_A_SLOT h)) (s.bump (ofHalf F.HLV_HEALTH_A_RESTARTS h))
  cases h
  · exact ⟨_, _, _, e⟩
  · exact ⟨_, _, _, e⟩

theorem halfLost_hlv (h : Half) (s : State) : ∃ a b r, (halfLost h s).hlv = { s.hlv with halfA := a, halfB := b, ready := r } := by
  unfold halfLost
  split
  · exact autoRestart_hlv h s
  · exact ⟨_, _, _, (setHealth_ev h _ s).keeps .hlv (by decide)⟩

theorem noHalf_moves (s : State) : Moves anyReply failParts failWords s (noHalf s) :=
  (Moves.refl _ _ _ s).noHalf (by simp) (by simp) (by simp) (by simp)

/-- Without a half the stop request of HALVES goes out, and what was left of the exchange of roles stays (R278). -/
theorem noHalf_leaves (s : State) : (noHalf s).hlv = { s.hlv with
      active := false, abdicated := s.hlv.abdicated.map (fun x => { x with tick := none }) } ∧
    ((noHalf s).reg 0x801C).getLsbD Src.halves = true ∧ CalEnds s (noHalf s) := by
  have hf : Keeps [.cmd, .regs] _ (finishOp 0x79 St.refusedState [] { s with
      hlv.active := false, hlv.abdicated := s.hlv.abdicated.map (fun x => { x with tick := none }) }) := finishOp_keeps _ _ _ _
  have hr : ∀ u, Moves anyReply stopParts stopWords u (raiseSource Src.halves u) := fun u =>
    (Moves.refl _ _ _ u).raiseSource (by decide) (by decide) _
  refine ⟨((hr _).keeps .hlv (by decide)).trans (hf .hlv (by decide)), (raiseSource_raises (by decide) _).2.1,
    (CalEnds.of_drv (hf .drv (by decide))).trans (raiseSource_raises (by decide) _).2.2⟩

end abdicate

end Sys2Proof.Machine
end

section
namespace Sys2Proof.Machine

section faults

variable {s t u : State} {h : Half} {cause : Nat} {x : Fld}

/-! ### The whole abdication -/

/-- The parts and words of a half that is lost. -/
abbrev lossParts : List Part := .hlv :: .lyr :: .obj :: stopParts
abbrev lossWords : List Nat := halfRegs ++ hlvRegs ++ stopWords

/-- The fields that an abdication leaves behind its first words. -/
theorem abdicate_f (ha : s.hlv.active = true) (hn : s.hlv.abdicated = none) (cause : Nat) (hx : x.ok)
    (hw : x.addr ∉ eventRegs ++ halfRegs ++ failWords ++ [0x901C, 0x9010, 0x9014]) (hf : F.HLV_ROLE_REFUSER.apart x)
    (hd : s.hlv.showNew = true ∨ F.HLV_ROLE_HELD.apart x) (hs : (ofHalf F.HLV_HEALTH_A_SLOT s.activeHalf).apart x)
    (hh : (ofHalf F.HLV_HEALTH_A_HEALTH s.activeHalf).apart x) (hr : (ofHalf F.HLV_HEALTH_A_RESTARTS s.activeHalf).apart x) :
    (abdicate cause s).f x = (abdTold cause s).f x := by
  simp only [List.mem_append, not_or] at hw
  obtain ⟨⟨⟨he, hl⟩, hst⟩, hc⟩ := hw
  have hv : x.addr ≠ versionWord s.activeHalf := fun e => hc (by rw [e]; cases s.activeHalf <;> decide)
  have h1 : (abdHeld cause s).f x = (abdTold cause s).f x := by
    refine (heldAnew_f hx hf hd _).trans ((abdNoted_moves cause s).regs.f ?_)
    simp only [List.mem_append, List.mem_cons, List.not_mem_nil, or_false, not_or] at hst hc ⊢
    exact ⟨he, hst.2.1, hst.1, hc.1⟩
  have h2 : (halfLost s.activeHalf (abdHeld cause s)).f x = (abdTold cause s).f x :=
    (halfLost_f hx (by simp only [List.mem_append, not_or]; exact ⟨he, hl⟩) hv hs hh hr _).trans h1
  rw [abdicate_eq ha hn]
  split
  · exact h2
  · exact ((noHalf_moves _).regs.f (by simp only [List.mem_append, not_or]; exact ⟨he, hst⟩)).trans h2

/-- HLV may restart the half as before. -/
theorem mayRestart_abdHeld (cause : Nat) (s : State) : mayRestart (abdHeld cause s) s.activeHalf = mayRestart s s.activeHalf := by
  have hf : ∀ {x : Fld}, x.ok → x.addr ∉ eventRegs ++ [0x20C4, 0x9030, 0x901C] → F.HLV_ROLE_REFUSER.apart x → F.HLV_ROLE_HELD.apart x →
      F.HLV_STATUS_ABDICATED.apart x → F.HLV_SW_CNT_ABDICATE_CNT.apart x →
      (ofHalf F.HLV_HEALTH_A_LAST_CAUSE s.activeHalf).apart x → (abdHeld cause s).f x = s.f x :=
    fun hx hw h1 h2 h3 h4 h5 => (heldAnew_f hx h1 (.inr h2) _).trans (((abdNoted_moves cause s).regs.f hw).trans
      (abdTold_f hx (fun m => hw (List.mem_append_left _ m)) h3 h4 h5))
  simp only [mayRestart, State.fb]
  rw [hf (x := F.HLV_CTRL_AUTO_RESTART) (by decide) (by decide) (by decide) (by decide) (by decide) (by decide)
      (by cases s.activeHalf <;> decide),
    hf (x := F.HLV_CTRL_RESTART_MAX) (by decide) (by decide) (by decide) (by decide) (by decide) (by decide)
      (by cases s.activeHalf <;> decide),
    hf (x := ofHalf F.HLV_HEALTH_A_RESTARTS s.activeHalf) (ofHalf_ok (x := F.HLV_HEALTH_A_RESTARTS) (by decide))
      (by cases s.activeHalf <;> decide) (by cases s.activeHalf <;> decide) (by cases s.activeHalf <;> decide)
      (by cases s.activeHalf <;> decide) (by cases s.activeHalf <;> decide) (by cases s.activeHalf <;> decide)]

theorem abdHeld_hlv (cause : Nat) (s : State) : (abdHeld cause s).hlv = { s.hlv with
    exchange := none, grazeDue := false, quick := none, showNew := true, abdicated := some (abdRecord cause s),
    limit := s.hlv.showNew && s.hlv.limit } := by
  rw [abdHeld, heldAnew_hlv, abdNoted_hlv]

theorem abdHeld_moves (cause : Nat) (s : State) : Moves anyReply lossParts lossWords s (abdHeld cause s) :=
  (((abdTold_moves cause s).mono (by decide) (by decide) : Moves anyReply lossParts lossWords s _).andThen (abdNoted_moves cause s)
    (by decide) (by decide)).andThen (heldAnew_moves _ _) (by decide) (by decide)

theorem abdHeld_drv (cause : Nat) (s : State) :
    (abdHeld cause s).drv.noSwap = (s.drv.noSwap || !fallbackDrives s) ∧ (abdHeld cause s).drv.comp.rowIn = [] := by
  obtain ⟨b, e, hb⟩ := abdNoted_drv cause s
  rw [abdHeld, heldAnew_drv, e]
  exact ⟨hb, rfl⟩

/-- What an abdication does (R269, R272, R274 to R278). -/
structure Abdicates (cause : Nat) (s t : State) : Prop where
  moves : Moves anyReply lossParts lossWords s t
  told : t.fb F.HLV_STATUS_ABDICATED = true
  counted : t.f F.HLV_SW_CNT_ABDICATE_CNT = satAdd F.HLV_SW_CNT_ABDICATE_CNT.top (s.f F.HLV_SW_CNT_ABDICATE_CNT) 1
  lastCause : t.f (ofHalf F.HLV_HEALTH_A_LAST_CAUSE s.activeHalf) = cause
  health : t.health s.activeHalf = if mayRestart s s.activeHalf then Health.boot else Health.failed
  active : t.activeHalf = s.activeHalf
  swap : t.drv.noSwap = (s.drv.noSwap || !fallbackDrives s)
  rows : t.drv.comp.rowIn = []
  takesOver : s.health (otherHalf s.activeHalf) = Health.good → t.hlv.active = true ∧ t.hlv.abdicated = some (abdRecord cause s)
  noneLeft : s.health (otherHalf s.activeHalf) ≠ Health.good → t.hlv.active = false ∧ (t.reg 0x801C).getLsbD Src.halves = true
  limit : s.hlv.showNew = true → t.hlv.limit = s.hlv.limit

theorem halfLost_abdHeld (cause : Nat) (s : State) : Moves anyReply lossParts lossWords s (halfLost s.activeHalf (abdHeld cause s)) :=
  (abdHeld_moves cause s).andThen (halfLost_moves _ _) (by decide) (by cases s.activeHalf <;> decide)

theorem abdicate_moves (ha : s.hlv.active = true) (hn : s.hlv.abdicated = none) (cause : Nat) :
    Moves anyReply lossParts lossWords s (abdicate cause s) := by
  rw [abdicate_eq ha hn]
  exact .ite (halfLost_abdHeld cause s) ((halfLost_abdHeld cause s).andThen (noHalf_moves _) (by decide) (by decide))

theorem abdicate_drv (ha : s.hlv.active = true) (hn : s.hlv.abdicated = none) (cause : Nat) : CalEnds (abdHeld cause s) (abdicate cause s) := by
  have h : CalEnds (abdHeld cause s) (halfLost s.activeHalf (abdHeld cause s)) := .of_drv ((halfLost_moves _ _).keeps .drv (by decide))
  rw [abdicate_eq ha hn]
  split
  · exact h
  · exact h.trans (noHalf_leaves _).2.2

theorem abdicate_hlv (ha : s.hlv.active = true) (hn : s.hlv.abdicated = none) (cause : Nat) :
    (s.health (otherHalf s.activeHalf) = Health.good →
      (abdicate cause s).hlv.active = true ∧ (abdicate cause s).hlv.abdicated = some (abdRecord cause s)) ∧
    (s.health (otherHalf s.activeHalf) ≠ Health.good →
      (abdicate cause s).hlv.active = false ∧ ((abdicate cause s).reg 0x801C).getLsbD Src.halves = true) ∧
    (abdicate cause s).hlv.limit = (s.hlv.showNew && s.hlv.limit) := by
  obtain ⟨a, b, r, e⟩ := halfLost_hlv s.activeHalf (abdHeld cause s)
  rw [abdHeld_hlv] at e
  rw [abdicate_eq ha hn]
  by_cases hg : s.health (otherHalf s.activeHalf) = Health.good
  · rw [if_pos (beq_iff_eq.2 hg), e]
    exact ⟨fun _ => ⟨ha, rfl⟩, fun h => absurd hg h, rfl⟩
  · rw [if_neg (fun h => hg (beq_iff_eq.1 h))]
    obtain ⟨h1, h2, -⟩ := noHalf_leaves (halfLost s.activeHalf (abdHeld cause s))
    rw [h1, e]
    exact ⟨fun h => absurd h hg, fun _ => ⟨rfl, h2⟩, rfl⟩

theorem abdicate_abdicates (ha : s.hlv.active = true) (hn : s.hlv.abdicated = none) (hc : cause < 16) :
    Abdicates cause s (abdicate cause s) := by
  have hf : ∀ {x : Fld}, x.ok → x.addr ∉ eventRegs ++ halfRegs ++ failWords ++ [0x901C, 0x9010, 0x9014] → _ → _ → _ → _ → _ → _ :=
    fun {x} hx hw => abdicate_f (x := x) ha hn cause hx hw
  obtain ⟨h1, h2, h3⟩ := abdTold_tells hc s
  obtain ⟨c, m, hdrv⟩ := abdicate_drv ha hn cause
  obtain ⟨d1, d2⟩ := abdHeld_drv cause s
  obtain ⟨l1, l2, l3⟩ := abdicate_hlv ha hn cause
  refine ⟨abdicate_moves ha hn cause, ?_, ?_, ?_, ?_, ?_, by rw [hdrv]; exact d1, by rw [hdrv]; exact d2, l1, l2, fun hs => by rw [l3, hs]; rfl⟩
  · rw [State.fb, hf (by decide) (by decide) (by decide) (.inr (by decide)) (by cases s.activeHalf <;> decide)
      (by cases s.activeHalf <;> decide) (by cases s.activeHalf <;> decide)]
    exact h1
  · rw [hf (by decide) (by decide) (by decide) (.inr (by decide)) (by cases s.activeHalf <;> decide)
      (by cases s.activeHalf <;> decide) (by cases s.activeHalf <;> decide), h2]
  · rw [hf (ofHalf_ok (x := F.HLV_HEALTH_A_LAST_CAUSE) (by decide)) (by cases s.activeHalf <;> decide) (by cases s.activeHalf <;> decide)
      (.inr (by cases s.activeHalf <;> decide)) (by cases s.activeHalf <;> decide)
      (by cases s.activeHalf <;> decide) (by cases s.activeHalf <;> decide), h3]
  · have hh := halfLost_health s.activeHalf (abdHeld cause s)
    rw [mayRestart_abdHeld] at hh
    rw [abdicate_eq ha hn]
    split
    · exact hh
    · exact ((noHalf_moves _).regs.f (by cases s.activeHalf <;> decide)).trans hh
  · have ha' : (abdicate cause s).f F.HLV_ROLE_ACTIVE = s.f F.HLV_ROLE_ACTIVE := by
      rw [hf (by decide) (by decide) (by decide) (.inr (by decide)) (by cases s.activeHalf <;> decide)
        (by cases s.activeHalf <;> decide) (by cases s.activeHalf <;> decide)]
      exact abdTold_f (by decide) (by decide) (by decide) (by decide) (by cases s.activeHalf <;> decide)
    simp only [State.activeHalf, ha']

/-- The fields that no switch-over writes stay. -/
theorem abdicate_keeps_f (ha : s.hlv.active = true) (hn : s.hlv.abdicated = none) (cause : Nat) (hsw : s.hlv.showNew = true) :
    (abdicate cause s).f F.HLV_ROLE_HELD = s.f F.HLV_ROLE_HELD ∧ (abdicate cause s).fb F.HLV_STATUS_HOLD_LIMIT = s.fb F.HLV_STATUS_HOLD_LIMIT := by
  refine ⟨?_, ?_⟩
  · rw [abdicate_f ha hn cause (by decide) (by decide) (by decide) (.inl hsw) (by cases s.activeHalf <;> decide)
      (by cases s.activeHalf <;> decide) (by cases s.activeHalf <;> decide)]
    exact abdTold_f (by decide) (by decide) (by decide) (by decide) (by cases s.activeHalf <;> decide)
  · rw [State.fb, abdicate_f ha hn cause (by decide) (by decide) (by decide) (.inl hsw) (by cases s.activeHalf <;> decide)
      (by cases s.activeHalf <;> decide) (by cases s.activeHalf <;> decide),
      abdTold_f (by decide) (by decide) (by decide) (by decide) (by cases s.activeHalf <;> decide)]
    rfl

/-! ### A standby half that fails -/

/-- What the failure of a standby half does, with the active half in its place (R269). -/
structure StandbyFails (h : Half) (cause : Nat) (s t : State) : Prop where
  moves : Moves anyReply [.hlv, .nvm, .lyr, .obj, .dia] (0x20C4 :: halfRegs ++ hlvRegs) s t
  lastCause : t.f (ofHalf F.HLV_HEALTH_A_LAST_CAUSE h) = cause
  health : t.health h = if mayRestart s h then Health.boot else Health.failed
  hlv : t.hlv.active = true ∧ t.hlv.abdicated = none ∧ t.hlv.exchange = none
  active : t.activeHalf = s.activeHalf

theorem cancelExchange_hlv (s : State) : (cancelExchange s).hlv = { s.hlv with exchange := none } := by
  unfold cancelExchange
  split
  · next e => rw [← e]
  · simp only []
    split
    · exact endHalfReset_keeps _ _ _ _ .hlv (by decide)
    · exact finishOp_keeps _ _ _ _ .hlv (by decide)

theorem failedHalf_hlv (h : Half) (cause : Nat) (s : State) :
    ∃ r, (failedHalf h cause s).hlv = { s.hlv with ready := r, exchange := none } := by
  have e : (setHealth h Health.failed (s.setF (ofHalf F.HLV_HEALTH_A_LAST_CAUSE h) cause)).hlv = s.hlv :=
    (setHealth_ev h _ _).keeps .hlv (by decide)
  refine ⟨s.hlv.ready.filter (fun x => !(x == h)), ?_⟩
  rw [failedHalf, cancelExchange_hlv, endHalfReset_keeps _ _ _ _ .hlv (by decide)]
  exact congrArg (fun l : HlvSt => { l with ready := l.ready.filter (fun x => !(x == h)), exchange := none }) e

theorem failHalf_standby (ha : s.hlv.active = true) (hn : s.hlv.abdicated = none) (hc : cause < 16) (h : Half) :
    StandbyFails h cause s (failHalf h cause s) := by
  obtain ⟨hcause, hhealth⟩ := failHalf_fields h hc s
  have hw : healthWord h ∈ 0x20C4 :: halfRegs ++ hlvRegs := by cases h <;> decide
  have hm1 : Moves anyReply [.hlv, .nvm, .lyr, .obj, .dia] (0x20C4 :: halfRegs ++ hlvRegs) s (failedHalf h cause s) :=
    (((Moves.refl _ _ _ s).setF (x := ofHalf F.HLV_HEALTH_A_LAST_CAUSE h) cause (List.mem_append_right _ hw)).andThen
      ((setHealth_ev h Health.failed _).moves (p := []) (by simp)) (by simp) (by simpa using hw)).andThen
      (failedHalf_moves h cause s) (by simp) (by decide)
  have hm2 : Moves anyReply [.hlv, .nvm, .lyr, .obj, .dia] (0x20C4 :: halfRegs ++ hlvRegs) s (autoRestart h (failedHalf h cause s)) :=
    hm1.trans (((autoRestart_ev h _).moves (by simp)).mono (by decide) (by cases h <;> decide))
  obtain ⟨r, e1⟩ := failedHalf_hlv h cause s
  obtain ⟨a, b, r', e2⟩ := autoRestart_hlv h (failedHalf h cause s)
  have a1 : (failedHalf h cause s).f F.HLV_ROLE_ACTIVE = s.f F.HLV_ROLE_ACTIVE :=
    failedHalf_f _ _ (by decide) (by decide) (by cases h <;> decide) (by cases h <;> decide)
  have a2 : (autoRestart h (failedHalf h cause s)).f F.HLV_ROLE_ACTIVE = s.f F.HLV_ROLE_ACTIVE :=
    ((autoRestart_ev h _).words.f (by cases h <;> decide)).trans a1
  have key : ∀ u : State, failHalf h cause s = noHalfLeft u → Moves anyReply [.hlv, .nvm, .lyr, .obj, .dia] (0x20C4 :: halfRegs ++ hlvRegs) s u →
      u.hlv.active = true → u.hlv.abdicated = none → u.hlv.exchange = none → u.f F.HLV_ROLE_ACTIVE = s.f F.HLV_ROLE_ACTIVE →
      StandbyFails h cause s (failHalf h cause s) := by
    intro u e hm h1 h2 h3 h4
    rw [noHalfLeft_of_active h1 h2] at e
    rw [e] at hcause hhealth ⊢
    exact ⟨hm, hcause, hhealth, ⟨h1, h2, h3⟩, by simp only [State.activeHalf, h4]⟩
  have e := failHalf_eq h cause s
  by_cases hr : mayRestart (failedHalf h cause s) h = true
  · rw [if_pos hr] at e
    exact key _ e hm2 (by rw [e2, e1]; exact ha) (by rw [e2, e1]; exact hn) (by rw [e2, e1]) a2
  · rw [if_neg hr] at e
    exact key _ e hm1 (by rw [e1]; exact ha) (by rw [e1]; exact hn) (by rw [e1]) a1

end faults

end Sys2Proof.Machine
end

section
/-! Halves under watch: faults, missing rows, held ticks, Grazing, slices and the quick test (R28, R265, R269, R271 to R279, R290);
O54. -/

namespace Sys2Proof.Machine

section watched

variable {s t u : State} {h : Half} {cause : Nat} {x : Fld}

/-! ### A fault of a half (R265, R269, R274) -/

/-- The state at a fault: the half's last service may have become known, and time has passed. -/
def Served (h : Half) (s u : State) : Prop := ∃ x n, u = { setHalf h x s with time := n }

theorem Served.refl (h : Half) (s : State) : Served h s s := ⟨s.half h, s.time, by rw [setHalf_half]⟩

/-- What a fault reads stands as before. -/
theorem Served.reads (hs : Served h s u) : u.regs = s.regs ∧ u.tck = s.tck ∧ u.drv = s.drv ∧ u.pwr = s.pwr ∧ u.sys = s.sys ∧
    u.hlv.active = s.hlv.active ∧ u.hlv.abdicated = s.hlv.abdicated := by
  obtain ⟨x, n, rfl⟩ := hs
  cases h <;> exact ⟨rfl, rfl, rfl, rfl, rfl, rfl, rfl⟩

theorem Served.f (hs : Served h s u) (x : Fld) : u.f x = s.f x := f_of_regs hs.reads.1 x

theorem Served.fb (hs : Served h s u) (x : Fld) : u.fb x = s.fb x := fb_of_regs hs.reads.1 x

theorem Served.health (hs : Served h s u) (g : Half) : u.health g = s.health g := hs.f _

theorem Served.activeHalf (hs : Served h s u) : u.activeHalf = s.activeHalf := by rw [State.activeHalf, hs.f, State.activeHalf]

theorem Served.mayRestart (hs : Served h s u) (g : Half) : mayRestart u g = mayRestart s g := by
  simp only [Machine.mayRestart, hs.f, hs.fb]

theorem Served.fallbackDrives (hs : Served h s u) : fallbackDrives u = fallbackDrives s := by
  obtain ⟨-, -, -, hp, hy, -⟩ := hs.reads
  simp only [Machine.fallbackDrives, State.fbDrives, State.onFrc, hs.fb, hp, hy]

theorem halfFault_active (ho : s.off = false) (hi : s.pwr.state ≠ .idle) (hu : Served h s u) (ha : s.hlv.active = true)
    (hn : s.hlv.abdicated = none) (hh : s.activeHalf = h) (cause : Nat) : halfFault h cause u = abdicate cause u := by
  obtain ⟨-, -, -, hp, hy, h1, h2⟩ := hu.reads
  have hoff : u.off = false := by rw [State.off, hp, hy]; exact ho
  unfold halfFault
  rw [if_neg (by rw [hoff, hp]; simpa using hi), if_pos (by rw [h1, h2, hu.activeHalf, ha, hn, hh]; simp)]

theorem halfFault_standby (ho : s.off = false) (hi : s.pwr.state ≠ .idle) (hu : Served h s u) (hh : s.activeHalf ≠ h)
    (hr : inRange (s.health h) 1 3 = true) (cause : Nat) : halfFault h cause u = failHalf h cause u := by
  obtain ⟨-, -, -, hp, hy, h1, h2⟩ := hu.reads
  have hoff : u.off = false := by rw [State.off, hp, hy]; exact ho
  unfold halfFault
  rw [if_neg (by rw [hoff, hp]; simpa using hi), if_neg (by rw [hu.activeHalf]; simp [hh]), if_pos (by rw [hu.health]; exact hr)]

/-- A row that reports a fault, its cause, and the state it is judged in. -/
def FaultRow (s : State) (h : Half) (cause : Nat) (c : Instr) (u : State) : Prop :=
  cause = 1 ∧ c = .lockstepMiscompare h ∧ u = s ∨ cause = 2 ∧ c = .eccUncorrectable (.half h) ∧ u = s ∨
    (cause = 3 ∧ inRange (s.health h) 2 3 = true ∧ ∃ w, c = .watchdogExpiry ⟨h, w⟩ ∧
      u = { setHalf h { s.half h with served := max (min w s.time) (s.half h).served } s with
        time := max s.time (max (min w s.time) (s.half h).served +
          (if s.onFrc then 3500000 else (2 * s.periodAct).floor.toNat)) }) ∨
    cause = 4 ∧ (∃ f, c = .pipelineParityError ⟨h, f⟩) ∧ u = s

theorem FaultRow.served {c : Instr} (hr : FaultRow s h cause c u) : Served h s u ∧ cause < 16 := by
  rcases hr with ⟨rfl, -, rfl⟩ | ⟨rfl, -, rfl⟩ | ⟨rfl, -, w, -, rfl⟩ | ⟨rfl, -, rfl⟩
  · exact ⟨.refl h _, by decide⟩
  · exact ⟨.refl h _, by decide⟩
  · exact ⟨⟨_, _, rfl⟩, by decide⟩
  · exact ⟨.refl h _, by decide⟩

/-- Each of those rows is the fault of the half. -/
theorem FaultRow.exec {c : Instr} (hr : FaultRow s h cause c u) (ho : s.off = false) (hi : s.pwr.state ≠ .idle)
    (hp : cause = 4 → s.activeHalf = h) : exec c s = .next (halfFault h cause u) := by
  rcases hr with ⟨rfl, rfl, rfl⟩ | ⟨rfl, rfl, rfl⟩ | ⟨rfl, hh, w, rfl, rfl⟩ | ⟨rfl, ⟨f, rfl⟩, rfl⟩
  · rfl
  · exact congrArg Host.Outcome.next (if_neg (by simp [ho]))
  · exact congrArg Host.Outcome.next (if_neg (by simp [ho, hi, hh]))
  · exact congrArg Host.Outcome.next (if_pos (beq_iff_eq.2 (hp rfl)))

/-! ### ROW_UNDERRUN and HOLD_LIMIT (R28, R277, R290) -/

/-- The missing row is noted, and the swap is held. -/
def rowMissed (s : State) : State :=
  (({ s with drv.noSwap := true }.setB F.DRV_STATUS_ROW_UNDERRUN true).bump F.DRV_CNT_UNDERRUN_CNT).raise 0x60
    (q4 s.drv.comp.rowCrc.length)

theorem rowUnderrun_eq (hr : s.tck.running = true) (hb : s.drv.begun = true) (hl : s.drv.comp.rowCrc.length ≤ 511)
    (hn : s.drv.noSwap = false) : rowUnderrun s = abdicate 4 (rowMissed s) :=
  if_neg (by simp only [hr, hb, hn]; simp; omega)

theorem rowMissed_moves (s : State) : Moves anyReply [.drv] [0x6050, 0x6054] s (rowMissed s) :=
  ((((Moves.refl _ _ _ s).drv (by decide)).setB _ (by decide)).bump (by decide)).raise (by decide) _ _

theorem rowMissed_reads (s : State) : (rowMissed s).drv.noSwap = true ∧ (rowMissed s).fb F.DRV_STATUS_ROW_UNDERRUN = true ∧
    (rowMissed s).f F.DRV_CNT_UNDERRUN_CNT = satAdd F.DRV_CNT_UNDERRUN_CNT.top (s.f F.DRV_CNT_UNDERRUN_CNT) 1 := by
  unfold rowMissed State.fb
  refine ⟨congrArg DrvSt.noSwap (raise_drv _ _ _), ?_, ?_⟩
  · rw [raise_f _ _ _ (by decide), f_bump_other _ (by decide) (by decide) (by decide)]
    exact fb_setB_same _ _ (by decide)
  · rw [raise_f _ _ _ (by decide), f_bump_same _ (by decide), f_setB_other _ _ (by decide) (by decide) (by decide)]
    rfl

/-- An abdication holds a swap that is held, and leaves the words of DRV. -/
theorem abdicate_noSwap (h : s.drv.noSwap = true) (cause : Nat) : (abdicate cause s).drv.noSwap = true := by
  by_cases ha : s.hlv.active = true ∧ s.hlv.abdicated = none
  · obtain ⟨c, m, e⟩ := abdicate_drv ha.1 ha.2 cause
    rw [e]
    exact (abdHeld_drv cause s).1.trans (by rw [h]; rfl)
  · rw [abdicate_id]
    · exact h
    · exact (not_and_or.1 ha).imp (fun h => by simpa using h) id

theorem abdicate_frame (cause : Nat) (s : State) : Moves anyReply lossParts lossWords s (abdicate cause s) := by
  by_cases ha : s.hlv.active = true ∧ s.hlv.abdicated = none
  · exact abdicate_moves ha.1 ha.2 cause
  · rw [abdicate_id ((not_and_or.1 ha).imp (fun h => by simpa using h) id)]
    exact .refl _ _ _ s

/-- The third held tick is noted. -/
def heldTooLong (s : State) : State := { s.setB F.HLV_STATUS_HOLD_LIMIT true with hlv.limit := true }

theorem heldTooLong_regs (s : State) : (heldTooLong s).regs = (s.setB F.HLV_STATUS_HOLD_LIMIT true).regs := rfl

theorem heldTooLong_moves (s : State) : Moves anyReply lossParts lossWords s (heldTooLong s) :=
  ((Moves.refl _ _ _ s).setB _ (by decide)).hlv (by decide)

theorem holdLimit_eq (hn : s.hlv.showNew = true) (hl : s.hlv.limit = false) (hh : 3 ≤ s.f F.HLV_ROLE_HELD) : holdLimit s =
    if s.hlv.active && s.hlv.abdicated.isNone then
      (if (abdicate 4 (heldTooLong s)).hlv.active then raiseOnce Src.halves (abdicate 4 (heldTooLong s))
        else abdicate 4 (heldTooLong s))
    else noHalf (heldTooLong s) :=
  if_neg (by simp [hn, hl]; omega)

theorem heldTooLong_reads (s : State) : (heldTooLong s).fb F.HLV_STATUS_HOLD_LIMIT = true ∧
    (heldTooLong s).f F.HLV_ROLE_HELD = s.f F.HLV_ROLE_HELD := by
  rw [fb_of_regs (heldTooLong_regs s), f_of_regs (heldTooLong_regs s)]
  exact ⟨fb_setB_same _ _ (by decide), f_setB_other _ _ (by decide) (by decide) (by decide)⟩

/-- What a third held tick does. -/
structure HoldLimits (s t : State) : Prop where
  moves : Moves anyReply lossParts lossWords s t
  shown : t.fb F.HLV_STATUS_HOLD_LIMIT = true
  limit : t.hlv.limit = true
  seen : (t.reg 0x801C).getLsbD Src.halves = true
  held : t.f F.HLV_ROLE_HELD = s.f F.HLV_ROLE_HELD

/-- With a half active it abdicates; HALVES is seen, with another half or without. -/
theorem holdLimit_abdicates (ha : s.hlv.active = true) (hn : s.hlv.abdicated = none) (hsw : s.hlv.showNew = true)
    (hl : s.hlv.limit = false) (hh : 3 ≤ s.f F.HLV_ROLE_HELD) :
    HoldLimits s (holdLimit s) ∧ (holdLimit s).fb F.HLV_STATUS_ABDICATED = true := by
  have ab : Abdicates 4 (heldTooLong s) (abdicate 4 (heldTooLong s)) := abdicate_abdicates ha hn (by decide)
  obtain ⟨f1, f2⟩ := abdicate_keeps_f (s := heldTooLong s) ha hn 4 hsw
  obtain ⟨r1, r2⟩ := heldTooLong_reads s
  have hm : Moves anyReply lossParts lossWords s (abdicate 4 (heldTooLong s)) := (heldTooLong_moves s).trans ab.moves
  rw [holdLimit_eq hsw hl hh, if_pos (by rw [ha, hn]; rfl)]
  by_cases hact : (abdicate 4 (heldTooLong s)).hlv.active = true
  · rw [if_pos hact]
    have hr : Moves anyReply stopParts stopWords (abdicate 4 (heldTooLong s)) (raiseOnce Src.halves (abdicate 4 (heldTooLong s))) :=
      requestStopDur_moves _ _ _ _
    refine ⟨⟨hm.andThen hr (by decide) (by decide), ?_, ?_, requestStopDur_seen (by decide) _ _ _, ?_⟩, ?_⟩
    · exact (hr.regs.fb (by decide)).trans (f2.trans r1)
    · rw [hr.keeps .hlv (by decide), ab.limit hsw]
      rfl
    · rw [hr.regs.f (by decide), f1, r2]
    · exact (hr.regs.fb (by decide)).trans ab.told
  · rw [if_neg hact]
    have hg : (heldTooLong s).health (otherHalf (heldTooLong s).activeHalf) ≠ Health.good := fun hg => hact (ab.takesOver hg).1
    refine ⟨⟨hm, f2.trans r1, ?_, (ab.noneLeft hg).2, f1.trans r2⟩, ab.told⟩
    rw [ab.limit hsw]
    rfl

/-- With none active, or one that has abdicated, no half is left. -/
theorem holdLimit_noHalf (ha : s.hlv.active = false ∨ s.hlv.abdicated ≠ none) (hsw : s.hlv.showNew = true)
    (hl : s.hlv.limit = false) (hh : 3 ≤ s.f F.HLV_ROLE_HELD) : HoldLimits s (holdLimit s) ∧ (holdLimit s).hlv.active = false := by
  have hc : ¬ (s.hlv.active && s.hlv.abdicated.isNone) = true := by
    rcases ha with ha | ha
    · simp [ha]
    · simp [ha]
  obtain ⟨r1, r2⟩ := heldTooLong_reads s
  have hm := noHalf_moves (heldTooLong s)
  obtain ⟨e, hseen, -⟩ := noHalf_leaves (heldTooLong s)
  rw [holdLimit_eq hsw hl hh, if_neg hc]
  refine ⟨⟨(heldTooLong_moves s).andThen hm (by decide) (by decide), (hm.regs.fb (by decide)).trans r1, by rw [e]; rfl, hseen,
    (hm.regs.f (by decide)).trans r2⟩, by rw [e]⟩

end watched

end Sys2Proof.Machine
end

section
namespace Sys2Proof.Machine

section grazing

variable {s t : State} {h : Half} {x : Fld}

/-! ### The rows compared (R271) -/

theorem nth_grazeRows {n : Nat} (hn : n < 16) : nth 0 (grazeRows s) n = s.tck.frame % 32 + 32 * n := by
  simp [nth, grazeRows, hn]

/-- The standby half's CRC of the `n`th row compared is that of the table. -/
def RowMatches (s : State) (errs : List Nat) (n : Nat) : Prop :=
  nth 0 s.hlv.rowCrcs (s.tck.frame % 32 + 32 * n) = grazeCrc s (s.tck.frame % 32 + 32 * n) (nth 0 errs n)

/-- A row that differs, as the comparison finds it. -/
def rowDiffers (s : State) (errs : List Nat) (n : Nat) : Bool :=
  !(nth 0 s.hlv.rowCrcs (nth 0 (grazeRows s) n) == grazeCrc s (nth 0 (grazeRows s) n) (nth 0 errs n))

theorem grazeDiff_eq (s : State) (errs : List Nat) :
    grazeDiff s errs = ((List.range 16).find? (rowDiffers s errs)).map (nth 0 (grazeRows s)) := rfl

theorem rowDiffers_eq_false {n : Nat} (hn : n < 16) (errs : List Nat) : rowDiffers s errs n = false ↔ RowMatches s errs n := by
  rw [rowDiffers, nth_grazeRows hn, Bool.not_eq_false', beq_iff_eq, RowMatches]

theorem grazeDiff_none (errs : List Nat) : grazeDiff s errs = none ↔ ∀ n < 16, RowMatches s errs n := by
  rw [grazeDiff_eq, Option.map_eq_none_iff, List.find?_range_eq_none]
  simp only [Bool.not_eq_true']
  exact forall₂_congr fun n hn => rowDiffers_eq_false hn errs

theorem grazeDiff_some {errs : List Nat} {row : Nat} (hd : grazeDiff s errs = some row) : ∃ n < 16, row = s.tck.frame % 32 + 32 * n ∧
    ¬ RowMatches s errs n ∧ ∀ m < n, RowMatches s errs m := by
  rw [grazeDiff_eq, Option.map_eq_some_iff] at hd
  obtain ⟨n, hf, rfl⟩ := hd
  obtain ⟨hp, hn, hlt⟩ := List.find?_range_eq_some.1 hf
  have hn' : n < 16 := List.mem_range.1 hn
  refine ⟨n, hn', nth_grazeRows hn', fun hm => ?_, fun m hm => ?_⟩
  · rw [(rowDiffers_eq_false hn' errs).2 hm] at hp
    exact absurd hp (by decide)
  · exact (rowDiffers_eq_false (by omega) errs).1 (by simpa using hlt m hm)

/-! ### A half becomes GOOD (R268, R288) -/

/-- The words of a half that becomes GOOD. -/
abbrev goodWords : List Nat := 0x20C4 :: hlvRegs

theorem enterGood_moves (h : Half) (s : State) : Moves anyReply [.saf] goodWords s (enterGood h s) := by
  have h1 : Moves anyReply [.saf] goodWords s (setHealth h Health.good s) :=
    ((setHealth_ev h Health.good s).moves (p := []) (by decide)).mono (by decide) (by cases h <;> decide)
  have h2 := h1.endHalfReset (by decide) (by decide) h (halfCode h) St.ok
  have h3 := (h2.setB (x := F.HLV_ROLE_DIVERGE) false (by decide)).setF (x := F.HLV_GRAZE_MISMATCH_RUN) 0 (by decide)
  exact .ite (h3.saf (by decide)) h2

theorem enterGood_hlv (h : Half) (s : State) : (enterGood h s).hlv = s.hlv := by
  have h1 : (endHalfReset h (halfCode h) St.ok (setHealth h Health.good s)).hlv = s.hlv :=
    (endHalfReset_keeps _ _ _ _ .hlv (by decide)).trans ((setHealth_ev h Health.good s).keeps .hlv (by decide))
  unfold enterGood
  simp only []
  split
  · exact h1
  · exact h1

theorem sourceOff_f (src : Nat) (s : State) (x : Fld) : (sourceOff src s).f x = s.f x := rfl

/-- A half that becomes GOOD keeps the other fields. -/
theorem enterGood_f (hx : x.ok) (he : x.addr ∉ eventRegs ++ [0x20C4, 0x9030]) (h1 : (ofHalf F.HLV_HEALTH_A_HEALTH h).apart x)
    (h2 : F.HLV_ROLE_DIVERGE.apart x) (h3 : F.HLV_GRAZE_MISMATCH_RUN.apart x) (s : State) : (enterGood h s).f x = s.f x := by
  have hr : Moves anyReply [] [0x20C4, 0x9030] (setHealth h Health.good s) (endHalfReset h (halfCode h) St.ok (setHealth h Health.good s)) :=
    (Moves.refl _ _ _ _).endHalfReset (by decide) (by decide) _ _ _
  have h0 : (endHalfReset h (halfCode h) St.ok (setHealth h Health.good s)).f x = s.f x :=
    (hr.regs.f he).trans (setHealth_f _ hx (fun m => he (List.mem_append_left _ m)) h1)
  unfold enterGood
  simp only []
  split
  · rw [sourceOff_f, f_setF_other _ _ (by decide) hx h3, f_setB_other _ _ (by decide) hx h2, h0]
  · exact h0

theorem enterGood_health (h : Half) (s : State) : (enterGood h s).health h = Health.good := by
  have hr : Moves anyReply [] [0x20C4, 0x9030] (setHealth h Health.good s) (endHalfReset h (halfCode h) St.ok (setHealth h Health.good s)) :=
    (Moves.refl _ _ _ _).endHalfReset (by decide) (by decide) _ _ _
  have h0 : (endHalfReset h (halfCode h) St.ok (setHealth h Health.good s)).health h = Health.good :=
    (hr.regs.f (by cases h <;> decide)).trans (setHealth_health (by decide))
  have ho : (ofHalf F.HLV_HEALTH_A_HEALTH h).ok := ofHalf_ok (x := F.HLV_HEALTH_A_HEALTH) (by decide)
  unfold enterGood
  simp only []
  split
  · rw [State.health, sourceOff_f, f_setF_other _ _ (by decide) ho (by cases h <;> decide),
      f_setB_other _ _ (by decide) ho (by cases h <;> decide)]
    exact h0
  · exact h0

theorem goodCheck_moves (s : State) : Moves anyReply [.saf] goodWords s (goodCheck s) := by
  unfold goodCheck
  exact .ite (enterGood_moves _ s) (.refl _ _ _ s)

theorem goodCheck_hlv (s : State) : (goodCheck s).hlv = s.hlv := by
  unfold goodCheck
  simp only []
  split
  · exact enterGood_hlv _ s
  · rfl

theorem goodCheck_f (hx : x.ok) (he : x.addr ∉ eventRegs ++ [0x20C4, 0x9030])
    (h1 : ∀ h, (ofHalf F.HLV_HEALTH_A_HEALTH h).apart x) (h2 : F.HLV_ROLE_DIVERGE.apart x) (h3 : F.HLV_GRAZE_MISMATCH_RUN.apart x)
    (s : State) : (goodCheck s).f x = s.f x := by
  unfold goodCheck
  simp only []
  split
  · exact enterGood_f hx he (h1 _) h2 h3 s
  · rfl

/-- A PROVING standby half with its matches and its slices is GOOD. -/
theorem goodCheck_health (ha : s.hlv.active = true) : (goodCheck s).health s.standby =
    if s.health s.standby = Health.proving ∧ (s.half s.standby).matched = true ∧ 64 ≤ (s.half s.standby).slices then Health.good
    else s.health s.standby := by
  unfold goodCheck
  simp only [ha, Bool.true_and, Bool.and_eq_true, beq_iff_eq, decide_eq_true_eq, and_assoc]
  split
  · exact enterGood_health _ s
  · rfl

/-! ### GRAZE (R271, R272, R279) -/

theorem grazing_active (hg : s.grazing = true) : s.hlv.active = true := by
  simp only [State.grazing, Bool.and_eq_true] at hg
  exact hg.1

/-- The runs of a match. -/
def matchRuns (s : State) : State :=
  (s.setF F.HLV_GRAZE_MISMATCH_RUN 0).setF F.HLV_GRAZE_MATCH_RUN (min 63 (s.f F.HLV_GRAZE_MATCH_RUN + 1))

/-- 32 matches in a row are remembered. -/
def matchNoted (s : State) : State :=
  if 32 ≤ min 63 (s.f F.HLV_GRAZE_MATCH_RUN + 1) then setHalf s.standby { (matchRuns s).half s.standby with matched := true } (matchRuns s)
  else matchRuns s

theorem matched_eq (s : State) : matched s = goodCheck (matchNoted s) := rfl

theorem matchRuns_half (h : Half) (s : State) : (matchRuns s).half h = s.half h := by cases h <;> rfl

theorem matchNoted_keeps (s : State) : Keeps [.regs, .hlv] s (matchNoted s) ∧ (matchNoted s).regs = (matchRuns s).regs := by
  have h1 : Keeps [.regs, .hlv] s (matchRuns s) := (setF_keeps [.hlv] s _ _).trans (setF_keeps [.hlv] _ _ _)
  unfold matchNoted
  split
  · exact ⟨h1.trans ((setHalf_keeps _ _ _).mono (by simp)), setHalf_keeps _ _ _ .regs (by decide)⟩
  · exact ⟨h1, rfl⟩

theorem matchRuns_f (hx : x.ok) (h1 : F.HLV_GRAZE_MISMATCH_RUN.apart x) (h2 : F.HLV_GRAZE_MATCH_RUN.apart x) (s : State) :
    (matchRuns s).f x = s.f x :=
  (f_setF_other _ _ (by decide) hx h2).trans (f_setF_other _ _ (by decide) hx h1)

theorem matchRuns_run (s : State) : (matchRuns s).f F.HLV_GRAZE_MATCH_RUN = min 63 (s.f F.HLV_GRAZE_MATCH_RUN + 1) :=
  f_setF_same _ (by decide) (lt_of_le_of_lt (min_le_left _ _) (by decide))

theorem matchNoted_f (hx : x.ok) (h1 : F.HLV_GRAZE_MISMATCH_RUN.apart x) (h2 : F.HLV_GRAZE_MATCH_RUN.apart x) (s : State) :
    (matchNoted s).f x = s.f x := (f_of_regs (matchNoted_keeps s).2 x).trans (matchRuns_f hx h1 h2 s)

theorem matchNoted_half (s : State) : (matchNoted s).half s.standby =
    { s.half s.standby with matched := (s.half s.standby).matched || decide (31 ≤ s.f F.HLV_GRAZE_MATCH_RUN) } := by
  unfold matchNoted
  split
  · next h =>
    rw [half_setHalf, matchRuns_half, show decide (31 ≤ s.f F.HLV_GRAZE_MATCH_RUN) = true from decide_eq_true (by omega), Bool.or_true]
  · next h =>
    rw [matchRuns_half, show decide (31 ≤ s.f F.HLV_GRAZE_MATCH_RUN) = false from decide_eq_false (by omega), Bool.or_false]

theorem matchNoted_standby (s : State) : (matchNoted s).standby = s.standby := by
  simp only [State.standby, State.activeHalf, matchNoted_f (x := F.HLV_ROLE_ACTIVE) (by decide) (by decide) (by decide)]

theorem matchNoted_rest (s : State) : (matchNoted s).hlv.active = s.hlv.active ∧ (matchNoted s).hlv.grazeDue = s.hlv.grazeDue := by
  have h : ∀ (g : Half) (x : HalfSt) (u : State), (setHalf g x u).hlv.active = u.hlv.active ∧ (setHalf g x u).hlv.grazeDue = u.hlv.grazeDue :=
    fun g x u => by cases g <;> exact ⟨rfl, rfl⟩
  unfold matchNoted
  split
  · exact h _ _ _
  · exact ⟨rfl, rfl⟩

theorem matchNoted_moves (s : State) : Moves anyReply [.hlv, .saf] goodWords s (matchNoted s) := by
  have h1 : Moves anyReply [.hlv, .saf] goodWords s (matchRuns s) := ((Moves.refl _ _ _ s).setF _ (by decide)).setF _ (by decide)
  unfold matchNoted
  refine .ite (h1.parts ((setHalf_keeps _ _ _).mono (by simp)) (setHalf_keeps _ _ _ .regs (by decide)) ?_) h1
  exact congrArg CmdSt.out (setHalf_keeps _ _ _ .cmd (by decide))

/-- What a match leaves of the half that recomputed. -/
structure Matches (s t : State) : Prop where
  moves : Moves anyReply [.hlv, .saf] goodWords s t
  run : t.f F.HLV_GRAZE_MATCH_RUN = min 63 (s.f F.HLV_GRAZE_MATCH_RUN + 1)
  due : t.hlv.grazeDue = s.hlv.grazeDue
  half : t.half s.standby =
    { s.half s.standby with matched := (s.half s.standby).matched || decide (31 ≤ s.f F.HLV_GRAZE_MATCH_RUN) }
  health : t.health s.standby = if s.health s.standby = Health.proving ∧ (t.half s.standby).matched = true ∧ 64 ≤ (t.half s.standby).slices
    then Health.good else s.health s.standby

theorem matched_matches (ha : s.hlv.active = true) : Matches s (matched s) := by
  obtain ⟨hact, hdue⟩ := matchNoted_rest s
  have hhalf : (matched s).half s.standby = (matchNoted s).half s.standby := half_of_hlv (goodCheck_hlv _) _
  have hhealth : (matchNoted s).health s.standby = s.health s.standby :=
    matchNoted_f (ofHalf_ok (x := F.HLV_HEALTH_A_HEALTH) (by decide)) (by cases s.standby <;> decide) (by cases s.standby <;> decide) s
  refine ⟨(matchNoted_moves s).andThen (goodCheck_moves _) (by decide) (by decide), ?_, ?_, hhalf.trans (matchNoted_half s), ?_⟩
  · rw [matched_eq, goodCheck_f (by decide) (by decide) (fun h => by cases h <;> decide) (by decide) (by decide),
      f_of_regs (matchNoted_keeps s).2, matchRuns_run]
  · rw [matched_eq, goodCheck_hlv, hdue]
  · have hg := goodCheck_health (s := matchNoted s) (hact.trans ha)
    rw [matchNoted_standby, hhealth] at hg
    rw [hhalf]
    exact hg

/-- The image to be compared is taken. -/
def grazeTaken (s : State) : State := { s with hlv := { s.hlv with grazeDue := false } }

theorem grazeTaken_half (h : Half) (s : State) : (grazeTaken s).half h = s.half h := by cases h <;> rfl

theorem graze_skips (hd : s.hlv.grazeDue = true) (errs : List Nat) :
    graze errs false s = (grazeTaken s).bump F.HLV_GRAZE_CNT_SKIP_CNT := by
  unfold graze
  rw [hd]
  rfl

theorem graze_compares (hd : s.hlv.grazeDue = true) (hg : s.grazing = true) (errs : List Nat) : graze errs true s =
    match grazeDiff (grazeTaken s) errs with
    | none => matched (grazePool (grazeTaken s))
    | some row => mismatch row (grazePool (grazeTaken s)) := by
  have hg' : (grazeTaken s).grazing = true := hg
  unfold graze
  rw [hd]
  simp only [Bool.not_true, Bool.false_eq_true, if_false, Bool.false_or]
  rw [show ({ s with hlv := { s.hlv with grazeDue := false } } : State) = grazeTaken s from rfl, hg']
  rfl

theorem grazePool_moves (s : State) : Moves anyReply [.hlv, .saf] goodWords s (grazePool s) := by
  unfold grazePool
  exact (Moves.refl _ _ _ s).parts ((setHalf_keeps _ _ _).mono (by simp)) (setHalf_keeps _ _ _ .regs (by decide))
    (congrArg CmdSt.out (setHalf_keeps _ _ _ .cmd (by decide)))

theorem grazePool_regs (s : State) : (grazePool s).regs = s.regs := setHalf_keeps _ _ _ .regs (by decide)

theorem grazePool_half (s : State) : (grazePool s).half s.standby =
    { s.half s.standby with pool := linePool (grazeState s) (s.tck.frame % 32 + 480) } := half_setHalf _ _ _

theorem grazePool_standby (s : State) : (grazePool s).standby = s.standby := by
  simp only [State.standby, State.activeHalf, f_of_regs (grazePool_regs s)]

theorem grazePool_rest (s : State) : (grazePool s).hlv.active = s.hlv.active ∧ (grazePool s).hlv.grazeDue = s.hlv.grazeDue ∧
    (grazePool s).hlv.quick = s.hlv.quick ∧ (grazePool s).tck = s.tck := by
  unfold grazePool
  cases s.standby <;> exact ⟨rfl, rfl, rfl, rfl⟩

/-! ### A mismatch (R271, R279) -/

/-- The words of a mismatch. -/
def mismatchNoted (row : Nat) (s : State) : State :=
  (((((s.setF F.HLV_GRAZE_MISMATCH_RUN (min 3 (s.f F.HLV_GRAZE_MISMATCH_RUN + 1))).setF F.HLV_GRAZE_MATCH_RUN 0).bump
    F.HLV_GRAZE_CNT_MISMATCH_CNT).setB F.HLV_STATUS_MISMATCH true).setF F.HLV_GRAZE_ROW_ROW row).setReg 0x9024
      (BitVec.ofNat 32 s.tck.frame)

/-- The event of a mismatch. -/
def mismatchTold (row : Nat) (s : State) : State :=
  (mismatchNoted row s).raise 0x93 (q4 row ++ q4 (min 3 (s.f F.HLV_GRAZE_MISMATCH_RUN + 1)))

/-- The third mismatch in a row, with no quick test asked for. -/
def asksQuick (s : State) : Bool :=
  min 3 (s.f F.HLV_GRAZE_MISMATCH_RUN + 1) = 3 && s.f F.HLV_GRAZE_MISMATCH_RUN == 2 && s.hlv.quick.isNone

theorem mismatch_eq (row : Nat) (s : State) : mismatch row s = if asksQuick s then
    { mismatchTold row s with hlv.quick := some ⟨if s.tck.row < 512 then s.tck.frame else s.tickNo 1, none⟩ } else mismatchTold row s := rfl

theorem mismatchTold_moves (row : Nat) (s : State) : Moves anyReply [.hlv] hlvRegs s (mismatchTold row s) :=
  (((((((Moves.refl _ _ _ s).setF _ (by decide)).setF _ (by decide)).bump (by decide)).setB _ (by decide)).setF _ (by decide)).setReg _
    (by decide)).raise (by decide) _ _

/-- What a mismatch shows. -/
structure Mismatches (row : Nat) (s t : State) : Prop where
  moves : Moves anyReply [.hlv] hlvRegs s t
  match_ : t.f F.HLV_GRAZE_MATCH_RUN = 0
  run : t.f F.HLV_GRAZE_MISMATCH_RUN = min 3 (s.f F.HLV_GRAZE_MISMATCH_RUN + 1)
  told : t.fb F.HLV_STATUS_MISMATCH = true
  count : t.f F.HLV_GRAZE_CNT_MISMATCH_CNT = satAdd F.HLV_GRAZE_CNT_MISMATCH_CNT.top (s.f F.HLV_GRAZE_CNT_MISMATCH_CNT) 1
  row : t.f F.HLV_GRAZE_ROW_ROW = row
  frame : t.reg 0x9024 = BitVec.ofNat 32 s.tck.frame

theorem mismatchNoted_reads {row : Nat} (hr : row < 512) (s : State) :
    (mismatchNoted row s).f F.HLV_GRAZE_MATCH_RUN = 0 ∧
    (mismatchNoted row s).f F.HLV_GRAZE_MISMATCH_RUN = min 3 (s.f F.HLV_GRAZE_MISMATCH_RUN + 1) ∧
    (mismatchNoted row s).fb F.HLV_STATUS_MISMATCH = true ∧
    (mismatchNoted row s).f F.HLV_GRAZE_CNT_MISMATCH_CNT =
      satAdd F.HLV_GRAZE_CNT_MISMATCH_CNT.top (s.f F.HLV_GRAZE_CNT_MISMATCH_CNT) 1 ∧
    (mismatchNoted row s).f F.HLV_GRAZE_ROW_ROW = row ∧ (mismatchNoted row s).reg 0x9024 = BitVec.ofNat 32 s.tck.frame := by
  unfold mismatchNoted
  refine ⟨?_, ?_, ?_, ?_, ?_, reg_setReg_same _ _ _⟩
  · rw [f_setReg_other _ _ (by decide), f_setF_other _ _ (by decide) (by decide) (by decide),
      f_setB_other _ _ (by decide) (by decide) (by decide), f_bump_other _ (by decide) (by decide) (by decide),
      f_setF_same _ (by decide) (by decide)]
  · rw [f_setReg_other _ _ (by decide), f_setF_other _ _ (by decide) (by decide) (by decide),
      f_setB_other _ _ (by decide) (by decide) (by decide), f_bump_other _ (by decide) (by decide) (by decide),
      f_setF_other _ _ (by decide) (by decide) (by decide), f_setF_same _ (by decide) (lt_of_le_of_lt (min_le_left _ _) (by decide))]
  · rw [State.fb, f_setReg_other _ _ (by decide), f_setF_other _ _ (by decide) (by decide) (by decide)]
    exact fb_setB_same _ _ (by decide)
  · rw [f_setReg_other _ _ (by decide), f_setF_other _ _ (by decide) (by decide) (by decide),
      f_setB_other _ _ (by decide) (by decide) (by decide), f_bump_same _ (by decide),
      f_setF_other _ _ (by decide) (by decide) (by decide), f_setF_other _ _ (by decide) (by decide) (by decide)]
  · rw [f_setReg_other _ _ (by decide), f_setF_same _ (by decide) hr]

theorem mismatch_regs (row : Nat) (s : State) : (mismatch row s).regs = (mismatchTold row s).regs := by
  rw [mismatch_eq]
  split <;> rfl

theorem mismatch_shows {row : Nat} (hr : row < 512) (s : State) : Mismatches row s (mismatch row s) := by
  obtain ⟨h1, h2, h3, h4, h5, h6⟩ := mismatchNoted_reads hr s
  have hf : ∀ {x : Fld}, x.addr ∉ eventRegs → (mismatch row s).f x = (mismatchNoted row s).f x :=
    fun hx => (f_of_regs (mismatch_regs row s) _).trans (raise_f _ _ _ hx)
  have hm : Moves anyReply [.hlv] hlvRegs s (mismatch row s) := by
    rw [mismatch_eq]
    exact .ite ((mismatchTold_moves row s).hlv (by decide)) (mismatchTold_moves row s)
  refine ⟨hm, (hf (by decide)).trans h1, (hf (by decide)).trans h2, ?_, (hf (by decide)).trans h4, (hf (by decide)).trans h5, ?_⟩
  · rw [State.fb, hf (by decide)]
    exact h3
  · rw [State.reg, mismatch_regs]
    exact (raise_reg _ _ _ (by decide)).trans h6

theorem mismatch_quick (row : Nat) (s : State) :
    (s.f F.HLV_GRAZE_MISMATCH_RUN = 2 → s.hlv.quick = none → (mismatch row s).hlv.quick.isSome = true) ∧
    (s.f F.HLV_GRAZE_MISMATCH_RUN < 2 → (mismatch row s).hlv.quick = s.hlv.quick) := by
  rw [mismatch_eq]
  refine ⟨fun h2 hq => ?_, fun h2 => ?_⟩
  · rw [if_pos (by simp [asksQuick, h2, hq])]
    rfl
  · have hne : (s.f F.HLV_GRAZE_MISMATCH_RUN == 2) = false := beq_eq_false_iff_ne.2 (by omega)
    rw [if_neg (by rw [asksQuick, hne]; simp)]
    exact congrArg HlvSt.quick (raise_hlv _ _ _)

/-! ### Slices (R273) and the quick test (R279) -/

/-- The slice of this period has run. -/
def sliceTaken (s : State) : State := { s with hlv.sliceRun := true }

/-- A slice that passed. -/
def slicePassed (s : State) : State :=
  (setHalf s.standby { s.half s.standby with
    slices := (s.half s.standby).slices + 1, rounds := (s.half s.standby).rounds + b2n (((s.half s.standby).slices + 1) % 64 == 0) }
      (sliceTaken s)).setF (ofHalf F.HLV_HEALTH_A_SLICE s.standby) ((s.f (ofHalf F.HLV_HEALTH_A_SLICE s.standby) + 1) % 64)

theorem selfTestSlice_eq (hg : s.grazing = true) (hr : s.tck.running = true) (hd : s.hlv.grazeDue = false)
    (hn : s.hlv.sliceRun = false) :
    selfTestSlice true s = goodCheck (slicePassed s) ∧ selfTestSlice false s = failHalf s.standby 6 (sliceTaken s) := by
  have hc : ¬ (!s.grazing || !s.tck.running || s.hlv.grazeDue || s.hlv.sliceRun) = true := by simp [hg, hr, hd, hn]
  have hh : ∀ h : Half, (sliceTaken s).half h = s.half h := fun h => by cases h <;> rfl
  refine ⟨(if_neg hc).trans ?_, (if_neg hc).trans rfl⟩
  rw [slicePassed, ← hh]
  rfl

theorem slicePassed_moves (s : State) : Moves anyReply [.hlv, .saf] goodWords s (slicePassed s) := by
  have h1 : Moves anyReply [.hlv, .saf] goodWords s (sliceTaken s) := (Moves.refl _ _ _ s).hlv (by decide)
  refine Moves.setF ?_ _ (by cases s.standby <;> decide)
  exact h1.parts ((setHalf_keeps _ _ _).mono (by simp)) (setHalf_keeps _ _ _ .regs (by decide))
    (congrArg CmdSt.out (setHalf_keeps _ _ _ .cmd (by decide)))

theorem slicePassed_half (s : State) : ((slicePassed s).half s.standby).slices = (s.half s.standby).slices + 1 ∧
    (slicePassed s).hlv.sliceRun = true := by
  unfold slicePassed
  cases s.standby <;> exact ⟨rfl, rfl⟩

theorem slicePassed_slice (s : State) : (slicePassed s).f (ofHalf F.HLV_HEALTH_A_SLICE s.standby) =
    (s.f (ofHalf F.HLV_HEALTH_A_SLICE s.standby) + 1) % 64 :=
  f_setF_same _ (ofHalf_ok (x := F.HLV_HEALTH_A_SLICE) (by decide)) (Nat.mod_lt _ (by decide))

/-- The quick test has run, in the blanking. -/
def quickRun (a b : Bool) (s : State) : State :=
  { s with time := max s.time (s.nextTick - 5000), hlv.quick := some ⟨s.tck.frame, some (a, b)⟩ }

/-- The halves that failed it are named. -/
def quickTold (a b : Bool) (s : State) : State :=
  let s1 := if a then s else s.setB F.HLV_STATUS_QT_FAIL_A true
  if b then s1 else s1.setB F.HLV_STATUS_QT_FAIL_B true

theorem quickSelfTest_eq (hq : s.hlv.quick = some ⟨s.tck.frame, none⟩) (hr : s.tck.row = 512) (a b : Bool) :
    quickSelfTest a b s = quickTold a b (quickRun a b s) := by
  simp only [quickSelfTest, hq]
  exact if_pos (by simp [hr])

theorem quickTold_keeps (a b : Bool) (s : State) : Keeps [.regs] s (quickTold a b s) ∧ KeepsRegs [0x9034] s (quickTold a b s) := by
  have h1 : ∀ (c : Bool) (x : Fld) (u : State), x.addr = 0x9034 →
      Keeps [.regs] u (if c then u else u.setB x true) ∧ KeepsRegs [0x9034] u (if c then u else u.setB x true) := by
    intro c x u hx
    cases c
    · exact ⟨setB_keeps [] u x true, setB_keepsRegs u true (by simp [hx])⟩
    · exact ⟨.refl _ u, .refl _ u⟩
  have ha := h1 a F.HLV_STATUS_QT_FAIL_A s rfl
  have hb := h1 b F.HLV_STATUS_QT_FAIL_B (if a then s else s.setB F.HLV_STATUS_QT_FAIL_A true) rfl
  exact ⟨ha.1.trans hb.1, ha.2.trans hb.2⟩

theorem quickTold_names (a b : Bool) (s : State) : (a = false → (quickTold a b s).fb F.HLV_STATUS_QT_FAIL_A = true) ∧
    (b = false → (quickTold a b s).fb F.HLV_STATUS_QT_FAIL_B = true) := by
  refine ⟨?_, ?_⟩
  · rintro rfl
    cases b
    · exact (fb_setB_other _ _ (by decide) (by decide) (by decide)).trans (fb_setB_same _ _ (by decide))
    · exact fb_setB_same _ _ (by decide)
  · rintro rfl
    exact fb_setB_same _ _ (by decide)

end grazing

end Sys2Proof.Machine
end

section
namespace Sys2Proof.Machine

section clauses

variable {s : State} (ho : s.off = false) (hi : s.pwr.state ≠ .idle)
include ho hi

/-- A fault of the active half (R274, R275, R278). -/
theorem fault_active {h : Half} {cause : Nat} {c : Instr} {u : State} (hr : FaultRow s h cause c u) (ha : s.hlv.active = true)
    (hn : s.hlv.abdicated = none) (hh : s.activeHalf = h) : exec c s = .next (abdicate cause u) ∧ Abdicates cause u (abdicate cause u) := by
  obtain ⟨hu, hc⟩ := hr.served
  obtain ⟨-, -, -, -, -, h1, h2⟩ := hu.reads
  exact ⟨(hr.exec ho hi (fun _ => hh)).trans (congrArg _ (halfFault_active ho hi hu ha hn hh cause)),
    abdicate_abdicates (h1.trans ha) (h2.trans hn) hc⟩

/-- A fault of the standby half (R269). -/
theorem fault_standby {h : Half} {cause : Nat} {c : Instr} {u : State} (hr : FaultRow s h cause c u) (ha : s.hlv.active = true)
    (hn : s.hlv.abdicated = none) (hh : s.activeHalf ≠ h) (hg : inRange (s.health h) 1 3 = true) (h4 : cause ≠ 4) :
    exec c s = .next (failHalf h cause u) ∧ StandbyFails h cause u (failHalf h cause u) := by
  obtain ⟨hu, hc⟩ := hr.served
  obtain ⟨-, -, -, -, -, h1, h2⟩ := hu.reads
  exact ⟨(hr.exec ho hi (fun e => absurd e h4)).trans (congrArg _ (halfFault_standby ho hi hu hh hg cause)),
    failHalf_standby (h1.trans ha) (h2.trans hn) hc h⟩

end clauses

/-- Settles O54: a fault is judged in the state it meets, and each reaction writes words of its own. -/
theorem halvesFailAndAreWatched : Obligations.HalvesFailAndAreWatched := by
  unfold Obligations.HalvesFailAndAreWatched
  intro s ho hi
  refine ⟨fun h cause c u hr => ⟨fun ha hn hh => ?_, fun ha hn hh hg h4 => ?_⟩, fun h f hh => ?_, fun h w hr => ?_,
    fun hr hb hl hn => ?_, fun hl => ?_, fun hsw hl hh => ?_, grazeDiff_none, fun errs row hd => ?_,
    fun hd u hu => ⟨fun d => ?_, fun errs hg hdiff => ?_, fun errs row hg hdiff => ?_⟩, fun hd p => ?_, fun hg hr hd hn h hh => ?_,
    fun a b hq hr => ?_⟩
  · have hu : Served h s u := (FaultRow.served (c := c) hr).1
    obtain ⟨-, ht, hd, -⟩ := hu.reads
    obtain ⟨he, ab⟩ := fault_active ho hi (c := c) hr ha hn hh
    have hau : u.activeHalf = h := hu.activeHalf.trans hh
    have hgood : u.health (otherHalf u.activeHalf) = s.health (otherHalf h) := by rw [hu.health, hau]
    refine ⟨_, he, ab.told, ?_, ?_, ?_, ab.active.trans hau, fun hfb => ?_, ab.rows, fun hg => ?_, fun hg => ?_, ab.moves.frame⟩
    · rw [← hau]
      exact ab.lastCause
    · rw [ab.counted, hu.f]
    · rw [← hau, ab.health, hu.mayRestart]
    · rw [ab.swap, hu.fallbackDrives, hfb]
      exact Bool.or_true _
    · obtain ⟨h1, h2⟩ := ab.takesOver (hgood.trans hg)
      rw [abdRecord_good (hgood.trans hg), hau, ht] at h2
      exact ⟨h1, _, h2⟩
    · exact ab.noneLeft (fun e => hg (hgood.symm.trans e))
  · have hu : Served h s u := (FaultRow.served (c := c) hr).1
    obtain ⟨he, sf⟩ := fault_standby ho hi (c := c) hr ha hn hh hg h4
    obtain ⟨h1, h2, h3⟩ := sf.hlv
    refine ⟨_, he, sf.lastCause, h1, h2, by rw [sf.health, hu.mayRestart], h3, sf.active.trans hu.activeHalf, ?_, sf.moves.frame⟩
    exact (sf.moves.keeps .drv (by decide)).trans hu.reads.2.2.1
  · exact congrArg Host.Outcome.next (if_neg (by simpa using hh))
  · exact congrArg Host.Outcome.next (if_pos (by simp [hr]))
  · have hm := rowMissed_moves s
    have hhlv : (rowMissed s).hlv = s.hlv := hm.keeps .hlv (by decide)
    have hf := abdicate_frame 4 (rowMissed s)
    obtain ⟨r1, r2, r3⟩ := rowMissed_reads s
    refine ⟨_, congrArg Host.Outcome.next (rowUnderrun_eq hr hb hl hn), abdicate_noSwap r1 4, (hf.regs.fb (by decide)).trans r2,
      (hf.regs.f (by decide)).trans r3, fun h => ?_, fun ha hab => ?_, ?_⟩
    · rw [abdicate_id (by rw [hhlv]; exact h), hhlv]
    · have ab := abdicate_abdicates (s := rowMissed s) (cause := 4) (by rw [hhlv]; exact ha) (by rw [hhlv]; exact hab) (by decide)
      have hact : (rowMissed s).activeHalf = s.activeHalf := congrArg halfOf (hm.regs.f (x := F.HLV_ROLE_ACTIVE) (by decide))
      exact ⟨ab.told, hact ▸ ab.lastCause⟩
    · exact ((hm.mono (by decide) (by decide)).andThen hf (by decide) (by decide)).frame
  · exact congrArg Host.Outcome.next (if_pos (by simp [hl]))
  · by_cases ha : s.hlv.active = true ∧ s.hlv.abdicated = none
    · obtain ⟨hx, habd⟩ := holdLimit_abdicates ha.1 ha.2 hsw hl hh
      refine ⟨_, rfl, hx.shown, fun _ _ => habd, fun hno => ?_, hx.limit, hx.seen, hx.held, hx.moves.frame⟩
      rcases hno with h | h
      · exact absurd ha.1 (by simp [h])
      · exact absurd ha.2 h
    · have hno : s.hlv.active = false ∨ s.hlv.abdicated ≠ none := (not_and_or.1 ha).imp (fun h => by simpa using h) id
      obtain ⟨hx, hact⟩ := holdLimit_noHalf hno hsw hl hh
      exact ⟨_, rfl, hx.shown, fun h1 h2 => absurd ⟨h1, h2⟩ ha, fun _ => hact, hx.limit, hx.seen, hx.held, hx.moves.frame⟩
  · obtain ⟨n, hn, rfl, h1, h2⟩ := grazeDiff_some hd
    exact ⟨n, hn, rfl, h1, h2⟩
  · refine ⟨_, congrArg Host.Outcome.next (graze_skips hd d), rfl, f_bump_same _ (by decide), ?_, bump_keepsRegs _ (by simp)⟩
    exact fun q hq => by cases q <;> first | rfl | exact absurd (by simp) hq
  · obtain rfl : u = grazeTaken s := hu
    obtain ⟨p1, p2, -, -⟩ := grazePool_rest (grazeTaken s)
    have hst : (grazePool (grazeTaken s)).standby = s.standby := grazePool_standby _
    have hreg : (grazePool (grazeTaken s)).regs = s.regs := grazePool_regs _
    have mt := matched_matches (s := grazePool (grazeTaken s)) (p1.trans (grazing_active hg))
    have hhalf : (grazePool (grazeTaken s)).half s.standby =
        { s.half s.standby with pool := linePool (grazeState (grazeTaken s)) (s.tck.frame % 32 + 480) } :=
      (grazePool_half (grazeTaken s)).trans (by rw [grazeTaken_half]; rfl)
    have hrun : (grazePool (grazeTaken s)).f F.HLV_GRAZE_MATCH_RUN = s.f F.HLV_GRAZE_MATCH_RUN := f_of_regs hreg _
    have hhealth : (grazePool (grazeTaken s)).health s.standby = s.health s.standby := f_of_regs hreg _
    have ht := mt.half
    have hth := mt.health
    rw [hst, hhalf, hrun] at ht
    rw [hst, hhealth, ht] at hth
    have he : exec (.graze errs true) s = .next (matched (grazePool (grazeTaken s))) :=
      congrArg Host.Outcome.next ((graze_compares hd hg errs).trans (by rw [hdiff]))
    refine ⟨_, he, by rw [mt.run, hrun], mt.due.trans p2, by rw [ht], ?_, by rw [hth, ht], ?_⟩
    · rw [ht]
      simp
    · have h0 : Moves anyReply [.hlv, .saf] goodWords s (grazeTaken s) := (Moves.refl _ _ _ s).hlv (by decide)
      exact ((h0.trans (grazePool_moves _)).trans mt.moves).frame
  · obtain rfl : u = grazeTaken s := hu
    obtain ⟨-, -, p3, p4⟩ := grazePool_rest (grazeTaken s)
    have hreg : (grazePool (grazeTaken s)).regs = s.regs := grazePool_regs _
    have hrow : row < 512 := by
      obtain ⟨n, hn, rfl, -⟩ := grazeDiff_some hdiff
      have := Nat.mod_lt (grazeTaken s).tck.frame (show 0 < 32 by decide)
      omega
    have mm := mismatch_shows hrow (grazePool (grazeTaken s))
    obtain ⟨q1, q2⟩ := mismatch_quick row (grazePool (grazeTaken s))
    have he : exec (.graze errs true) s = .next (mismatch row (grazePool (grazeTaken s))) :=
      congrArg Host.Outcome.next ((graze_compares hd hg errs).trans (by rw [hdiff]))
    refine ⟨_, he, mm.match_, by rw [mm.run, f_of_regs hreg], mm.told, by rw [mm.count, f_of_regs hreg], mm.row, ?_,
      fun h2 hq => q1 (by rw [f_of_regs hreg]; exact h2) (p3.trans hq), fun h2 => (q2 (by rw [f_of_regs hreg]; exact h2)).trans p3, ?_⟩
    · rw [mm.frame, p4]
      rfl
    · have h0 : Moves anyReply [.hlv] hlvRegs s (grazePool (grazeTaken s)) :=
        ((Moves.refl _ _ _ s).hlv (by decide) : Moves anyReply [.hlv] hlvRegs s (grazeTaken s)).parts
          ((setHalf_keeps _ _ _).mono (by simp)) (grazePool_regs _) (congrArg CmdSt.out (setHalf_keeps _ _ _ .cmd (by decide)))
      exact (h0.trans mm.moves).frame
  · refine congrArg Host.Outcome.next (if_pos ?_)
    rcases hd with h | h <;> simp [h]
  · subst hh
    obtain ⟨e1, e2⟩ := selfTestSlice_eq hg hr hd hn
    obtain ⟨h1, h2⟩ := slicePassed_half s
    refine ⟨⟨_, congrArg Host.Outcome.next e1, ?_, ?_, ?_, ((slicePassed_moves s).andThen (goodCheck_moves _) (by decide) (by decide)).frame⟩,
      fun hab => ?_⟩
    · rw [half_of_hlv (goodCheck_hlv _), h1]
    · rw [goodCheck_hlv, h2]
    · rw [goodCheck_f (ofHalf_ok (x := F.HLV_HEALTH_A_SLICE) (by decide)) (by cases s.standby <;> decide)
        (fun g => by cases s.standby <;> cases g <;> decide) (by cases s.standby <;> decide) (by cases s.standby <;> decide)]
      exact slicePassed_slice s
    · have sf := failHalf_standby (s := sliceTaken s) (cause := 6) (grazing_active hg) hab (by decide) s.standby
      have h0 : Moves anyReply [.hlv, .nvm, .lyr, .obj, .dia] (0x20C4 :: halfRegs ++ hlvRegs) s (sliceTaken s) :=
        (Moves.refl _ _ _ s).hlv (by decide)
      exact ⟨_, congrArg Host.Outcome.next e2, sf.lastCause, sf.health, (h0.trans sf.moves).frame⟩
  · obtain ⟨hk, hkr⟩ := quickTold_keeps a b (quickRun a b s)
    obtain ⟨n1, n2⟩ := quickTold_names a b (quickRun a b s)
    have h0 : Keeps [.regs, .hlv, .time] s (quickRun a b s) := fun q hq => by
      cases q <;> first | rfl | exact absurd (by simp) hq
    exact ⟨_, congrArg Host.Outcome.next (quickSelfTest_eq hq hr a b), hk .hlv (by decide), n1, n2, hk .time (by decide),
      h0.trans (hk.mono (by simp)), hkr⟩

end Sys2Proof.Machine
end

section
/-! Errors of the stores met in the gains, the fallback copy and the map (R36); O55. -/

namespace Sys2Proof.Machine

section ecc

variable {s : State} {j : Job} {st : Nat}

/-! ### The gains and the fallback copy (R36) -/

/-- The tile of a pixel alone takes its stored factor. -/
theorem read_reloadTile (p i : Nat) (soon stored : Mem 16) : Mem.read 0x8000 (reloadTile p soon stored) i =
    if i = tileOf p then Mem.read 0x8000 stored i else Mem.read 0x8000 soon i := by
  rw [reloadTile, Mem.read_write]
  split
  · next h => rw [h]
  · rfl

/-- The four pixels of a lost gain word go dark, and their tile's factors come from eNVM. -/
def gainLost (q : Nat) (s : State) : State := { s with
  drv.dark := setInsert q s.drv.dark
  drv.foptNext := some (reloadTile q (s.drv.foptNext.getD s.drv.fopt) s.nvm.fopt)
  drv.felNext := some (reloadTile q (s.drv.felNext.getD s.drv.fel) s.nvm.fel) }

theorem gainEcc_eq (p : Nat) (s : State) : gainEcc p s =
    (((gainLost (p % 0x100000 / 4 * 4) s).setB F.DRV_STATUS_CAL_ECC true).bump F.DRV_CNT_CAL_ECC_CNT).raise 0x61
      (q4 (2 * (p % 0x100000 / 4 * 4))) := rfl

theorem gainLost_f (q : Nat) (s : State) (x : Fld) : (gainLost q s).f x = s.f x := rfl

theorem gainEcc_drv (p : Nat) (s : State) : (gainEcc p s).drv = (gainLost (p % 0x100000 / 4 * 4) s).drv := by
  rw [gainEcc_eq, raise_drv]
  rfl

theorem gainEcc_moves (p : Nat) (s : State) : Moves anyReply [.drv] [0x6050, 0x6054] s (gainEcc p s) := by
  have h : Moves anyReply [.drv] [0x6050, 0x6054] s (gainLost (p % 0x100000 / 4 * 4) s) := (Moves.refl _ _ _ s).drv (by decide)
  rw [gainEcc_eq]
  exact ((h.setB _ (by decide)).bump (by decide)).raise (by decide) _ _

theorem gainEcc_reads (p : Nat) (s : State) : (gainEcc p s).fb F.DRV_STATUS_CAL_ECC = true ∧
    (gainEcc p s).f F.DRV_CNT_CAL_ECC_CNT = satAdd F.DRV_CNT_CAL_ECC_CNT.top (s.f F.DRV_CNT_CAL_ECC_CNT) 1 := by
  rw [gainEcc_eq, State.fb]
  refine ⟨?_, ?_⟩
  · rw [raise_f _ _ _ (by decide), f_bump_other _ (by decide) (by decide) (by decide)]
    exact fb_setB_same _ _ (by decide)
  · rw [raise_f _ _ _ (by decide), f_bump_same _ (by decide), f_setB_other _ _ (by decide) (by decide) (by decide), gainLost_f]

/-- An error writes no word beyond those of a reply. -/
theorem finishJob_regs (j : Job) (h : 0x10 ≤ st) (body : List Byte) (s : State) : KeepsRegs replyRegs s (finishJob j st body s) := by
  have he : endStatus j st = st := endStatus_of_error j (by rintro rfl; exact absurd h (by decide))
  have e : finishJob j st body s = lostReport (finalReply j.op j.rq j.seq (endStatus j st) body (countReplayed (endStatus j st)
      { s with cmd.jobs := s.cmd.jobs.filter (fun k => !(k.seq == j.seq)) })) := rfl
  rw [e, he, countReplayed, if_neg (show st ≠ St.doneReplayed by rintro rfl; exact absurd h (by decide))]
  have h0 : KeepsRegs replyRegs s { s with cmd.jobs := s.cmd.jobs.filter (fun k => !(k.seq == j.seq)) } := fun _ _ => rfl
  exact (h0.trans (finalReply_step _ _ _ _ _ _).words).trans ((lostReport_step _).words.mono (by decide))

theorem finishKey_regs (op key : Nat) (h : 0x10 ≤ st) (body : List Byte) (s : State) :
    KeepsRegs replyRegs s (finishKey op key st body s) := by
  unfold finishKey
  split
  · exact finishJob_regs _ h body s
  · exact .refl _ s

theorem failCopy_frame (s : State) (slot : Nat) : CmdFrame [.lyr] [] s (failCopy s slot) := by
  obtain ⟨l, e⟩ := freeSlot_lyr slot s
  have h : Keeps [.cmd, .regs, .lyr] s (freeSlot slot s) ∧ (freeSlot slot s).regs = s.regs := by
    rw [e]
    exact ⟨fun q hq => by cases q <;> first | rfl | exact absurd (by simp) hq, rfl⟩
  refine ⟨h.1.trans ((finishKey_keeps _ _ _ _ _).mono (by simp)), fun a ha => ?_⟩
  rw [failCopy, finishKey_regs 0x28 slot (by decide) [] _ a (fun m => ha (List.mem_append_left _ m)), State.reg, h.2, State.reg]

/-- The fallback copy is invalid while its copies end. -/
def fallbackLost (s : State) : State := s.setB F.SAF_FB_VALID false

theorem copiesFail_frame (s : State) : CmdFrame [.drv, .lyr] [0x8038, 0x8038] s (loadFallback (copiesFail (fallbackLost s))) := by
  have h1 : ∀ (xs : List Nat) (u : State), CmdFrame [.lyr] [] u (xs.foldl failCopy u) := fun xs u =>
    ⟨Keeps.foldl (fun v x => (failCopy_frame v x).1) xs u, KeepsRegs.foldl xs (fun v x _ => (failCopy_frame v x).2) u⟩
  have h0 : Keeps [.cmd, .regs, .drv, .lyr] s { fallbackLost s with lyr.copies := [] } := fun q hq => by
    cases q <;> first | rfl | exact absurd (by simp) hq
  have h0' : KeepsRegs (replyRegs ++ [0x8038, 0x8038]) s { fallbackLost s with lyr.copies := [] } :=
    setB_keepsRegs s (x := F.SAF_FB_VALID) false (by decide)
  obtain ⟨k, e⟩ := loadFallback_eq (copiesFail (fallbackLost s))
  have hl : Keeps [.cmd, .regs, .drv, .lyr] (copiesFail (fallbackLost s)) (loadFallback (copiesFail (fallbackLost s))) := by
    rw [e]
    exact fun q hq => by cases q <;> first | rfl | exact absurd (by simp) hq
  have hl' : KeepsRegs (replyRegs ++ [0x8038, 0x8038]) (copiesFail (fallbackLost s)) (loadFallback (copiesFail (fallbackLost s))) := by
    rw [e]
    exact KeepsRegs.trans (t := { copiesFail (fallbackLost s) with drv.fb := (copiesFail (fallbackLost s)).nvm.fb }) (fun _ _ => rfl)
      ((setB_keepsRegs _ _ (by decide)).trans (setF_keepsRegs _ _ (by decide)))
  have hc := h1 s.lyr.copies { fallbackLost s with lyr.copies := [] }
  exact ⟨(h0.trans (hc.1.mono (by simp))).trans hl, (h0'.trans (hc.2.mono (by decide))).trans hl'⟩

theorem copiesFail_drv (s : State) : (copiesFail s).drv = s.drv := (failCopies_moves _ _).keeps .drv (by decide)

theorem loadFallback_drv (s : State) : (loadFallback s).drv = { s.drv with fb := s.nvm.fb } := by
  obtain ⟨k, e⟩ := loadFallback_eq s
  rw [e]
  rfl

/-! ### The map (R210, R221) -/

/-- The map as it is loaded, before the copies that fail are named. -/
def mapTaken (s : State) : State :=
  ({ s with dia.map := (match mapSource s with | some c => c.pixels | none => []), dia.faults := [], dia.changed := false }.setF
    F.DIA_MAPSEQ_SEQ_A s.nvm.mapA.seq).setF F.DIA_MAPSEQ_SEQ_B s.nvm.mapB.seq

theorem loadMap_eq (s : State) : loadMap s = mapCopyBad (mapTaken s) := rfl

theorem mapCopyBad_moves (s : State) : Moves anyReply [] [0x7004] s (mapCopyBad s) := by
  have h1 := Moves.ite (c := s.nvm.mapA.valid = true) (Moves.refl anyReply [] [0x7004] s)
    ((Moves.refl anyReply [] [0x7004] s).setB (x := F.DIA_STATUS_COPY_A_BAD) true (by decide))
  have h2 := Moves.ite (c := s.nvm.mapB.valid = true) h1 (h1.setB (x := F.DIA_STATUS_COPY_B_BAD) true (by decide))
  exact .ite h2 (h2.raise (by decide) _ _)

theorem mapTaken_moves (s : State) :
    Moves anyReply [.dia] [0x7004, F.DIA_MAPSEQ_SEQ_A.addr, F.DIA_MAPSEQ_SEQ_B.addr] s (mapTaken s) :=
  (((Moves.refl _ _ _ s).dia (by decide)).setF _ (by decide)).setF _ (by decide)

theorem loadMap_dia (s : State) : (loadMap s).dia = { s.dia with
    map := (match mapSource s with | some c => c.pixels | none => []), faults := [], changed := false } :=
  (mapCopyBad_moves (mapTaken s)).keeps .dia (by decide)

end ecc

end Sys2Proof.Machine
end

section
/-! Errors of the stores met by a check engine and by the head of the queue (R36, R368); O55. -/

namespace Sys2Proof.Machine

section engines

variable {s t u : State} {st n k : Nat} {r : ChkRun} {bs : List Byte}

/-! ### An engine's words and its state -/

theorem chkEng_setChk (hn : n < 4) (e : ChkEng) (s : State) : chkEng (setChk n e s) n = e := by simp [chkEng, setChk, hn]

theorem chkEng_of_chk (h : t.chk = s.chk) (n : Nat) : chkEng t n = chkEng s n := by rw [chkEng, h, chkEng]

theorem chkRunning_of (h : t.chk = s.chk) (hf : t.f (chkF F.CHK_0_RUN_RUN n) = s.f (chkF F.CHK_0_RUN_RUN n)) :
    chkRunning t n = chkRunning s n := by
  have hf' : t.f (F.CHK_0_RUN_RUN.at (0x20 * n)) = s.f (F.CHK_0_RUN_RUN.at (0x20 * n)) := hf
  rw [chkRunning, hf', chkEng_of_chk h, chkRunning]

/-- A field of another word of the same engine. -/
theorem chkF_apart {x y : Fld} (h : x.addr ≠ y.addr) (n : Nat) : (chkF x n).apart (chkF y n) := .inl fun e => h (Nat.add_right_cancel e)

/-- RUN and COUNT of an engine behind the bytes it is fed. -/
theorem chkFeed_f (n : Nat) (bs : List Byte) (s : State) :
    (chkFeed n bs s).f (chkF F.CHK_0_RUN_RUN n) = crcFeed (crcAlg (chkEng s n).poly) (chkRunning s n) bs % 2 ^ 32 ∧
      (chkFeed n bs s).f (chkF F.CHK_0_COUNT_COUNT n) = (s.f (chkF F.CHK_0_COUNT_COUNT n) + bs.length) % 2 ^ 32 := by
  have hr : (chkF F.CHK_0_RUN_RUN n).ok := (by decide : F.CHK_0_RUN_RUN.ok)
  have hc : (chkF F.CHK_0_COUNT_COUNT n).ok := (by decide : F.CHK_0_COUNT_COUNT.ok)
  exact ⟨(f_setF_other _ _ hc hr (chkF_apart (by decide) n)).trans (f_setF_mod _ _ hr), f_setF_mod _ _ hc⟩

theorem chkFeed_moves (n : Nat) (bs : List Byte) (s : State) :
    Moves anyReply [] [0xA008 + 0x20 * n, 0xA010 + 0x20 * n] s (chkFeed n bs s) :=
  ((Moves.refl _ _ _ s).setF _ (List.mem_append_right _ (by simp [chkF, Fld.at]))).setF _
    (List.mem_append_right _ (by simp [chkF, Fld.at]))

/-! ### The end of a run (R368) -/

/-- The engine stands still, its status noted. -/
def chkStopped (n st : Nat) (s : State) : State :=
  (setChk n ⟨none, (chkEng s n).poly⟩ s).setF (chkF F.CHK_0_STAT_LAST_STATUS n) st

theorem chkEnd_eq (h : (chkEng s n).run = some r) (st : Nat) : chkEnd n st s =
    (finishKey 0x58 n st (chkReply (chkStopped n st s) n r.fed) (chkStopped n st s)).raise 0xA0
      (q4 n ++ q4 st ++ q4 (chkResult (chkStopped n st s) n) ++ q4 ((chkStopped n st s).f (chkF F.CHK_0_COUNT_COUNT n))) := by
  rw [chkEnd, h]
  rfl

theorem chkEnd_none (h : (chkEng s n).run = none) (st : Nat) : chkEnd n st s = s := by rw [chkEnd, h]

theorem chkStopped_moves (n st : Nat) (s : State) :
    Moves anyReply [.chk] [0x20C4, 0xA014 + 0x20 * n] s (chkStopped n st s) := by
  have h : Moves anyReply [.chk] [0x20C4, 0xA014 + 0x20 * n] s (setChk n ⟨none, (chkEng s n).poly⟩ s) :=
    (Moves.refl _ _ _ s).chk (by decide)
  exact h.setF _ (List.mem_append_right _ (by simp [chkF, Fld.at]))

theorem chkEnd_moves (hst : 0x10 ≤ st) (n : Nat) (s : State) :
    Moves anyReply [.chk] [0x20C4, 0xA014 + 0x20 * n] s (chkEnd n st s) := by
  cases h : (chkEng s n).run with
  | none =>
    rw [chkEnd_none h]
    exact .refl _ _ _ s
  | some r =>
    rw [chkEnd_eq h]
    have hc : 0x9030 ∈ [0x20C4, 0xA014 + 0x20 * n] ∨ (st ≠ St.ok ∧ st ≠ St.doneReplayed) :=
      .inr ⟨by rintro rfl; exact absurd hst (by decide), by rintro rfl; exact absurd hst (by decide)⟩
    exact ((chkStopped_moves n st s).finishKey (by simp) _ _ _ _ hc).raise (by decide) _ _

theorem chkEnd_stops (hn : n < 4) (st : Nat) (s : State) : (chkEng (chkEnd n st s) n).run = none := by
  cases h : (chkEng s n).run with
  | none => rw [chkEnd_none h, h]
  | some r =>
    have hc : (chkEnd n st s).chk = (chkStopped n st s).chk := by
      rw [chkEnd_eq h, raise_chk]
      exact finishKey_keeps _ _ _ _ _ .chk (by decide)
    rw [chkEng_of_chk hc]
    exact congrArg ChkEng.run (chkEng_setChk hn _ s)

theorem chkEnd_status (hn : n < 4) (hst : 0x10 ≤ st) (ht : st < 256) (h : (chkEng s n).run = some r) :
    (chkEnd n st s).f (chkF F.CHK_0_STAT_LAST_STATUS n) = st := by
  have ha : (chkF F.CHK_0_STAT_LAST_STATUS n).addr = 0xA014 + 0x20 * n := rfl
  rw [chkEnd_eq h, raise_f _ _ _ (by simp [ha, eventRegs]; omega)]
  refine ((finishKey_regs 0x58 n hst _ _).f (by simp [ha, replyRegs]; omega)).trans ?_
  exact f_setF_same _ (by decide : F.CHK_0_STAT_LAST_STATUS.ok) ht

/-! ### An engine that meets the error (R368) -/

/-- An engine behind a piece of its run, its journal entry aside. -/
def chkFed (n k : Nat) (r : ChkRun) (s : State) : State :=
  setChk n ⟨some { r with fed := r.fed + k }, (chkEng s n).poly⟩ (chkFeed n (chkBytes s r k) { s with chkTurn := n, fresh := s.fresh + 1 })

theorem chkFed_moves (n k : Nat) (r : ChkRun) (s : State) :
    Moves anyReply [.chk, .chkTurn, .fresh] [0xA008 + 0x20 * n, 0xA010 + 0x20 * n] s (chkFed n k r s) := by
  have h : Moves anyReply [.chk, .chkTurn, .fresh] [0xA008 + 0x20 * n, 0xA010 + 0x20 * n] s
      { s with chkTurn := n, fresh := s.fresh + 1 } :=
    ((Moves.refl _ _ _ s).chkTurn (by decide) (x := n)).fresh (by decide) (x := s.fresh + 1)
  exact (h.trans ((chkFeed_moves n _ _).mono (by simp) (by simp))).chk (by decide)

theorem chkFeedPiece_fed (n k : Nat) (r : ChkRun) (s : State) :
    ∃ c : CmdSt, chkFeedPiece n k r s = { chkFed n k r s with cmd := c } ∧ c.out = s.cmd.out := by
  have e : chkFeedPiece n k r s = (match (chkFed n k r s).jobKey? 0x58 n with
    | some j => noteProgress j.seq (r.fed + k) (chkFed n k r s)
    | none => chkFed n k r s) := rfl
  rw [e]
  split
  · exact ⟨_, rfl, rfl⟩
  · exact ⟨_, rfl, rfl⟩

/-- The engine met the error behind `k` bytes: they are fed, and the run ends BAD_CRC. -/
theorem chkEcc_meets {ecc : Nat} (hn : n < 4) (hr : (chkEng s n).run = some r)
    (hk : k = eccStop r (min 4096 (r.length - r.fed)) ecc) :
    (chkEng (chkEcc n ecc s) n).run = none ∧ (chkEcc n ecc s).f (chkF F.CHK_0_STAT_LAST_STATUS n) = St.badCrc ∧
      (chkEcc n ecc s).f (chkF F.CHK_0_RUN_RUN n) = crcFeed (crcAlg (chkEng s n).poly) (chkRunning s n) (chkBytes s r k) % 2 ^ 32 ∧
      (chkEcc n ecc s).f (chkF F.CHK_0_COUNT_COUNT n) = (s.f (chkF F.CHK_0_COUNT_COUNT n) + (chkBytes s r k).length) % 2 ^ 32 ∧
      EvFrame [.chk, .chkTurn, .fresh] [0x20C4, 0xA008 + 0x20 * n, 0xA010 + 0x20 * n, 0xA014 + 0x20 * n] s (chkEcc n ecc s) := by
  obtain ⟨c, e, hout⟩ := chkFeedPiece_fed n k r s
  have he : chkEcc n ecc s = chkEnd n St.badCrc { chkFed n k r s with cmd := c } := by rw [chkEcc, hr, ← e, hk]
  have hf := chkFed_moves n k r s
  have hm : Moves anyReply [.chk, .chkTurn, .fresh] [0xA008 + 0x20 * n, 0xA010 + 0x20 * n] s { chkFed n k r s with cmd := c } :=
    ⟨(hf.keeps.mono (by simp)).of_cur (by simp) _, hf.regs, ⟨[], by simp, by simp [hout]⟩⟩
  have hend := chkEnd_moves (st := St.badCrc) (by decide) n { chkFed n k r s with cmd := c }
  have hrun : (chkEng { chkFed n k r s with cmd := c } n).run = some { r with fed := r.fed + k } :=
    congrArg ChkEng.run (chkEng_setChk hn _ _)
  have keep : ∀ x : Fld, x.addr ∉ eventRegs ++ [0x20C4, 0xA014 + 0x20 * n] → (chkEcc n ecc s).f x = (chkFed n k r s).f x :=
    fun x hx => he ▸ hend.regs.f hx
  obtain ⟨fr, fc⟩ := chkFeed_f n (chkBytes s r k) { s with chkTurn := n, fresh := s.fresh + 1 }
  refine ⟨he ▸ chkEnd_stops hn _ _, he ▸ chkEnd_status hn (by decide) (by decide) hrun, ?_, ?_, ?_⟩
  · exact (keep _ (by simp [eventRegs, chkF, Fld.at]; omega)).trans fr
  · exact (keep _ (by simp [eventRegs, chkF, Fld.at]; omega)).trans fc
  · rw [he]
    exact ((hm.mono (by simp) (by simp)).trans (hend.mono (by simp) (by simp))).frame

end engines

end Sys2Proof.Machine
end

section
/-! The command at the head of the queue that meets an error of the store (R36, R368), and a corrected error (R36, R291); O55. -/

namespace Sys2Proof.Machine

section head

variable {s t : State} {n k : Nat} {rq : Req}

/-! ### The bytes a run reads -/

theorem storeBytes_length (s : State) (a n : Nat) : (s.storeBytes a n).length = n := by simp [State.storeBytes, natsFrom]

theorem chkBytes_length (s : State) (r : ChkRun) (n : Nat) : (chkBytes s r n).length ≤ n := by
  unfold chkBytes
  split
  · exact List.length_take_le _ _
  · exact (storeBytes_length s _ n).le

theorem chkBytes_store {r : ChkRun} (h : r.source < 2) (s : State) (n : Nat) :
    chkBytes s r n = s.storeBytes (r.addr + r.fed) n := by
  unfold chkBytes
  split
  · next e => exact absurd h (by omega)
  · rfl

/-- A run over the store ends before the word in error, if it reaches that word (R368). -/
theorem eccStop_reaches {r : ChkRun} {a : Nat} (hs : r.source ≤ 1) (hl : r.addr + r.fed ≤ a / 8 * 8)
    (hr : a / 8 * 8 < r.addr + r.fed + n) : r.addr + r.fed + eccStop r n a = a / 8 * 8 := by
  have h : r.addr + r.fed < a / 8 * 8 + 8 := by omega
  simp only [eccStop, hs, h, hr, decide_true, Bool.and_true, if_true]
  omega

theorem eccStop_before {r : ChkRun} {a : Nat} (h : r.addr + r.fed + n ≤ a / 8 * 8) : eccStop r n a = n := by
  have h : ¬ a / 8 * 8 < r.addr + r.fed + n := by omega
  simp [eccStop, h]

/-! ### A command of another opcode (R36) -/

theorem lostReply_answers (op : Nat) (st : Nat) (body : List Byte) (hq : rq.quiet = false)
    (hk : Keeps [.cmd, .regs] s t) (hr : t.regs = s.regs) (ho : t.cmd.out = s.cmd.out) :
    CmdFrame [] [] s (lostReport (finalReply op rq s.cmd.seq st body t)) ∧
      Answers op rq st body s (lostReport (finalReply op rq s.cmd.seq st body t)) := by
  have hl := lostReport_step (finalReply op rq s.cmd.seq st body t)
  have h := (finalReply_step op rq s.cmd.seq st body t).trans (.of_send hl)
  have hw : KeepsRegs (replyRegs ++ []) s t := fun a _ => by simp only [State.reg, hr]
  obtain ⟨evs, he, hout⟩ := hl.sends
  refine ⟨⟨hk.trans h.keeps, hw.trans (h.words.left [])⟩, [], evs, he, hout.trans ?_⟩
  rw [finalReply_out hq, ho, List.append_nil]

theorem commandEcc_answers {e : QEntry} {l : List QEntry} {a : Nat} (hb : s.cmd.inbox.filter QEntry.inQueue = e :: l)
    (hw : s.mustWait e.op e.rq = false) (hq : e.rq.quiet = false) (hop : e.op ≠ 0x58) :
    CmdFrame [] [] s (commandEcc a s) ∧ Answers e.op e.rq St.badCrc [] s (commandEcc a s) := by
  have hc : commandEcc a s = lostReport (finalReply e.op e.rq s.cmd.seq St.badCrc []
      (unpark e.op e.rq (openEntry e.op e.rq (!reqClassN e.op e.rq) s))) := by
    rw [commandEcc, hb]
    simp only [hw, hop, if_false, Bool.false_eq_true]
  rw [hc]
  exact lostReply_answers _ _ _ hq ((Keeps.refl _ s).of_cur (by simp) _) rfl rfl

/-! ### A CHK_RUN that is not long (R368) -/

theorem bitsOf_low (w n : Nat) : bitsOf w n 0 = w % 2 ^ (n + 1) := by simp [bitsOf]

theorem chkReply_of (hn : n < 4) (hc : t.chk = s.chk) (hr : KeepsRegs replyRegs s t) (k : Nat) : chkReply t n k = chkReply s n k := by
  have hf : ∀ x : Fld, 0x20C5 ≤ x.addr → t.f (chkF x n) = s.f (chkF x n) := fun x hx =>
    hr.f (by simp [replyRegs, chkF, Fld.at]; omega)
  have hrun : chkRunning t n = chkRunning s n := chkRunning_of hc (hf _ (by decide))
  have hx : t.fb (chkF F.CHK_0_CTRL_XOR_DIS n) = s.fb (chkF F.CHK_0_CTRL_XOR_DIS n) := by rw [State.fb, hf _ (by decide), State.fb]
  have hres : chkResult t n = chkResult s n := by
    have ht : chkResult t n = if t.fb (chkF F.CHK_0_CTRL_XOR_DIS n) then chkRunning t n
        else chkRunning t n ^^^ (crcAlg (chkEng t n).poly).xorOut := rfl
    rw [ht, hx, hrun, chkEng_of_chk hc]
    rfl
  simp only [chkReply, hres, hrun, hf F.CHK_0_COUNT_COUNT (by decide)]

/-- The words an engine's run writes. -/
def chkWords (n : Nat) : List Nat := [0xA008 + 0x20 * n, 0xA010 + 0x20 * n, 0xA014 + 0x20 * n]

/-- An engine as a run begins (R365, R381). -/
def chkBegun (n : Nat) (init : Bool) (src stream : Nat) (s : State) : State :=
  ((chkInit n init s).setF (chkF F.CHK_0_STAT_SOURCE n) src).setF (chkF F.CHK_0_STAT_STREAM n) stream

/-- A run that met the error, at once: what came before the word is fed. -/
def chkMet (n : Nat) (init : Bool) (src stream : Nat) (bs : List Byte) (s : State) : State :=
  (chkFeed n bs { chkBegun n init src stream s with fresh := (chkBegun n init src stream s).fresh + 1 }).setF
    (chkF F.CHK_0_STAT_LAST_STATUS n) St.badCrc

theorem chkInit_true (n : Nat) (s : State) : ∃ v, chkInit n true s =
    setChk n ⟨(chkEng s n).run, s.f (chkF F.CHK_0_CTRL_POLY n)⟩ ((s.setF (chkF F.CHK_0_RUN_RUN n) v).setF (chkF F.CHK_0_COUNT_COUNT n) 0) :=
  ⟨_, rfl⟩

theorem mem_chkWords (n : Nat) : (chkF F.CHK_0_RUN_RUN n).addr ∈ chkWords n ∧ (chkF F.CHK_0_COUNT_COUNT n).addr ∈ chkWords n ∧
    (chkF F.CHK_0_STAT_LAST_STATUS n).addr ∈ chkWords n := by simp [chkF, Fld.at, chkWords]

theorem chkInit_words (n : Nat) (init : Bool) (s : State) : KeepsRegs (chkWords n) s (chkInit n init s) := by
  obtain ⟨hr, hc, -⟩ := mem_chkWords n
  cases init with
  | false => exact .refl _ s
  | true =>
    obtain ⟨v, e⟩ := chkInit_true n s
    have h : KeepsRegs (chkWords n) s ((s.setF (chkF F.CHK_0_RUN_RUN n) v).setF (chkF F.CHK_0_COUNT_COUNT n) 0) :=
      (setF_keepsRegs s v hr).trans (setF_keepsRegs _ 0 hc)
    rw [e]
    exact fun a ha => h a ha

theorem chkInit_run (hn : n < 4) (init : Bool) (s : State) : (chkEng (chkInit n init s) n).run = (chkEng s n).run := by
  cases init with
  | false => rfl
  | true =>
    obtain ⟨v, e⟩ := chkInit_true n s
    rw [e, chkEng_setChk hn]

theorem chkFeed_words (n : Nat) (bs : List Byte) (s : State) : KeepsRegs (chkWords n) s (chkFeed n bs s) := by
  obtain ⟨hr, hc, -⟩ := mem_chkWords n
  rw [chkFeed]
  exact (setF_keepsRegs s _ hr).trans (setF_keepsRegs _ _ hc)

theorem chkStat_words (n : Nat) {x : Fld} (hx : x.addr = 0xA014) (v : Nat) (s : State) :
    KeepsRegs (chkWords n) s (s.setF (chkF x n) v) :=
  setF_keepsRegs s v (by simp [chkF, Fld.at, chkWords, hx])

theorem chkBegun_words (n : Nat) (init : Bool) (src stream : Nat) (s : State) :
    KeepsRegs (chkWords n) s (chkBegun n init src stream s) := by
  have h := chkInit_words n init s
  rw [chkBegun]
  generalize chkInit n init s = u at h
  exact (h.trans (chkStat_words n rfl src u)).trans (chkStat_words n rfl stream _)

theorem chkFed_words (n : Nat) (bs : List Byte) (s : State) :
    KeepsRegs (chkWords n) s (chkFeed n bs { s with fresh := s.fresh + 1 }) := by
  have h : KeepsRegs (chkWords n) s { s with fresh := s.fresh + 1 } := fun _ _ => rfl
  exact h.trans (chkFeed_words n bs _)

theorem chkMet_words (n : Nat) (init : Bool) (src stream : Nat) (bs : List Byte) (s : State) :
    KeepsRegs (chkWords n) s (chkMet n init src stream bs s) := by
  have h := (chkBegun_words n init src stream s).trans (chkFed_words n bs _)
  rw [chkMet]
  generalize chkFeed n bs _ = u at h
  exact h.trans (chkStat_words n (x := F.CHK_0_STAT_LAST_STATUS) rfl St.badCrc u)

theorem chkMet_keeps (n : Nat) (init : Bool) (src stream : Nat) (bs : List Byte) (s : State) :
    Keeps [.regs, .chk, .fresh] s (chkMet n init src stream bs s) := by
  have h : Keeps [.regs, .chk, .fresh] s (chkInit n init s) := by
    cases init <;> exact fun q hq => by cases q <;> first | rfl | exact absurd (by simp) hq
  rw [chkMet, chkBegun]
  generalize chkInit n init s = u at h
  exact h.trans fun q hq => by cases q <;> first | rfl | exact absurd (by simp) hq

theorem chkMet_run (hn : n < 4) (init : Bool) (src stream : Nat) (bs : List Byte) (s : State) :
    (chkEng (chkMet n init src stream bs s) n).run = (chkEng s n).run := chkInit_run hn init s

theorem chkMet_status (n : Nat) (init : Bool) (src stream : Nat) (bs : List Byte) (s : State) :
    (chkMet n init src stream bs s).f (chkF F.CHK_0_STAT_LAST_STATUS n) = St.badCrc :=
  f_setF_same _ (by decide : F.CHK_0_STAT_LAST_STATUS.ok) (by decide : St.badCrc < 2 ^ 8)

/-- The body of a CHK_RUN over the store that meets the error. -/
theorem chkRunWith_meets {src at_ base L a : Nat} (hlen : chkLenOk rq.payload = true) (hn : n = u8 rq.payload 0 % 4)
    (hrun : (chkEng s n).run = none) (hsrc : src = u8 rq.payload 1 % 4) (hat : at_ = u32 rq.payload 4)
    (hso : chkSource s src (u8 rq.payload 2 % 64) at_ (u32 rq.payload 8) = .ok (base, L))
    (hlong : chkLong src at_ (u32 rq.payload 8) = false) (hk : k = eccStop ⟨src, base, L, 0⟩ L a) (hkL : k < L) :
    ∃ bs, chkRunWith (some a) rq s = (chkMet n (bitOf (u8 rq.payload 0) 4) src rq.stream bs s, .final St.badCrc
      (chkReply (chkMet n (bitOf (u8 rq.payload 0) 4) src rq.stream bs s) n k)) := by
  have e1 : bitsOf (u8 rq.payload 0) 1 0 = n := (bitsOf_low _ _).trans hn.symm
  have e2 : bitsOf (u8 rq.payload 1) 1 0 = src := (bitsOf_low _ _).trans hsrc.symm
  have e3 : bitsOf (u8 rq.payload 2) 5 0 = u8 rq.payload 2 % 64 := bitsOf_low _ _
  subst hat hk
  simp only [chkRunWith, withLen, hlen, if_true, e1, e2, e3, hrun, hso, hlong, hkL, Option.isSome_none, Bool.false_eq_true, if_false]
  exact ⟨_, rfl⟩

/-- A CHK_RUN that meets the error is answered BAD_CRC with its 20 bytes (R368). -/
theorem chkRun_meets {idemp : Bool} {src at_ base L a : Nat} (hq : rq.quiet = false) (hlen : chkLenOk rq.payload = true)
    (hn : n = u8 rq.payload 0 % 4) (hrun : (chkEng s n).run = none) (hsrc : src = u8 rq.payload 1 % 4) (hat : at_ = u32 rq.payload 4)
    (hso : chkSource s src (u8 rq.payload 2 % 64) at_ (u32 rq.payload 8) = .ok (base, L))
    (hlong : chkLong src at_ (u32 rq.payload 8) = false) (hk : k = eccStop ⟨src, base, L, 0⟩ L a) (hkL : k < L) (t : State)
    (ht : t = runBody 0x58 idemp rq (chkRunWith (some a) rq) s) :
    Answers 0x58 rq St.badCrc (chkReply t n k) s t ∧ (chkEng t n).run = none ∧
      t.f (chkF F.CHK_0_STAT_LAST_STATUS n) = St.badCrc ∧ CmdFrame [.chk, .fresh] (chkWords n) s t := by
  have h4 : n < 4 := hn ▸ Nat.mod_lt _ (by decide)
  obtain ⟨c, hs, ho, -⟩ := startCommand_eq 0x58 idemp rq s
  obtain ⟨bs, hb⟩ := chkRunWith_meets (s := { s with cmd := c }) hlen hn hrun hsrc hat hso hlong hk hkL
  generalize hu : chkMet n (bitOf (u8 rq.payload 0) 4) src rq.stream bs { s with cmd := c } = u at hb
  have hkeep : Keeps [.regs, .chk, .fresh] { s with cmd := c } u := hu ▸ chkMet_keeps _ _ _ _ _ _
  have hwords : KeepsRegs (chkWords n) { s with cmd := c } u := hu ▸ chkMet_words _ _ _ _ _ _
  have hcmd : u.cmd = c := hkeep .cmd (by decide)
  rw [← hs] at hb
  obtain ⟨hans, hframe, -⟩ := runBody_answers (parts := [.chk, .fresh]) (words := chkWords n) hq hb
    (((Keeps.refl _ s).of_cur (by simp) c).trans (hkeep.mono (by simp)))
    (fun x hx => hwords x fun m => hx (List.mem_append_right _ m)) ⟨[], by simp, by rw [hcmd, ho, List.append_nil]⟩
  obtain ⟨hk', hr', -⟩ := runBody_final hq hb
  rw [← ht] at hans hframe hk' hr'
  refine ⟨?_, ?_, ?_, hframe⟩
  · rwa [chkReply_of h4 (hk' .chk (by decide)) hr' k]
  · rw [chkEng_of_chk (hk' .chk (by decide)), ← hu, chkMet_run h4]
    exact hrun
  · rw [hr'.f (by simp [replyRegs, chkF, Fld.at]; omega), ← hu, chkMet_status]

theorem commandEcc_chkRun {e : QEntry} {l : List QEntry} {a : Nat} (hb : s.cmd.inbox.filter QEntry.inQueue = e :: l)
    (hw : s.mustWait e.op e.rq = false) (hop : e.op = 0x58) :
    commandEcc a s = runBody 0x58 false e.rq (chkRunWith (some a) e.rq) s := by
  rw [commandEcc, hb]
  simp only [hw, Bool.false_eq_true, if_false]
  exact if_pos hop

/-! ### A corrected error (R36, R291) -/

/-- The bank's count. -/
def bankCounted (b : Nat) (s : State) : State :=
  { s with hlv.corrected := kvPut (b % 32) ((kvGet s.hlv.corrected (b % 32)).getD 0 + 1) s.hlv.corrected }

theorem bankCounted_keeps (b : Nat) (s : State) : Keeps [.hlv, .regs] s (bankCounted b s) := fun q hq => by
  cases q <;> first | rfl | exact absurd (by simp) hq

theorem eccCorrected_frame (b : Nat) (h : Option Half) (s : State) :
    (eccCorrected b h s).hlv = (bankCounted b s).hlv ∧ Keeps [.hlv, .regs] s (eccCorrected b h s) ∧
      KeepsRegs [0x9008, 0x900C] s (eccCorrected b h s) := by
  cases h with
  | none => exact ⟨rfl, bankCounted_keeps b s, fun _ _ => rfl⟩
  | some h =>
    have ha : (ofHalf F.HLV_HEALTH_A_ECC_CORR h).addr ∈ [0x9008, 0x900C] := by cases h <;> decide
    have h0 : KeepsRegs [0x9008, 0x900C] s (bankCounted b s) := fun _ _ => rfl
    exact ⟨rfl, (bankCounted_keeps b s).trans ((bump_keeps [.hlv] _ _).mono (by simp)), h0.trans (bump_keepsRegs _ ha)⟩

theorem eccCorrected_counts (b : Nat) (h : Half) (s : State) : (eccCorrected b (some h) s).f (ofHalf F.HLV_HEALTH_A_ECC_CORR h) =
    satAdd F.HLV_HEALTH_A_ECC_CORR.top (s.f (ofHalf F.HLV_HEALTH_A_ECC_CORR h)) 1 :=
  f_bump_same (bankCounted b s) (ofHalf_ok (x := F.HLV_HEALTH_A_ECC_CORR) (h := h) (by decide))

end head

end Sys2Proof.Machine
end

section
/-! The takeover of the active half at its tick, the journal sweep aside (R276, R278, R284); O55. -/

namespace Sys2Proof.Machine

section takeover

variable {s t u : State} {a : Abdicated} {bc bp : List Nat}

/-! ### The object sample (R276) -/

/-- What a sample taken late may touch, and what it leaves of the front end. -/
abbrev SampleStep : State → State → Prop := EvIn [.snp, .obj] (eventRegs ++ [F.OBJ_STATUS_FUTURE.addr])

theorem SampleStep.obj (s : State) (o : ObjSt) : SampleStep s { s with obj := o } :=
  ⟨fun q hq => by cases q <;> first | rfl | exact absurd (by simp) hq, fun _ _ => rfl, SendsEvents.refl s, rfl, rfl, rfl, rfl, rfl,
    ⟨rfl, rfl⟩, ⟨rfl, rfl⟩⟩

theorem SampleStep.raise (s : State) (code : Nat) (data : List Byte) : SampleStep s (s.raise code data) :=
  (raise_ev s code data).mono (by simp) (by simp)

theorem offMapEvent_step (old new : List Nat) (s : State) : SampleStep s (offMapEvent old new s) := by
  unfold offMapEvent
  split
  · exact .refl s
  · exact (EvIn.setB s _ (by decide)).trans (SampleStep.raise _ _ _)

theorem staleEvent_step (old new : ObjSample) (s : State) : SampleStep s (staleEvent old new s) := by
  unfold staleEvent
  simp only []
  split
  · exact .refl s
  · exact (EvIn.setB s _ (by decide)).trans (SampleStep.raise _ _ _)

theorem offMapEvent_obj (old new : List Nat) (s : State) : (offMapEvent old new s).obj = s.obj := by
  unfold offMapEvent
  split
  · rfl
  · rw [raise_obj]
    rfl

theorem staleEvent_obj (old new : ObjSample) (s : State) : (staleEvent old new s).obj = s.obj := by
  unfold staleEvent
  simp only []
  split
  · rfl
  · rw [raise_obj]
    rfl

theorem sampleWith_step (v : State) (c : CfgSet) (s : State) : SampleStep s (sampleWith v c s) := by
  have h : SampleStep s (if anyFuture v c then s.setB F.OBJ_STATUS_FUTURE true else s) := EvIn.ite (EvIn.setB s _ (by decide)) (.refl s)
  rw [sampleWith]
  generalize (if anyFuture v c then s.setB F.OBJ_STATUS_FUTURE true else s) = u at h
  exact (h.trans (SampleStep.obj u _)).trans (offMapEvent_step _ _ _)

theorem sampleWith_next (v : State) (c : CfgSet) (s : State) : (sampleWith v c s).obj.next = takeSample v c :=
  congrArg ObjSt.next (offMapEvent_obj _ _ _)

/-- The state that places the sample of the period before (R276). -/
def beforeTick (s : State) : State := { s with tck.tickTime := s.tck.tickTime - (ratRound s.periodAct).toNat }

theorem lateSample_eq (s : State) : lateSample s = staleEvent s.obj.cur (sampleWith (beforeTick s) s.tck.act s).obj.next
    { sampleWith (beforeTick s) s.tck.act s with
      obj.cur := (sampleWith (beforeTick s) s.tck.act s).obj.next, obj.taken := false } := rfl

theorem lateSample_step (s : State) : SampleStep s (lateSample s) := by
  rw [lateSample_eq]
  exact ((sampleWith_step _ _ s).trans (SampleStep.obj _ _)).trans (staleEvent_step _ _ _)

theorem lateSample_takes (s : State) : (lateSample s).obj.taken = false ∧ (lateSample s).obj.cur = takeSample (beforeTick s) s.tck.act := by
  rw [lateSample_eq, staleEvent_obj]
  exact ⟨rfl, sampleWith_next _ _ s⟩

/-! ### The role (R276, R278) -/

theorem takeRole_takes (h : s.activeHalf = a.half) (hact : s.hlv.active = true) (hbad : s.health a.half ≠ Health.good) :
    takeRole a s = if s.health (otherHalf a.half) = Health.good then some (changeActive (otherHalf a.half) s) else none := by
  simp [takeRole, h, hact, hbad]

theorem takeRole_keeps (h : s.activeHalf ≠ a.half ∨ s.hlv.active = false ∨ s.health a.half = Health.good) :
    takeRole a s = some s := by
  rcases h with h | h | h <;> simp [takeRole, h]

/-- The other half takes over, as a step that sends nothing. -/
theorem changeActive_step (h : Half) (s : State) : EvIn [] hlvRegs s (changeActive h s) := by
  rw [changeActive]
  exact (((EvIn.setF s _ (by decide)).trans (EvIn.bump _ (by decide))).trans (EvIn.setB _ _ (by decide))).trans
    (EvIn.setReg _ _ (by decide))

/-- The counts of a sweep begin at 0 (R291). -/
def sweepBegun (s : State) : State :=
  ((s.setF F.HLV_JOURNAL_BAD 0).setF F.HLV_JOURNAL_FAILED 0).setF F.HLV_JOURNAL_REPLAYED 0

theorem sweep_eq (s : State) : sweep a bc bp s = s.cmd.journal.foldl (sweepEntry a bc bp) (sweepBegun s) := rfl

theorem sweepBegun_step (s : State) : EvIn [] hlvRegs s (sweepBegun s) :=
  ((EvIn.setF s _ (by decide)).trans (EvIn.setF _ _ (by decide))).trans (EvIn.setF _ _ (by decide))

theorem sweepBegun_zero (s : State) : (sweepBegun s).f F.HLV_JOURNAL_FAILED = 0 ∧ (sweepBegun s).f F.HLV_JOURNAL_REPLAYED = 0 ∧
    (sweepBegun s).f F.HLV_JOURNAL_BAD = 0 := by
  rw [sweepBegun]
  refine ⟨?_, f_setF_same _ (by decide) (by decide), ?_⟩
  · rw [f_setF_other _ _ (by decide) (by decide) (by decide), f_setF_same _ (by decide) (by decide)]
  · rw [f_setF_other _ _ (by decide) (by decide) (by decide), f_setF_other _ _ (by decide) (by decide) (by decide),
      f_setF_same _ (by decide) (by decide)]

theorem sweepBegun_reg (s : State) {x : Nat} (h : x ≠ 0x9030) : (sweepBegun s).reg x = s.reg x := by
  rw [sweepBegun, State.setF, reg_setReg_other _ _ h, State.setF, reg_setReg_other _ _ h, State.setF, reg_setReg_other _ _ h]

theorem changeActive_half (h : Half) (s : State) : (changeActive h s).activeHalf = h := by
  have e : (changeActive h s).f F.HLV_ROLE_ACTIVE = halfCode h := by
    rw [changeActive, f_setReg_other _ _ (by decide), f_setB_other _ _ (by decide) (by decide) (by decide),
      f_bump_other _ (by decide) (by decide) (by decide)]
    exact f_setF_same _ (by decide) (by cases h <;> decide)
  rw [State.activeHalf, e, halfOf_halfCode]

theorem changeActive_marks (h : Half) (s : State) : (changeActive h s).fb F.HLV_STATUS_SWITCHED = true ∧
    (changeActive h s).reg 0x902C = BitVec.ofNat 32 s.tck.frame ∧
    (changeActive h s).f F.HLV_SW_CNT_SWITCH_CNT = satAdd F.HLV_SW_CNT_SWITCH_CNT.top (s.f F.HLV_SW_CNT_SWITCH_CNT) 1 := by
  rw [changeActive]
  refine ⟨?_, reg_setReg_same _ _ _, ?_⟩
  · rw [State.fb, f_setReg_other _ _ (by decide)]
    exact fb_setB_same _ _ (by decide)
  · rw [f_setReg_other _ _ (by decide), f_setB_other _ _ (by decide) (by decide) (by decide), f_bump_same _ (by decide),
      f_setF_other _ _ (by decide) (by decide) (by decide)]

/-! ### The takeover (R276) -/

/-- Its state as the sweep begins, the object sample taken. -/
def takenOver (a : Abdicated) (s : State) : State := if a.sampled = true then s else lateSample s

theorem takenOver_step (a : Abdicated) (s : State) : SampleStep s (takenOver a s) := EvIn.ite (.refl s) (lateSample_step s)

theorem exec_takeover (hoff : s.off = false) (ha : s.hlv.abdicated = some a) (ht : a.tick = some s.tck.frame) :
    exec (.takeover bc bp) s = .next (takeover bc bp a s) := by
  have h : exec (.takeover bc bp) s = .next (match s.hlv.abdicated with
    | some a => if s.off || !(a.tick == some s.tck.frame) then s else takeover bc bp a s
    | none => s) := rfl
  rw [h, ha]
  simp only [hoff, ht, beq_self_eq_true, Bool.not_true, Bool.or_false, Bool.false_eq_true, if_false]

theorem exec_takeover_idle (h : s.off = true ∨ s.hlv.abdicated = none ∨ ∃ a, s.hlv.abdicated = some a ∧ a.tick ≠ some s.tck.frame) :
    exec (.takeover bc bp) s = .next s := by
  have e : exec (.takeover bc bp) s = .next (match s.hlv.abdicated with
    | some a => if s.off || !(a.tick == some s.tck.frame) then s else takeover bc bp a s
    | none => s) := rfl
  rw [e]
  rcases h with h | h | ⟨a, h, ht⟩
  · rw [h]
    cases s.hlv.abdicated <;> rfl
  · rw [h]
  · rw [h]
    simp [ht]

theorem takeover_of_role (h : takeRole a s = some u) :
    takeover bc bp a s = lostReport { sweep a bc bp (takenOver a u) with hlv.abdicated := none } := by
  rw [takeover, h]
  rfl

theorem takeover_of_none (h : takeRole a s = none) : takeover bc bp a s = noHalf s := by rw [takeover, h]

theorem takeRole_cases (h : takeRole a s = some u) : u = s ∨ u = changeActive (otherHalf a.half) s := by
  unfold takeRole at h
  simp only [] at h
  split at h
  · split at h
    · exact .inr (Option.some.inj h).symm
    · cases h
  · exact .inl (Option.some.inj h).symm

theorem takeRole_journal (h : takeRole a s = some u) : u.cmd.journal = s.cmd.journal := by
  rcases takeRole_cases h with rfl | rfl
  · rfl
  · exact (changeActive_step _ s).journal

/-- With nothing in the journal the sweep only sets its counts to 0. -/
theorem takeover_of_empty (h : takeRole a s = some u) (hj : s.cmd.journal = []) :
    takeover bc bp a s = lostReport { sweepBegun (takenOver a u) with hlv.abdicated := none } := by
  have hj' : (takenOver a u).cmd.journal = [] := ((takenOver_step a u).journal.trans (takeRole_journal h)).trans hj
  rw [takeover_of_role h, sweep_eq, hj', List.foldl_nil]

/-- The end of an empty sweep writes no word but JOURNAL and those of the sample and of events. -/
theorem emptied_reg (v : State) {x : Nat} (h : x ≠ 0x9030) (hx : x ∉ eventRegs ++ [F.OBJ_STATUS_FUTURE.addr]) :
    (lostReport { sweepBegun (takenOver a v) with hlv.abdicated := none }).reg x = v.reg x := by
  have hs : x ∉ sendRegs := fun m => hx (by revert m; simp only [sendRegs, eventRegs, List.mem_cons, List.mem_append]; tauto)
  have hl := (lostReport_step { sweepBegun (takenOver a v) with hlv.abdicated := none }).words x hs
  exact hl.trans ((sweepBegun_reg _ h).trans ((takenOver_step a v).words x hx))

theorem emptied_f (v : State) {x : Fld} (h : x.addr ≠ 0x9030) (hx : x.addr ∉ eventRegs ++ [F.OBJ_STATUS_FUTURE.addr]) :
    (lostReport { sweepBegun (takenOver a v) with hlv.abdicated := none }).f x = v.f x := by
  rw [State.f, emptied_reg v h hx, State.f]

theorem emptied_zero (v t : State) (ht : t = lostReport { sweepBegun v with hlv.abdicated := none }) :
    t.f F.HLV_JOURNAL_FAILED = 0 ∧ t.f F.HLV_JOURNAL_REPLAYED = 0 ∧ t.f F.HLV_JOURNAL_BAD = 0 := by
  have h : KeepsRegs sendRegs (sweepBegun v) t := ht ▸ (lostReport_step { sweepBegun v with hlv.abdicated := none }).words
  obtain ⟨z1, z2, z3⟩ := sweepBegun_zero v
  exact ⟨(h.f (by decide)).trans z1, (h.f (by decide)).trans z2, (h.f (by decide)).trans z3⟩

theorem emptied_frame (v t : State) (ht : t = lostReport { sweepBegun v with hlv.abdicated := none }) :
    EvFrame [.hlv] hlvRegs v t ∧ t.hlv = { v.hlv with abdicated := none } := by
  have hw := sweepBegun_step v
  have hh : (sweepBegun v).hlv = v.hlv := hw.keeps .hlv (by decide)
  generalize sweepBegun v = w at ht hw hh
  have hl := lostReport_step { w with hlv.abdicated := none }
  rw [← ht] at hl
  have hk : ∀ {x y : State} {l : List Nat}, EvIn [] l x y → Keeps [.cmd, .regs, .snp, .hlv] x y := fun hx => hx.keeps.mono (by simp)
  have hd : Keeps [.cmd, .regs, .snp, .hlv] w { w with hlv.abdicated := none } := fun q hq => by
    cases q <;> first | rfl | exact absurd (by simp) hq
  have hr : KeepsRegs (eventRegs ++ hlvRegs) { w with hlv.abdicated := none } t := hl.words.mono (by decide)
  refine ⟨⟨((hk hw).trans hd).trans (hk hl), KeepsRegs.trans (t := w) (hw.words.right eventRegs) fun x hx => hr x hx⟩, ?_⟩
  have h1 : t.hlv = { w.hlv with abdicated := none } := hl.keeps .hlv (by decide)
  rw [h1, hh]

/-- With nothing in the journal a takeover leaves what the change of role and the sample left. -/
theorem takeover_empty (h : takeRole a s = some (changeActive (otherHalf a.half) s)) (hj : s.cmd.journal = []) (t : State)
    (ht : t = takeover bc bp a s) :
    t.activeHalf = otherHalf a.half ∧ t.hlv = { s.hlv with abdicated := none } ∧ t.fb F.HLV_STATUS_SWITCHED = true ∧
      t.reg 0x902C = BitVec.ofNat 32 s.tck.frame ∧
      t.f F.HLV_SW_CNT_SWITCH_CNT = satAdd F.HLV_SW_CNT_SWITCH_CNT.top (s.f F.HLV_SW_CNT_SWITCH_CNT) 1 ∧
      t.f F.HLV_JOURNAL_FAILED = 0 ∧ t.f F.HLV_JOURNAL_REPLAYED = 0 ∧ t.f F.HLV_JOURNAL_BAD = 0 ∧
      (a.sampled = true → EvFrame [.hlv] hlvRegs s t) := by
  have hc := changeActive_step (otherHalf a.half) s
  obtain ⟨m1, m2, m3⟩ := changeActive_marks (otherHalf a.half) s
  have m0 := changeActive_half (otherHalf a.half) s
  generalize changeActive (otherHalf a.half) s = u at h hc m0 m1 m2 m3
  rw [takeover_of_empty h hj] at ht
  obtain ⟨hf, hh⟩ := emptied_frame (takenOver a u) t ht
  have hu : (takenOver a u).hlv = s.hlv := ((takenOver_step a u).keeps .hlv (by decide)).trans (hc.keeps .hlv (by decide))
  refine ⟨?_, by rw [hh, hu], ?_, ?_, ?_, ?_⟩
  · rw [← m0, State.activeHalf, ht, emptied_f u (by decide) (by decide), State.activeHalf]
  · rw [← m1, State.fb, ht, emptied_f u (by decide) (by decide), State.fb]
  · rw [← m2, ht, emptied_reg u (by decide) (by decide)]
  · rw [← m3, ht, emptied_f u (by decide) (by decide)]
  · obtain ⟨z1, z2, z3⟩ := emptied_zero _ t ht
    refine ⟨z1, z2, z3, fun hs => ?_⟩
    have e : takenOver a u = u := if_pos hs
    rw [e] at hf
    exact ⟨(hc.keeps.mono (by simp)).trans hf.1, (hc.words.right eventRegs).trans hf.2⟩

end takeover

end Sys2Proof.Machine
end

section
/-! What ends with a command that is not carried on, and the journal's entries (R282, R284, R285, R290); O55. -/

namespace Sys2Proof.Machine

section dropped

variable {s t u : State} {e : JEntry} {q n : Nat}

/-! ### The journal's entries (R282) and the classes (R285) -/

/-- With fewer than 128 entries in use a new one finds its place. -/
theorem journalAdd_adds (e : JEntry) (l : List JEntry) (h : countP JEntry.inUse l < 128) :
    ∃ l', journalAdd e l = l' ++ [e] ∧ l'.Sublist l := by
  unfold journalAdd
  split
  · exact ⟨l, rfl, .refl l⟩
  · next hl =>
    split
    · exact ⟨_, rfl, List.eraseP_sublist⟩
    · next hn =>
      have hall : ∀ x ∈ l, JEntry.inUse x = true := by simpa using hn
      have hc : countP JEntry.inUse l = l.length := congrArg List.length (List.filter_eq_self.2 hall)
      omega

theorem openEntry_opens (op : Nat) (rq : Req) (idemp : Bool) (h : s.journalUsed < 128) :
    ∃ l e, (openEntry op rq idemp s).cmd.journal = l ++ [e] ∧ l.Sublist s.cmd.journal ∧ e.seq = s.cmd.seq ∧ e.op = op ∧ e.rq = rq ∧
      e.idemp = idemp ∧ (openEntry op rq idemp s).cmd.seq = (s.cmd.seq + 1) % 65536 := by
  obtain ⟨l, e, hl⟩ := journalAdd_adds ⟨s.cmd.seq, .queued, op, rq, idemp, false, (Config.requestSlot s.cmd.seq).toNat, 0, s.tck.frame,
    s.tck.row, 0xFFFF, acceptedAt op rq s⟩ s.cmd.journal h
  exact ⟨l, _, e, hl, rfl, rfl, rfl, rfl, rfl⟩

theorem reqClassN_iff (op : Nat) (rq : Req) : reqClassN op rq = true ↔ op ∈ [0x44, 0x25, 0x58, 0x61, 0x62, 0x68, 0x6A] ∨
    op = 0x09 ∧ (wrAddrs rq).any regClassN = true ∨ op = 0x0A ∧ regClassN (u32 rq.payload 0) = true := by
  simp only [reqClassN, classN, Bool.or_eq_true, Bool.and_eq_true, beq_iff_eq, List.contains_iff_mem, or_assoc]

/-! ### The eNVM operations of a command (R290) -/

theorem mem_splitAppends : ∀ {l : List NvmOp} {n : Nat} {o : NvmOp}, o ∈ splitAppends n l → ∃ x ∈ l, o.owner = x.owner
  | [], _, _, h => absurd h (by simp [splitAppends])
  | x :: t, n, o, h => by
    unfold splitAppends at h
    split at h
    · rcases List.mem_append.1 h with h | h
      · refine ⟨x, by simp, ?_⟩
        split at h
        · rw [List.mem_singleton.1 h]
        · rcases List.mem_cons.1 h with rfl | h
          · rfl
          · rw [List.mem_singleton.1 h]
      · obtain ⟨y, hy, hyo⟩ := mem_splitAppends h
        exact ⟨y, List.mem_cons_of_mem _ hy, hyo⟩
    · rcases List.mem_cons.1 h with rfl | h
      · exact ⟨o, by simp, rfl⟩
      · obtain ⟨y, hy, hyo⟩ := mem_splitAppends h
        exact ⟨y, List.mem_cons_of_mem _ hy, hyo⟩

/-- What the drop of a command's operations changes. -/
theorem dropOps_eq (q : Nat) (s : State) : ∃ (ops : List NvmOp) (a b : Nat), (∀ o ∈ ops, o.owner ≠ some q) ∧
    dropOps q s = { s with nvm.ops := ops, saf.logNext := a, saf.logStored := b } := by
  unfold dropOps
  split
  · next h => exact ⟨s.nvm.ops, s.saf.logNext, s.saf.logStored, by simp [h], rfl⟩
  · next o l h =>
    refine ⟨_, _, _, ?_, rfl⟩
    intro x hx
    obtain ⟨y, hy, hxy⟩ := mem_splitAppends hx
    rw [hxy]
    have hrest : ∀ z ∈ l.filter (fun x => !(x.owner == some q)), z.owner ≠ some q := fun z hz => by
      simpa using (List.mem_filter.1 hz).2
    split at hy
    · split at hy
      · rcases List.mem_cons.1 hy with rfl | hy
        · simp
        · exact hrest y hy
      · exact hrest y hy
    · next ho =>
      rcases List.mem_cons.1 hy with rfl | hy
      · exact ho
      · exact hrest y hy

/-- What the drop of a command's operations leaves, the lock that waited for them done (R261). -/
structure DropStep (q : Nat) (s t : State) : Prop where
  cmd : t.cmd = s.cmd
  words : KeepsRegs [0x8008] s t
  keeps : Keeps [.regs, .nvm, .saf] s t
  ops : ∀ o ∈ t.nvm.ops, o.owner ≠ some q
  nvm : t.nvm = { s.nvm with ops := t.nvm.ops }

theorem dropOps_step (q : Nat) (s : State) : DropStep q s (dropOps q s) := by
  obtain ⟨ops, a, b, ho, e⟩ := dropOps_eq q s
  rw [e]
  exact ⟨rfl, fun _ _ => rfl, fun p hp => by cases p <;> first | rfl | exact absurd (by simp) hp, ho, rfl⟩

theorem lockAfter_cases (s : State) : lockAfter s = s ∨ lockAfter s = lockNow s := by
  unfold lockAfter
  split
  · exact .inr rfl
  · exact .inl rfl

/-- What a lock that waits leaves. -/
theorem lockAfter_keeps (s : State) : Keeps [.regs, .saf] s (lockAfter s) ∧ KeepsRegs [0x8008] s (lockAfter s) := by
  rcases lockAfter_cases s with h | h <;> rw [h]
  · exact ⟨.refl _ s, .refl _ s⟩
  · have h1 : KeepsRegs [0x8008] { s with saf.lockPending := false } (lockNow s) :=
      (setB_keepsRegs _ (x := F.SAF_LOCK_UNLOCKED) false (by decide)).trans (setF_keepsRegs _ (x := F.SAF_LOCK_STREAM) 0 (by decide))
    exact ⟨fun p hp => by cases p <;> first | rfl | exact absurd (by simp) hp, h1⟩

/-- The operations of a command go, and a lock that waited for them acts. -/
def opsDropped (q : Nat) (s : State) : State := lockAfter (dropOps q s)

theorem opsDropped_step (q : Nat) (s : State) : DropStep q s (opsDropped q s) := by
  obtain ⟨hc, hw, hk, ho, hn⟩ := dropOps_step q s
  obtain ⟨lk, lw⟩ := lockAfter_keeps (dropOps q s)
  have ln : (opsDropped q s).nvm = (dropOps q s).nvm := lk .nvm (by decide)
  exact ⟨(lk .cmd (by decide)).trans hc, hw.trans lw, hk.trans (lk.mono (by simp)), ln ▸ ho, by rw [ln]; exact hn⟩

theorem DropStep.moves (h : DropStep q s t) : Moves anyReply [.nvm, .saf] [0x8008] s t :=
  ⟨h.keeps.mono (by simp), h.words.right _, ⟨[], by simp, by rw [h.cmd, List.append_nil]⟩⟩

/-! ### A self-test that its command no longer carries on (R284, R457) -/

theorem dropTest_of_none (h : s.nvm.test = none) : dropTest s = s := by rw [dropTest, h]

theorem dropTest_of_some {r : BistRec} (h : s.nvm.test = some r) : dropTest s =
    if !(r.origin == 2) || s.nvm.testEnd.isSome then s
    else if s.nvm.stepNow = 0 then endWaiting St.failedSwitch r s
    else { s with nvm.testAbort := true } := by rw [dropTest, h]

/-- The test is over, its event raised. -/
def testTaken (r : BistRec) (s : State) : State := bistDone r St.failedSwitch { s with nvm.test := none, nvm.testAbort := false }

theorem endWaiting_failed (r : BistRec) (s : State) : endWaiting St.failedSwitch r s =
    finishOp 0x68 St.failedSwitch (bistBody { r with seq := 0 } 0xFF) (testTaken r s) := rfl

theorem endWaiting_nvm (r : BistRec) (s : State) :
    (endWaiting St.failedSwitch r s).nvm = { s.nvm with test := none, testAbort := false } := by
  rw [endWaiting_failed]
  have h := finishOp_keeps 0x68 St.failedSwitch (bistBody { r with seq := 0 } 0xFF) (testTaken r s) .nvm (by decide)
  refine Eq.trans (b := (testTaken r s).nvm) h ?_
  rw [testTaken, bistDone, raise_nvm]

theorem dropTest_nvm (s : State) : (dropTest s).nvm.ops = s.nvm.ops := by
  cases h : s.nvm.test with
  | none => rw [dropTest_of_none h]
  | some r =>
    rw [dropTest_of_some h]
    split
    · rfl
    · split
      · rw [endWaiting_nvm]
      · rfl

/-- A test of a BIST_RUN is taken off, or ends with its step. -/
theorem dropTest_drops {r : BistRec} (h : s.nvm.test = some r) (ho : r.origin = 2) (he : s.nvm.testEnd = none) :
    (s.nvm.stepNow = 0 → (dropTest s).nvm.test = none) ∧ (s.nvm.stepNow ≠ 0 → (dropTest s).nvm.testAbort = true) := by
  rw [dropTest_of_some h]
  simp only [ho, he, beq_self_eq_true, Bool.not_true, Option.isSome_none, Bool.or_false, Bool.false_eq_true, if_false]
  refine ⟨fun hs => ?_, fun hs => ?_⟩
  · rw [if_pos hs, endWaiting_nvm]
  · rw [if_neg hs]

theorem testTaken_moves {k : List OutKind} {w : List Nat} (hk : OutKind.event ∈ k) (r : BistRec) (s : State) :
    Moves k [.nvm] w s (testTaken r s) := by
  rw [testTaken, bistDone]
  exact ((Moves.refl k [.nvm] w s).nvm (by decide)).raise hk _ _

theorem dropTest_moves (s : State) : Moves anyReply [.nvm] [0x20C4] s (dropTest s) := by
  cases h : s.nvm.test with
  | none =>
    rw [dropTest_of_none h]
    exact .refl _ _ _ s
  | some r =>
    rw [dropTest_of_some h]
    refine .ite (.refl _ _ _ s) (.ite ?_ ((Moves.refl _ _ _ s).nvm (by decide)))
    rw [endWaiting_failed]
    have hm : Moves anyReply [.nvm] [0x20C4] s (testTaken r s) := testTaken_moves (by decide) r s
    exact hm.finishOp (by decide) _ _ _ (.inr ⟨by decide, by decide⟩)

/-- With no BIST_RUN in flight only its event is sent. -/
theorem dropTest_sends (h : s.job? 0x68 = none) : SendsEvents s (dropTest s) := by
  cases ht : s.nvm.test with
  | none =>
    rw [dropTest_of_none ht]
    exact .refl s
  | some r =>
    rw [dropTest_of_some ht]
    split
    · exact .refl s
    · split
      · have hj : (testTaken r s).job? 0x68 = none := by
          have e : (testTaken r s).cmd.jobs = s.cmd.jobs := raise_jobs _ _ _
          rw [State.job?, e]
          exact h
        have e : finishOp 0x68 St.failedSwitch (bistBody { r with seq := 0 } 0xFF) (testTaken r s) = testTaken r s := by
          rw [finishOp, hj]
        rw [endWaiting_failed, e]
        obtain ⟨ps, hp, ho⟩ := (testTaken_moves (k := [.event]) (w := []) (by decide) r s).sends
        exact ⟨ps, fun p hm => List.mem_singleton.1 (hp p hm), ho⟩
      · exact .refl s

/-! ### What a command of class N had under way (R285) -/

/-- The engine a CHK_RUN names. -/
def chkNamed (e : JEntry) : Nat := bitsOf (u8 e.rq.payload 0) 1 0

theorem chkNamed_lt (e : JEntry) : chkNamed e < 4 := by
  rw [chkNamed, bitsOf_low]
  exact Nat.mod_lt _ (by decide)

theorem dropWork_chk (h : e.op = 0x58) (s : State) : dropWork e s = chkEnd (chkNamed e) St.failedSwitch (opsDropped e.seq s) := if_pos h

theorem dropWork_bist (h : e.op = 0x68) (s : State) : dropWork e s = dropTest (opsDropped e.seq s) := by
  have h1 : ¬ e.op = 0x58 := by omega
  exact (if_neg h1).trans (if_pos h)

/-- A request to go to IDLE that is not of a SHUTDOWN. -/
def otherIdle (r : Option EntryReq) : Option EntryReq :=
  match r with
  | some r => if r.by_ = .shutdown then none else some r
  | none => none

theorem dropWork_shutdown (h : e.op = 0x6A) (s : State) :
    dropWork e s = { opsDropped e.seq s with pwr.idleReq := otherIdle (opsDropped e.seq s).pwr.idleReq } := by
  have h1 : ¬ e.op = 0x58 := by omega
  have h2 : ¬ e.op = 0x68 := by omega
  exact (if_neg h1).trans ((if_neg h2).trans (if_pos h))

theorem dropWork_plain (h1 : e.op ≠ 0x58) (h2 : e.op ≠ 0x68) (h3 : e.op ≠ 0x6A) (s : State) : dropWork e s = opsDropped e.seq s :=
  (if_neg h1).trans ((if_neg h2).trans (if_neg h3))

/-- The four cases of what ends with a command. -/
theorem dropWork_cases {P : State → Prop} (e : JEntry) (s : State)
    (hc : e.op = 0x58 → P (chkEnd (chkNamed e) St.failedSwitch (opsDropped e.seq s))) (ht : e.op = 0x68 → P (dropTest (opsDropped e.seq s)))
    (hs : P { opsDropped e.seq s with pwr.idleReq := otherIdle (opsDropped e.seq s).pwr.idleReq }) (hp : P (opsDropped e.seq s)) :
    P (dropWork e s) := by
  by_cases h1 : e.op = 0x58
  · exact dropWork_chk h1 s ▸ hc h1
  by_cases h2 : e.op = 0x68
  · exact dropWork_bist h2 s ▸ ht h2
  by_cases h3 : e.op = 0x6A
  · exact dropWork_shutdown h3 s ▸ hs
  · exact dropWork_plain h1 h2 h3 s ▸ hp

/-- The words that the end of a command's work writes, beside those of events. -/
def dropWords (e : JEntry) : List Nat := [0x8008, 0x20C4, 0xA014 + 0x20 * chkNamed e]

theorem dropWork_moves (e : JEntry) (s : State) : Moves anyReply [.nvm, .saf, .chk, .pwr] (dropWords e) s (dropWork e s) := by
  have h : Moves anyReply [.nvm, .saf, .chk, .pwr] (dropWords e) s (opsDropped e.seq s) :=
    (opsDropped_step e.seq s).moves.mono (by simp) (by simp [dropWords])
  refine dropWork_cases (P := Moves anyReply [.nvm, .saf, .chk, .pwr] (dropWords e) s) e s ?_ ?_ ?_ h
  · exact fun _ => h.trans ((chkEnd_moves (by decide) _ _).mono (by simp) (by simp [dropWords]))
  · exact fun _ => h.trans ((dropTest_moves _).mono (by simp) (by simp [dropWords]))
  · exact h.pwr (by simp)

/-- No operation is left to the command. -/
theorem dropWork_ops (e : JEntry) (s : State) : ∀ o ∈ (dropWork e s).nvm.ops, o.owner ≠ some e.seq := by
  have h := (opsDropped_step e.seq s).ops
  refine dropWork_cases (P := fun t => ∀ o ∈ t.nvm.ops, o.owner ≠ some e.seq) e s (fun _ => ?_) (fun _ => ?_) h h
  · have hk : (chkEnd (chkNamed e) St.failedSwitch (opsDropped e.seq s)).nvm = (opsDropped e.seq s).nvm :=
      (chkEnd_moves (by decide) _ _).keeps .nvm (by decide)
    rw [hk]
    exact h
  · rw [dropTest_nvm]
    exact h

theorem otherIdle_by {r : EntryReq} {o : Option EntryReq} (h : otherIdle o = some r) : r.by_ ≠ .shutdown := by
  cases o with
  | none => cases h
  | some x =>
    rw [otherIdle] at h
    split at h
    · cases h
    · next hx => exact Option.some.inj h ▸ hx

/-- What it sends: nothing, but for a check engine and a self-test that end. -/
theorem dropWork_cmd (h1 : e.op ≠ 0x58) (h2 : e.op ≠ 0x68) (s : State) : (dropWork e s).cmd = s.cmd :=
  dropWork_cases (P := fun t => t.cmd = s.cmd) e s (fun h => absurd h h1) (fun h => absurd h h2) (opsDropped_step e.seq s).cmd
    (opsDropped_step e.seq s).cmd

theorem chkEnd_sends (h : s.job? 0x58 = none) (n st : Nat) : SendsEvents s (chkEnd n st s) := by
  cases hr : (chkEng s n).run with
  | none =>
    rw [chkEnd_none hr]
    exact .refl s
  | some r =>
    have hj : (chkStopped n st s).jobKey? 0x58 n = none := by
      refine List.find?_eq_none.2 fun j hm hk => ?_
      exact List.find?_eq_none.1 h j hm (by simp at hk; simp [hk.1])
    have e : ∀ b, finishKey 0x58 n st b (chkStopped n st s) = chkStopped n st s := fun b => by rw [finishKey, hj]
    rw [chkEnd_eq hr, e]
    exact (raise_ev _ _ _).sends

/-- With no other command of its opcode in flight only events follow. -/
theorem dropWork_sends (h : ∀ j ∈ s.cmd.jobs, j.op ≠ e.op) : SendsEvents s (dropWork e s) := by
  have hc := (opsDropped_step e.seq s).cmd
  have h0 : SendsEvents s (opsDropped e.seq s) := ⟨[], by simp, by rw [hc, List.append_nil]⟩
  have hj : (opsDropped e.seq s).job? e.op = none := by
    rw [State.job?, hc]
    exact List.find?_eq_none.2 fun j hm => by simpa using h j hm
  refine dropWork_cases (P := SendsEvents s) e s (fun ho => ?_) (fun ho => ?_) h0 h0
  · exact h0.trans (chkEnd_sends (ho ▸ hj) _ _)
  · exact h0.trans (dropTest_sends (ho ▸ hj))

end dropped

end Sys2Proof.Machine
end

section
/-! A command of which nothing is left: no command in flight, no packet, no journal entry (R284); O55. -/

namespace Sys2Proof.Machine

section forgets

variable {s t u : State} {e : JEntry} {j : Job} {q n : Nat}

/-- Nothing of a SEQ is left in the front end. -/
def Forgets (q : Nat) (s : State) : Prop :=
  (∀ j ∈ s.cmd.jobs, j.seq ≠ q) ∧ (∀ p ∈ s.cmd.out, p.seq ≠ some q) ∧ ∀ x ∈ s.cmd.journal, x.seq ≠ q

theorem Forgets.of_cmd (h : Forgets q s) (hc : t.cmd = s.cmd) : Forgets q t := by rwa [Forgets, hc]

theorem forgetEntry_forgets (e : JEntry) (s : State) : Forgets e.seq (forgetEntry e s) := by
  refine ⟨fun j hj => ?_, fun p hp => ?_, fun x hx => ?_⟩
  · simpa using (List.mem_filter.1 hj).2
  · simpa using (List.mem_filter.1 hp).2
  · simpa using (List.mem_filter.1 hx).2

/-! ### An event belongs to no command (R352) -/

/-- A packet of no command joins those that wait. -/
def Unowned (s t : State) : Prop := ∃ ps : List OutPkt, (∀ p ∈ ps, p.seq = none) ∧ t.cmd.out = s.cmd.out ++ ps

theorem Unowned.refl (s : State) : Unowned s s := ⟨[], by simp, by simp⟩

theorem Unowned.of_out (h : t.cmd.out = s.cmd.out) : Unowned s t := ⟨[], by simp, by simp [h]⟩

theorem Unowned.trans (h : Unowned s t) (h' : Unowned t u) : Unowned s u := by
  obtain ⟨ps, hp, ho⟩ := h
  obtain ⟨qs, hq, ho'⟩ := h'
  refine ⟨ps ++ qs, fun p hm => (List.mem_append.1 hm).elim (hp p) (hq p), ?_⟩
  rw [ho', ho, List.append_assoc]

theorem Unowned.ite {c : Prop} [Decidable c] (h : Unowned s t) (h' : Unowned s u) : Unowned s (if c then t else u) := by
  split
  · exact h
  · exact h'

theorem emitEvent_unowned (code : Nat) (pl : List Byte) (port : Port) (s : State) : Unowned s (emitEvent code pl port s) := by
  unfold emitEvent
  split
  · refine ⟨[⟨port, .event, 2, s.f F.CMD_EVT_CTRL_STREAM, false, code, 0, if port == .ring then s.cmd.evSeqRing else s.cmd.evSeqSpi, pl,
      none⟩], by simp, ?_⟩
    cases port <;> rfl
  · exact .of_out rfl

theorem renewWindow_out (s : State) : (renewWindow s).cmd.out = s.cmd.out := by
  unfold renewWindow
  split <;> rfl

theorem sendEvent_unowned (code : Nat) (data : List Byte) (s : State) : Unowned s (sendEvent code data s) := by
  have h0 : Unowned s (renewWindow s) := .of_out (renewWindow_out s)
  have h1 : Unowned s { renewWindow s with cmd.raised := code :: (renewWindow s).cmd.raised } := h0
  unfold sendEvent
  refine .ite h0 (.ite h0 ?_)
  have h2 := Unowned.ite (c := (renewWindow s).fb F.CMD_EVT_CTRL_RING = true)
    (h1.trans (emitEvent_unowned code (eventPayload (renewWindow s) code data) .ring _)) h1
  have h3 := Unowned.ite (c := (renewWindow s).fb F.CMD_EVT_CTRL_SPI = true)
    (h2.trans (emitEvent_unowned code (eventPayload (renewWindow s) code data) .spi _)) h2
  exact .ite (h3.trans (.of_out rfl)) h3

theorem takeSnap_unowned (src id srcId : Nat) (s : State) : Unowned s (takeSnap src id srcId s) := .of_out rfl

theorem faultTrigger_unowned (code : Nat) (s : State) : Unowned s (faultTrigger code s) := by
  unfold faultTrigger
  split
  · exact .refl s
  · have hb : Unowned s (s.bump F.SNP_CNT_MISSED_CNT) := .of_out rfl
    exact .ite (.ite ((takeSnap_unowned 2 (s.f F.SNP_ID_ARM_ID) code s).trans (sendEvent_unowned _ _ _)) hb) (.refl s)

theorem raise_unowned (s : State) (code : Nat) (data : List Byte) : Unowned s (s.raise code data) := by
  unfold State.raise
  exact (sendEvent_unowned code data s).trans (faultTrigger_unowned code _)

theorem lostReport_unowned (s : State) : Unowned s (lostReport s) := by
  unfold lostReport
  exact .ite (.refl s) (Unowned.trans (t := { s with cmd.lost := 0 }) (.of_out rfl) (raise_unowned _ _ _))

/-! ### Nothing comes back -/

theorem Forgets.step (h : Forgets q s) (hj : t.cmd.jobs = s.cmd.jobs) (hn : t.cmd.journal = s.cmd.journal) (ho : Unowned s t) :
    Forgets q t := by
  obtain ⟨h1, h2, h3⟩ := h
  obtain ⟨ps, hp, ho⟩ := ho
  refine ⟨hj ▸ h1, fun p hm => ?_, hn ▸ h3⟩
  rw [ho] at hm
  rcases List.mem_append.1 hm with hm | hm
  · exact h2 p hm
  · rw [hp p hm]
    simp

theorem Forgets.raise (h : Forgets q s) (code : Nat) (data : List Byte) : Forgets q (s.raise code data) :=
  h.step (raise_jobs _ _ _) (raise_journal _ _ _) (raise_unowned s code data)

theorem Forgets.lostReport (h : Forgets q s) : Forgets q (lostReport s) :=
  h.step (lostReport_step s).jobs (lostReport_step s).journal (lostReport_unowned s)

theorem onEntry_seq {f : JEntry → JEntry} (hf : ∀ x, (f x).seq = x.seq) {x : JEntry} (hx : x ∈ (s.onEntry n f).cmd.journal) :
    ∃ y ∈ s.cmd.journal, x.seq = y.seq := by
  obtain ⟨y, hy, e⟩ := List.mem_map.1 hx
  refine ⟨y, hy, ?_⟩
  split at e
  · rw [← e, hf]
  · rw [← e]

theorem Forgets.onEntry (h : Forgets q s) {f : JEntry → JEntry} (hf : ∀ x, (f x).seq = x.seq) : Forgets q (s.onEntry n f) := by
  obtain ⟨h1, h2, h3⟩ := h
  refine ⟨h1, h2, fun x hx => ?_⟩
  obtain ⟨y, hy, e⟩ := onEntry_seq hf hx
  exact e ▸ h3 y hy

theorem Forgets.journalDone (h : Forgets q s) (op : Nat) (rq : Req) (st : Nat) : Forgets q (journalDone op rq st n s) := by
  unfold Machine.journalDone
  split
  · exact h.onEntry fun _ => rfl
  · exact h.onEntry fun _ => rfl

theorem Forgets.pushReply (h : Forgets q s) (hn : n ≠ q) (op : Nat) (rq : Req) (final : Bool) (st : Nat) (body : List Byte) :
    Forgets q (pushReply op rq final st body (some n) s) := by
  obtain ⟨h1, h2, h3⟩ := h
  unfold Machine.pushReply
  split
  · exact ⟨h1, h2, h3⟩
  · refine ⟨h1, fun p hp => ?_, h3⟩
    rcases List.mem_append.1 hp with hp | hp
    · exact h2 p hp
    · rw [List.mem_singleton.1 hp]
      exact fun e => hn (Option.some.inj e)

/-- The reply of another command. -/
theorem Forgets.finalReply (h : Forgets q s) (hn : n ≠ q) (op : Nat) (rq : Req) (st : Nat) (body : List Byte) :
    Forgets q (finalReply op rq n st body s) := by
  refine ((h.pushReply hn op rq true st body).journalDone op rq st (n := n)).of_cmd ?_
  rw [Machine.finalReply, noteLastRef_cmd, noteStatus_cmd]

/-- The end of another command in flight. -/
theorem Forgets.finishJob (h : Forgets q s) (hn : j.seq ≠ q) (st : Nat) (body : List Byte) : Forgets q (finishJob j st body s) := by
  obtain ⟨h1, h2, h3⟩ := h
  have h' : Forgets q (countReplayed (endStatus j st) { s with cmd.jobs := s.cmd.jobs.filter (fun k => !(k.seq == j.seq)) }) :=
    Forgets.of_cmd (s := { s with cmd.jobs := s.cmd.jobs.filter (fun k => !(k.seq == j.seq)) })
      ⟨fun k hk => h1 k (List.mem_filter.1 hk).1, h2, h3⟩ (countReplayed_jobs _ _)
  exact (h'.finalReply hn _ _ _ _).lostReport

theorem Forgets.finishKey (h : Forgets q s) (op key st : Nat) (body : List Byte) : Forgets q (finishKey op key st body s) := by
  unfold Machine.finishKey
  split
  · next hj => exact h.finishJob (h.1 _ (jobKey?_mem hj).1) st body
  · exact h

theorem Forgets.finishOp (h : Forgets q s) (op st : Nat) (body : List Byte) : Forgets q (finishOp op st body s) := by
  unfold Machine.finishOp
  split
  · next hj => exact h.finishJob (h.1 _ (List.mem_of_find?_eq_some hj)) st body
  · exact h

theorem Forgets.chkEnd (h : Forgets q s) (n st : Nat) : Forgets q (chkEnd n st s) := by
  cases hr : (chkEng s n).run with
  | none => rwa [chkEnd_none hr]
  | some r =>
    rw [chkEnd_eq hr]
    exact ((h.of_cmd (t := chkStopped n st s) rfl).finishKey _ _ _ _).raise _ _

theorem Forgets.dropTest (h : Forgets q s) : Forgets q (dropTest s) := by
  cases ht : s.nvm.test with
  | none => rwa [dropTest_of_none ht]
  | some r =>
    rw [dropTest_of_some ht]
    split
    · exact h
    · split
      · rw [endWaiting_failed, testTaken, bistDone]
        exact ((h.of_cmd (t := { s with nvm.test := none, nvm.testAbort := false }) rfl).raise _ _).finishOp _ _ _
      · exact h

theorem Forgets.dropWork (h : Forgets q s) (e : JEntry) : Forgets q (dropWork e s) := by
  have h0 : Forgets q (opsDropped e.seq s) := h.of_cmd (opsDropped_step e.seq s).cmd
  exact dropWork_cases (P := Forgets q) e s (fun _ => h0.chkEnd _ _) (fun _ => h0.dropTest) h0 h0

/-! ### The commands in flight only become fewer -/

theorem finishJob_sub {k : Job} {st : Nat} {body : List Byte} (h : k ∈ (finishJob j st body s).cmd.jobs) : k ∈ s.cmd.jobs := by
  rw [finishJob_jobs] at h
  exact (List.mem_filter.1 h).1

theorem finishKey_sub {k : Job} {op key st : Nat} {body : List Byte} (h : k ∈ (finishKey op key st body s).cmd.jobs) : k ∈ s.cmd.jobs := by
  unfold finishKey at h
  split at h
  · exact finishJob_sub h
  · exact h

theorem finishOp_sub {k : Job} {op st : Nat} {body : List Byte} (h : k ∈ (finishOp op st body s).cmd.jobs) : k ∈ s.cmd.jobs := by
  unfold finishOp at h
  split at h
  · exact finishJob_sub h
  · exact h

theorem chkEnd_sub {k : Job} {st : Nat} (h : k ∈ (chkEnd n st s).cmd.jobs) : k ∈ s.cmd.jobs := by
  cases hr : (chkEng s n).run with
  | none => rwa [chkEnd_none hr] at h
  | some r =>
    rw [chkEnd_eq hr, raise_jobs] at h
    exact finishKey_sub (s := chkStopped n st s) h

theorem dropTest_sub {k : Job} (h : k ∈ (dropTest s).cmd.jobs) : k ∈ s.cmd.jobs := by
  cases ht : s.nvm.test with
  | none => rwa [dropTest_of_none ht] at h
  | some r =>
    rw [dropTest_of_some ht] at h
    split at h
    · exact h
    · split at h
      · rw [endWaiting_failed] at h
        have h' := finishOp_sub h
        rwa [testTaken, bistDone, raise_jobs] at h'
      · exact h

theorem dropWork_sub {k : Job} (e : JEntry) (s : State) : k ∈ (dropWork e s).cmd.jobs → k ∈ s.cmd.jobs := by
  have h0 : k ∈ (opsDropped e.seq s).cmd.jobs → k ∈ s.cmd.jobs := by rw [(opsDropped_step e.seq s).cmd]; exact id
  exact dropWork_cases (P := fun t => k ∈ t.cmd.jobs → k ∈ s.cmd.jobs) e s (fun _ h => h0 (chkEnd_sub h)) (fun _ h => h0 (dropTest_sub h)) h0 h0

end forgets

end Sys2Proof.Machine
end

section
/-! One entry of the journal sweep (R284 to R286, R291); O55. -/

namespace Sys2Proof.Machine

section sweep

variable {s t u : State} {a : Abdicated} {e : JEntry} {j : Job} {q n : Nat} {bc bp : List Nat}

/-! ### The cases of an entry -/

theorem sweepEntry_unused (h : e.inUse = false) (a : Abdicated) (bc bp : List Nat) (s : State) : sweepEntry a bc bp s e = s := by
  simp [sweepEntry, h]

theorem sweepEntry_bad (h : e.inUse = true) (hc : e.seq ∈ bc) (a : Abdicated) (bp : List Nat) (s : State) :
    sweepEntry a bc bp s e = badEntry a bp e s := by
  simp [sweepEntry, h, hc]

theorem sweepEntry_waiting (hc : e.seq ∉ bc) (h : e.state ≠ .executing) (a : Abdicated) (bp : List Nat) (s : State) :
    sweepEntry a bc bp s e = s := by
  simp [sweepEntry, hc, h]

theorem inUse_of_executing (h : e.state = .executing) : e.inUse = true := by simp [JEntry.inUse, h]

theorem sweepEntry_classI (hc : e.seq ∉ bc) (h : e.state = .executing) (hi : e.idemp = true) (a : Abdicated) (bp : List Nat) (s : State) :
    sweepEntry a bc bp s e = replayEntry e s := by
  simp [sweepEntry, inUse_of_executing h, hc, h, hi]

theorem sweepEntry_classN (hc : e.seq ∉ bc) (h : e.state = .executing) (hi : e.idemp = false) (a : Abdicated) (bp : List Nat) (s : State) :
    sweepEntry a bc bp s e = (dropWork e (failEntry a e (progressOf s e) s)).bump F.HLV_JOURNAL_FAILED := by
  simp [sweepEntry, inUse_of_executing h, hc, h, hi]

/-! ### An entry that is answered FAILED_SWITCH (R286) -/

/-- The command is not in flight any more, and its own final reply does not go. -/
def notAnswered (e : JEntry) (s : State) : State := { s with
  cmd.jobs := s.cmd.jobs.filter (fun j => !(j.seq == e.seq))
  cmd.out := s.cmd.out.filter (fun p => !(p.seq == some e.seq && p.final)) }

theorem failEntry_step (a : Abdicated) (e : JEntry) (n : Nat) (s : State) : ReplyStep (notAnswered e s) (failEntry a e n s) :=
  finalReply_step _ _ _ _ _ _

theorem notAnswered_keeps (e : JEntry) (s : State) : Keeps [.cmd] s (notAnswered e s) := (Keeps.refl _ s).of_cur (by simp) _

theorem failEntry_keeps (a : Abdicated) (e : JEntry) (n : Nat) (s : State) : Keeps [.cmd, .regs] s (failEntry a e n s) :=
  ((notAnswered_keeps e s).mono (by simp)).trans (failEntry_step a e n s).keeps

theorem failEntry_words (a : Abdicated) (e : JEntry) (n : Nat) (s : State) : KeepsRegs replyRegs s (failEntry a e n s) :=
  KeepsRegs.trans (t := notAnswered e s) (fun _ _ => rfl) (failEntry_step a e n s).words

theorem failEntry_jobs (a : Abdicated) (e : JEntry) (n : Nat) (s : State) :
    (failEntry a e n s).cmd.jobs = s.cmd.jobs.filter (fun j => !(j.seq == e.seq)) := (failEntry_step a e n s).jobs

theorem failEntry_out (hq : e.rq.quiet = false) (a : Abdicated) (n : Nat) (s : State) : (failEntry a e n s).cmd.out =
    s.cmd.out.filter (fun p => !(p.seq == some e.seq && p.final)) ++ [replyOf e.op e.rq true St.failedSwitch (failedBody e n a) e.seq] :=
  finalReply_out hq _ _ _ _ (notAnswered e s)

/-- The word of the sweep's counts is none of what ends. -/
theorem dropWork_f (e : JEntry) (s : State) {x : Fld} (h : x.addr = 0x9030) : (dropWork e s).f x = s.f x :=
  (dropWork_moves e s).regs.f (by rw [h]; simp [dropWords, eventRegs]; omega)

theorem failEntry_f (a : Abdicated) (e : JEntry) (n : Nat) (s : State) {x : Fld} (h : x.addr = 0x9030) : (failEntry a e n s).f x = s.f x :=
  (failEntry_words a e n s).f (by rw [h]; decide)

theorem endInFlight_f (e : JEntry) (s t : State) {x : Fld} (h : x.addr = 0x9030) : (endInFlight e s t).f x = t.f x := by
  unfold endInFlight
  split
  · exact dropWork_f e t h
  · rfl

/-- No command in flight has the entry's SEQ. -/
theorem failEntry_gone (hj : j ∈ (failEntry a e n s).cmd.jobs) : j.seq ≠ e.seq := by
  rw [failEntry_jobs] at hj
  simpa using (List.mem_filter.1 hj).2

theorem endInFlight_sub (s t : State) (h : j ∈ (endInFlight e s t).cmd.jobs) : j ∈ t.cmd.jobs := by
  unfold endInFlight at h
  split at h
  · exact dropWork_sub e t h
  · exact h

theorem endInFlight_sends (e : JEntry) (s t : State) : SendsOf anyReply t (endInFlight e s t) := by
  unfold endInFlight
  split
  · exact (dropWork_moves e t).sends
  · exact .refl _ t

theorem Forgets.endInFlight (h : Forgets q t) (e : JEntry) (s : State) : Forgets q (endInFlight e s t) := by
  unfold Machine.endInFlight
  split
  · exact h.dropWork e
  · exact h

/-! ### An entry whose CRC fails (R284) -/

/-- Its packet unreadable too, it is lost: nothing of it is left. -/
theorem badEntry_lost (hp : e.seq ∈ bp) (a : Abdicated) (s : State) :
    (badEntry a bp e s).f F.HLV_JOURNAL_BAD = satAdd F.HLV_JOURNAL_BAD.top (s.f F.HLV_JOURNAL_BAD) 1 ∧
      (badEntry a bp e s).fb F.HLV_STATUS_JOURNAL_BAD = true ∧ Forgets e.seq (badEntry a bp e s) := by
  have h : badEntry a bp e s = ((endInFlight e (s.bump F.HLV_JOURNAL_BAD) (forgetEntry e (s.bump F.HLV_JOURNAL_BAD))).setB
      F.HLV_STATUS_JOURNAL_BAD true).raise 0x95 (q4 e.seq) := if_pos (by simpa using hp)
  have hf := (forgetEntry_forgets e (s.bump F.HLV_JOURNAL_BAD)).endInFlight e (s.bump F.HLV_JOURNAL_BAD)
  have hb : (endInFlight e (s.bump F.HLV_JOURNAL_BAD) (forgetEntry e (s.bump F.HLV_JOURNAL_BAD))).f F.HLV_JOURNAL_BAD =
      satAdd F.HLV_JOURNAL_BAD.top (s.f F.HLV_JOURNAL_BAD) 1 :=
    (endInFlight_f e _ _ rfl).trans (f_bump_same s (by decide))
  rw [h]
  generalize endInFlight e (s.bump F.HLV_JOURNAL_BAD) (forgetEntry e (s.bump F.HLV_JOURNAL_BAD)) = u at hf hb
  refine ⟨?_, ?_, (hf.of_cmd (t := u.setB F.HLV_STATUS_JOURNAL_BAD true) rfl).raise _ _⟩
  · rw [raise_f _ _ _ (by decide), f_setB_other _ _ (by decide) (by decide) (by decide), hb]
  · rw [raise_fb _ _ _ (by decide), fb_setB_same _ _ (by decide)]

/-- With its packet readable it is answered, its progress unknown. -/
theorem badEntry_answered (hp : e.seq ∉ bp) (a : Abdicated) (s : State) :
    (badEntry a bp e s).f F.HLV_JOURNAL_BAD = satAdd F.HLV_JOURNAL_BAD.top (s.f F.HLV_JOURNAL_BAD) 1 ∧
      (badEntry a bp e s).f F.HLV_JOURNAL_FAILED = satAdd F.HLV_JOURNAL_FAILED.top (s.f F.HLV_JOURNAL_FAILED) 1 ∧
      (∀ j ∈ (badEntry a bp e s).cmd.jobs, j.seq ≠ e.seq) ∧
      (e.rq.quiet = false → replyOf e.op e.rq true St.failedSwitch (failedBody e 0xFFFFFFFF a) e.seq ∈ (badEntry a bp e s).cmd.out) := by
  have h : badEntry a bp e s = (endInFlight e (s.bump F.HLV_JOURNAL_BAD) (failEntry a e 0xFFFFFFFF (s.bump F.HLV_JOURNAL_BAD))).bump
      F.HLV_JOURNAL_FAILED := if_neg (by simpa using hp)
  generalize hv : s.bump F.HLV_JOURNAL_BAD = v at h
  have hb : v.f F.HLV_JOURNAL_BAD = satAdd F.HLV_JOURNAL_BAD.top (s.f F.HLV_JOURNAL_BAD) 1 := hv ▸ f_bump_same s (by decide)
  have hn : v.f F.HLV_JOURNAL_FAILED = s.f F.HLV_JOURNAL_FAILED := hv ▸ f_bump_other s (by decide) (by decide) (by decide)
  have hf : ∀ x : Fld, x.addr = 0x9030 → (endInFlight e v (failEntry a e 0xFFFFFFFF v)).f x = v.f x := fun x hx =>
    (endInFlight_f e v _ hx).trans (failEntry_f a e _ v hx)
  rw [h]
  refine ⟨?_, ?_, fun j hj => failEntry_gone (endInFlight_sub v _ hj), fun hq => ?_⟩
  · rw [f_bump_other _ (by decide) (by decide) (by decide), hf _ rfl, hb]
  · rw [f_bump_same _ (by decide), hf _ rfl, hn]
  · obtain ⟨ps, -, ho⟩ := endInFlight_sends e v (failEntry a e 0xFFFFFFFF v)
    have hm : replyOf e.op e.rq true St.failedSwitch (failedBody e 0xFFFFFFFF a) e.seq ∈
        (endInFlight e v (failEntry a e 0xFFFFFFFF v)).cmd.out := by
      rw [ho, failEntry_out hq]
      simp
    exact hm

/-! ### An executing entry of class N (R285) -/

theorem progressOf_cases (s : State) (e : JEntry) : (e.op = 0x09 → progressOf s e = (wrWords e.rq).length) ∧ (e.op = 0x0A → progressOf s e = 1) ∧
    (e.op = 0x68 → progressOf s e = s.f F.NVM_BIST_STEP) ∧
    (∀ r, e.op = 0x6A → s.nvm.test = some r → r.origin = 0 → progressOf s e = s.f F.NVM_BIST_STEP) ∧
    (e.op ∈ [0x44, 0x25, 0x58, 0x61, 0x62] → progressOf s e = e.progress) := by
  refine ⟨fun h => ?_, fun h => ?_, fun h => ?_, fun r h hr ho => ?_, fun h => ?_⟩
  · simp [progressOf, h]
  · simp [progressOf, h]
  · simp [progressOf, h]
  · simp [progressOf, h, hr, ho]
  · simp only [List.mem_cons, List.not_mem_nil, or_false] at h
    rcases h with h | h | h | h | h <;> simp [progressOf, h]

/-- What is sent: the reply behind what stays, then what the end of its work sends. -/
theorem dropped_out (hq : e.rq.quiet = false) (a : Abdicated) (n : Nat) (s : State) (t : State) (ht : t = dropWork e (failEntry a e n s)) :
    ∃ ps, t.cmd.out = s.cmd.out.filter (fun p => !(p.seq == some e.seq && p.final)) ++
        replyOf e.op e.rq true St.failedSwitch (failedBody e n a) e.seq :: ps ∧
      (e.op ∉ [0x58, 0x68] → ps = [] ∧ t.cmd.jobs = s.cmd.jobs.filter (fun j => !(j.seq == e.seq))) ∧
      ((∀ j ∈ s.cmd.jobs, j.seq ≠ e.seq → j.op ≠ e.op) → ∀ p ∈ ps, p.kind = .event) := by
  have hout := failEntry_out hq a n s
  have hjobs := failEntry_jobs a e n s
  obtain ⟨ps, -, ho⟩ := (dropWork_moves e (failEntry a e n s)).sends
  refine ⟨ps, ?_, fun hop => ?_, fun h => ?_⟩
  · rw [ht, ho, hout, List.append_assoc, List.singleton_append]
  · have hc := dropWork_cmd (e := e) (fun h => hop (by simp [h])) (fun h => hop (by simp [h])) (failEntry a e n s)
    refine ⟨?_, by rw [ht, hc, hjobs]⟩
    rw [hc] at ho
    exact List.self_eq_append_right.1 ho
  · have hs : SendsEvents (failEntry a e n s) (dropWork e (failEntry a e n s)) := dropWork_sends fun j hj => by
      have hj' := hj
      rw [hjobs] at hj'
      exact h j (List.mem_filter.1 hj').1 (failEntry_gone hj)
    obtain ⟨qs, he, ho'⟩ := hs
    have : ps = qs := List.append_cancel_left (ho.symm.trans ho')
    exact this ▸ he

/-- What the end of the work of each opcode leaves. -/
theorem dropWork_ends (e : JEntry) (s : State) :
    (e.op = 0x58 → (chkEng (dropWork e s) (chkNamed e)).run = none) ∧
      (∀ r, e.op = 0x68 → s.nvm.test = some r → r.origin = 2 → s.nvm.testEnd = none →
        (s.nvm.stepNow = 0 → (dropWork e s).nvm.test = none) ∧ (s.nvm.stepNow ≠ 0 → (dropWork e s).nvm.testAbort = true)) ∧
      (∀ r, e.op = 0x6A → (dropWork e s).pwr.idleReq = some r → r.by_ ≠ .shutdown) := by
  have hn := (opsDropped_step e.seq s).nvm
  refine ⟨fun h => ?_, fun r h hr ho he => ?_, fun r h hr => ?_⟩
  · rw [dropWork_chk h]
    exact chkEnd_stops (chkNamed_lt e) _ _
  · have h1 : (opsDropped e.seq s).nvm.test = some r := by rw [hn]; exact hr
    have h2 : (opsDropped e.seq s).nvm.testEnd = none := by rw [hn]; exact he
    have h3 : (opsDropped e.seq s).nvm.stepNow = s.nvm.stepNow := by rw [hn]
    have hd := dropTest_drops h1 ho h2
    rw [h3] at hd
    rwa [dropWork_bist h]
  · rw [dropWork_shutdown h] at hr
    exact otherIdle_by hr

end sweep

end Sys2Proof.Machine
end

section
/-! A command of class I found executing is executed again, or ends with what the takeover made of it (R284, R285, R395); O55. -/

namespace Sys2Proof.Machine

section replay

variable {s t u : State} {e : JEntry} {j : Job}

/-! ### The cases of an entry -/

theorem replayEntry_idle (h : ∀ j ∈ s.cmd.jobs, j.seq ≠ e.seq) : replayEntry e s = s := by
  have hn : s.cmd.jobs.find? (fun j => j.seq == e.seq) = none := List.find?_eq_none.2 fun j hm => by simpa using h j hm
  rw [replayEntry, hn]

theorem replayEntry_flying (h : s.cmd.jobs.find? (fun k => k.seq == e.seq) = some j) : replayEntry e s =
    if e.op = 0x79 then finishJob j St.doneReplayed (halfSwitchBody s false s.tck.frame) s
    else if e.op = 0x48 then replayPower j s
    else if e.op = 0x2C then resumeCal e s
    else executeAgain e s := by rw [replayEntry, h]

theorem find_seq (h : s.cmd.jobs.find? (fun k => k.seq == e.seq) = some j) : j.seq = e.seq := by simpa using List.find?_some h

/-! ### HALF_SWITCH (R287) -/

theorem endStatus_replayed (j : Job) : endStatus j St.doneReplayed = St.doneReplayed := by
  unfold endStatus
  split <;> rfl

/-- What the abdication completed is answered DONE_REPLAYED and counted. -/
theorem finishJob_replayed (hq : j.rq.quiet = false) (body : List Byte) (s : State) :
    SendsLast (replyOf j.op j.rq true St.doneReplayed body j.seq) s (finishJob j St.doneReplayed body s) ∧
      (finishJob j St.doneReplayed body s).f F.HLV_JOURNAL_REPLAYED =
        satAdd F.HLV_JOURNAL_REPLAYED.top (s.f F.HLV_JOURNAL_REPLAYED) 1 := by
  have he := endStatus_replayed j
  have ht := finishJob_tells (j := j) (st := St.doneReplayed) (by rw [he]; simp [quietDrops, hq]) body s
  rw [he] at ht
  have e : finishJob j St.doneReplayed body s = lostReport (finalReply j.op j.rq j.seq (endStatus j St.doneReplayed) body
      (countReplayed (endStatus j St.doneReplayed) { s with cmd.jobs := s.cmd.jobs.filter (fun k => !(k.seq == j.seq)) })) := rfl
  refine ⟨ht, ?_⟩
  rw [e, he, (lostReport_step _).words.f (by decide), (finalReply_step _ _ _ _ _ _).words.f (by decide), countReplayed, if_pos rfl]
  exact f_bump_same { s with cmd.jobs := s.cmd.jobs.filter (fun k => !(k.seq == j.seq)) } (by decide)

/-! ### PWR_STATE (R395) -/

/-- The words a refused entry writes. -/
def refusalWords : List Nat := [0xC004, 0xC010, 0xC014, 0xC018, 0xC01C]

theorem noteRefusal_moves (target mask : Nat) (s : State) : Moves [.event] [] refusalWords s (noteRefusal target mask s) := by
  unfold noteRefusal
  refine Moves.raise ?_ (by decide) _ _
  refine Moves.setB (Moves.setF (Moves.setF (Moves.foldl _ ?_ (Moves.refl _ _ _ s)) _ (by decide)) _ (by decide)) _ (by decide)
  intro u i hi hu
  have hw : 0xC014 + 4 * (i / 4) ∈ eventRegs ++ refusalWords := by
    have : i / 4 = 0 ∨ i / 4 = 1 ∨ i / 4 = 2 := by
      have := List.mem_range.1 hi
      omega
    rcases this with h | h | h <;> rw [h] <;> decide
  exact .ite (hu.bump hw) hu

theorem bitOf_or_four (m : Nat) : bitOf (m ||| 4) 2 = true := by
  have h : (m ||| 4).testBit 2 = true := by simp [Nat.testBit_or]; right; decide
  simpa [bitOf, Nat.testBit, Nat.one_and_eq_mod_two] using h

/-- A PWR_STATE whose sequence the takeover ended names HALF_SWITCH among its refusers. -/
theorem replayPower_refuses (j : Job) (s : State) : ∃ m, bitOf m 2 = true ∧
    SendsLast (replyOf j.op j.rq true St.refusedState (pwrBody (pwrCode s.pwr.state) 2 m s.tck.frame) j.seq) s (replayPower j s) ∧
    (replayPower j s).pwr = { s.pwr with idleReq := none, sleepReq := none } ∧
    (replayPower j s).f F.HLV_JOURNAL_REPLAYED = s.f F.HLV_JOURNAL_REPLAYED := by
  have hm := noteRefusal_moves (psTarget j.rq) (refusing s (psTarget j.rq) ||| 4) { s with pwr.idleReq := none, pwr.sleepReq := none }
  have e : replayPower j s = finishJob j St.refusedState
      (pwrBody (pwrCode s.pwr.state) 2 (refusing s (psTarget j.rq) ||| 4) s.tck.frame)
      (noteRefusal (psTarget j.rq) (refusing s (psTarget j.rq) ||| 4) { s with pwr.idleReq := none, pwr.sleepReq := none }) := rfl
  rw [e]
  generalize noteRefusal (psTarget j.rq) (refusing s (psTarget j.rq) ||| 4) { s with pwr.idleReq := none, pwr.sleepReq := none } = u at hm
  have hst : endStatus j St.refusedState = St.refusedState := endStatus_of_error j (by decide)
  have ht := finishJob_tells (j := j) (st := St.refusedState) (by rw [hst]; exact quietDrops_error _ (by decide))
    (pwrBody (pwrCode s.pwr.state) 2 (refusing s (psTarget j.rq) ||| 4) s.tck.frame) u
  rw [hst] at ht
  obtain ⟨ps, hp, ho⟩ := hm.sends
  refine ⟨_, bitOf_or_four _, SendsLast.after ⟨ps, fun p h => List.mem_singleton.1 (hp p h), ho⟩ ht, ?_, ?_⟩
  · have hk : (finishJob j St.refusedState (pwrBody (pwrCode s.pwr.state) 2 (refusing s (psTarget j.rq) ||| 4) s.tck.frame) u).pwr = u.pwr :=
      finishJob_keeps j _ _ u .pwr (by decide)
    exact hk.trans (hm.keeps .pwr (by decide))
  · rw [(finishJob_regs j (by decide) _ u).f (by decide)]
    exact hm.regs.f (by decide)

/-! ### A command executed again (R284, R285) -/

/-- What the first execution had under way no longer belongs to the command. -/
theorem releaseWork_step (e : JEntry) (s : State) : Keeps [.cmd, .nvm, .saf, .lyr, .dia] s (releaseWork e s) ∧
    (releaseWork e s).cmd.out = s.cmd.out ∧ (releaseWork e s).cmd.jobs = s.cmd.jobs.filter (fun k => !(k.seq == e.seq)) := by
  obtain ⟨ops, a, b, -, h⟩ := dropOps_eq e.seq s
  unfold releaseWork
  rw [h]
  exact ⟨fun q hq => by cases q <;> first | rfl | exact absurd (by simp) hq, rfl, rfl⟩

/-- The state in which a command is executed again. -/
def againStart (e : JEntry) (s : State) : State := { releaseWork e s with cmd.seq := (e.seq + 1) % 65536 }

theorem againStart_keeps (e : JEntry) (s : State) : Keeps [.cmd, .nvm, .saf, .lyr, .dia] s (againStart e s) :=
  (releaseWork_step e s).1.of_cur (by simp) _

/-- One that ends at once: its reply, DONE_REPLAYED in place of OK. -/
theorem executeAgain_final {st : Nat} {body : List Byte} (hq : e.rq.quiet = false)
    (hb : replayBody e.op e.rq (againStart e s) = (againStart e s, .final st body)) :
    (executeAgain e s).cmd.out = s.cmd.out ++ [replyOf e.op e.rq true (replayStatus st) body e.seq] ∧
      (executeAgain e s).cmd.jobs = s.cmd.jobs.filter (fun k => !(k.seq == e.seq)) ∧
      (executeAgain e s).f F.HLV_JOURNAL_REPLAYED = (countReplayed (replayStatus st) s).f F.HLV_JOURNAL_REPLAYED := by
  obtain ⟨hk, ho, hj⟩ := releaseWork_step e s
  have e1 : executeAgain e s = lockAfter (closeReplay e ({ (replayBody e.op e.rq (againStart e s)).1 with cmd.seq := s.cmd.seq },
      (replayBody e.op e.rq (againStart e s)).2)) := rfl
  generalize hu : ({ againStart e s with cmd.seq := s.cmd.seq } : State) = u
  have uo : u.cmd.out = s.cmd.out := hu ▸ ho
  have uj : u.cmd.jobs = s.cmd.jobs.filter (fun k => !(k.seq == e.seq)) := hu ▸ hj
  have ur : u.regs = s.regs := hu ▸ hk .regs (by decide)
  have e2 : executeAgain e s = lockAfter (finalReply e.op e.rq e.seq (replayStatus st) body (countReplayed (replayStatus st) u)) := by
    rw [e1, hb, ← hu]
    rfl
  obtain ⟨lk, lw⟩ := lockAfter_keeps (finalReply e.op e.rq e.seq (replayStatus st) body (countReplayed (replayStatus st) u))
  have hc := countReplayed_jobs (replayStatus st) u
  have hs := finalReply_step e.op e.rq e.seq (replayStatus st) body (countReplayed (replayStatus st) u)
  have lc := lk .cmd (by decide)
  rw [e2]
  refine ⟨?_, ?_, ?_⟩
  · exact (congrArg CmdSt.out lc).trans ((finalReply_out hq _ _ _ _ _).trans (by rw [hc, uo]))
  · exact (congrArg CmdSt.jobs lc).trans (hs.jobs.trans (by rw [hc, uj]))
  · rw [lw.f (by decide), hs.words.f (by decide)]
    unfold countReplayed
    split
    · rw [f_bump_same _ (by decide), f_bump_same _ (by decide), f_of_regs ur]
    · exact f_of_regs ur _

theorem halfBusy_of (hr : t.regs = s.regs) (hh : t.hlv = s.hlv) : halfBusy t = halfBusy s := by
  simp only [halfBusy, State.health, f_of_regs hr, hh]

theorem clkBody_of (hr : t.regs = s.regs) (ht : t.tck = s.tck) (n : Nat) : clkBody t n = clkBody s n := by
  simp only [clkBody, f_of_regs hr, ht]

/-- A HALF_RESET that cannot begin (R290). -/
theorem again_halfReset (hop : e.op = 0x7A) (hq : e.rq.quiet = false) (hl : e.rq.payload.length = 4) (h0 : u8 e.rq.payload 0 ≤ 1)
    (h1 : u8 e.rq.payload 1 ≤ 3) (h2 : u16 e.rq.payload 2 = 0) (hb : halfBusy s = true) :
    (executeAgain e s).cmd.out = s.cmd.out ++ [replyOf 0x7A e.rq true St.busy [] e.seq] ∧
      (executeAgain e s).cmd.jobs = s.cmd.jobs.filter (fun k => !(k.seq == e.seq)) ∧
      (executeAgain e s).f F.HLV_JOURNAL_REPLAYED = s.f F.HLV_JOURNAL_REPLAYED := by
  have hk := againStart_keeps e s
  have hbusy : halfBusy (againStart e s) = true := by rw [halfBusy_of (hk .regs (by decide)) (hk .hlv (by decide)), hb]
  have hbody : replayBody e.op e.rq (againStart e s) = (againStart e s, .final St.busy []) := by
    have e1 : replayBody e.op e.rq = halfResetCmd e.rq := by rw [hop]; rfl
    rw [e1]
    have n0 : ¬ 1 < u8 e.rq.payload 0 := by omega
    have n1 : ¬ 3 < u8 e.rq.payload 1 := by omega
    simp [halfResetCmd, withLen, len, hl, n0, n1, h2, hbusy, refuse]
  have h := executeAgain_final hq hbody
  rwa [hop] at h

/-- A CLK_SWITCH toward the clock in use (R399, R413). -/
theorem again_clkSwitch (hop : e.op = 0x49) (hq : e.rq.quiet = false) (hl : e.rq.payload.length = 4)
    (hsel : u8 e.rq.payload 0 = s.f F.PWR_CLK_SEL) :
    (executeAgain e s).cmd.out = s.cmd.out ++ [replyOf 0x49 e.rq true St.doneReplayed (clkBody s 0) e.seq] ∧
      (executeAgain e s).cmd.jobs = s.cmd.jobs.filter (fun k => !(k.seq == e.seq)) ∧
      (executeAgain e s).f F.HLV_JOURNAL_REPLAYED = satAdd F.HLV_JOURNAL_REPLAYED.top (s.f F.HLV_JOURNAL_REPLAYED) 1 := by
  have hk := againStart_keeps e s
  have hbody : replayBody e.op e.rq (againStart e s) = (againStart e s, .final St.ok (clkBody s 0)) := by
    have e1 : replayBody e.op e.rq = clkBodyOf (u8 e.rq.payload 0) e.rq := by rw [hop]; rfl
    rw [e1, ← clkBody_of (hk .regs (by decide)) (hk .tck (by decide)) 0]
    have hf : (againStart e s).f F.PWR_CLK_SEL = s.f F.PWR_CLK_SEL := f_of_regs (hk .regs (by decide)) _
    simp [clkBodyOf, withLen, len, hl, hsel, hf, okReply]
  obtain ⟨ho, hj, hf⟩ := executeAgain_final hq hbody
  rw [hop] at ho
  exact ⟨ho, hj, hf.trans (f_bump_same s (by decide))⟩

end replay

end Sys2Proof.Machine
end

section
/-! The errors of the stores by their reader and the entries of a sweep, put together (R36, R276, R284 to R286, R368); O55. -/

namespace Sys2Proof.Machine

section storeErrors

variable {s : State} {e : JEntry} {bc bp : List Nat}

theorem exec_ecc (h : s.off = false) (r : EccReader) : exec (.eccUncorrectable r) s = .next (eccUncorrectable r s) := by
  have e : exec (.eccUncorrectable r) s = .next (if s.off then s else eccUncorrectable r s) := rfl
  simp [e, h]

/-- The one copy of the fallback ends with its reply (R135). -/
theorem fallbackEcc_tells {slot : Nat} {j : Job} (hc : s.lyr.copies = [slot]) (hj : s.jobKey? 0x28 slot = some j) :
    SendsLast (replyOf 0x28 j.rq true St.badCrc [] j.seq) s (loadFallback (copiesFail (fallbackLost s))) := by
  have e : copiesFail (fallbackLost s) = failCopy { fallbackLost s with lyr.copies := [] } slot := by
    rw [copiesFail_eq]
    exact congrArg (List.foldl failCopy { fallbackLost s with lyr.copies := [] }) hc
  obtain ⟨-, -, -, hcmd, -⟩ := loadFallback_loads (copiesFail (fallbackLost s))
  have hf := freeSlot_cmd slot { fallbackLost s with lyr.copies := [] }
  have ht := finishKey_tells (op := 0x28) (key := slot) (s := freeSlot slot { fallbackLost s with lyr.copies := [] }) (j := j)
    (by rw [State.jobKey?, hf]; exact hj) (st := St.badCrc) (by decide) []
  obtain ⟨ps, evs, he, ho⟩ := ht
  refine ⟨ps, evs, he, ?_⟩
  rw [hcmd, e]
  rw [hf] at ho
  exact ho

/-- What an error in the fallback copy leaves. -/
theorem fallbackEcc_loads (s t : State) (ht : t = loadFallback (copiesFail (fallbackLost s))) :
    t.drv = { s.drv with fb := s.nvm.fb } ∧ t.fb F.SAF_FB_VALID = s.nvm.fbValid ∧ t.lyr.copies = [] ∧
      (∀ slot ∈ s.lyr.copies, ∀ b, s.buf? (60 + slot) = some b → t.buf? (60 + slot) = some { b with st := 0 }) ∧
      (s.lyr.copies = [] → Keeps [.regs, .drv] s t ∧ KeepsRegs [F.SAF_FB_VALID.addr, F.SAF_FB_IPRED.addr] s t) := by
  obtain ⟨-, hv, hl, -, -⟩ := loadFallback_loads (copiesFail (fallbackLost s))
  have hnvm : (copiesFail (fallbackLost s)).nvm = s.nvm := (failCopies_moves _ _).keeps .nvm (by decide)
  obtain ⟨l, e⟩ := failCopies_lyr s.lyr.copies { fallbackLost s with lyr.copies := [] }
  have e' : (copiesFail (fallbackLost s)).lyr = { s.lyr with copies := [], bufs := l } := e
  rw [ht]
  refine ⟨?_, by rw [hv, hnvm], by rw [hl, e'], fun slot hs b hb => ?_, fun hc => ?_⟩
  · rw [loadFallback_drv, copiesFail_drv, hnvm]
    rfl
  · rw [State.buf?, hl]
    exact failCopies_buf _ hs { fallbackLost s with lyr.copies := [] } b hb
  · have h0 : copiesFail (fallbackLost s) = fallbackLost s := by
      have h1 : copiesFail (fallbackLost s) = { fallbackLost s with lyr.copies := [] } :=
        congrArg (List.foldl failCopy { fallbackLost s with lyr.copies := [] }) hc
      have h2 : ({ s.lyr with copies := [] } : LyrSt) = s.lyr := by rw [← hc]
      exact h1.trans (congrArg (fun l : LyrSt => { fallbackLost s with lyr := l }) h2)
    rw [h0]
    obtain ⟨k, e⟩ := loadFallback_eq (fallbackLost s)
    rw [e]
    have hb : KeepsRegs [F.SAF_FB_VALID.addr, F.SAF_FB_IPRED.addr] s { fallbackLost s with drv.fb := (fallbackLost s).nvm.fb } :=
      setB_keepsRegs s (x := F.SAF_FB_VALID) false (by decide)
    exact ⟨fun q hq => by cases q <;> first | rfl | exact absurd (by simp) hq,
      (hb.trans (setB_keepsRegs _ _ (by decide))).trans (setF_keepsRegs _ _ (by decide))⟩

/-- An executing entry of class N. -/
theorem sweepEntry_drops (hc : e.seq ∉ bc) (he : e.state = .executing) (hi : e.idemp = false) (hq : e.rq.quiet = false) (a : Abdicated)
    (s t : State) (ht : t = sweepEntry a bc bp s e) :
    (∃ ps, t.cmd.out = s.cmd.out.filter (fun p => !(p.seq == some e.seq && p.final)) ++
        replyOf e.op e.rq true St.failedSwitch (failedBody e (progressOf s e) a) e.seq :: ps ∧
      (e.op ∉ [0x58, 0x68] → ps = [] ∧ t.cmd.jobs = s.cmd.jobs.filter (fun j => !(j.seq == e.seq))) ∧
      ((∀ j ∈ s.cmd.jobs, j.seq ≠ e.seq → j.op ≠ e.op) → ∀ p ∈ ps, p.kind = .event)) ∧
    (∀ j ∈ t.cmd.jobs, j.seq ≠ e.seq) ∧
    t.f F.HLV_JOURNAL_FAILED = satAdd F.HLV_JOURNAL_FAILED.top (s.f F.HLV_JOURNAL_FAILED) 1 ∧
    (∀ o ∈ t.nvm.ops, o.owner ≠ some e.seq) ∧
    (e.op = 0x58 → (chkEng t (chkNamed e)).run = none) ∧
    (∀ r, e.op = 0x68 → s.nvm.test = some r → r.origin = 2 → s.nvm.testEnd = none →
      (s.nvm.stepNow = 0 → t.nvm.test = none) ∧ (s.nvm.stepNow ≠ 0 → t.nvm.testAbort = true)) ∧
    (∀ r, e.op = 0x6A → t.pwr.idleReq = some r → r.by_ ≠ .shutdown) := by
  rw [sweepEntry_classN hc he hi] at ht
  have hout := dropped_out hq a (progressOf s e) s _ rfl
  have hsub : ∀ j ∈ (dropWork e (failEntry a e (progressOf s e) s)).cmd.jobs, j.seq ≠ e.seq := fun j hj =>
    failEntry_gone (dropWork_sub e _ hj)
  have hf : (dropWork e (failEntry a e (progressOf s e) s)).f F.HLV_JOURNAL_FAILED = s.f F.HLV_JOURNAL_FAILED :=
    (dropWork_f e _ rfl).trans (failEntry_f a e _ s rfl)
  have hops := dropWork_ops e (failEntry a e (progressOf s e) s)
  obtain ⟨h1, h2, h3⟩ := dropWork_ends e (failEntry a e (progressOf s e) s)
  have hn : (failEntry a e (progressOf s e) s).nvm = s.nvm := failEntry_keeps a e _ s .nvm (by decide)
  rw [hn] at h2
  generalize dropWork e (failEntry a e (progressOf s e) s) = u at *
  rw [ht]
  exact ⟨hout, hsub, (f_bump_same u (by decide)).trans (by rw [hf]), hops, h1, h2, h3⟩

end storeErrors

/-- Settles O55, reader by reader, and entry by entry of the sweep. -/
theorem storeErrorsAndTakeovers : Obligations.StoreErrorsAndTakeovers := by
  unfold Obligations.StoreErrorsAndTakeovers
  refine ⟨fun s hoff => ⟨?_, ?_, ?_, ?_, ?_, ?_, ?_⟩, fun s bc bp => ⟨exec_takeover_idle, fun a hoff ha ht => ?_⟩, fun s => ?_,
    fun op rq idemp s h => openEntry_opens op rq idemp h, reqClassN_iff, ?_⟩
  · rintro p q rfl
    obtain ⟨h1, h2⟩ := gainEcc_reads p s
    exact ⟨_, _, _, exec_ecc hoff _, gainEcc_drv p s, fun i => ⟨read_reloadTile _ i _ _, read_reloadTile _ i _ _⟩, h1, h2,
      (gainEcc_moves p s).frame⟩
  · intro a
    obtain ⟨h1, h2, h3, h4, h5⟩ := fallbackEcc_loads s _ rfl
    exact ⟨_, exec_ecc hoff _, h1, h2, h3, h4, fun slot j hc hj _ => fallbackEcc_tells hc hj, h5, copiesFail_frame s⟩
  · intro c hc
    have hd := loadMap_dia s
    rw [hc] at hd
    refine ⟨loadMap s, exec_ecc hoff _, by rw [hd], by rw [hd], by rw [hd], ?_⟩
    rw [loadMap_eq]
    exact ((mapTaken_moves s).trans ((mapCopyBad_moves _).mono (by simp) (by simp))).frame
  · intro n r a k hn hr hk
    obtain ⟨h1, h2, h3, h4, h5⟩ := chkEcc_meets (ecc := a) hn hr hk
    have e : eccUncorrectable (.chk n a) s = chkEcc n a s := if_pos hn
    exact ⟨_, chkBytes s r k, (exec_ecc hoff _).trans (congrArg _ e), h1, chkBytes_length s r k, fun hs => chkBytes_store hs s k, h2, h3, h4, h5⟩
  · exact fun r n a hs => ⟨eccStop_reaches hs, eccStop_before⟩
  · intro e l a hb hw hq
    refine ⟨fun hop => ?_, fun n src at_ base L k hop hlen hn hrun hsrc hat hso hlong hk hkL => ?_⟩
    · obtain ⟨h1, h2⟩ := commandEcc_answers (a := a) hb hw hq hop
      exact ⟨_, exec_ecc hoff _, h1, h2⟩
    · have h := chkRun_meets (s := s) (idemp := false) hq hlen hn hrun hsrc hat hso hlong hk hkL _ rfl
      have e : eccUncorrectable (.command a) s = runBody 0x58 false e.rq (chkRunWith (some a) e.rq) s := commandEcc_chkRun hb hw hop
      exact ⟨_, (exec_ecc hoff _).trans (congrArg _ e), h⟩
  · intro b h
    obtain ⟨h1, h2, h3⟩ := eccCorrected_frame b h s
    refine ⟨_, exec_ecc hoff _, h1, ?_, ?_, h2, h3⟩
    · rintro x rfl
      exact eccCorrected_counts b x s
    · rintro rfl
      rfl
  · refine ⟨fun h hact hbad => ⟨fun hg => ?_, fun hg => ?_⟩, takeRole_keeps, fun u v hu hv => ?_, fun h hact hbad hg hj => ?_⟩
    · rw [takeRole_takes h hact hbad, if_pos hg]
    · have hr : takeRole a s = none := by rw [takeRole_takes h hact hbad, if_neg hg]
      obtain ⟨h1, h2, -⟩ := noHalf_leaves s
      refine ⟨_, (exec_takeover hoff ha ht).trans (congrArg _ (takeover_of_none hr)), ?_, h2⟩
      rw [h1]
    · have hv' : v = takenOver a u := hv
      have hj : v.cmd.journal = s.cmd.journal := by rw [hv', (takenOver_step a u).journal, takeRole_journal hu]
      refine ⟨hj, ?_⟩
      rw [exec_takeover hoff ha ht, takeover_of_role hu, ← hv', sweep_eq, hj]
      rfl
    · have hr : takeRole a s = some (changeActive (otherHalf a.half) s) := by rw [takeRole_takes h hact hbad, if_pos hg]
      exact ⟨_, exec_takeover hoff ha ht, takeover_empty hr hj _ rfl⟩
  · obtain ⟨h1, h2⟩ := lateSample_takes s
    exact ⟨h1, h2, (lateSample_step s).keeps.mono (by simp), (lateSample_step s).words⟩
  · rintro s a bc bp e t ht
    refine ⟨fun h => ?_, fun hu hc => ?_, fun hc hx => ?_, fun hc hx hi hq => ?_, fun hc hx hi hn => ?_, fun hc hx hi j hj => ?_⟩
    · rw [ht, sweepEntry_unused h]
    · rw [sweepEntry_bad hu hc] at ht
      by_cases hp : e.seq ∈ bp
      · obtain ⟨h1, h2, hj, ho, hn⟩ := badEntry_lost hp a s
        rw [← ht] at h1 h2 hj ho hn
        exact ⟨h1, hj, fun _ => ⟨h2, ho, hn⟩, fun h => absurd hp h⟩
      · obtain ⟨h1, h2, hj, ho⟩ := badEntry_answered hp a s
        rw [← ht] at h1 h2 hj ho
        exact ⟨h1, hj, fun h => absurd h hp, fun _ hq => ⟨ho hq, h2⟩⟩
    · rw [ht, sweepEntry_waiting hc hx]
    · rintro n rfl
      obtain ⟨p1, p2, p3, p4, p5⟩ := progressOf_cases s e
      exact ⟨p1, p2, p3, p4, p5, sweepEntry_drops hc hx hi hq a s t ht⟩
    · rw [ht, sweepEntry_classI hc hx hi, replayEntry_idle hn]
    · have hs := find_seq hj
      rw [sweepEntry_classI hc hx hi, replayEntry_flying hj] at ht
      refine ⟨fun hop hq => ?_, fun hop hq => ?_, fun hop => ?_, fun hop => ?_, fun hop hq hl h0 h1 h2 hb => ?_, fun hop hq hl hsel => ?_⟩
      · rw [if_pos hop] at ht
        rw [ht, ← hs]
        exact finishJob_replayed hq _ s
      · rw [if_neg (by omega), if_pos hop] at ht
        rw [ht, ← hs]
        exact replayPower_refuses j s
      · rw [if_neg (by omega), if_neg (by omega), if_pos hop] at ht
        exact ht
      · simp only [List.mem_cons, List.not_mem_nil, or_false, not_or] at hop
        obtain ⟨n1, n2, n3⟩ := hop
        rw [if_neg n1, if_neg n2, if_neg n3] at ht
        exact ⟨_, rfl, ht⟩
      · rw [if_neg (by omega), if_neg (by omega), if_neg (by omega)] at ht
        rw [ht]
        exact again_halfReset hop hq hl h0 h1 h2 hb
      · rw [if_neg (by omega), if_neg (by omega), if_neg (by omega)] at ht
        rw [ht]
        exact again_clkSwitch hop hq hl hsel

end Sys2Proof.Machine
end

section
/-! When a tick comes and which number it bears (R45, R46, R434); O32. -/

namespace Sys2Proof.Machine

/-! ### Ratios -/

theorem maxR_eq_max (a b : Rat) : maxR a b = max a b := by
  unfold maxR
  split
  · next h => exact (max_eq_right h.le).symm
  · next h => exact (max_eq_left (not_lt.1 h)).symm

theorem minR_eq_min (a b : Rat) : minR a b = min a b := by
  unfold minR
  split
  · next h => exact (min_eq_right h.le).symm
  · next h => exact (min_eq_left (not_lt.1 h)).symm

theorem absR_eq_abs (r : Rat) : absR r = |r| := by
  unfold absR
  split
  · next h => exact (abs_of_neg h).symm
  · next h => exact (abs_of_nonneg (not_lt.1 h)).symm

section instants

variable {s : State}

/-! ### The period (R40, R66) -/

theorem periodR_pos (rate : Nat) : 0 < periodR rate := by
  have h : 0 < rateHz rate := by
    unfold rateHz
    split <;> decide
  exact div_pos (by norm_num) (Nat.cast_pos.2 h)

theorem trim_ge (s : State) : -8388608 ≤ s.trim := by
  unfold State.trim signedOf
  split <;> omega

/-- The trim, held in 24 bits, cannot turn the period over. -/
theorem periodAct_pos (s : State) : 0 < s.periodAct := by
  have ht : (-8388608 : Rat) ≤ (s.trim : Rat) := by exact_mod_cast trim_ge s
  unfold State.periodAct
  split
  · exact periodR_pos 0
  · split
    · next h => exact Nat.cast_pos.2 (of_decide_eq_true (Bool.and_eq_true_iff.1 h).2)
    · exact mul_pos (periodR_pos _) (by linarith)

theorem periodLen_of_unplanned (h : s.tck.planned = none) :
    s.nextExact = s.tck.exact + s.periodAct ∧ s.periodLen = s.periodAct := by
  have hn : s.nextExact = s.tck.exact + s.periodAct := by rw [State.nextExact, h, Option.getD_none]
  exact ⟨hn, by rw [State.periodLen, hn, add_sub_cancel_left]⟩

/-! ### The correction (R46, R65) -/

theorem alignCorr_of_none (h : s.tck.corr = none) : alignCorr s = 0 := by rw [alignCorr, h]

theorem alignCorr_of_next {c : Rat} (h : s.tck.corr = some (1, c)) : alignCorr s = c := by simp only [alignCorr, h]

theorem alignCorr_of_later {n : Nat} {c : Rat} (h : s.tck.corr = some (n, c)) (hn : n ≠ 1) : alignCorr s = 0 := by
  rw [alignCorr, h]
  split
  · next e => cases e; exact absurd rfl hn
  · rfl

theorem tickCorr_eq (s : State) : tickCorr s = max (-(s.periodLen / 50)) (alignCorr s + s.tck.pull) := maxR_eq_max _ _

/-- Without a pull, a correction that shortens by 2 % at most is made as it is asked. -/
theorem tickCorr_of_asked {c : Rat} (ha : alignCorr s = c) (hp : s.tck.pull = 0) (hc : -(s.periodLen / 50) ≤ c) : tickCorr s = c := by
  rw [tickCorr_eq, ha, hp, add_zero, max_eq_right hc]

theorem tickCorr_of_unasked (ha : alignCorr s = 0) (hp : s.tck.pull = 0) (hl : 0 ≤ s.periodLen) : tickCorr s = 0 :=
  tickCorr_of_asked ha hp (by linarith)

/-! ### The instant and the number (R45, R46, R63, R68, R434) -/

theorem tickInstant_of_started (hs : s.tck.started = true) (ht : (s.time : Rat) ≤ s.nextExact + tickCorr s) :
    tickInstant s = s.nextExact + tickCorr s := by
  rw [tickInstant, if_pos hs, maxR_eq_max, max_eq_right ht]

theorem tickInstant_of_first (hs : s.tck.started = false) (ht : (s.time : Rat) ≤ firstTick s) : tickInstant s = firstTick s := by
  rw [tickInstant, hs, if_neg (by decide), maxR_eq_max, max_eq_right ht]

theorem tickNumber_of_started (hs : s.tck.started = true) (hf : s.tck.setFrame = none) : tickNumber s = (s.tck.frame + 1) % 2 ^ 32 := by
  simp [tickNumber, State.tickNo, hs, hf]

theorem tickNumber_of_first (hs : s.tck.started = false) (hf : s.tck.setFrame = none) : tickNumber s = s.tck.frame := by
  simp [tickNumber, hs, hf]

theorem tickNumber_of_named {x : SetFrame} (hf : s.tck.setFrame = some x) (hx : x.ticks = 1) : tickNumber s = x.f % 2 ^ 32 := by
  simp [tickNumber, State.tickNo, hf, hx]

end instants

/-- Settles O32, from the correction as a maximum and the number of the next tick. -/
theorem tickInstantsAndNumbers : Obligations.TickInstantsAndNumbers := fun s =>
  ⟨tickInstant_of_started, periodAct_pos s, by rw [tickCorr_eq]; exact le_max_left _ _, rfl, periodLen_of_unplanned,
    fun hl hc hp => tickCorr_of_unasked (alignCorr_of_none hc) hp hl, fun _ hc hp => tickCorr_of_asked (alignCorr_of_next hc) hp,
    fun _ _ hl hc hn hp => tickCorr_of_unasked (alignCorr_of_later hc hn) hp hl, tickInstant_of_first, fun h => if_pos h,
    fun h => if_neg h, tickNumber_of_started, tickNumber_of_first, fun _ => tickNumber_of_named⟩

end Sys2Proof.Machine
end

section
/-! TICK_IN: the edges that give lock, the pull of an edge, and what ends the lock (R47); O34. -/

namespace Sys2Proof.Machine

section tickIn

variable {s t : State}

/-- The period in force hangs on the clock, the trim, the set in force and the period measured. -/
theorem periodAct_of {w : List Nat} (hk : KeepsRegs w s t) (hc : 0xC050 ∉ w) (ht : 0x304C ∉ w) (ha : t.tck.act = s.tck.act)
    (h6 : t.tck.sixty = s.tck.sixty) (hm : t.tck.tickInPeriod = s.tck.tickInPeriod) : t.periodAct = s.periodAct := by
  have h1 : t.onFrc = s.onFrc := hk.fb (x := F.PWR_CLK_SEL) hc
  have h2 : t.trim = s.trim := congrArg (signedOf 24) (hk.f (x := F.TCK_TRIM_TRIM) ht)
  have h3 : ∀ x, t.a x = s.a x := fun x => by rw [State.a, ha, State.a]
  rw [State.periodAct, State.rate, h1, h2, h3, h3, h6, hm, State.periodAct, State.rate]

theorem abs_edgePull_le (s : State) : absR (edgePull s) ≤ s.periodAct / 50 := by
  have hp := periodAct_pos s
  rw [absR_eq_abs, edgePull, maxR_eq_max, minR_eq_min]
  exact abs_le.2 ⟨le_max_left _ _, max_le (by linarith) (min_le_left _ _)⟩

/-! ### The loss of the lock -/

theorem tickInLost_moves (reason : Nat) (s : State) : Moves [.event] [.tck] [0x3008] s (tickInLost reason s) := by
  have h : Moves [.event] [.tck] [0x3008] s { s with tck.tickInRun := 0, tck.pull := 0 } := (Moves.refl _ _ _ s).tck (by decide)
  exact .ite (((h.setB _ (by decide)).setB _ (by decide)).raise (by decide) _ _) h

theorem tickInLost_tck (reason : Nat) (s : State) : (tickInLost reason s).tck = { s.tck with tickInRun := 0, pull := 0 } := by
  unfold tickInLost
  simp only []
  split
  · exact raise_tck _ _ _
  · rfl

theorem tickInLost_locked (reason : Nat) (h : s.fb F.TCK_STATUS_LOCKED = true) :
    tickInLost reason s = ((({ s with tck.tickInRun := 0, tck.pull := 0 } : State).setB F.TCK_STATUS_LOCKED false).setB
      F.TCK_STATUS_TICK_UNLOCK true).raise 0x32 (q4 reason) := if_pos h

theorem tickInLost_unlocks (reason : Nat) (s : State) : (tickInLost reason s).fb F.TCK_STATUS_LOCKED = false := by
  cases h : s.fb F.TCK_STATUS_LOCKED with
  | true =>
    rw [tickInLost_locked reason h, raise_fb _ _ _ (by decide), fb_setB_other _ _ (by decide) (by decide) (by decide),
      fb_setB_same _ _ (by decide)]
  | false => rwa [tickInLost, if_neg (by simp [h])]

theorem tickInLost_tells (reason : Nat) (h : s.fb F.TCK_STATUS_LOCKED = true) :
    (tickInLost reason s).fb F.TCK_STATUS_TICK_UNLOCK = true := by
  rw [tickInLost_locked reason h, raise_fb _ _ _ (by decide), fb_setB_same _ _ (by decide)]

/-! ### An edge -/

/-- Four edges in a row lie within the range, and the tick came 40 ns ± 10 ns after the edge before. -/
def edgesAgree (prev : Nat) (s : State) : Bool := decide (4 ≤ s.tck.tickInRun) && inRange s.tck.tickTime (prev + 3) (prev + 5)

theorem tickInLock_moves (prev : Nat) (s : State) : Moves [.event] [] [0x3008] s (tickInLock prev s) :=
  .ite (((Moves.refl _ _ _ s).setB _ (by decide)).raise (by decide) _ _) (Moves.refl _ _ _ s)

theorem tickInLock_tck (prev : Nat) (s : State) : (tickInLock prev s).tck = s.tck := (tickInLock_moves prev s).keeps .tck (by decide)

theorem tickInLock_locks (prev : Nat) (s : State) :
    (tickInLock prev s).fb F.TCK_STATUS_LOCKED = (s.fb F.TCK_STATUS_LOCKED || edgesAgree prev s) := by
  unfold tickInLock
  rw [Bool.and_assoc]
  change (if (!_ && edgesAgree prev s) = true then _ else s).fb _ = _
  split
  · next h =>
    rw [raise_fb _ _ _ (by decide), fb_setB_same _ _ (by decide), (Bool.and_eq_true_iff.1 h).2, Bool.or_true]
  · next h => cases h1 : s.fb F.TCK_STATUS_LOCKED <;> simp_all

/-- The state with an edge taken that ends an interval within the range. -/
def edgeTaken (prev : Nat) (s : State) : State :=
  let u := { s with tck.tickInEdge := some s.time, tck.tickInRun := s.tck.tickInRun + 1, tck.tickInPeriod := s.time - prev }
  { u with tck.pull := edgePull u }

variable (hf : s.onFrc = false) (hs : s.a F.TCK_CTRL_SRC = 1) (hr : s.tck.running = true)
include hf hs hr

theorem tickIn_counts : (s.onFrc || !(s.a F.TCK_CTRL_SRC == 1) || !s.tck.running) = false := by simp [hf, hs, hr]

theorem tickInEdge_first (he : s.tck.tickInEdge = none) :
    tickInEdge s = { s with tck.tickInEdge := some s.time, tck.tickInRun := 1 } := by
  simp only [tickInEdge, tickIn_counts hf hs hr, he, Bool.false_eq_true, if_false]

theorem tickInEdge_inside {prev : Nat} (he : s.tck.tickInEdge = some prev) (hi : inLockRange s (s.time - prev) = true) :
    tickInEdge s = tickInLock prev (edgeTaken prev s) := by
  simp only [tickInEdge, tickIn_counts hf hs hr, he, hi, Bool.false_eq_true, if_false, if_true, edgeTaken]

theorem tickInEdge_outside {prev : Nat} (he : s.tck.tickInEdge = some prev) (hi : inLockRange s (s.time - prev) = false) :
    tickInEdge s = { tickInLost 1 { s with tck.tickInEdge := some s.time } with tck.tickInRun := 1 } := by
  simp only [tickInEdge, tickIn_counts hf hs hr, he, hi, Bool.false_eq_true, if_false]

theorem tickInTimeout_eq : tickInTimeout s = tickInLost 0 { s with
    time := max s.time (s.tck.tickInEdge.getD s.time + (periodR (s.a F.TCK_CTRL_RATE) * (5 / 4)).floor.toNat)
    tck.tickInEdge := none } := by
  simp only [tickInTimeout, tickIn_counts hf hs hr, Bool.false_eq_true, if_false]

end tickIn

/-- Settles O34, from the edge that is taken, the gain of the lock and its loss. -/
theorem tickInLocksAndHoldsOver : Obligations.TickInLocksAndHoldsOver := by
  intro s hf hs hr
  refine ⟨fun he => congrArg Host.Outcome.next (tickInEdge_first hf hs hr he), fun prev he hi => ?_, fun prev he hi => ?_, ?_⟩
  · have ht := tickInLock_tck prev (edgeTaken prev s)
    have hl := tickInLock_locks prev (edgeTaken prev s)
    have hm := tickInLock_moves prev (edgeTaken prev s)
    have hp : (tickInLock prev (edgeTaken prev s)).periodAct = (edgeTaken prev s).periodAct :=
      periodAct_of hm.regs (by decide) (by decide) (by rw [ht]) (by rw [ht]) (by rw [ht])
    have h0 : Moves [.event] [.tck] [0x3008] s (edgeTaken prev s) := (Moves.refl _ _ _ s).tck (by decide)
    refine ⟨_, congrArg Host.Outcome.next (tickInEdge_inside hf hs hr he hi), by rw [ht]; rfl, by rw [ht]; rfl, by rw [ht]; rfl, ?_,
      fun h => ?_, fun h1 h2 => ?_, (h0.andThen hm (by decide) (by decide)).frame⟩
    · rw [ht, hp]
      exact abs_edgePull_le _
    · rw [hl, Bool.or_eq_true]
      refine h.imp id fun ⟨h3, h4⟩ => ?_
      exact Bool.and_eq_true_iff.2 ⟨decide_eq_true (Nat.succ_le_succ h3), h4⟩
    · have h4 : ¬ 4 ≤ (edgeTaken prev s).tck.tickInRun := fun h => absurd (Nat.le_of_succ_le_succ h) (by omega)
      rw [hl, edgesAgree, decide_eq_false h4, Bool.false_and, Bool.or_false]
      exact h1
  · have h0 : Moves [.event] [.tck] [0x3008] s { s with tck.tickInEdge := some s.time } := (Moves.refl _ _ _ s).tck (by decide)
    refine ⟨_, congrArg Host.Outcome.next (tickInEdge_outside hf hs hr he hi), ?_, rfl, ?_, tickInLost_unlocks 1 _,
      fun h => tickInLost_tells 1 h, ((h0.trans (tickInLost_moves 1 _)).tck (by decide)).frame⟩
    · exact congrArg TckSt.tickInEdge (tickInLost_tck 1 _)
    · exact congrArg TckSt.pull (tickInLost_tck 1 _)
  · have h0 : ∀ n, Moves [.event] [.time, .tck] [0x3008] s { s with time := n, tck.tickInEdge := none } := fun n =>
      ((Moves.refl _ _ _ s).time (by decide)).tck (t := { s with time := n }) (by decide)
    refine ⟨_, congrArg Host.Outcome.next (tickInTimeout_eq hf hs hr), ?_, ?_, ?_, tickInLost_unlocks 0 _,
      fun h => tickInLost_tells 0 h, fun e he => ?_, ((h0 _).andThen (tickInLost_moves 0 _) (by decide) (by decide)).frame⟩
    · exact congrArg TckSt.tickInEdge (tickInLost_tck 0 _)
    · exact congrArg TckSt.tickInRun (tickInLost_tck 0 _)
    · exact congrArg TckSt.pull (tickInLost_tck 0 _)
    · rw [(tickInLost_moves 0 _).keeps .time (by decide), he, Option.getD_some]

end Sys2Proof.Machine
end

section
/-! FRAME_SET and the end of ALIGNED (R66, R74); O11. -/

namespace Sys2Proof.Machine

section settings

variable {op : Nat} {rq : Req} {body : State → State × Reply} {s t : State} {st : Nat} {fin : List Byte} {parts : List Part}
  {words : List Nat}

/-- A command whose body writes the listed words, moves the listed parts and ends with the one reply: beside the front end and the words
of the reply, what stands is what the body left. -/
theorem exec_final {c : Instr} (hr : Runs op rq s) (hc : exec c s = .next (command op rq body s)) (hn : noRow op = none)
    (hb : body (startCommand op (!reqClassN op rq) rq s) = (t, .final st fin))
    (hk : Keeps (.regs :: parts) (startCommand op (!reqClassN op rq) rq s) t) (hx : Part.cmd ∉ parts)
    (hw : KeepsRegs words (startCommand op (!reqClassN op rq) rq s) t) :
    ∃ v, exec c s = .next v ∧ Answers op rq st fin s v ∧ CmdFrame parts words s v ∧ Keeps [.cmd, .regs] t v ∧ KeepsRegs replyRegs t v := by
  have ho : t.cmd = (startCommand op (!reqClassN op rq) rq s).cmd := hk .cmd (by simpa using hx)
  have hw' : KeepsRegs (replyRegs ++ words) s t := hw.right replyRegs
  obtain ⟨ha, hf, -⟩ := runBody_answers hr.2 hb
    ((startCommand_keeps (.regs :: parts) _ _ _ s).trans (hk.mono (by simp))) hw' ⟨[], by simp [ho]⟩
  obtain ⟨h1, h2, -⟩ := runBody_final hr.2 hb
  exact ⟨_, by rw [hc, command_eq hr hn], ha, hf, h1, h2⟩

/-- A change of the tick part alone. -/
theorem tck_keeps (s : State) (k : TckSt) : Keeps [.tck] s { s with tck := k } := by
  intro p hp
  cases p <;> first | rfl | exact absurd (by decide) hp

/-! ### A pending item (R51) -/

theorem writeItem_eq {a : Nat} {r : RegRow} (h : regRow a = some r) (v : Nat) (s : State) :
    writeItem a v s = markDirty a (s.setReg a (writeValue r (s.reg a) (BitVec.ofNat 32 v))) := by
  simp only [writeItem, h]

theorem writeItem_keeps (a v : Nat) (s : State) : Keeps [.regs, .tck] s (writeItem a v s) := by
  cases h : regRow a with
  | none => simp only [writeItem, h, Keeps.refl]
  | some r =>
    rw [writeItem_eq h]
    exact (setReg_keeps [.tck] s a _).trans (markDirty_keeps a _)

theorem writeItem_keepsRegs (a v : Nat) (s : State) : KeepsRegs [a] s (writeItem a v s) := by
  cases h : regRow a with
  | none => simp only [writeItem, h, KeepsRegs.refl]
  | some r =>
    rw [writeItem_eq h]
    exact setReg_keepsRegs s _ (by simp)

theorem writeItem_act (a v : Nat) (s : State) : (writeItem a v s).tck.act = s.tck.act := by
  unfold writeItem
  split <;> rfl

theorem mem_setInsert_iff (a n : Nat) (l : List Nat) : a ∈ setInsert n l ↔ a = n ∨ a ∈ l := by
  induction l with
  | nil => simp [setInsert]
  | cons m l ih =>
    unfold setInsert
    split
    · simp
    · split
      · next h => simp [h]
      · simp only [List.mem_cons, ih]
        exact or_left_comm

theorem writeItem_dirty {a : Nat} {r : RegRow} (h : regRow a = some r) (v : Nat) (s : State) (b : Nat) :
    b ∈ (writeItem a v s).tck.dirty ↔ b = a ∨ b ∈ s.tck.dirty := by
  rw [writeItem_eq h]
  exact mem_setInsert_iff b a _

/-- A field of RW bits reads as the bits of the item written. -/
theorem f_writeItem {x : Fld} {r : RegRow} (h : regRow x.addr = some r) (v : Nat) (s : State) (hv : v < 2 ^ 32) (hx : x.hi < 32)
    (hw : r.w1c = 0) (hm : ∀ i ≤ x.hi, x.lo ≤ i → (BitVec.ofNat 32 (r.rw ||| r.rwl)).getLsbD i = true) :
    (writeItem x.addr v s).f x = bitsOf v x.hi x.lo := by
  have e : (writeItem x.addr v s).reg x.addr = writeValue r (s.reg x.addr) (BitVec.ofNat 32 v) := by
    rw [writeItem_eq h]
    exact reg_setReg_same s _ _
  rw [State.f, e, fieldOf_writeValue _ _ hx hw hm, BitVec.toNat_ofNat, Nat.mod_eq_of_lt hv]

/-! ### FRAME_SET (R74) -/

theorem regRow_tckCtrl : regRow 0x3000 = some ⟨0x3000, 0, 0x137, 0, 0, 0, 0, true⟩ := by decide +kernel

theorem regRow_tckCutoff : regRow 0x3004 = some ⟨0x3004, 0x1E0, 0x1FF, 0, 0, 0, 0, true⟩ := by decide +kernel

theorem bitsOf_lt (w hi lo : Nat) : bitsOf w hi lo < 2 ^ (hi + 1 - lo) := Nat.mod_lt _ (Nat.two_pow_pos _)

/-- The fields of TCK_CTRL stand apart in the word that FRAME_SET builds. -/
theorem frameCtrl_fields (pl : List Byte) : frameCtrl pl < 2 ^ 32 ∧ bitsOf (frameCtrl pl) 2 0 = bitsOf (u8 pl 0) 2 0 ∧
    bitsOf (frameCtrl pl) 5 4 = bitsOf (u8 pl 1) 1 0 := by
  have h1 : bitsOf (u8 pl 0) 2 0 < 8 := bitsOf_lt _ 2 0
  have h2 : bitsOf (u8 pl 1) 1 0 < 4 := bitsOf_lt _ 1 0
  have h3 : bitsOf (u8 pl 4) 0 0 < 2 := bitsOf_lt _ 0 0
  have hw : frameCtrl pl = bitsOf (u8 pl 0) 2 0 + 16 * bitsOf (u8 pl 1) 1 0 + 256 * bitsOf (u8 pl 4) 0 0 := rfl
  generalize bitsOf (u8 pl 0) 2 0 = a at *
  generalize bitsOf (u8 pl 1) 1 0 = b at *
  have e0 : bitsOf (frameCtrl pl) 2 0 = frameCtrl pl % 8 := rfl
  have e4 : bitsOf (frameCtrl pl) 5 4 = frameCtrl pl / 16 % 4 := congrArg (· % 4) (Nat.shiftRight_eq_div_pow _ 4)
  omega

/-- What a FRAME_SET leaves: its two items, pending. -/
def frameWritten (pl : List Byte) (s : State) : State :=
  writeItem 0x3004 (bitsOf (u16 pl 2) 8 0) (writeItem 0x3000 (frameCtrl pl) s)

theorem frameSetBody_legal (hl : rq.payload.length = 8) (h1 : rangesOk 0x3000 (frameCtrl rq.payload) = true)
    (h2 : rangesOk 0x3004 (bitsOf (u16 rq.payload 2) 8 0) = true) (s : State) :
    frameSetBody rq s = (frameWritten rq.payload s, .final St.ok []) := by
  simp only [frameSetBody, withLen, len, hl, beq_self_eq_true, if_true, h1, h2, Bool.and_self, plainOk, okReply, frameWritten]

theorem frameWritten_fields (pl : List Byte) (s : State) :
    (frameWritten pl s).f F.TCK_CTRL_RATE = bitsOf (u8 pl 0) 2 0 ∧ (frameWritten pl s).f F.TCK_CTRL_SRC = bitsOf (u8 pl 1) 1 0 ∧
      (frameWritten pl s).f F.TCK_CUTOFF_ROW = bitsOf (u16 pl 2) 8 0 := by
  obtain ⟨hlt, hrate, hsrc⟩ := frameCtrl_fields pl
  have hk := writeItem_keepsRegs 0x3004 (bitsOf (u16 pl 2) 8 0) (writeItem 0x3000 (frameCtrl pl) s)
  have hrow : bitsOf (u16 pl 2) 8 0 < 512 := bitsOf_lt _ 8 0
  refine ⟨?_, ?_, ?_⟩
  · exact (hk.f (x := F.TCK_CTRL_RATE) (by decide)).trans
      ((f_writeItem (x := F.TCK_CTRL_RATE) regRow_tckCtrl _ s hlt (by decide) rfl (by decide)).trans hrate)
  · exact (hk.f (x := F.TCK_CTRL_SRC) (by decide)).trans
      ((f_writeItem (x := F.TCK_CTRL_SRC) regRow_tckCtrl _ s hlt (by decide) rfl (by decide)).trans hsrc)
  · refine (f_writeItem (x := F.TCK_CUTOFF_ROW) regRow_tckCutoff _ _ (by omega) (by decide) rfl (by decide)).trans ?_
    exact Nat.mod_eq_of_lt hrow

theorem frameWritten_keeps (pl : List Byte) (s : State) : Keeps [.regs, .tck] s (frameWritten pl s) :=
  (writeItem_keeps _ _ s).trans (writeItem_keeps _ _ _)

theorem frameWritten_keepsRegs (pl : List Byte) (s : State) : KeepsRegs [0x3000, 0x3004] s (frameWritten pl s) :=
  ((writeItem_keepsRegs _ _ s).mono (by simp)).trans ((writeItem_keepsRegs _ _ _).mono (by simp))

theorem frameWritten_pending (pl : List Byte) (s : State) :
    0x3000 ∈ (frameWritten pl s).tck.dirty ∧ 0x3004 ∈ (frameWritten pl s).tck.dirty ∧ (frameWritten pl s).tck.act = s.tck.act :=
  ⟨(writeItem_dirty regRow_tckCutoff _ _ _).2 (.inr ((writeItem_dirty regRow_tckCtrl _ _ _).2 (.inl rfl))),
    (writeItem_dirty regRow_tckCutoff _ _ _).2 (.inl rfl), (writeItem_act _ _ _).trans (writeItem_act _ _ s)⟩

/-! ### ALIGN_TIMEOUT (R66) -/

theorem alignTimeout_eq {t0 : Nat} (h : s.tck.alignTime = some t0) : alignTimeout s =
    ({ s with time := max s.time (t0 + 10000001), tck.alignRun := 0 } : State).setB F.TCK_STATUS_ALIGNED false := by
  simp only [alignTimeout, h]

end settings

/-- Settles O11, from the two items of FRAME_SET. -/
theorem frameSettingsAndAlignment : Obligations.FrameSettingsAndAlignment := by
  intro rq s
  refine ⟨fun hr hl h1 h2 => ?_, fun t0 h => ?_⟩
  · obtain ⟨t, he, ha, hf, hk, hw⟩ := exec_final (c := .frameSet rq) (parts := [.tck]) hr rfl (by decide)
      (frameSetBody_legal hl h1 h2 _) (frameWritten_keeps _ _) (by decide) (frameWritten_keepsRegs _ _)
    obtain ⟨f1, f2, f3⟩ := frameWritten_fields rq.payload (startCommand 0x12 (!reqClassN 0x12 rq) rq s)
    have ht : t.tck = _ := hk .tck (by decide)
    obtain ⟨d1, d2, d3⟩ := frameWritten_pending rq.payload (startCommand 0x12 (!reqClassN 0x12 rq) rq s)
    rw [← ht] at d1 d2 d3
    exact ⟨t, he, ha, (hw.f (by decide)).trans f1, (hw.f (by decide)).trans f2, (hw.f (by decide)).trans f3, d1, d2, d3, hf⟩
  · have h0 : Keeps [.regs, .tck, .time] s { s with time := max s.time (t0 + 10000001), tck.alignRun := 0 } := fun q hq => by
      cases q <;> first | rfl | exact absurd (by decide) hq
    exact ⟨_, congrArg Host.Outcome.next (alignTimeout_eq h), fb_setB_same _ _ (by decide), rfl, rfl,
      h0.trans (setB_keeps [.tck, .time] _ _ _), setB_keepsRegs _ _ (by decide)⟩

end Sys2Proof.Machine
end

section
/-! COMMIT: the set its row gives, the items it samples, those of refused layers (R53, R55, R62, R72, R143); O8 and O9. -/

namespace Sys2Proof.Machine

section commit

variable {rq : Req} {s t : State}

/-! ### What is sampled (R55, R126, R143) -/

/-- The word a pending item is sampled with: LYR_CTRL keeps the enables of refused layers. -/
def sampledWord (s : State) (n a : Nat) : Word := if a = 0x4000 then ctrlSampled s (setAt s n) (refusedLayers s) else s.reg a

/-- Does the item belong to no refused layer? -/
def layerFree (refused : List Nat) : Option Nat → Bool
  | some l => !refused.contains l
  | none => true

theorem layerFree_iff (r : List Nat) (o : Option Nat) : layerFree r o = true ↔ ∀ l, o = some l → l ∉ r := by
  cases o <;> simp [layerFree]

theorem checkSet_items (s : State) (n : Nat) : (checkSet s n).items =
    (s.tck.dirty.filter (fun a => layerFree (refusedLayers s) (layerOfItem a))).map (fun a => (a, sampledWord s n a)) := rfl

/-- An item is sampled, unless it belongs to a refused layer. -/
theorem mem_checkSet_items {n : Nat} {e : Nat × Word} : e ∈ (checkSet s n).items ↔
    e.1 ∈ s.tck.dirty ∧ (∀ l, layerOfItem e.1 = some l → l ∉ refusedLayers s) ∧ e.2 = sampledWord s n e.1 := by
  simp only [checkSet_items, List.mem_map, List.mem_filter, layerFree_iff]
  constructor
  · rintro ⟨a, ⟨hd, hl⟩, rfl⟩
    exact ⟨hd, hl, rfl⟩
  · rintro ⟨hd, hl, hw⟩
    exact ⟨e.1, ⟨hd, hl⟩, Prod.ext rfl hw.symm⟩

/-- With no layer refused every pending item is sampled, as its register stands. -/
theorem checkSet_items_of_accepted (h : refusedLayers s = []) (n : Nat) :
    (checkSet s n).items = s.tck.dirty.map (fun a => (a, s.reg a)) := by
  have hw : ∀ a, sampledWord s n a = s.reg a := fun a => by
    unfold sampledWord
    split
    · next e => rw [h, e]; rfl
    · rfl
  rw [checkSet_items, List.filter_eq_self.2 fun a _ => (layerFree_iff _ _).2 fun l _ => by rw [h]; exact List.not_mem_nil]
  simp only [hw]

/-- An item of a layer stays pending where the layer is refused. -/
theorem mem_keptDirty_of_layer {a l : Nat} {r d : List Nat} (h : layerOfItem a = some l) : a ∈ keptDirty r d ↔ a ∈ d ∧ l ∈ r := by
  simp [keptDirty, h]

/-- Of the other items only LYR_CTRL may stay pending. -/
theorem notMem_keptDirty {a : Nat} {r d : List Nat} (h : layerOfItem a = none) (ha : a ≠ 0x4000) : a ∉ keptDirty r d := by
  simp [keptDirty, h, ha]

theorem keptDirty_of_accepted (d : List Nat) : keptDirty [] d = [] := by
  refine List.filter_eq_nil_iff.2 fun a _ => ?_
  split <;> simp

/-! ### The body of COMMIT -/

/-- The checker does not look at the front end. -/
theorem checkSet_startCommand (op : Nat) (i : Bool) (rq : Req) (s : State) (n : Nat) :
    checkSet (startCommand op i rq s) n = checkSet s n := by
  obtain ⟨c, hc, -⟩ := startCommand_eq op i rq s
  rw [hc]
  rfl

theorem refusedLayers_startCommand (op : Nat) (i : Bool) (rq : Req) (s : State) :
    refusedLayers (startCommand op i rq s) = refusedLayers s := by
  obtain ⟨c, hc, -⟩ := startCommand_eq op i rq s
  rw [hc]
  rfl

/-- The COMMIT is late: its row is the cut-off row or a later one. -/
def commitLate (s : State) : Bool := !decide (s.tck.row < s.cutoff)

/-- The tick of its set, counted from now. -/
def commitTicks (s : State) : Nat := if commitLate s then 2 else 1

/-- COMMIT_LATE and its count. -/
def noteLate (late : Bool) (s : State) : State :=
  if late then (s.setB F.TCK_STATUS_COMMIT_LATE true).bump F.TCK_LATE_CNT_COMMIT_LATE_CNT else s

/-- What a COMMIT leaves that is not BUSY. -/
def committed (rq : Req) (s : State) : State :=
  noteLate (commitLate s) (sampleSet (commitTicks s) (bitsOf rq.arg 15 0) false s)

def commitStatus (s : State) : Nat :=
  if !(refusedLayers s).isEmpty then St.range else if commitLate s then St.late else St.ok

/-- Its reply from byte 1 on (R72). -/
def commitReply (s : State) : List Byte :=
  bytesLE 1 (b2n (commitLate s) + 2 * b2n (!(checkSet s (commitTicks s)).reduced.isEmpty) + 4 * b2n (!(refusedLayers s).isEmpty)) ++
    bytesLE 2 s.tck.row ++ bytesLE 4 (s.tickNo (commitTicks s)) ++ bytesLE 4 (s.tickNo (commitTicks s) + 1) ++
    bytesLE 1 (layerMask (refusedLayers s)) ++ bytesLE 1 (layerMask (checkSet s (commitTicks s)).reduced) ++ [0, 0]

theorem commitBody_busy (hl : rq.payload = []) (h : s.tck.herd.isSome = true) : commitBody rq s = (s, .final St.busy []) := by
  simp only [commitBody, withLen, len, hl, List.length_nil, beq_self_eq_true, if_true, h, refuse]

theorem commitBody_samples (hl : rq.payload = []) (h : s.tck.herd = none) :
    commitBody rq s = (committed rq s, .final (commitStatus s) (commitReply s)) := by
  simp only [commitBody, withLen, len, hl, List.length_nil, beq_self_eq_true, if_true, h, Option.isSome_none, Bool.false_eq_true,
    if_false]
  rfl

theorem noteLate_keeps (late : Bool) (s : State) : Keeps [.regs] s (noteLate late s) := by
  cases late with
  | true => exact (setB_keeps [] s _ _).trans (bump_keeps [] _ _)
  | false => exact Keeps.refl _ s

/-- The words of a COMMIT that is late. -/
abbrev lateWords (late : Bool) : List Nat :=
  if late then [F.TCK_STATUS_COMMIT_LATE.addr, F.TCK_LATE_CNT_COMMIT_LATE_CNT.addr] else []

theorem noteLate_keepsRegs (late : Bool) (s : State) :
    KeepsRegs (lateWords late) s (noteLate late s) := by
  cases late with
  | true => exact (setB_keepsRegs s _ (by decide)).trans (bump_keepsRegs _ (by decide))
  | false => exact KeepsRegs.refl _ s

theorem noteLate_counts (s : State) : (noteLate true s).fb F.TCK_STATUS_COMMIT_LATE = true ∧
    (noteLate true s).f F.TCK_LATE_CNT_COMMIT_LATE_CNT =
      satAdd F.TCK_LATE_CNT_COMMIT_LATE_CNT.top (s.f F.TCK_LATE_CNT_COMMIT_LATE_CNT) 1 := by
  simp only [noteLate, if_true]
  refine ⟨?_, ?_⟩
  · rw [State.fb, f_bump_other _ (by decide) (by decide) (by decide)]
    exact fb_setB_same s true (by decide)
  · rw [f_bump_same _ (by decide), f_setB_other _ _ (by decide) (by decide) (by decide)]

theorem committed_keeps (rq : Req) (s : State) : Keeps [.regs, .tck] s (committed rq s) := by
  have h : Keeps [.regs, .tck] s (sampleSet (commitTicks s) (bitsOf rq.arg 15 0) false s) :=
    (tck_keeps s _).mono (by decide)
  exact h.trans ((noteLate_keeps _ _).mono (by simp))

theorem committed_tck (rq : Req) (s : State) :
    (committed rq s).tck = (sampleSet (commitTicks s) (bitsOf rq.arg 15 0) false s).tck := noteLate_keeps _ _ .tck (by decide)

theorem commitTicks_startCommand (op : Nat) (i : Bool) (rq : Req) (s : State) :
    commitTicks (startCommand op i rq s) = commitTicks s := rfl

theorem sampleSet_tck_startCommand (op : Nat) (i : Bool) (rq : Req) (s : State) (n id : Nat) (herd : Bool) :
    (sampleSet n id herd (startCommand op i rq s)).tck = (sampleSet n id herd s).tck := by
  simp only [sampleSet, checkSet_startCommand, startCommand_tck]
  rfl

theorem commitStatus_startCommand (op : Nat) (i : Bool) (rq : Req) (s : State) :
    commitStatus (startCommand op i rq s) = commitStatus s := by
  simp only [commitStatus, refusedLayers_startCommand]
  rfl

theorem commitReply_startCommand (op : Nat) (i : Bool) (rq : Req) (s : State) :
    commitReply (startCommand op i rq s) = commitReply s := by
  simp only [commitReply, refusedLayers_startCommand, checkSet_startCommand, commitTicks_startCommand, startCommand_tck]
  rfl

/-- A COMMIT that runs with no HERD target pending: its reply, its set, and what stays pending. -/
theorem exec_commit (hr : Runs 0x10 rq s) (hl : rq.payload = []) (hh : s.tck.herd = none) :
    ∃ t, exec (.commit rq) s = .next t ∧ t.tck = (sampleSet (commitTicks s) (bitsOf rq.arg 15 0) false s).tck ∧
      Answers 0x10 rq (commitStatus s) (commitReply s) s t ∧
      (commitLate s = true → t.fb F.TCK_STATUS_COMMIT_LATE = true ∧
        t.f F.TCK_LATE_CNT_COMMIT_LATE_CNT = satAdd F.TCK_LATE_CNT_COMMIT_LATE_CNT.top (s.f F.TCK_LATE_CNT_COMMIT_LATE_CNT) 1) ∧
      CmdFrame [.tck] (lateWords (commitLate s)) s t := by
  generalize hu : startCommand 0x10 (!reqClassN 0x10 rq) rq s = u
  have hlate : commitLate u = commitLate s := by rw [← hu]; rfl
  have hbody : commitBody rq u = (committed rq u, .final (commitStatus s) (commitReply s)) := by
    rw [commitBody_samples hl (by rw [← hu]; exact hh), ← hu, commitStatus_startCommand, commitReply_startCommand]
  have hwords : KeepsRegs (lateWords (commitLate s)) u (committed rq u) := hlate ▸ noteLate_keepsRegs _ _
  obtain ⟨t, he, ha, hf, hk, hw⟩ := exec_final (c := .commit rq) (parts := [.tck]) hr rfl (by decide) (hu ▸ hbody)
    (hu ▸ committed_keeps rq u) (by decide) (hu ▸ hwords)
  rw [hu] at hk hw
  refine ⟨t, he, ?_, ha, fun h => ?_, hf⟩
  · rw [hk .tck (by decide), committed_tck, ← hu, commitTicks_startCommand]
    exact sampleSet_tck_startCommand _ _ _ _ _ _ _
  · have hc : committed rq u = noteLate true (sampleSet (commitTicks u) (bitsOf rq.arg 15 0) false u) := by
      rw [committed, hlate, h]
    have hreg : (sampleSet (commitTicks u) (bitsOf rq.arg 15 0) false u).regs = s.regs := by rw [← hu]; rfl
    obtain ⟨h1, h2⟩ := noteLate_counts (sampleSet (commitTicks u) (bitsOf rq.arg 15 0) false u)
    rw [hc] at hw
    exact ⟨(hw.fb (by decide)).trans h1, (hw.f (by decide)).trans (h2.trans (by rw [f_of_regs hreg]))⟩

end commit

/-- Settles O8: with no layer refused the sample takes every pending item. -/
theorem commitJoinsTheSetOfItsRow : Obligations.CommitJoinsTheSetOfItsRow := by
  rintro rq s hr hl hh hn n late rfl rfl tabs reduced rfl rfl
  obtain ⟨t, he, ht, ha, hlate, hf⟩ := exec_commit hr hl hh
  refine ⟨t, he, ?_, ?_, ?_, ?_, hlate, hf⟩
  · rw [ht, ← checkSet_items_of_accepted hn]
    rfl
  · rw [ht]
    change keptDirty (refusedLayers s) s.tck.dirty = []
    rw [hn, keptDirty_of_accepted]
  · rw [ht]
    change s.tck.dirtyTabs.filter (fun k => decide (k < 4) && (refusedLayers s).contains (k / 2)) = []
    simp [hn]
  · rw [commitStatus, commitReply, hn] at ha
    exact ha

/-- Settles O9: what a refused layer holds stays out of the sample, and only that stays pending. -/
theorem commitIsBusyOrKeepsRefusedLayers : Obligations.CommitIsBusyOrKeepsRefusedLayers := by
  intro rq s hr hl
  refine ⟨fun hh => ?_, ?_⟩
  · obtain ⟨t, he, ha, hf, -⟩ := exec_final (c := .commit rq) (parts := []) (words := []) hr rfl (by decide)
      (commitBody_busy (s := startCommand 0x10 (!reqClassN 0x10 rq) rq s) hl hh) (Keeps.refl _ _) (by decide) (KeepsRegs.refl _ _)
    exact ⟨t, he, ha, hf⟩
  · rintro hh hn n late rfl rfl
    obtain ⟨t, he, ht, ha, -, hf⟩ := exec_commit hr hl hh
    have hd : t.tck.dirty = keptDirty (refusedLayers s) s.tck.dirty := congrArg TckSt.dirty ht
    refine ⟨t, _, he, congrArg TckSt.sets ht, rfl, rfl, fun e hm => (mem_checkSet_items.1 hm).2.1, fun a hm l h => ?_,
      fun a hm h h0 => ⟨mem_checkSet_items.2 ⟨hm, fun l hs => absurd (h.symm.trans hs) (by simp), ?_⟩, ?_⟩, ?_, hf.1, hf.2.mono ?_⟩
    · rw [hd, mem_keptDirty_of_layer h, and_iff_right hm]
    · exact (if_neg h0).symm
    · rw [hd]
      exact notMem_keptDirty h h0
    · have hne : (!(refusedLayers s).isEmpty) = true := by simpa using hn
      simp only [commitStatus, commitReply, hne, if_true] at ha
      exact ha
    · cases commitLate s <;> decide

end Sys2Proof.Machine
end

section
/-! A layer's fade and the sample at the cut-off row (R61, R145, R178); O33. -/

namespace Sys2Proof.Machine

section layers

variable {s t : State} {n : Nat}

theorem vLayer_putLayer (h : n < 2) (l : VLayer) (m : Nat) (s : State) :
    (putLayer n l s).vLayer m = if n = m then l else s.vLayer m := by
  simp only [State.vLayer, putLayer, vnth_vset, h, and_true]

/-! ### LAYER_MISS_LIMIT -/

/-- The misses of a waiting layer have reached its limit. -/
abbrev limitReached (n : Nat) (l : VLayer) : Prop :=
  l.waiting = true ∧ l.fade = none ∧ max 1 (l.a n F.LYR_V0_CTRL_MISS_LIMIT) ≤ l.misses

/-- LAYER_MISS_LIMIT for one layer. -/
def missLimitOne (t : State) (n : Nat) : State :=
  let l := t.vLayer n
  if l.waiting && l.fade.isNone && decide (max 1 (l.a n F.LYR_V0_CTRL_MISS_LIMIT) ≤ l.misses) then putLayer n { l with fade := some 0 } t
  else t

theorem layerMissLimit_eq (s : State) : layerMissLimit s = missLimitOne (missLimitOne s 0) 1 := rfl

theorem missLimitOne_of_reached (h : limitReached n (t.vLayer n)) :
    missLimitOne t n = putLayer n { t.vLayer n with fade := some 0 } t := by
  obtain ⟨h1, h2, h3⟩ := h
  simp only [missLimitOne, h1, h2, h3, Option.isNone_none, Bool.and_self, decide_true, if_true]

theorem missLimitOne_of_below (h : ¬ limitReached n (t.vLayer n)) : missLimitOne t n = t := by
  refine if_neg fun hc => h ?_
  simpa only [limitReached, Bool.and_eq_true, Option.isNone_iff_eq_none, decide_eq_true_eq, and_assoc] using hc

theorem missLimitOne_rest (t : State) (n : Nat) : Keeps [.lyr] t (missLimitOne t n) ∧
    (missLimitOne t n).lyr.bufs = t.lyr.bufs ∧ (missLimitOne t n).lyr.store = t.lyr.store := by
  by_cases h : limitReached n (t.vLayer n)
  · rw [missLimitOne_of_reached h]
    exact ⟨fun q hq => by cases q <;> first | rfl | exact absurd (by decide) hq, rfl, rfl⟩
  · rw [missLimitOne_of_below h]
    exact ⟨Keeps.refl _ t, rfl, rfl⟩

theorem missLimitOne_other (hn : n < 2) {m : Nat} (hm : n ≠ m) : (missLimitOne t n).vLayer m = t.vLayer m := by
  by_cases h : limitReached n (t.vLayer n)
  · rw [missLimitOne_of_reached h, vLayer_putLayer hn, if_neg hm]
  · rw [missLimitOne_of_below h]

theorem missLimitOne_same (hn : n < 2) : (missLimitOne t n).vLayer n =
    if limitReached n (t.vLayer n) then { t.vLayer n with fade := some 0 } else t.vLayer n := by
  split
  · next h => rw [missLimitOne_of_reached h, vLayer_putLayer hn, if_pos rfl]
  · next h => rw [missLimitOne_of_below h]

theorem layerMissLimit_layer (hn : n < 2) : (layerMissLimit s).vLayer n =
    if limitReached n (s.vLayer n) then { s.vLayer n with fade := some 0 } else s.vLayer n := by
  rw [layerMissLimit_eq]
  obtain rfl | rfl : n = 0 ∨ n = 1 := by omega
  · rw [missLimitOne_other (by decide) (by decide), missLimitOne_same (by decide)]
  · rw [missLimitOne_same (by decide), missLimitOne_other (by decide) (by decide)]

/-! ### LAYER_DISABLED -/

theorem bitOf_eq_testBit (w i : Nat) : bitOf w i = w.testBit i := by
  simp [bitOf, Nat.testBit, Nat.one_and_eq_mod_two]

/-- The layer's enable bit is cleared in the pending LYR_CTRL and in the set in force. -/
def enableCleared (n : Nat) (t : State) : State :=
  { t with tck.act.regs := Mem.write 0 t.tck.act.regs 0x4000 (withField (Mem.read 0 t.tck.act.regs 0x4000) n n 0) }.setReg 0x4000
    (withField (t.reg 0x4000) n n 0)

/-- The layer takes the set in force afresh. -/
def layerCleared (n : Nat) (t : State) : State :=
  putLayer n { regs := layerSet t.tck.act n, tabs := t.tck.act.tabs } (enableCleared n t)

/-- The end of its fade is told. -/
def layerOff (n : Nat) (t : State) : State :=
  scanBufs (((layerCleared n t).setF F.LYR_STATUS_LAYER_DISABLED ((layerCleared n t).f F.LYR_STATUS_LAYER_DISABLED ||| 2 ^ n)).raise
    0x41 (q4 n))

theorem layerDisabled_eq (s : State) : layerDisabled s = layerDisabledOne (layerDisabledOne s 0) 1 := rfl

theorem layerDisabledOne_of_end (h : (t.vLayer n).fade = some 4) : layerDisabledOne t n = layerOff n t := if_pos h

theorem layerDisabledOne_of_other (h : (t.vLayer n).fade ≠ some 4) : layerDisabledOne t n = t := if_neg h

theorem layerOff_moves (n : Nat) (t : State) : Moves [.event] [.tck, .lyr] [0x4000, 0x4018] t (layerOff n t) := by
  have h0 : Moves [.event] [.tck, .lyr] [0x4000, 0x4018] t (enableCleared n t) :=
    ((Moves.refl _ _ _ t).tck (by decide)).setReg _ (by decide)
  exact (((h0.lyr (by decide)).setF _ (by decide)).raise (by decide) _ _).lyr (by decide)

theorem layerDisabledOne_moves (t : State) (n : Nat) : Moves [.event] [.tck, .lyr] [0x4000, 0x4018] t (layerDisabledOne t n) := by
  by_cases h : (t.vLayer n).fade = some 4
  · rw [layerDisabledOne_of_end h]
    exact layerOff_moves n t
  · rw [layerDisabledOne_of_other h]
    exact Moves.refl _ _ _ t

theorem layerOff_reg (n : Nat) (t : State) : (layerOff n t).reg 0x4000 = withField (t.reg 0x4000) n n 0 := by
  refine (raise_reg _ _ _ (by decide)).trans ((reg_setF_other _ _ _ (by decide)).trans ?_)
  exact reg_setReg_same _ _ _

theorem layerOff_act (n : Nat) (t : State) :
    Mem.read 0 (layerOff n t).tck.act.regs 0x4000 = withField (Mem.read 0 t.tck.act.regs 0x4000) n n 0 := by
  have h : (layerOff n t).tck = (enableCleared n t).tck := raise_tck _ _ _
  rw [h]
  exact (Mem.read_write _ _ _ _).trans (if_pos rfl)

theorem layerOff_told (n : Nat) (t : State) :
    (layerOff n t).f F.LYR_STATUS_LAYER_DISABLED = (t.f F.LYR_STATUS_LAYER_DISABLED ||| 2 ^ n) % 2 ^ 2 := by
  have h : (layerCleared n t).f F.LYR_STATUS_LAYER_DISABLED = t.f F.LYR_STATUS_LAYER_DISABLED := f_setReg_other _ _ (by decide)
  refine (raise_f _ _ _ (by decide)).trans ((f_setF_mod _ _ (by decide)).trans ?_)
  exact congrArg (fun w => (w ||| 2 ^ n) % 2 ^ 2) h

theorem layerOff_layer (hn : n < 2) (m : Nat) (t : State) : (layerOff n t).vLayer m =
    if n = m then { regs := layerSet t.tck.act n, tabs := t.tck.act.tabs } else t.vLayer m := by
  have h : (layerOff n t).lyr.v = (layerCleared n t).lyr.v := by
    simp only [layerOff, scanBufs, raise_lyr]
    rfl
  rw [State.vLayer, h]
  exact vLayer_putLayer hn _ m (enableCleared n t)

/-- A bit of a word is cleared by a field of that one bit. -/
theorem getLsbD_withField_zero (w : Word) {i : Nat} (hi : i < 32) (n : Nat) :
    (withField w n n 0).getLsbD i = (!decide (i = n) && w.getLsbD i) := by
  rw [testBit_withField _ _ _ _ _ hi (le_refl n)]
  by_cases h : i = n
  · simp [h]
  · rw [if_neg (by omega)]
    simp [h]

/-- What one layer's turn leaves: its own enable bits, its own mark, its own state. -/
structure DisableStep (n : Nat) (s t : State) : Prop where
  reg : ∀ i < 32, (t.reg 0x4000).getLsbD i = (!decide ((s.vLayer n).fade = some 4 ∧ i = n) && (s.reg 0x4000).getLsbD i)
  act : ∀ i < 32, (Mem.read 0 t.tck.act.regs 0x4000).getLsbD i =
    (!decide ((s.vLayer n).fade = some 4 ∧ i = n) && (Mem.read 0 s.tck.act.regs 0x4000).getLsbD i)
  told : ∀ i < 2, bitOf (t.f F.LYR_STATUS_LAYER_DISABLED) i =
    (bitOf (s.f F.LYR_STATUS_LAYER_DISABLED) i || decide ((s.vLayer n).fade = some 4 ∧ i = n))
  other : ∀ m, n ≠ m → t.vLayer m = s.vLayer m
  off : (s.vLayer n).fade = some 4 → (t.vLayer n).showing = false ∧ (t.vLayer n).fade = none

theorem layerDisabledOne_step (hn : n < 2) (s : State) : DisableStep n s (layerDisabledOne s n) := by
  by_cases h : (s.vLayer n).fade = some 4
  · rw [layerDisabledOne_of_end h]
    refine ⟨fun i hi => ?_, fun i hi => ?_, fun i hi => ?_, fun m hm => ?_, fun _ => ?_⟩
    · rw [layerOff_reg, getLsbD_withField_zero _ hi]
      simp only [h, true_and]
    · rw [layerOff_act, getLsbD_withField_zero _ hi]
      simp only [h, true_and]
    · rw [layerOff_told, bitOf_eq_testBit, bitOf_eq_testBit, Nat.testBit_mod_two_pow, decide_eq_true hi, Bool.true_and,
        Nat.testBit_or, Nat.testBit_two_pow]
      simp only [h, true_and, eq_comm (a := n)]
    · rw [layerOff_layer hn, if_neg hm]
    · rw [layerOff_layer hn, if_pos rfl]
      exact ⟨rfl, rfl⟩
  · rw [layerDisabledOne_of_other h]
    exact ⟨fun i _ => by simp [h], fun i _ => by simp [h], fun i _ => by simp [h], fun _ _ => rfl, fun hf => absurd hf h⟩

/-- The two turns together. -/
theorem layerDisabled_steps (s : State) : ∃ u, DisableStep 0 s u ∧ DisableStep 1 u (layerDisabled s) :=
  ⟨layerDisabledOne s 0, layerDisabledOne_step (by decide) s, layerDisabledOne_step (by decide) _⟩

theorem layerDisabled_moves (s : State) : Moves [.event] [.tck, .lyr] [0x4000, 0x4018] s (layerDisabled s) :=
  (layerDisabledOne_moves s 0).trans (layerDisabledOne_moves _ 1)

theorem layerDisabled_ends (hn : n < 2) (h : (s.vLayer n).fade = some 4) : ((layerDisabled s).reg 0x4000).getLsbD n = false ∧
    (Mem.read 0 (layerDisabled s).tck.act.regs 0x4000).getLsbD n = false ∧
    bitOf ((layerDisabled s).f F.LYR_STATUS_LAYER_DISABLED) n = true ∧
    ((layerDisabled s).vLayer n).showing = false ∧ ((layerDisabled s).vLayer n).fade = none := by
  obtain ⟨u, h0, h1⟩ := layerDisabled_steps s
  have hn' : n < 32 := by omega
  obtain rfl | rfl : n = 0 ∨ n = 1 := by omega
  · rw [h1.reg _ hn', h1.act _ hn', h1.told _ hn, h1.other 0 (by decide), h0.reg _ hn', h0.act _ hn', h0.told _ hn]
    obtain ⟨ho, hf⟩ := h0.off h
    simp [h, ho, hf]
  · have hu : (u.vLayer 1).fade = some 4 := by rw [h0.other 1 (by decide), h]
    obtain ⟨ho, hf⟩ := h1.off hu
    rw [h1.reg _ hn', h1.act _ hn', h1.told _ hn]
    simp [hu, ho, hf]

theorem layerDisabled_reg_other {i : Nat} (hi : i < 32) (h : ∀ n < 2, (s.vLayer n).fade = some 4 → i ≠ n) :
    ((layerDisabled s).reg 0x4000).getLsbD i = (s.reg 0x4000).getLsbD i := by
  obtain ⟨u, h0, h1⟩ := layerDisabled_steps s
  have e1 : ¬ ((u.vLayer 1).fade = some 4 ∧ i = 1) := fun ⟨hf, hi⟩ => h 1 (by decide) (by rwa [h0.other 1 (by decide)] at hf) hi
  have e0 : ¬ ((s.vLayer 0).fade = some 4 ∧ i = 0) := fun ⟨hf, hi⟩ => h 0 (by decide) hf hi
  rw [h1.reg i hi, h0.reg i hi, decide_eq_false e1, decide_eq_false e0, Bool.not_false, Bool.true_and, Bool.true_and]

theorem layerDisabled_of_none (h : ∀ n < 2, (s.vLayer n).fade ≠ some 4) : layerDisabled s = s := by
  rw [layerDisabled_eq, layerDisabledOne_of_other (h 0 (by decide)), layerDisabledOne_of_other (h 1 (by decide))]

end layers

section sample

variable {s t : State}

/-! ### OBJECT_SAMPLE -/

/-- The cut-off row is reached, and the pending set as it stands there is kept. -/
def atCutoff (s : State) : State := { s with tck.row := max s.tck.row s.cutoff, tck.cut := some (cutSet s) }

/-- The set of a HERD whose tick ends the period is sampled. -/
def herdSampled (s : State) : State := if herdSampleDue s then herdSample s else s

/-- The objects are sampled, where the part composes. -/
def objectsSampled (s : State) : State := if s.executes then holdSample (objSample s) else s

theorem objectSample_eq (h : s.tck.running = true) : objectSample s = objectsSampled (herdSampled (atCutoff s)) := by
  rw [objectSample, h, if_neg (by decide)]
  rfl

theorem herdSampled_of_idle (h : herdSampleDue s = false) : herdSampled s = s := by rw [herdSampled, h, if_neg (by decide)]

theorem herdSampled_of_due (h : herdSampleDue s = true) : ∃ id, herdSampled s = sampleSet 1 id true s := by
  rw [herdSampled, h, if_pos rfl]
  cases hh : s.tck.herd with
  | none => simp [herdSampleDue, hh] at h
  | some x => exact ⟨x.id, by rw [herdSample, hh]⟩

theorem herdSampled_cases (s : State) : herdSampled s = s ∨ ∃ id, herdSampled s = sampleSet 1 id true s := by
  cases h : herdSampleDue s with
  | false => exact .inl (herdSampled_of_idle h)
  | true => exact .inr (herdSampled_of_due h)

/-- The sample of a set leaves the clock, the objects and the set in force. -/
theorem herdSampled_rest (s : State) : Keeps [.tck] s (herdSampled s) ∧ (herdSampled s).executes = s.executes ∧
    (herdSampled s).tck.row = s.tck.row ∧ (herdSampled s).tck.act = s.tck.act := by
  rcases herdSampled_cases s with h | ⟨id, h⟩
  · rw [h]
    exact ⟨Keeps.refl _ s, rfl, rfl, rfl⟩
  · rw [h]
    exact ⟨tck_keeps s _, rfl, rfl, rfl⟩

theorem holdSample_moves (s : State) : Moves [.event] [.obj, .pwr] [F.OBJ_STATUS_FUTURE.addr] s (holdSample s) :=
  .ite ((Moves.refl _ _ _ s).leaveHold (by decide)) (Moves.refl _ _ _ s)

theorem leaveHold_obj (s : State) : (leaveHold s).obj = s.obj := by
  unfold leaveHold
  split <;> rfl

theorem holdSample_obj (s : State) : (holdSample s).obj = s.obj := by
  unfold holdSample
  split
  · exact leaveHold_obj s
  · rfl

theorem sampleWith_obj (v : State) (c : CfgSet) (s : State) : (sampleWith v c s).obj = { s.obj with
    next := takeSample v c, rdReset := false, taken := true, slots := s.obj.slots.map (fun e => (e.1, { e.2 with updated := false })) } := by
  refine (offMapEvent_obj _ _ _).trans ?_
  split <;> rfl

theorem objectsSampled_moves (s : State) : Moves [.event] [.obj, .pwr] [F.OBJ_STATUS_FUTURE.addr] s (objectsSampled s) := by
  have h : Moves [.event] [.obj, .pwr] [F.OBJ_STATUS_FUTURE.addr] s (objSample s) :=
    ((sampleWith_step s (setAt s 1) s).moves (p := [.obj]) (by decide)).mono (by decide) (by decide)
  exact .ite (h.trans (holdSample_moves _)) (Moves.refl _ _ _ s)

theorem objectsSampled_obj (h : s.executes = true) : (objectsSampled s).obj = { s.obj with
    next := takeSample s (setAt s 1), rdReset := false, taken := true,
    slots := s.obj.slots.map (fun e => (e.1, { e.2 with updated := false })) } := by
  rw [objectsSampled, if_pos h, holdSample_obj]
  exact sampleWith_obj _ _ s

theorem objectsSampled_idle (h : s.executes = false) : objectsSampled s = s := by rw [objectsSampled, h, if_neg (by decide)]

theorem objectSample_moves (h : s.tck.running = true) :
    Moves [.event] [.tck, .obj, .pwr] [F.OBJ_STATUS_FUTURE.addr] s (objectSample s) := by
  have h0 : Moves [.event] [.tck, .obj, .pwr] [F.OBJ_STATUS_FUTURE.addr] s (atCutoff s) := (Moves.refl _ _ _ s).tck (by decide)
  have h1 := h0.parts ((herdSampled_rest (atCutoff s)).1.mono (by decide)) ((herdSampled_rest _).1 .regs (by decide))
    (congrArg CmdSt.out ((herdSampled_rest _).1 .cmd (by decide)))
  rw [objectSample_eq h]
  exact h1.andThen (objectsSampled_moves _) (by decide) (by decide)

/-- The sample of the objects leaves the sets and the row. -/
theorem objectSample_tck (h : s.tck.running = true) : (objectSample s).tck = (herdSampled (atCutoff s)).tck := by
  rw [objectSample_eq h]
  exact (objectsSampled_moves _).keeps .tck (by decide)

end sample

/-- Settles O33: the turns of the two layers, and the sample's two parts one after the other. -/
theorem layersFadeAndObjectsAreSampled : Obligations.LayersFadeAndObjectsAreSampled := by
  refine fun s => ⟨⟨_, rfl, ?_, ?_, ?_, fun n hn => layerMissLimit_layer hn⟩, ⟨_, rfl, (layerDisabled_moves s).frame,
    fun n hn h => layerDisabled_ends hn h, fun i hi h => layerDisabled_reg_other hi h, layerDisabled_of_none⟩, ?_⟩
  · exact (missLimitOne_rest s 0).1.trans (missLimitOne_rest _ 1).1
  · exact (missLimitOne_rest _ 1).2.1.trans (missLimitOne_rest s 0).2.1
  · exact (missLimitOne_rest _ 1).2.2.trans (missLimitOne_rest s 0).2.2
  · rintro hr u rfl
    have ht := objectSample_tck hr
    obtain ⟨hk, hx, hrow, hact⟩ := herdSampled_rest (atCutoff s)
    refine ⟨_, rfl, (objectSample_moves hr).frame, fun hd => ?_, fun hd => ?_, fun h => ?_, ?_, ?_⟩
    · have hs : herdSampled (atCutoff s) = atCutoff s := herdSampled_of_idle hd
      refine ⟨by rw [ht, hs]; rfl, fun he => ?_⟩
      rw [objectSample_eq hr, hs, objectsSampled_obj (s := atCutoff s) he]
      exact ⟨rfl, rfl, rfl⟩
    · obtain ⟨id, hs⟩ := herdSampled_of_due (s := atCutoff s) hd
      rw [ht, hs]
      exact ⟨_, rfl, rfl, rfl⟩
    · rw [objectSample_eq hr, objectsSampled_idle (hx.trans h)]
      exact hk .obj (by decide)
    · rw [ht]
      exact hrow
    · rw [ht]
      exact hact

end Sys2Proof.Machine
end

section
/-! The parts of a HERD: its acceptance, the offset, the phase, the target dropped and the set sampled late (R60 to R66). -/

namespace Sys2Proof.Machine

section herd

variable {rq : Req} {s t u : State}

/-! ### The acceptance of a HERD (R60, R61, R335) -/

/-- A HERD has entered: its master is heard, its alive value noted, its entry stands last. -/
def herdEntered (rq : Req) (s : State) : State :=
  queueEntry 4 0x11 rq (noteAlive rq.stream rq.alive (if masterStream rq.stream then noteMaster rq.stream s else s))

theorem herd_accept_of_held (h : s.holds 4 0x11 rq = true) : accept 4 0x11 rq s = s := by simp [accept, h]

/-- A HERD is no traffic: no timer and no power state hears of it. -/
theorem herd_accept_of_new (ho : s.off = false) (h : s.holds 4 0x11 rq = false) : accept 4 0x11 rq s = herdEntered rq s := by
  simp only [accept, ho, h, Bool.or_self, Bool.false_eq_true, if_false, takeIn, herdEntered]
  rfl

theorem herdEntered_keeps (rq : Req) (s : State) : Keeps [.cmd, .regs, .saf] s (herdEntered rq s) := by
  have h : Keeps [.cmd, .regs, .saf] s (if masterStream rq.stream then noteMaster rq.stream s else s) := by
    split
    · exact noteMaster_keeps s _
    · exact Keeps.refl _ s
  exact (h.trans ((noteAlive_keeps _ _ _).mono (by decide))).of_cur (by decide) _

theorem herdEntered_inbox (rq : Req) (s : State) :
    (herdEntered rq s).cmd.inbox = s.cmd.inbox ++ [⟨4, 0x11, rq, s.time, s.tck.frame, s.tck.row⟩] := by
  unfold herdEntered
  split <;> rfl

/-- The words of a stream's alive value and gap count. -/
abbrev aliveWords (stream : Nat) : List Nat := [(aliveLast stream).addr, (F.CMD_GAP0_GAP_CNT.at (8 * stream)).addr]

theorem noteAlive_keepsRegs (stream alive : Nat) (s : State) : KeepsRegs (aliveWords stream) s (noteAlive stream alive s) := by
  intro a ha
  simp only [List.mem_cons, List.not_mem_nil, or_false, not_or] at ha
  rw [noteAlive, reg_setB_other _ (aliveValid stream) _ ha.1, reg_setF_other _ _ _ ha.1, reg_addF_other _ _ _ ha.2]

theorem noteMaster_keepsRegs (stream : Nat) (s : State) : KeepsRegs [0x2004] s (noteMaster stream s) :=
  setB_keepsRegs { s with cmd := { s.cmd with masterTime := s.time, masterStream := stream } } false (by decide)

theorem queueEntry_regs (type op : Nat) (rq : Req) (s : State) : (queueEntry type op rq s).regs = s.regs := rfl

theorem herdEntered_keepsRegs (rq : Req) (s : State) : KeepsRegs (0x2004 :: aliveWords rq.stream) s (herdEntered rq s) := by
  have h : KeepsRegs (0x2004 :: aliveWords rq.stream) s (if masterStream rq.stream then noteMaster rq.stream s else s) := by
    split
    · exact (noteMaster_keepsRegs _ s).mono (by simp)
    · exact KeepsRegs.refl _ s
  have h1 := h.trans ((noteAlive_keepsRegs rq.stream rq.alive _).mono (List.subset_cons_self _ _))
  exact fun a ha => by rw [State.reg, herdEntered, queueEntry_regs, ← State.reg, h1 a ha]

/-- The words below CMD_STATUS hear nothing of an accepted packet. -/
theorem herdEntered_reg {a : Nat} (ha : a < 0x2004) : (herdEntered rq s).reg a = s.reg a := by
  refine herdEntered_keepsRegs rq s a ?_
  simp only [aliveWords, aliveLast, Fld.at, List.mem_cons, List.not_mem_nil, or_false]
  omega

theorem herd_accept_rest (ho : s.off = false) : Keeps [.cmd, .regs, .saf] s (accept 4 0x11 rq s) ∧
    (accept 4 0x11 rq s).f F.RNG_POSDLY_POSDLY = s.f F.RNG_POSDLY_POSDLY := by
  cases h : s.holds 4 0x11 rq with
  | true =>
    rw [herd_accept_of_held h]
    exact ⟨Keeps.refl _ s, rfl⟩
  | false =>
    rw [herd_accept_of_new ho h]
    exact ⟨herdEntered_keeps rq s, by rw [State.f, herdEntered_reg (by decide), State.f]⟩

/-- The entry of a HERD that no earlier one equals names its arrival. -/
theorem herdEntry_of_new (ho : s.off = false) (hn : ∀ e ∈ s.cmd.inbox, e.matches 0x11 rq = false) :
    herdEntry rq (accept 4 0x11 rq s) = ⟨4, 0x11, rq, s.time, s.tck.frame, s.tck.row⟩ := by
  have hh : s.holds 4 0x11 rq = false := List.any_eq_false.2 fun e he => by simp [hn e he]
  have hf : s.cmd.inbox.find? (fun e => e.matches 0x11 rq) = none := List.find?_eq_none.2 fun e he => by simp [hn e he]
  have hm : (⟨4, 0x11, rq, s.time, s.tck.frame, s.tck.row⟩ : QEntry).matches 0x11 rq = true := by simp [QEntry.matches]
  rw [herd_accept_of_new ho hh, herdEntry, State.entryOf, herdEntered_inbox, List.find?_append, hf, Option.none_or,
    List.find?_singleton, if_pos hm, Option.getD_some]

/-! ### The ticks a HERD can reach (R61, R63) -/

theorem tickNo_of (hx : t.tck.setFrame = s.tck.setFrame) (hf : t.tck.frame = s.tck.frame) (n : Nat) : t.tickNo n = s.tickNo n := by
  rw [State.tickNo, hx, hf, State.tickNo]

theorem herdTicks_of (x : QEntry) (ha : t.tck.act = s.tck.act) (hf : t.tck.frame = s.tck.frame) : herdTicks x t = herdTicks x s := by
  have hc : t.cutoff = s.cutoff := by rw [State.cutoff, State.a, ha, State.cutoff, State.a]
  rw [herdTicks, hc, ticksLeft, hf, herdTicks, ticksLeft]

/-- At its arrival a HERD reaches the next tick, or the one after it from the cut-off row on. -/
theorem herdTicks_of_arrival {x : QEntry} (hf : x.frame = s.tck.frame) (hr : x.row = s.tck.row) :
    herdTicks x s = if s.tck.row < s.cutoff then 1 else 2 := by
  rw [herdTicks, ticksLeft, hf, hr, Nat.add_sub_cancel_left]
  split <;> rfl

/-! ### The offset (R64) -/

theorem posDly_floor (s : State) : s.posDly.floor = (s.f F.RNG_POSDLY_POSDLY / 100 : Nat) := by
  have h := Rat.floor_natCast_div_natCast (s.f F.RNG_POSDLY_POSDLY) 100
  rw [Nat.cast_ofNat] at h
  exact h.trans (Int.natCast_div _ _).symm

theorem herdMofs_moves (tArr master : Nat) (s : State) : Moves [.event] [.tck] [0x3008, 0x3020] s (herdMofs tArr master s) := by
  have h : Moves [.event] [.tck] [0x3008, 0x3020] s (({ s with
      tck.mofs := 100 * master - (tArr : Int) + s.posDly.floor, tck.mofsValid := true } : State).setB F.TCK_TIME_Q_MOFS_VALID true) :=
    ((Moves.refl _ _ _ s).tck (by decide)).setB _ (by decide)
  exact .ite ((h.setB _ (by decide)).raise (by decide) _ _) h

theorem herdMofs_tck (tArr master : Nat) (s : State) : (herdMofs tArr master s).tck =
    { s.tck with mofs := 100 * master - (tArr : Int) + s.posDly.floor, mofsValid := true } := by
  unfold herdMofs
  simp only []
  split
  · exact raise_tck _ _ _
  · rfl

/-! ### What every HERD does before its phase (R61, R64, R390) -/

/-- The HERD has been taken out of the inbox, HOLD left, its flags and row noted, the offset set. -/
def herdHeard (rq : Req) (s : State) : State :=
  herdMofs (herdEntry rq s).time (u64 rq.payload 4) (herdInfo (herdEntry rq s) rq (leaveHold (unpark 0x11 rq s)))

theorem herdCommon_eq (rq : Req) (s : State) : herdCommon rq s =
    if bitOf rq.arg 16 then herdAlign (herdEntry rq s) (u32 rq.payload 12) (herdHeard rq s) else herdHeard rq s := rfl

theorem leaveHold_tck (s : State) : (leaveHold s).tck = s.tck := by
  unfold leaveHold
  split <;> rfl

theorem leaveHold_regs (s : State) : (leaveHold s).regs = s.regs := by
  unfold leaveHold
  split <;> rfl

/-- The words that a HERD writes before its phase. -/
abbrev heardWords : List Nat := [0x3008, 0x3020, 0x3048]

theorem herdInfo_moves (x : QEntry) (rq : Req) (s : State) :
    Moves [.event] [.pwr] heardWords s (herdInfo x rq (leaveHold (unpark 0x11 rq s))) := by
  have h : Moves [.event] [.pwr] heardWords s (unpark 0x11 rq s) := (Moves.refl _ _ _ s).cmd_same rfl
  exact ((h.leaveHold (by decide)).setF _ (by decide)).setF _ (by decide)

theorem herdHeard_moves (rq : Req) (s : State) : Moves [.event] [.tck, .pwr] heardWords s (herdHeard rq s) :=
  ((herdInfo_moves _ _ _).mono (by decide) (by decide)).andThen (herdMofs_moves _ _ _) (by decide) (by decide)

theorem herdHeard_tck (rq : Req) (s : State) : (herdHeard rq s).tck = { s.tck with
    mofs := 100 * u64 rq.payload 4 - ((herdEntry rq s).time : Int) + (s.f F.RNG_POSDLY_POSDLY / 100 : Nat), mofsValid := true } := by
  have h := herdInfo_moves (herdEntry rq s) rq s
  have ht : (herdInfo (herdEntry rq s) rq (leaveHold (unpark 0x11 rq s))).tck = s.tck := leaveHold_tck _
  rw [herdHeard, herdMofs_tck, ht, posDly_floor, h.regs.f (by decide)]

theorem herdHeard_row (rq : Req) (s : State) :
    (herdHeard rq s).f F.TCK_HERD_INFO_ARR_ROW = (herdEntry rq s).row % 1024 := by
  refine ((herdMofs_moves _ _ _).regs.f (by decide)).trans ?_
  exact (f_setF_other _ _ (by decide) (by decide) (by decide)).trans (f_setF_mod _ _ (by decide))

/-! ### The phase (R65, R66) -/

/-- The phase cannot be aligned to the HERD. -/
def alignIgnored (s : State) : Bool := s.onFrc || s.a F.TCK_CTRL_SRC == 1 || !s.tck.running

/-- The instant of the grid that a HERD names. -/
def herdGrid (x : QEntry) (ofs : Nat) (s : State) : Rat := x.time - s.posDly + ofs

/-- The phase as a HERD leaves it, with its error and the trim. -/
def aligned (x : QEntry) (e : Rat) (trim : Int) (s : State) : State :=
  { (s.setF F.TCK_ALIGN_ERR_ERR (encSigned 32 (ratRound (e * 10)))).setF F.TCK_TRIM_TRIM (encSigned 24 trim) with
    tck.corr := some (herdTicks x s, correction (trimmedPeriod s trim) e), tck.alignTime := some x.time,
    tck.alignErr := e, tck.alignAt := s.tck.exact, tck.alignRun := s.tck.alignRun + 1 }

theorem alignIgnored_eq (s : State) : (s.onFrc || decide (s.a F.TCK_CTRL_SRC = 1) || !s.tck.running) = alignIgnored s := by
  rw [alignIgnored, Bool.beq_eq_decide_eq]

theorem herdAlign_of_ignored (h : alignIgnored s = true) (x : QEntry) (ofs : Nat) :
    herdAlign x ofs s = s.setB F.TCK_STATUS_ALIGN_IGNORED true := by
  rw [herdAlign, alignIgnored_eq, h, if_pos rfl]

theorem herdAlign_of_counted (h : alignIgnored s = false) (x : QEntry) (ofs : Nat) : herdAlign x ofs s =
    aligned x (phaseError s (herdGrid x ofs s)) (newTrim s x.time (phaseError s (herdGrid x ofs s))) s := by
  rw [herdAlign, alignIgnored_eq, h, if_neg (by decide), aligned, herdGrid]

abbrev alignWords : List Nat := [0x3008, 0x304C, 0x3050]

theorem herdAlign_moves (x : QEntry) (ofs : Nat) (s : State) : Moves [.event] [.tck] alignWords s (herdAlign x ofs s) :=
  .ite ((Moves.refl _ _ _ s).setB _ (by decide))
    ((((Moves.refl _ _ _ s).setF (x := F.TCK_ALIGN_ERR_ERR) _ (by decide)).setF (x := F.TCK_TRIM_TRIM) _ (by decide)).tck (by decide))

/-- The phase changes nothing of TCK but the correction and what it remembers of the alignment. -/
theorem herdAlign_tck (x : QEntry) (ofs : Nat) (s : State) : ∃ c a e i r, (herdAlign x ofs s).tck =
    { s.tck with corr := c, alignTime := a, alignErr := e, alignAt := i, alignRun := r } := by
  cases h : alignIgnored s with
  | true =>
    rw [herdAlign_of_ignored h]
    exact ⟨_, _, _, _, _, rfl⟩
  | false =>
    rw [herdAlign_of_counted h]
    exact ⟨_, _, _, _, _, rfl⟩

theorem encSigned_lt (n : Nat) (v : Int) : encSigned n v < 2 ^ n := by
  have h : (0 : Int) < (2 ^ n : Nat) := by exact_mod_cast Nat.two_pow_pos n
  have h1 := Int.emod_nonneg v (ne_of_gt h)
  have h2 := Int.emod_lt_of_pos v h
  rw [encSigned]
  omega

theorem aligned_regs (x : QEntry) (e : Rat) (trim : Int) (s : State) : (aligned x e trim s).regs =
    ((s.setF F.TCK_ALIGN_ERR_ERR (encSigned 32 (ratRound (e * 10)))).setF F.TCK_TRIM_TRIM (encSigned 24 trim)).regs := rfl

theorem aligned_words (x : QEntry) (e : Rat) (trim : Int) (s : State) :
    (aligned x e trim s).f F.TCK_ALIGN_ERR_ERR = encSigned 32 (ratRound (e * 10)) ∧
      (aligned x e trim s).f F.TCK_TRIM_TRIM = encSigned 24 trim := by
  have h1 := encSigned_lt 32 (ratRound (e * 10))
  have h2 := encSigned_lt 24 trim
  have hr := aligned_regs x e trim s
  generalize encSigned 32 (ratRound (e * 10)) = n1 at h1 hr ⊢
  generalize encSigned 24 trim = n2 at h2 hr ⊢
  rw [f_of_regs hr, f_of_regs hr, f_setF_other _ _ (by decide) (by decide) (by decide)]
  exact ⟨f_setF_same _ (by decide) h1, f_setF_same _ (by decide) h2⟩

/-! ### A target that is dropped (R62) -/

/-- The sampled sets that do not wait for the pending target. -/
def keptSets (k : TckSt) : List Sampled := k.sets.filter (fun y => !(k.herd.any (fun h => y.herd && y.applyAt == h.applyAt)))

theorem keptSets_of_none {k : TckSt} (h : k.herd = none) : keptSets k = k.sets := by
  rw [keptSets, h]
  exact List.filter_eq_self.2 fun _ _ => rfl

theorem mem_setInsertAll (a : Nat) (ns l : List Nat) : a ∈ setInsertAll ns l ↔ a ∈ ns ∨ a ∈ l := by
  induction ns with
  | nil => simp [setInsertAll]
  | cons n ns ih =>
    have e : setInsertAll (n :: ns) l = setInsert n (setInsertAll ns l) := rfl
    rw [e, mem_setInsert_iff, ih, List.mem_cons, or_assoc]

theorem dropTarget_of_none (h : s.tck.herd = none) : dropTarget s = s := by rw [dropTarget, h]

theorem dropTarget_moves (s : State) : Moves [.event] [.tck] [0x3048] s (dropTarget s) := by
  unfold dropTarget
  split
  · exact Moves.refl _ _ _ s
  · exact ((Moves.refl _ _ _ s).tck (by decide)).setF _ (by decide)

/-- No target stands, its set waits no more, and the items of that set are pending again. -/
theorem dropTarget_tck (s : State) : ∃ d dt, (dropTarget s).tck = { s.tck with
      herd := none, sets := keptSets s.tck, dirty := d, dirtyTabs := dt } ∧
    ∀ a, a ∈ d ↔ a ∈ s.tck.dirty ∨ ∃ y ∈ s.tck.sets, y ∉ keptSets s.tck ∧ ∃ i ∈ y.items, i.1 = a := by
  cases hh : s.tck.herd with
  | none =>
    refine ⟨s.tck.dirty, s.tck.dirtyTabs, ?_, fun a => ⟨.inl, fun h => h.elim id ?_⟩⟩
    · rw [dropTarget_of_none hh, keptSets_of_none hh, ← hh]
    · rintro ⟨y, hy, hn, -⟩
      exact absurd (by rwa [keptSets_of_none hh]) hn
  | some h =>
    have hk : keptSets s.tck = s.tck.sets.filter (fun x => !(x.herd && x.applyAt == h.applyAt)) := by
      rw [keptSets, hh]
      rfl
    have hback : ∀ y, y ∈ s.tck.sets.filter (fun x => x.herd && x.applyAt == h.applyAt) ↔ y ∈ s.tck.sets ∧ y ∉ keptSets s.tck := by
      intro y
      rw [hk]
      simp only [List.mem_filter, Bool.not_eq_true', not_and, Bool.not_eq_false]
      exact ⟨fun ⟨h1, h2⟩ => ⟨h1, fun _ => h2⟩, fun ⟨h1, h2⟩ => ⟨h1, h2 h1⟩⟩
    refine ⟨_, _, by rw [dropTarget, hh, hk]; rfl, fun a => ?_⟩
    rw [mem_setInsertAll, or_comm]
    simp only [List.mem_flatMap, List.mem_map, hback, and_assoc]

theorem dropTarget_result (h : s.tck.herd.isSome = true) : (dropTarget s).f F.TCK_HERD_INFO_RESULT = 3 := by
  obtain ⟨x, hx⟩ := Option.isSome_iff_exists.1 h
  rw [dropTarget, hx]
  exact f_setF_same _ (by decide) (by decide)

theorem dropTarget_row (s : State) : (dropTarget s).f F.TCK_HERD_INFO_ARR_ROW = s.f F.TCK_HERD_INFO_ARR_ROW := by
  unfold dropTarget
  split
  · rfl
  · exact f_setF_other _ _ (by decide) (by decide) (by decide)

/-! ### A set sampled after the cut-off row (R61) -/

/-- The set that a target for the tick that comes takes from what stood pending at the cut-off row. -/
def cutSampled (k : TckSt) (next applyAt id : Nat) : List Sampled :=
  match k.cut with
  | some c => if applyAt = next then [⟨next, c.items, c.tabs, id, true⟩] else []
  | none => []

theorem herdCut_keeps (s : State) : Keeps [.tck] s (herdCut s) := by
  unfold herdCut
  split
  · split
    · exact tck_keeps s _
    · exact Keeps.refl _ s
  · exact Keeps.refl _ s

theorem herdCut_tck {h : HerdTarget} (hh : s.tck.herd = some h) : ∃ d dt, (herdCut s).tck = { s.tck with
      sets := s.tck.sets ++ cutSampled s.tck (s.tickNo 1) h.applyAt h.id, dirty := d, dirtyTabs := dt } ∧
    ∀ a, a ∈ d ↔ a ∈ s.tck.dirty ∧ ∀ y ∈ cutSampled s.tck (s.tickNo 1) h.applyAt h.id, ∀ i ∈ y.items, i.1 = a → i.2 ≠ s.reg a := by
  have hidle : herdCut s = s → cutSampled s.tck (s.tickNo 1) h.applyAt h.id = [] → ∃ d dt, (herdCut s).tck = { s.tck with
      sets := s.tck.sets ++ cutSampled s.tck (s.tickNo 1) h.applyAt h.id, dirty := d, dirtyTabs := dt } ∧
      ∀ a, a ∈ d ↔ a ∈ s.tck.dirty ∧ ∀ y ∈ cutSampled s.tck (s.tickNo 1) h.applyAt h.id, ∀ i ∈ y.items, i.1 = a → i.2 ≠ s.reg a := by
    intro h1 h2
    rw [h1, h2]
    exact ⟨_, _, by rw [List.append_nil], fun a => by simp⟩
  cases hc : s.tck.cut with
  | none => exact hidle (by rw [herdCut, hh, hc]) (by rw [cutSampled, hc])
  | some c =>
    by_cases ha : h.applyAt = s.tickNo 1
    · have e : cutSampled s.tck (s.tickNo 1) h.applyAt h.id = [⟨s.tickNo 1, c.items, c.tabs, h.id, true⟩] := by
        rw [cutSampled, hc]
        exact if_pos ha
      rw [e]
      refine ⟨_, _, by simp only [herdCut, hh, hc, if_pos ha, sampleCut]; rfl, fun a => ?_⟩
      simp only [List.mem_filter, List.mem_singleton, forall_eq, Bool.not_eq_true', List.any_eq_false, Bool.and_eq_true, beq_iff_eq,
        not_and]
    · exact hidle (by simp only [herdCut, hh, hc, if_neg ha]) (by rw [cutSampled, hc]; exact if_neg ha)

end herd

end Sys2Proof.Machine
end

section
/-! HERD: its target, the frame number it names, the offset and the phase (R44, R60 to R66); O10. -/

namespace Sys2Proof.Machine

section herd

variable {rq : Req} {s t u v : State}

/-! ### A HERD has been heard and the target before it dropped (R62) -/

/-- The words that a HERD writes before it sets its target. -/
abbrev readyWords : List Nat := [0x3008, 0x3020, 0x3048, 0x304C, 0x3050]

theorem herdCommon_moves (rq : Req) (u : State) : Moves [.event] [.tck, .pwr] readyWords u (herdCommon rq u) := by
  have h : Moves [.event] [.tck, .pwr] readyWords u (herdHeard rq u) := (herdHeard_moves rq u).mono (by decide) (by decide)
  rw [herdCommon_eq]
  exact .ite (h.andThen (herdAlign_moves _ _ _) (by decide) (by decide)) h

theorem herdCommon_tck (rq : Req) (u : State) : ∃ c a e i r, (herdCommon rq u).tck = { u.tck with
    mofs := 100 * u64 rq.payload 4 - ((herdEntry rq u).time : Int) + (u.f F.RNG_POSDLY_POSDLY / 100 : Nat), mofsValid := true,
    corr := c, alignTime := a, alignErr := e, alignAt := i, alignRun := r } := by
  rw [herdCommon_eq]
  split
  · obtain ⟨c, a, e, i, r, h⟩ := herdAlign_tck (herdEntry rq u) (u32 rq.payload 12) (herdHeard rq u)
    exact ⟨c, a, e, i, r, by rw [h, herdHeard_tck]⟩
  · exact ⟨_, _, _, _, _, herdHeard_tck rq u⟩

theorem herdCommon_row (rq : Req) (u : State) :
    (herdCommon rq u).f F.TCK_HERD_INFO_ARR_ROW = (herdEntry rq u).row % 1024 := by
  rw [herdCommon_eq]
  split
  · exact ((herdAlign_moves _ _ _).regs.f (by decide)).trans (herdHeard_row rq u)
  · exact herdHeard_row rq u

/-- In `v` the HERD has been heard by `u`, and no target stands. -/
structure Readied (rq : Req) (u v : State) : Prop where
  moves : Moves [.event] [.tck, .pwr] readyWords u v
  act : v.tck.act = u.tck.act
  frame : v.tck.frame = u.tck.frame
  setFrame : v.tck.setFrame = u.tck.setFrame
  cut : v.tck.cut = u.tck.cut
  mofs : v.tck.mofs = 100 * u64 rq.payload 4 - ((herdEntry rq u).time : Int) + (u.f F.RNG_POSDLY_POSDLY / 100 : Nat)
  mofsValid : v.tck.mofsValid = true
  row : v.f F.TCK_HERD_INFO_ARR_ROW = (herdEntry rq u).row % 1024
  herd : v.tck.herd = none
  sets : v.tck.sets = keptSets u.tck
  result : u.tck.herd.isSome = true → v.f F.TCK_HERD_INFO_RESULT = 3
  dirty : ∀ a, a ∈ v.tck.dirty ↔ a ∈ u.tck.dirty ∨ ∃ y ∈ u.tck.sets, y ∉ keptSets u.tck ∧ ∃ i ∈ y.items, i.1 = a

theorem readied (rq : Req) (u : State) : Readied rq u (dropTarget (herdCommon rq u)) := by
  obtain ⟨c, a, e, i, r, hc⟩ := herdCommon_tck rq u
  obtain ⟨d, dt, hd, hmem⟩ := dropTarget_tck (herdCommon rq u)
  have hk : keptSets (herdCommon rq u).tck = keptSets u.tck := by rw [hc]; rfl
  rw [hk] at hd hmem
  rw [hc] at hd hmem
  constructor
  case moves => exact (herdCommon_moves rq u).andThen (dropTarget_moves _) (by decide) (by decide)
  case row => exact (dropTarget_row _).trans (herdCommon_row rq u)
  case result => exact fun h => dropTarget_result (by rw [hc]; exact h)
  case dirty => rw [hd]; exact hmem
  all_goals rw [hd]

theorem Readied.tickNo (h : Readied rq u v) (n : Nat) : v.tickNo n = u.tickNo n := tickNo_of h.setFrame h.frame n

theorem Readied.herdTicks (h : Readied rq u v) (x : QEntry) : herdTicks x v = herdTicks x u := herdTicks_of x h.act h.frame

/-! ### The target (R61, R62) -/

/-- The target of a HERD for frame `f` whose earliest tick is `early`. -/
def targetAt (early id f : Nat) (snap : Bool) : HerdTarget :=
  let late := decide (2 ^ 31 ≤ (f + 2 ^ 32 - early) % 2 ^ 32)
  ⟨f, if late then early else f, id, snap, late⟩

/-- A target whose frame was missed is told of. -/
def tellLate (h : HerdTarget) (s : State) : State :=
  if h.late then ((s.setB F.TCK_STATUS_HERD_LATE true).bump F.TCK_LATE_CNT_HERD_LATE_CNT).raise 0x30 (q4 h.id ++ q4 h.f ++ q4 h.applyAt)
  else s

/-- The target stands, with the set it takes from the cut-off row. -/
def aimed (h : HerdTarget) (s : State) : State := herdCut { s with tck.herd := some h }

theorem herdTarget_eq (x : QEntry) (id f : Nat) (snap : Bool) (s : State) : herdTarget x id f snap s =
    tellLate (targetAt ((dropTarget s).tickNo (herdTicks x (dropTarget s))) id f snap)
      (aimed (targetAt ((dropTarget s).tickNo (herdTicks x (dropTarget s))) id f snap) (dropTarget s)) := rfl

theorem tellLate_moves (h : HerdTarget) (s : State) : Moves [.event] [] [0x3008, 0x3014] s (tellLate h s) :=
  .ite ((((Moves.refl _ _ _ s).setB _ (by decide)).bump (by decide)).raise (by decide) _ _) (Moves.refl _ _ _ s)

theorem tellLate_tck (h : HerdTarget) (s : State) : (tellLate h s).tck = s.tck := (tellLate_moves h s).keeps .tck (by decide)

theorem tellLate_late {h : HerdTarget} (hl : h.late = true) (s : State) : (tellLate h s).fb F.TCK_STATUS_HERD_LATE = true := by
  rw [tellLate, hl, if_pos rfl, raise_fb _ _ _ (by decide), State.fb, f_bump_other _ (by decide) (by decide) (by decide)]
  exact fb_setB_same s true (by decide)

theorem tellLate_ignored (h : HerdTarget) (s : State) :
    (tellLate h s).fb F.TCK_STATUS_ALIGN_IGNORED = s.fb F.TCK_STATUS_ALIGN_IGNORED := by
  unfold tellLate
  split
  · rw [raise_fb _ _ _ (by decide), State.fb, f_bump_other _ (by decide) (by decide) (by decide)]
    exact fb_setB_other s true (by decide) (by decide) (by decide)
  · rfl

theorem aimed_keeps (h : HerdTarget) (s : State) : Keeps [.tck] s (aimed h s) :=
  Keeps.trans (t := { s with tck.herd := some h })
    (tck_keeps s _) (herdCut_keeps _)

theorem aimed_regs (h : HerdTarget) (s : State) : (aimed h s).regs = s.regs := aimed_keeps h s .regs (by decide)

theorem aimed_moves (h : HerdTarget) (s : State) : Moves [.event] [.tck] [] s (aimed h s) :=
  (Moves.refl _ _ _ s).parts ((aimed_keeps h s).mono (by decide)) (aimed_regs h s)
    (congrArg CmdSt.out (aimed_keeps h s .cmd (by decide)))

theorem aimed_tck (h : HerdTarget) (s : State) : ∃ d dt, (aimed h s).tck = { s.tck with
      herd := some h, sets := s.tck.sets ++ cutSampled s.tck (s.tickNo 1) h.applyAt h.id, dirty := d, dirtyTabs := dt } ∧
    ∀ a, a ∈ d ↔ a ∈ s.tck.dirty ∧ ∀ y ∈ cutSampled s.tck (s.tickNo 1) h.applyAt h.id, ∀ i ∈ y.items, i.1 = a → i.2 ≠ s.reg a :=
  herdCut_tck (s := { s with tck.herd := some h }) rfl

theorem cutSampled_of {k l : TckSt} (h : l.cut = k.cut) (next applyAt id : Nat) :
    cutSampled l next applyAt id = cutSampled k next applyAt id := by rw [cutSampled, h, cutSampled]

/-- In `t` the target `h` stands, after a HERD that `u` heard. -/
structure Targeted (rq : Req) (h : HerdTarget) (u t : State) : Prop where
  moves : Moves [.event] [.tck, .pwr] [0x3008, 0x3014, 0x3020, 0x3048, 0x304C, 0x3050] u t
  herd : t.tck.herd = some h
  late : h.late = true → t.fb F.TCK_STATUS_HERD_LATE = true
  mofs : t.tck.mofs = 100 * u64 rq.payload 4 - ((herdEntry rq u).time : Int) + (u.f F.RNG_POSDLY_POSDLY / 100 : Nat)
  mofsValid : t.tck.mofsValid = true
  row : t.f F.TCK_HERD_INFO_ARR_ROW = (herdEntry rq u).row % 1024
  sets : t.tck.sets = keptSets u.tck ++ cutSampled u.tck (u.tickNo 1) h.applyAt h.id
  result : u.tck.herd.isSome = true → t.f F.TCK_HERD_INFO_RESULT = 3
  dirty : ∀ a, a ∉ eventRegs ++ readyWords → (a ∈ t.tck.dirty ↔
    (a ∈ u.tck.dirty ∨ ∃ y ∈ u.tck.sets, y ∉ keptSets u.tck ∧ ∃ i ∈ y.items, i.1 = a) ∧
      ∀ y ∈ cutSampled u.tck (u.tickNo 1) h.applyAt h.id, ∀ i ∈ y.items, i.1 = a → i.2 ≠ u.reg a)

theorem Readied.targeted (hv : Readied rq u v) (h : HerdTarget) : Targeted rq h u (tellLate h (aimed h v)) := by
  obtain ⟨d, dt, ht, hd⟩ := aimed_tck h v
  rw [hv.sets, hv.tickNo, cutSampled_of hv.cut] at ht
  rw [hv.tickNo, cutSampled_of hv.cut] at hd
  have hf : ∀ {x : Fld}, x.addr ∉ eventRegs ++ [0x3008, 0x3014] → (tellLate h (aimed h v)).f x = v.f x := fun hx =>
    ((tellLate_moves h _).regs.f hx).trans (f_of_regs (aimed_regs h v) _)
  constructor
  case moves =>
    exact ((hv.moves.mono (by decide) (by decide)).andThen (aimed_moves h v) (by decide) (by decide)).andThen (tellLate_moves h _)
      (by decide) (by decide)
  case late => exact fun hl => tellLate_late hl _
  case row => exact (hf (by decide)).trans hv.row
  case result => exact fun hs => (hf (by decide)).trans (hv.result hs)
  case dirty =>
    intro a ha
    rw [tellLate_tck, ht, hd, hv.dirty, hv.moves.regs a ha]
  all_goals rw [tellLate_tck, ht]
  case mofs => exact hv.mofs
  case mofsValid => exact hv.mofsValid

theorem herdTarget_targeted (rq : Req) (u : State) (x : QEntry) (id f : Nat) (snap : Bool) :
    Targeted rq (targetAt (u.tickNo (herdTicks x u)) id f snap) u (herdTarget x id f snap (herdCommon rq u)) := by
  have hv := readied rq u
  rw [herdTarget_eq, hv.tickNo, hv.herdTicks]
  exact hv.targeted _

/-! ### The frame number (R63) -/

theorem renumber_moves (x : SetFrame) (s : State) : Moves [.event] [.tck, .hlv] [] s (renumber x s) :=
  (Moves.refl _ _ _ s).parts (fun q hq => by cases q <;> first | rfl | exact absurd (by decide) hq) rfl rfl

/-! ### The phase (R65, R66) -/

theorem herdHeard_periodAct (rq : Req) (u : State) : (herdHeard rq u).periodAct = u.periodAct := by
  have h := herdHeard_tck rq u
  exact periodAct_of (herdHeard_moves rq u).regs (by decide) (by decide) (by rw [h]) (by rw [h]) (by rw [h])

theorem herdHeard_trim (rq : Req) (u : State) : (herdHeard rq u).trim = u.trim :=
  congrArg (signedOf 24) ((herdHeard_moves rq u).regs.f (x := F.TCK_TRIM_TRIM) (by decide))

theorem herdHeard_onFrc (rq : Req) (u : State) : (herdHeard rq u).onFrc = u.onFrc :=
  (herdHeard_moves rq u).regs.fb (x := F.PWR_CLK_SEL) (by decide)

theorem herdHeard_a (rq : Req) (u : State) (x : Fld) : (herdHeard rq u).a x = u.a x := by
  rw [State.a, herdHeard_tck, State.a]

theorem alignIgnored_herdHeard (rq : Req) (u : State) : alignIgnored (herdHeard rq u) = alignIgnored u := by
  rw [alignIgnored, herdHeard_onFrc, herdHeard_a, herdHeard_tck, alignIgnored]

theorem herdGrid_herdHeard (x : QEntry) (ofs : Nat) (rq : Req) (u : State) : herdGrid x ofs (herdHeard rq u) = herdGrid x ofs u := by
  rw [herdGrid, State.posDly, (herdHeard_moves rq u).regs.f (by decide), herdGrid, State.posDly]

theorem phaseError_herdHeard (rq : Req) (u : State) (grid : Rat) : phaseError (herdHeard rq u) grid = phaseError u grid := by
  rw [phaseError, herdHeard_periodAct, herdHeard_tck, phaseError]

theorem newTrim_herdHeard (rq : Req) (u : State) (n : Nat) (e : Rat) : newTrim (herdHeard rq u) n e = newTrim u n e := by
  rw [newTrim, herdHeard_trim, herdHeard_tck, newTrim]

theorem trimmedPeriod_herdHeard (rq : Req) (u : State) (n : Int) : trimmedPeriod (herdHeard rq u) n = trimmedPeriod u n := by
  rw [trimmedPeriod, State.rate, herdHeard_onFrc, herdHeard_a, herdHeard_tck, trimmedPeriod, State.rate]

theorem herdTicks_herdHeard (x : QEntry) (rq : Req) (u : State) : herdTicks x (herdHeard rq u) = herdTicks x u :=
  herdTicks_of x (by rw [herdHeard_tck]) (by rw [herdHeard_tck])

/-- In `t` the phase stands as in `s`. -/
structure PhaseSame (s t : State) : Prop where
  corr : t.tck.corr = s.tck.corr
  alignErr : t.tck.alignErr = s.tck.alignErr
  alignAt : t.tck.alignAt = s.tck.alignAt
  alignTime : t.tck.alignTime = s.tck.alignTime
  ignored : t.fb F.TCK_STATUS_ALIGN_IGNORED = s.fb F.TCK_STATUS_ALIGN_IGNORED
  err : t.f F.TCK_ALIGN_ERR_ERR = s.f F.TCK_ALIGN_ERR_ERR
  trim : t.f F.TCK_TRIM_TRIM = s.f F.TCK_TRIM_TRIM

theorem PhaseSame.trans (h : PhaseSame s t) (h' : PhaseSame t u) : PhaseSame s u :=
  ⟨h'.corr.trans h.corr, h'.alignErr.trans h.alignErr, h'.alignAt.trans h.alignAt, h'.alignTime.trans h.alignTime,
    h'.ignored.trans h.ignored, h'.err.trans h.err, h'.trim.trans h.trim⟩

theorem dropTarget_phase (s : State) : PhaseSame s (dropTarget s) := by
  obtain ⟨d, dt, h, -⟩ := dropTarget_tck s
  have hr := (dropTarget_moves s).regs
  exact ⟨by rw [h], by rw [h], by rw [h], by rw [h], hr.fb (by decide), hr.f (by decide), hr.f (by decide)⟩

theorem aimed_phase (h : HerdTarget) (s : State) : PhaseSame s (aimed h s) := by
  obtain ⟨d, dt, ht, -⟩ := aimed_tck h s
  have hr := aimed_regs h s
  exact ⟨by rw [ht], by rw [ht], by rw [ht], by rw [ht], fb_of_regs hr _, f_of_regs hr _, f_of_regs hr _⟩

theorem tellLate_phase (h : HerdTarget) (s : State) : PhaseSame s (tellLate h s) := by
  have ht := tellLate_tck h s
  have hr := (tellLate_moves h s).regs
  exact ⟨by rw [ht], by rw [ht], by rw [ht], by rw [ht], tellLate_ignored h s, hr.f (by decide), hr.f (by decide)⟩

theorem herdTarget_phase (x : QEntry) (id f : Nat) (snap : Bool) (s : State) : PhaseSame s (herdTarget x id f snap s) := by
  rw [herdTarget_eq]
  exact ((dropTarget_phase s).trans (aimed_phase _ _)).trans (tellLate_phase _ _)

theorem renumber_phase (x : SetFrame) (s : State) : PhaseSame s (renumber x s) := ⟨rfl, rfl, rfl, rfl, rfl, rfl, rfl⟩

/-- In `t` the phase has been taken against the grid that a HERD heard by `u` names, or the HERD was ignored. -/
structure Phased (x : QEntry) (ofs : Nat) (u t : State) : Prop where
  ignored : alignIgnored u = true → t.fb F.TCK_STATUS_ALIGN_IGNORED = true ∧ t.tck.corr = u.tck.corr
  counted : alignIgnored u = false → ∀ (e : Rat) (trim : Int), e = phaseError u (herdGrid x ofs u) → trim = newTrim u x.time e →
    t.tck.corr = some (herdTicks x u, correction (trimmedPeriod u trim) e) ∧ t.tck.alignErr = e ∧ t.tck.alignAt = u.tck.exact ∧
      t.tck.alignTime = some x.time ∧ t.f F.TCK_ALIGN_ERR_ERR = encSigned 32 (ratRound (e * 10)) ∧
      t.f F.TCK_TRIM_TRIM = encSigned 24 trim

theorem Phased.of_same {x : QEntry} {ofs : Nat} (h : Phased x ofs u s) (k : PhaseSame s t) : Phased x ofs u t where
  ignored hi := by rw [k.ignored, k.corr]; exact h.ignored hi
  counted hi e trim he ht := by
    rw [k.corr, k.alignErr, k.alignAt, k.alignTime, k.err, k.trim]
    exact h.counted hi e trim he ht

theorem herdCommon_phased (hb : bitOf rq.arg 16 = true) (u : State) :
    Phased (herdEntry rq u) (u32 rq.payload 12) u (herdCommon rq u) := by
  rw [herdCommon_eq, if_pos hb]
  constructor
  case ignored =>
    intro hi
    rw [herdAlign_of_ignored ((alignIgnored_herdHeard rq u).trans hi)]
    refine ⟨fb_setB_same _ _ (by decide), ?_⟩
    rw [setB_tck, herdHeard_tck]
  case counted =>
    rintro hi e trim rfl rfl
    rw [herdAlign_of_counted ((alignIgnored_herdHeard rq u).trans hi), phaseError_herdHeard, newTrim_herdHeard, herdGrid_herdHeard]
    obtain ⟨h1, h2⟩ := aligned_words (herdEntry rq u) (phaseError u (herdGrid (herdEntry rq u) (u32 rq.payload 12) u))
      (newTrim u (herdEntry rq u).time (phaseError u (herdGrid (herdEntry rq u) (u32 rq.payload 12) u))) (herdHeard rq u)
    refine ⟨?_, rfl, ?_, rfl, h1, h2⟩
    · rw [aligned, herdTicks_herdHeard, trimmedPeriod_herdHeard]
    · rw [aligned, herdHeard_tck]

/-! ### The two rows of a HERD -/

theorem takeHerd_of (hb : rq.bcast = true) (hl : rq.payload.length = 16) (ho : s.off = false) : takeHerd rq s = true := by
  simp [takeHerd, len, hb, hl, ho]

theorem exec_herd (h : takeHerd rq s = true) (hb : bitOf rq.arg 17 = false) : exec (.herd rq) s =
    .next (herdTarget (herdEntry rq (accept 4 0x11 rq s)) (bitsOf rq.arg 15 0) (u32 rq.payload 0) (bitOf rq.arg 18)
      (herdCommon rq (accept 4 0x11 rq s))) := by
  show Host.Outcome.next (herdPlain rq s) = _
  rw [herdPlain, h, hb, Bool.not_true, Bool.or_self, if_neg (by decide)]

theorem exec_herdSetFrame (h : takeHerd rq s = true) (hb : bitOf rq.arg 17 = true) : exec (.herdSetFrame rq) s =
    .next (renumber ⟨herdTicks (herdEntry rq (accept 4 0x11 rq s)) (accept 4 0x11 rq s), u32 rq.payload 0, bitsOf rq.arg 15 0,
      bitOf rq.arg 18⟩ (dropTarget (herdCommon rq (accept 4 0x11 rq s)))) := by
  show Host.Outcome.next (herdSetFrame rq s) = _
  rw [herdSetFrame, h, hb, Bool.not_true, Bool.or_self, if_neg (by decide)]

end herd

/-- Settles O10: both rows hear the HERD and drop the target before it (`Readied`); what follows sets the target or the number. -/
theorem herdSetsTargetNumberAndOffset : Obligations.HerdSetsTargetNumberAndOffset := by
  rintro rq s hb hl ho u x early kept words hu hx rfl rfl rfl
  obtain ⟨hk, hp⟩ := herd_accept_rest (rq := rq) ho
  rw [← hu] at hk hp
  have ht : u.tck = s.tck := hk .tck (by decide)
  have htake := takeHerd_of hb hl ho
  have hplain (h17 : bitOf rq.arg 17 = false) := exec_herd htake h17
  have hset (h17 : bitOf rq.arg 17 = true) := exec_herdSetFrame htake h17
  rw [← hu, ← hx] at hplain hset
  have hno : ∀ n, u.tickNo n = s.tickNo n := tickNo_of (by rw [ht]) (by rw [ht])
  have hkept : keptSets u.tck = s.tck.sets.filter (fun y => !(s.tck.herd.any (fun h => y.herd && y.applyAt == h.applyAt))) := by
    rw [ht, keptSets]
  rw [← hkept, ← hp, ← ht]
  refine ⟨fun hn => ?_, ?_, ?_, fun h17 => ?_⟩
  · have he : x = ⟨4, 0x11, rq, s.time, s.tck.frame, s.tck.row⟩ := by rw [hx, hu]; exact herdEntry_of_new ho hn
    refine ⟨by rw [he, ht], ?_⟩
    rw [hno, herdTicks_of (s := s) x (by rw [ht]) (by rw [ht]), herdTicks_of_arrival (by rw [he]) (by rw [he]), ht]
  · rintro h17 late applyAt added rfl rfl hadd
    have h := herdTarget_targeted rq u x (bitsOf rq.arg 15 0) (u32 rq.payload 0) (bitOf rq.arg 18)
    have ha : added = cutSampled u.tck (u.tickNo 1)
        (targetAt (u.tickNo (herdTicks x u)) (bitsOf rq.arg 15 0) (u32 rq.payload 0) (bitOf rq.arg 18)).applyAt (bitsOf rq.arg 15 0) := by
      rw [hadd, ← hno, cutSampled]
      rfl
    refine ⟨_, hplain h17, h.herd, h.late, ?_, h.mofsValid, ?_, ?_, h.result, ?_, h.moves.sends.events, h.moves.frame⟩
    · rw [h.mofs, hx]
    · rw [h.row, hx]
    · rw [h.sets, ha]
      rfl
    · intro a haw
      rw [ha]
      refine h.dirty a fun hm => haw ?_
      simp only [List.mem_append, List.mem_cons] at hm ⊢
      tauto
  · rintro c hc h16 grid e trim rfl rfl rfl
    have hph := herdCommon_phased h16 u
    rw [← hx] at hph
    have hend : ∃ t, exec c s = .next t ∧ PhaseSame (herdCommon rq u) t := by
      rcases hc with ⟨h17, rfl⟩ | ⟨h17, rfl⟩
      · exact ⟨_, hplain h17, herdTarget_phase _ _ _ _ _⟩
      · exact ⟨_, hset h17, (dropTarget_phase _).trans (renumber_phase _ _)⟩
    obtain ⟨t, hex, hsame⟩ := hend
    have h := hph.of_same hsame
    exact ⟨t, hex, h.ignored, fun hi => h.counted hi _ _ rfl rfl⟩
  · have hv := readied rq u
    have hm := hv.moves.mono (p' := [.tck, .pwr, .hlv]) (w' := [0x3008, 0x3014, 0x3020, 0x3048, 0x304C, 0x3050]) (by decide) (by decide)
    have hr := hm.andThen (renumber_moves ⟨herdTicks x u, u32 rq.payload 0, bitsOf rq.arg 15 0, bitOf rq.arg 18⟩ _) (by decide) (by decide)
    refine ⟨_, hset h17, hv.herd, rfl, ?_, hv.dirty, ?_, hv.mofsValid, hv.result, hr.sends.events, hr.frame⟩
    · rintro m rfl
      rw [← hv.sets, ← hno, ← hno, ← hv.tickNo, ← hv.tickNo]
      rfl
    · rw [hx]
      exact hv.mofs

end Sys2Proof.Machine
end

section
/-! The drive map and the words of the pixels (R77, R82, R210, R212, R245); O26. -/

namespace Sys2Proof.Machine

section drive

/-! ### The drive map (R82) -/

/-- RANGE and WIDTH of a code: m is 4^r, the width is the code over m, and r is the highest range that keeps it at 1,024 or more. -/
structure DriveStep (x r w m : Nat) : Prop where
  range : r ≤ 3
  width : w < 4096
  step : m = 4 ^ r
  share : w = x / m
  wide : 1 ≤ r → 1024 ≤ w
  highest : ∀ q ≤ 3, r < q → x / 4 ^ q < 1024

theorem driveMap_step {x r w m : Nat} (hx : x < 262144) (h : driveMap x = (r, w, m)) : DriveStep x r w m := by
  unfold driveMap at h
  split at h
  · cases h
    exact ⟨by decide, by omega, rfl, by omega, by omega, fun q hq hr => by interval_cases q <;> omega⟩
  · split at h
    · cases h
      exact ⟨by decide, by omega, rfl, rfl, by omega, fun q hq hr => by interval_cases q <;> omega⟩
    · split at h
      · cases h
        exact ⟨by decide, by omega, rfl, rfl, by omega, fun q hq hr => by interval_cases q; omega⟩
      · cases h
        exact ⟨by decide, by omega, rfl, rfl, by omega, fun q hq hr => by omega⟩

theorem DriveStep.pos {x r w m : Nat} (h : DriveStep x r w m) : 0 < m := h.step ▸ Nat.pow_pos (by decide)

/-- The width holds all of the code but what is below one step of it. -/
theorem DriveStep.bounds {x r w m : Nat} (h : DriveStep x r w m) : w * m ≤ x ∧ x < (w + 1) * m := by
  rw [h.share]
  exact ⟨Nat.div_mul_le_self x m, by rw [Nat.mul_comm]; exact Nat.lt_mul_div_succ x h.pos⟩

/-- What is lost is below one step, and a step is at most a 1,024th of the code. -/
theorem DriveStep.lost_lt {x r w m : Nat} (h : DriveStep x r w m) (hx : 4096 < x) : 1024 * (x - w * m) < x := by
  obtain ⟨hl, hu⟩ := h.bounds
  rw [Nat.add_mul, Nat.one_mul] at hu
  have hw : 1024 ≤ w ∨ r = 0 := (Nat.eq_zero_or_pos r).symm.imp_left h.wide
  rcases hw with hw | rfl
  · have : 1024 * m ≤ w * m := Nat.mul_le_mul_right m hw
    omega
  · have := h.step
    omega

/-! ### Stages 5 to 7 (R95) -/

theorem roundDiv_mul (a : Nat) {b : Nat} (hb : 0 < b) : roundDiv (a * b) b = a := by
  rw [roundDiv, show 2 * (a * b) + b = b + a * (2 * b) by ring, Nat.add_mul_div_right _ _ (by omega),
    Nat.div_eq_of_lt (by omega), Nat.zero_add]

theorem DrvPass.code_le (k : DrvPass) (g v : Nat) : k.code g v ≤ 262143 := Nat.min_le_left _ _

/-- With factors of 1.0 the code is 4 × the value leaving stage 4. -/
theorem DrvPass.code_of_unity {k : DrvPass} {g v : Nat} (hd : k.d = 0x8000) (hp : k.gp = 0x8000) (hg : g * k.c = 2 ^ 37)
    (hv : v ≤ 65535) : k.code g v = 4 * v := by
  have h5 : min 65535 (roundDiv (v * 0x8000) 0x8000) = v := by
    rw [roundDiv_mul v (by decide), Nat.min_eq_right hv]
  rw [DrvPass.code, hd, hp, h5, h5, Nat.mul_assoc, hg, roundDiv_mul _ (by decide)]
  omega

theorem DrvPass.raised_lt {k : DrvPass} (near : Bool) {x : Nat} (xc : Nat) (hx : x ≤ 262143) : k.raised near x xc < 262144 := by
  unfold DrvPass.raised
  split
  · split <;> omega
  · omega

/-! ### The word of a pixel (R77, R210, R245) -/

/-- WIDTH and RANGE are read back from a word, whatever its mark. -/
theorem pwFields_word (mark : Bool) {r w : Nat} (hr : r ≤ 3) (hw : w < 4096) :
    pwWidth (b2n mark * 0x4000 + r * 0x1000 + w) = w ∧ pwRange (b2n mark * 0x4000 + r * 0x1000 + w) = r := by
  simp only [pwWidth, pwRange, bitsOf, Nat.shiftRight_eq_div_pow]
  cases mark <;> simp only [b2n] <;> constructor <;> omega

variable (s : State) (k : DrvPass) (zs : List Zone) (m0 mu md : List Nat) {p v : Nat}

theorem drvPixel_mapped (hp : p ∈ m0) : drvPixel s k zs m0 mu md p v = ⟨0x8000, 0, false⟩ := by simp [drvPixel, hp]

theorem drvPixel_dark (hp : p ∉ m0) (hd : v = 0 ∨ ceilAt zs (pixX p) = some 0) :
    drvPixel s k zs m0 mu md p v = ⟨0, 0, false⟩ := by
  rcases hd with rfl | hc
  · cases hc : ceilAt zs (pixX p) <;> simp [drvPixel, hp, hc]
  · simp [drvPixel, hp, hc]

/-- The width of a word: that of the code, raised to COLD_MINW in range 0 (R83). -/
def coldWidth (k : DrvPass) (r w : Nat) : Nat := if r = 0 && decide (0 < w) then max w k.coldMin else w

theorem coldWidth_lt {r w : Nat} (hw : w < 4096) (hc : k.coldMin < 4096) : coldWidth k r w < 4096 := by
  unfold coldWidth
  split <;> omega

/-- A pixel that is not mapped is dark, or it is driven at the drive map of a code. -/
theorem drvPixel_unmapped (hp : p ∉ m0) : drvPixel s k zs m0 mu md p v = ⟨0, 0, false⟩ ∨
    ∃ x < 262144, ∃ r w m, driveMap x = (r, w, m) ∧ ∃ mark viol, drvPixel s k zs m0 mu md p v =
      ⟨b2n mark * 0x4000 + r * 0x1000 + coldWidth k r w, coldWidth k r w * m, viol⟩ := by
  rw [drvPixel, if_neg (by simpa using hp)]
  cases ceilAt zs (pixX p)
  all_goals
    dsimp only
    split
    · exact .inl rfl
    · generalize hx : DrvPass.raised k _ _ _ = x
      exact .inr ⟨x, hx ▸ DrvPass.raised_lt _ _ (DrvPass.code_le ..), _, _, _, rfl, _, _, rfl⟩

/-- The share of S is the width of the word times its step. -/
theorem drvPixel_share (hc : k.coldMin < 4096) (hp : p ∉ m0) : (drvPixel s k zs m0 mu md p v).share =
    pwWidth (drvPixel s k zs m0 mu md p v).word * 4 ^ pwRange (drvPixel s k zs m0 mu md p v).word := by
  rcases drvPixel_unmapped s k zs m0 mu md (v := v) hp with h | ⟨x, hx, r, w, m, hm, mark, viol, h⟩
  · rw [h]
    rfl
  · have hd := driveMap_step hx hm
    obtain ⟨hw, hr⟩ := pwFields_word mark hd.range (coldWidth_lt k (r := r) hd.width hc)
    rw [h, hw, hr, hd.step]

end drive

/-- Settles O26, from the steps of the drive map and the three kinds of pixel. -/
theorem pixelWordsFollowTheDriveMap : Obligations.PixelWordsFollowTheDriveMap := by
  refine ⟨fun x hx r w m h => ?_, fun k g v => ⟨k.code_le g v, DrvPass.code_of_unity⟩, fun s k zs m0 mu md p v => ⟨?_, ?_, ?_⟩⟩
  · have hd := driveMap_step hx h
    obtain ⟨hl, hu⟩ := hd.bounds
    exact ⟨hd.range, hd.width, hd.step, hd.share, hl, hu, hd.wide, hd.highest, hd.lost_lt⟩
  · exact drvPixel_mapped s k zs m0 mu md
  · exact drvPixel_dark s k zs m0 mu md
  · rintro o rfl hc hp
    exact drvPixel_share s k zs m0 mu md hc hp

end Sys2Proof.Machine
end

section
/-! The photodiodes, the flux loop and the reference refresh (R98 to R100, R104, R105); O29. -/

namespace Sys2Proof.Machine

section flux

variable {s t u : State} {readings : List (Nat × Nat)} {qs : List Rat} {n : Nat}

/-! ### The readings (R98) -/

/-- A run of writes to one field of different words leaves each word its own value. -/
theorem f_foldl_setF {x : Fld} (hx : x.ok) (g : Nat → Nat) : ∀ {l : List Nat}, l.Nodup → n ∈ l → ∀ s : State,
    (l.foldl (fun t i => t.setF (x.at (4 * i)) (g i)) s).f (x.at (4 * n)) = g n % 2 ^ (x.hi + 1 - x.lo)
  | i :: l, hl, hm, s => by
    obtain ⟨hi, hl'⟩ := List.nodup_cons.1 hl
    rw [List.foldl_cons]
    rcases List.mem_cons.1 hm with rfl | hm
    · have hk := KeepsRegs.foldl (l := l.map (fun i => x.addr + 4 * i)) (g := fun t i => t.setF (x.at (4 * i)) (g i)) l
        (fun t i hi => setF_keepsRegs t _ (List.mem_map_of_mem hi)) (s.setF (x.at (4 * n)) (g n))
      rw [hk.f, f_setF_mod _ _ (show (x.at (4 * n)).ok from hx)]
      · rfl
      · simp only [Fld.at, List.mem_map, not_exists, not_and]
        intro j hj e
        exact hi (by rwa [show n = j by omega])
    · exact f_foldl_setF hx g hl' hm _

/-- The reading of a photodiode in ADC codes, on less off. -/
def pdReading (readings : List (Nat × Nat)) (n : Nat) : Nat :=
  min 4095 ((nth (0, 0) readings n).2 - (nth (0, 0) readings n).1)

/-- The state with the readings of a period. -/
def pdRead (readings : List (Nat × Nat)) (s : State) : State :=
  (List.range 4).foldl (fun t n => t.setF (F.DRV_PD0_READ.at (4 * n)) (pdReading readings n)) s

theorem pdRead_reads (readings : List (Nat × Nat)) (hn : n < 4) (s : State) :
    (pdRead readings s).f (F.DRV_PD0_READ.at (4 * n)) = pdReading readings n := by
  rw [pdRead, f_foldl_setF (by decide) _ List.nodup_range (List.mem_range.2 hn)]
  exact Nat.mod_eq_of_lt (Nat.lt_of_le_of_lt (Nat.min_le_left _ _) (by decide))

/-- The words of the photodiodes, and all that reading them writes. -/
def pdWords : List Nat := [0x6030, 0x6034, 0x6038, 0x603C]
def fluxWords : List Nat := pdWords ++ [0x602C, 0x6050]

theorem mem_pdWords (hn : n < 4) : 0x6030 + 4 * n ∈ pdWords := by
  interval_cases n <;> decide

theorem pdRead_moves (readings : List (Nat × Nat)) (s : State) : Moves [.event] [] pdWords s (pdRead readings s) :=
  Moves.foldl _ (fun _ _ hn h => h.setF _ (List.mem_append_right _ (mem_pdWords (List.mem_range.1 hn)))) (Moves.refl _ _ _ s)

/-! ### Which photodiodes are valid (R99) -/

theorem pdValid_sublist (s : State) : (pdValid s).Sublist (List.range 4) := by
  unfold pdValid
  dsimp only
  split
  · exact List.filter_sublist
  · exact List.filter_sublist.trans List.filter_sublist

theorem mem_pdValid (h : n ∈ pdValid s) : n < 4 ∧ pdInRange (pdQ s n) = true := by
  unfold pdValid at h
  dsimp only at h
  split at h
  · simpa using h
  · simpa using (List.mem_filter.1 h).1

/-- The quotient of a valid photodiode lies within 0.50 to 1.50. -/
theorem pdValid_inRange (h : n ∈ pdValid s) : ∃ q, pdQ s n = some q ∧ (1 / 2 : Rat) ≤ q ∧ q ≤ 3 / 2 := by
  obtain ⟨-, hr⟩ := mem_pdValid h
  cases hq : pdQ s n with
  | none => simp [hq, pdInRange] at hr
  | some q => exact ⟨q, rfl, by simpa [hq, pdInRange] using hr⟩

/-- One bit a valid photodiode, in four bits. -/
theorem pdValid_mask_lt (s : State) : ((pdValid s).map (fun n => 2 ^ n)).sum < 16 :=
  Nat.lt_of_le_of_lt (((pdValid_sublist s).map _).sum_le_sum fun _ _ => Nat.zero_le _) (by decide)

/-- Fewer than four are valid: one is not. -/
theorem pdValid_rejects (h : (pdValid s).length < 4) : (List.range 4).filter (fun n => !(pdValid s).contains n) ≠ [] := by
  intro he
  have hall : List.range 4 ⊆ pdValid s := fun n hn => by
    simpa using (List.filter_eq_nil_iff.1 he) n hn
  have := (List.nodup_range.subperm hall).length_le
  rw [List.length_range] at this
  omega

theorem pdQ_congr (h : t.reg (0x6030 + 4 * n) = s.reg (0x6030 + 4 * n)) : pdQ t n = pdQ s n := by
  have hf : ∀ hi lo, t.f ⟨0x6030 + 4 * n, hi, lo⟩ = s.f ⟨0x6030 + 4 * n, hi, lo⟩ := fun hi lo => by simp only [State.f, h]
  unfold pdQ
  dsimp only [Fld.at]
  rw [hf, hf]

/-- Which are valid follows from the words of the photodiodes. -/
theorem pdValid_congr (h : ∀ n < 4, pdQ t n = pdQ s n) :
    pdValid t = pdValid s ∧ (pdValid t).filterMap (pdQ t) = (pdValid s).filterMap (pdQ s) := by
  have hok : (List.range 4).filter (fun n => pdInRange (pdQ t n)) = (List.range 4).filter (fun n => pdInRange (pdQ s n)) :=
    List.filter_congr fun n hn => by rw [h n (List.mem_range.1 hn)]
  have hmap : ∀ l : List Nat, (∀ n ∈ l, n < 4) → l.filterMap (pdQ t) = l.filterMap (pdQ s) := fun l hl =>
    List.filterMap_congr fun n hn => h n (hl n hn)
  have hlt : ∀ n ∈ (List.range 4).filter (fun n => pdInRange (pdQ s n)), n < 4 := fun n hn =>
    List.mem_range.1 (List.mem_filter.1 hn).1
  have hv : pdValid t = pdValid s := by
    unfold pdValid
    simp only [hok, hmap _ hlt]
    split
    · rfl
    · exact List.filter_congr fun n hn => by rw [h n (hlt n hn)]
  exact ⟨hv, by rw [hv]; exact hmap _ fun n hn => (mem_pdValid hn).1⟩

/-! ### What the valid photodiodes are told in -/

/-- What showing the valid photodiodes leaves. -/
structure PdTold (s t : State) : Prop where
  moves : Moves [.event] [] [0x602C, 0x6050] s t
  valid : t.f F.DRV_FLUX_PD_VALID = ((pdValid s).map (fun n => 2 ^ n)).sum
  reject : (pdValid s).length < 4 → t.fb F.DRV_STATUS_PD_REJECT = true
  corr : t.f F.DRV_FLUX_CORR = s.f F.DRV_FLUX_CORR

theorem pdTold_shown (s : State) (h : (List.range 4).filter (fun n => !(pdValid s).contains n) = []) :
    PdTold s (s.setF F.DRV_FLUX_PD_VALID ((pdValid s).map (fun n => 2 ^ n)).sum) :=
  ⟨(Moves.refl _ _ _ s).setF _ (by decide), f_setF_same s (by decide) (pdValid_mask_lt s),
    fun hl => absurd h (pdValid_rejects hl), f_setF_other s _ (by decide) (by decide) (by decide)⟩

theorem pdTold_rejected (data : List Byte) (s : State) :
    PdTold s (((s.setF F.DRV_FLUX_PD_VALID ((pdValid s).map (fun n => 2 ^ n)).sum).setB F.DRV_STATUS_PD_REJECT true).raise
      0x64 data) := by
  refine ⟨(((Moves.refl _ _ _ s).setF _ (by decide)).setB _ (by decide)).raise (by decide) _ _, ?_, fun _ => ?_, ?_⟩
  · rw [raise_f _ _ _ (by decide), f_setB_other _ _ (by decide) (by decide) (by decide),
      f_setF_same s (by decide) (pdValid_mask_lt s)]
  · rw [raise_fb _ _ _ (by decide), fb_setB_same _ _ (by decide)]
  · rw [raise_f _ _ _ (by decide), f_setB_other _ _ (by decide) (by decide) (by decide),
      f_setF_other s _ (by decide) (by decide) (by decide)]

/-! ### The flux loop (R100) -/

/-- The bounded inverse of the mean of the quotients. -/
def fluxTarget (qs : List Rat) : Rat :=
  maxR (17 / 20) (minR (23 / 20) (if qs.sum / (qs.length : Rat) = 0 then 0 else 1 / (qs.sum / (qs.length : Rat))))

/-- The correction of the next period, in steps of 2^-23. -/
def fluxNext (qs : List Rat) (s : State) : Nat :=
  ratSteps 8388608 ((s.f F.DRV_FLUX_CORR : Rat) / 8388608 +
    (fluxTarget qs - (s.f F.DRV_FLUX_CORR : Rat) / 8388608) / (10 * (rateHz s.rate : Rat)))

/-- A correction taken, and whether a bound holds it (R100). -/
def fluxBound (low : Bool) (data : List Byte) (s : State) : State :=
  if !low then { s with drv.fluxLow := false }
  else
    let t := { (s.setB F.DRV_FLUX_LIMIT true).setB F.DRV_STATUS_FLUX_LIMIT true with drv.fluxLow := true }
    if s.drv.fluxLow then t else t.raise 0x63 data

theorem fluxLoop_eq (qs : List Rat) (s : State) :
    ∃ low data, fluxLoop qs s = fluxBound low data (s.setF F.DRV_FLUX_CORR (fluxNext qs s)) := ⟨_, _, rfl⟩

theorem fluxBound_moves (low : Bool) (data : List Byte) (s : State) :
    Moves [.event] [.drv] [0x602C, 0x6050] s (fluxBound low data s) := by
  have h := (((Moves.refl [.event] [.drv] [0x602C, 0x6050] s).setB (x := F.DRV_FLUX_LIMIT) true (by decide)).setB
    (x := F.DRV_STATUS_FLUX_LIMIT) true (by decide)).drv (by decide) (x := { s.drv with fluxLow := true })
  exact .ite ((Moves.refl _ _ _ s).drv (by decide)) (.ite h (h.raise (by decide) _ _))

/-- Beside the two bits of the bound it leaves every field. -/
theorem fluxBound_f {x : Fld} (hx : x.ok) (he : x.addr ∉ eventRegs) (h1 : F.DRV_FLUX_LIMIT.apart x)
    (h2 : F.DRV_STATUS_FLUX_LIMIT.apart x) (low : Bool) (data : List Byte) (s : State) : (fluxBound low data s).f x = s.f x := by
  have h : ((s.setB F.DRV_FLUX_LIMIT true).setB F.DRV_STATUS_FLUX_LIMIT true).f x = s.f x := by
    rw [f_setB_other _ _ (by decide) hx h2, f_setB_other _ _ (by decide) hx h1]
  unfold fluxBound
  split
  · rfl
  · dsimp only
    split
    · exact h
    · exact (raise_f _ _ _ he).trans h

/-- What the loop leaves: the correction of the next period, and the photodiodes as they were shown. -/
theorem fluxLoop_corrects (qs : List Rat) (s : State) :
    Moves [.event] [.drv] [0x602C, 0x6050] s (fluxLoop qs s) ∧
      (fluxLoop qs s).f F.DRV_FLUX_CORR = fluxNext qs s % 2 ^ 24 ∧
      (fluxLoop qs s).f F.DRV_FLUX_PD_VALID = s.f F.DRV_FLUX_PD_VALID ∧
      (fluxLoop qs s).f F.DRV_STATUS_PD_REJECT = s.f F.DRV_STATUS_PD_REJECT := by
  obtain ⟨low, data, e⟩ := fluxLoop_eq qs s
  rw [e]
  refine ⟨((Moves.refl _ _ _ s).setF _ (by decide)).trans (fluxBound_moves low data _), ?_, ?_, ?_⟩ <;>
    rw [fluxBound_f (by decide) (by decide) (by decide) (by decide)]
  · exact f_setF_mod s _ (by decide)
  · exact f_setF_other s _ (by decide) (by decide) (by decide)
  · exact f_setF_other s _ (by decide) (by decide) (by decide)

/-- The loop of one period, if it runs. -/
def fluxRun (on : Bool) (qs : List Rat) (s : State) : State := if on then fluxLoop qs s else s

theorem fluxRun_leaves (on : Bool) (qs : List Rat) (s : State) :
    Moves [.event] [.drv] [0x602C, 0x6050] s (fluxRun on qs s) ∧
      (fluxRun on qs s).f F.DRV_FLUX_CORR = (if on then fluxNext qs s % 2 ^ 24 else s.f F.DRV_FLUX_CORR) ∧
      (fluxRun on qs s).f F.DRV_FLUX_PD_VALID = s.f F.DRV_FLUX_PD_VALID ∧
      (fluxRun on qs s).f F.DRV_STATUS_PD_REJECT = s.f F.DRV_STATUS_PD_REJECT := by
  cases on
  · exact ⟨.refl _ _ _ s, rfl, rfl, rfl⟩
  · exact fluxLoop_corrects qs s

theorem rate_congr (hc : t.tck = s.tck) (hf : t.fb F.PWR_CLK_SEL = s.fb F.PWR_CLK_SEL) : t.rate = s.rate := by
  unfold State.rate State.onFrc State.a
  rw [hc, hf]

theorem fluxNext_congr (hk : Moves [.event] [] fluxWords s t)
    (hc : t.f F.DRV_FLUX_CORR = s.f F.DRV_FLUX_CORR) (qs : List Rat) : fluxNext qs t = fluxNext qs s := by
  rw [fluxNext, hc, rate_congr (hk.keeps .tck (by decide)) (hk.regs.fb (by decide)), fluxNext]

/-! ### PHOTODIODE_READ -/

/-- The readings are kept and told; then the loop runs if it is enabled and two photodiodes are valid. -/
theorem photodiodeRead_eq (readings : List (Nat × Nat)) (hr : s.tck.running = true) : ∃ u, PdTold (pdRead readings s) u ∧
    photodiodeRead readings s = fluxRun (u.fb F.DRV_FLUX_CTRL_EN && decide (2 ≤ (pdValid (pdRead readings s)).length))
      ((pdValid (pdRead readings s)).filterMap (pdQ (pdRead readings s))) u := by
  have hv : (pdRead readings s) = (List.range 4).foldl (fun t n =>
      t.setF (F.DRV_PD0_READ.at (4 * n)) (min 4095 ((nth (0, 0) readings n).2 - (nth (0, 0) readings n).1))) s := rfl
  simp only [photodiodeRead, hr, Bool.not_true, Bool.false_eq_true, if_false, ← hv]
  cases he : (List.range 4).filter (fun n => !(pdValid (pdRead readings s)).contains n) with
  | nil => exact ⟨_, pdTold_shown _ he, rfl⟩
  | cons n l => exact ⟨_, pdTold_rejected _ _, rfl⟩

/-- What PHOTODIODE_READ leaves: the readings, which photodiodes are valid, and the correction. -/
structure PhotodiodesRead (readings : List (Nat × Nat)) (s t : State) : Prop where
  frame : EvFrame [.drv] fluxWords s t
  reads : ∀ n < 4, t.f (F.DRV_PD0_READ.at (4 * n)) = pdReading readings n
  valid : t.f F.DRV_FLUX_PD_VALID = ((pdValid t).map (fun n => 2 ^ n)).sum
  reject : (pdValid t).length < 4 → t.fb F.DRV_STATUS_PD_REJECT = true
  corr : t.f F.DRV_FLUX_CORR = if s.fb F.DRV_FLUX_CTRL_EN && decide (2 ≤ (pdValid t).length)
    then fluxNext ((pdValid t).filterMap (pdQ t)) s % 2 ^ 24 else s.f F.DRV_FLUX_CORR

/-- What is told after the readings does not change them. -/
theorem pdQ_kept (h : Moves [.event] [.drv] [0x602C, 0x6050] s t) (hn : n < 4) : pdQ t n = pdQ s n :=
  pdQ_congr (h.regs _ (by interval_cases n <;> decide))

theorem photodiodeRead_leaves (readings : List (Nat × Nat)) (hr : s.tck.running = true) :
    PhotodiodesRead readings s (photodiodeRead readings s) := by
  obtain ⟨u, hu, e⟩ := photodiodeRead_eq readings hr
  have hread := pdRead_moves readings s
  have hreads {n : Nat} (hn : n < 4) := pdRead_reads readings hn s
  have hsu : Moves [.event] [] fluxWords s u := (hread.mono (by simp) (by decide)).andThen hu.moves (by simp) (by decide)
  have hcorr : u.f F.DRV_FLUX_CORR = s.f F.DRV_FLUX_CORR := hu.corr.trans (hread.regs.f (by decide))
  rw [hsu.regs.fb (show F.DRV_FLUX_CTRL_EN.addr ∉ _ by decide)] at e
  generalize photodiodeRead readings s = t at e ⊢
  generalize pdRead readings s = r at *
  obtain ⟨hm, hx, hvalid, hrej⟩ := fluxRun_leaves (s.fb F.DRV_FLUX_CTRL_EN && decide (2 ≤ (pdValid r).length))
    ((pdValid r).filterMap (pdQ r)) u
  rw [← e] at hm hx hvalid hrej
  have hrt := (hu.moves.mono (p' := [.drv]) (by simp) (List.Subset.refl _)).trans hm
  obtain ⟨hv, hq⟩ := pdValid_congr fun n hn => pdQ_kept hrt hn
  refine ⟨((hread.mono (p' := [.drv]) (w' := fluxWords) (by simp) (by decide)).andThen hrt (by simp) (by decide)).frame,
    fun n hn => ?_, ?_, fun hl => ?_, ?_⟩
  · rw [hrt.regs.f (by interval_cases n <;> decide)]
    exact hreads hn
  · rw [hvalid, hu.valid, hv]
  · rw [State.fb, hrej]
    exact hu.reject (by rwa [hv] at hl)
  · rw [hx, hcorr, fluxNext_congr hsu hcorr, ← hq, ← hv]

/-! ### The reference refresh (R104, R105) -/

theorem refreshFrames_lt (b : Nat) : refreshFrames b < 2 ^ 5 := by
  unfold refreshFrames
  split <;> decide

/-- The idle cells charged. -/
def refreshed (s : State) : State := { s with drv.cells := true, drv.sinceRefresh := 0 }

theorem referenceRefresh_due (hr : s.tck.running = true) (hd : s.f F.DRV_REFRESH_INTERVAL ≤ s.drv.sinceRefresh) :
    referenceRefresh s = ((refreshed s).setF F.DRV_REFRESH_LAST_FRAME s.tck.frame).setF F.DRV_REFRESH_INTERVAL
      (refreshFrames s.band) := by
  simp only [referenceRefresh, hr, Nat.not_lt.2 hd, Bool.not_true, decide_false, Bool.or_self, Bool.false_eq_true, if_false,
    refreshed]

theorem referenceRefresh_early (hd : s.drv.sinceRefresh < s.f F.DRV_REFRESH_INTERVAL) : referenceRefresh s = s := by
  simp only [referenceRefresh, hd, decide_true, Bool.or_true, if_true]

end flux

/-- Settles O29: the readings stand when the valid photodiodes are told, and the loop writes no word of theirs. -/
theorem fluxAndReferenceFollowTheirLoops : Obligations.FluxAndReferenceFollowTheirLoops := by
  refine fun s hr => ⟨fun readings => ?_, fun hd => ?_, fun hd => ?_⟩
  · have h := photodiodeRead_leaves readings hr
    refine ⟨_, rfl, h.reads, h.valid, fun n hn => pdValid_inRange hn, h.reject, fun hn => ?_, fun he hl => ?_, h.frame⟩
    · refine h.corr.trans (if_neg ?_)
      rcases hn with hn | hn <;> simp [hn]
    · rintro mean target c rfl rfl rfl
      exact h.corr.trans (if_pos (by simp [he, hl]))
  · refine ⟨_, congrArg Host.Outcome.next (referenceRefresh_due hr hd), rfl, ?_, ?_, ?_, ?_⟩
    · rw [f_setF_other _ _ (by decide) (by decide) (by decide)]
      exact f_setF_mod _ _ (by decide)
    · exact f_setF_same _ (by decide) (refreshFrames_lt _)
    · exact fun q hq => by cases q <;> first | rfl | exact absurd (by simp) hq
    · exact KeepsRegs.trans (t := (refreshed s).setF F.DRV_REFRESH_LAST_FRAME s.tck.frame)
        (setF_keepsRegs (refreshed s) _ (by decide)) (setF_keepsRegs _ _ (by decide))
  · exact congrArg Host.Outcome.next (referenceRefresh_early hd)

end Sys2Proof.Machine
end

section
/-! FLUX_CAL: its start in either mode, and the end of a tile (R101 to R103, R110, R111, R254); O21. -/

namespace Sys2Proof.Machine

section calibration

variable {rq : Req} {s t u : State} {c : FluxCal}

/-! ### The log entry of a change (R255) -/

/-- A field of a byte string that is laid out field by field. -/
theorem leNat_slice_append {a b : List Byte} {i n m : Nat} (h : a.length = i) (hm : 256 ^ n = m) (v : Nat) :
    leNat (slice (a ++ (bytesLE n v ++ b)) i n) = v % m := by
  rw [slice, ← h, List.drop_left, List.take_left' (bytesLE_length n v), leNat_bytesLE, hm]

/-- What stands before the parameter in a log entry. -/
def logHead (s : State) (seq : Nat) : List Byte := bytesLE 2 seq ++ bytesLE 8 s.time ++ bytesLE 4 s.tck.frame ++ bytesLE 4 s.minutes

theorem logHead_length (s : State) (seq : Nat) : (logHead s seq).length = 18 := by simp [logHead]

/-- The parameter, its old and its new value in a log entry. -/
theorem logEntry_fields (s : State) (stream seq : Nat) (i : LogItem) : u16 (logEntry s stream seq i) 18 = i.param % 2 ^ 16 ∧
    u32 (logEntry s stream seq i) 20 = i.old % 2 ^ 32 ∧ u32 (logEntry s stream seq i) 24 = i.new % 2 ^ 32 := by
  have e : ∃ tail, logEntry s stream seq i = logHead s seq ++ (bytesLE 2 i.param ++ (bytesLE 4 i.old ++ (bytesLE 4 i.new ++ tail))) :=
    ⟨_, by simp only [logEntry, logHead, List.append_assoc]; rfl⟩
  obtain ⟨tail, e⟩ := e
  rw [e]
  refine ⟨leNat_slice_append (logHead_length s seq) rfl _, ?_, ?_⟩
  · rw [← List.append_assoc]
    exact leNat_slice_append (by simp [logHead_length]) rfl _
  · rw [← List.append_assoc, ← List.append_assoc]
    exact leNat_slice_append (by simp [logHead_length]) rfl _

/-- One entry is one append (R255). -/
theorem appendOps_one (first : Nat) (e : List Byte) : appendOps first [e] = [.append [e]] := by
  have : 1 ≤ 128 - first % 128 := by omega
  simp [appendOps, this]

/-- A change of one parameter that no record stores. -/
theorem logChange_one (stream : Nat) (owner : Option Nat) (i : LogItem) (s : State) :
    (logChange stream owner [i] false s).saf = { s.saf with logNext := s.saf.logNext + 1, unlockTime := s.time } ∧
      (logChange stream owner [i] false s).nvm.ops =
        s.nvm.ops ++ [⟨.append [logEntry s stream (s.saf.logNext + 1) i], owner, false⟩] := by
  have h : (logChange stream owner [i] false s).nvm.ops =
      s.nvm.ops ++ (appendOps s.saf.logNext [logEntry s stream (s.saf.logNext + 1) i]).map (fun k => ⟨k, owner, false⟩) := rfl
  exact ⟨rfl, by rw [h, appendOps_one, List.map_singleton]⟩

/-! ### The start (R101, R103, R110) -/

theorem fluxCalBody_starts (hl : rq.payload.length = 8) (hm : fcMode rq = 0) (hc : s.drv.cal = none) (ht : fcTilesOk rq = true)
    (hr : inRange (fcRepeats rq) 1 8 = true) (hlamp : s.lamp = Lamp.lit ∨ s.lamp = Lamp.fading ∨ s.lamp = Lamp.safeHold)
    (hs : fcStore rq = true → s.sdActive = false) :
    fluxCalBody rq s = fcStart rq false (fcRepeats rq * 64 * fcCount rq) s := by
  have hlen : fcLenOk rq = true := by simp [fcLenOk, len, hl, hm]
  have hlit : (s.lamp == Lamp.lit || s.lamp == Lamp.fading || s.lamp == Lamp.safeHold) = true := by
    simpa [or_assoc] using hlamp
  have hstore : (!fcStore rq || !s.sdActive) = true := by
    cases h : fcStore rq
    · rfl
    · rw [hs h]
      rfl
  simp only [fluxCalBody, withLen, hlen, if_true, guarded, checkAll, hm, hc, ht, hr, hlit, hstore, beq_self_eq_true,
    Option.isNone_none, Bool.and_self]

theorem fluxCalSuppliedBody_starts (hl : rq.payload.length = (8 + 2 * fcCount rq + 3) / 4 * 4) (hm : fcMode rq = 1)
    (hb : rq.bcast = false) (hu : s.unlocked rq.stream = true) (hc : s.drv.cal = none) (ht : fcTilesOk rq = true)
    (hr : fcRepeats rq = 0) (hf : ∀ i < fcCount rq, inRange (fcFactor rq i) 0x4000 0xC000 = true) (hroom : logRoom s 1 = true)
    (hd : s.sdActive = false) :
    fluxCalSuppliedBody rq s = fcStart rq true (fcCount rq) (logChange rq.stream (some s.curSeq)
      [⟨0xF010, foptCrc s.foptSoon, foptCrc (suppliedTable rq s.foptSoon)⟩] false s) := by
  have hlen : fcLenOk rq = true := by
    have : 8 ≤ (8 + 2 * fcCount rq + 3) / 4 * 4 := by omega
    simp [fcLenOk, len, hl, hm, this]
  have hall : (List.range (fcCount rq)).all (fun i => inRange (fcFactor rq i) 0x4000 0xC000) = true :=
    List.all_eq_true.2 fun i hi => hf i (List.mem_range.1 hi)
  simp only [fluxCalSuppliedBody, withLen, hlen, if_true, guarded, List.cons_append, List.nil_append, checkAll, hm, hb, hu, hc, ht,
    hr, hall, beq_self_eq_true, Bool.not_false, Option.isNone_none, Bool.and_self, changeChecks_pass hroom hd]

/-- A calibration that stands at its first tile. -/
def calBegun (rq : Req) (supplied : Bool) (s : State) : State :=
  { s with
    drv.cal := some ⟨s.curSeq, supplied, fcStore rq, fcRepeats rq, fcTile rq, fcCount rq, 0, 0, 0, 0⟩
    drv.calMeas := [] }

theorem fcStart_eq (rq : Req) (supplied : Bool) (est : Nat) (s : State) :
    fcStart rq supplied est s = (calBegun rq supplied s, .accepted (zeros 3 ++ bytesLE 4 est) 0 []) := rfl

theorem calBegun_keeps (rq : Req) (supplied : Bool) (s : State) : Keeps [.drv] s (calBegun rq supplied s) := fun q hq => by
  cases q <;> first | rfl | exact absurd (by simp) hq

/-- A FLUX_CAL that starts behind a change of other parts is accepted. -/
theorem fluxCal_accepts {body : State → State × Reply} {supplied : Bool} {est : Nat} {parts : List Part} (hr : Runs 0x2C rq s)
    (hl : s.longRunning < 8) (hb : body (startCommand 0x2C (!reqClassN 0x2C rq) rq s) = fcStart rq supplied est u)
    (hk : Keeps parts (startCommand 0x2C (!reqClassN 0x2C rq) rq s) u) (hp : Part.cmd ∉ parts ∧ Part.regs ∉ parts ∧ Part.drv ∉ parts) :
    Accepts 0x2C rq (zeros 3 ++ bytesLE 4 est) s (command 0x2C rq body s) ∧
      (command 0x2C rq body s).drv = { s.drv with
        cal := some ⟨s.cmd.seq % 65536, supplied, fcStore rq, fcRepeats rq, fcTile rq, fcCount rq, 0, 0, 0, 0⟩, calMeas := [] } ∧
      Keeps [.cmd, .regs, .drv] u (command 0x2C rq body s) ∧ CmdFrame (.drv :: parts) [] s (command 0x2C rq body s) := by
  rw [command_eq hr]
  rw [fcStart_eq] at hb
  have hbegun := calBegun_keeps rq supplied u
  have hk' := (hk.mono (List.subset_cons_self .drv parts)).trans (hbegun.mono (by simp))
  have hcmd : (calBegun rq supplied u).cmd = (startCommand 0x2C (!reqClassN 0x2C rq) rq s).cmd := hk' .cmd (by simp [hp.1])
  have hregs : (calBegun rq supplied u).regs = s.regs := hk' .regs (by simp [hp.2.1])
  have hseq : u.curSeq = s.cmd.seq % 65536 := by
    rw [State.curSeq, show u.cmd = _ from hk .cmd hp.1]
    exact curSeq_startCommand _ _ _ _
  have hdrv : (calBegun rq supplied u).drv = { s.drv with
      cal := some ⟨s.cmd.seq % 65536, supplied, fcStore rq, fcRepeats rq, fcTile rq, fcCount rq, 0, 0, 0, 0⟩, calMeas := [] } := by
    rw [calBegun, hseq, show u.drv = s.drv from hk .drv hp.2.2]
  obtain ⟨ha, hf⟩ := runBody_accepts (parts := .drv :: parts) (words := []) hr.2 hl hb
    ((startCommand_keeps _ _ _ _ s).trans (hk'.mono (by simp))) (fun a _ => by rw [State.reg, hregs, State.reg])
    ⟨[], by simp, by rw [hcmd]; simp⟩ (by rw [hcmd]; rfl)
  obtain ⟨hrest, -⟩ := runBody_accepted_rest hl hb
  exact ⟨ha, (hrest .drv (by decide)).trans hdrv, (hbegun.mono (by simp)).trans (hrest.mono (by simp)), hf⟩

/-! ### A tile (R101, R111) -/

/-- What the end of a tile leaves once its factor stands in the table of the next tick. -/
structure TileEnds (c : FluxCal) (s t : State) : Prop where
  keeps : Keeps [.cmd, .drv, .nvm] s t
  cal : ∃ d, t.drv.cal = some d ∧ d.done = c.done + 1
  meas : t.drv.calMeas = []
  fel : t.drv.felNext = s.drv.felNext
  fopt : t.drv.foptNext = s.drv.foptNext

theorem TileEnds.andThen (h : TileEnds c s t) (hk : Keeps [.cmd, .nvm] t u) : TileEnds c s u := by
  have hd : u.drv = t.drv := hk .drv (by decide)
  exact ⟨h.keeps.trans (hk.mono (by simp)), by rw [hd]; exact h.cal, by rw [hd]; exact h.meas, by rw [hd]; exact h.fel,
    by rw [hd]; exact h.fopt⟩

theorem tileDone_ends (c : FluxCal) (res : Nat) (s : State) : TileEnds c s (tileDone c res s) :=
  ⟨fun q hq => by cases q <;> first | rfl | exact absurd (by simp) hq, ⟨_, rfl, rfl⟩, rfl, rfl, rfl⟩

theorem pushReply_keeps (op : Nat) (rq : Req) (final : Bool) (st : Nat) (body : List Byte) (seq : Option Nat) (s : State) :
    Keeps [.cmd] s (pushReply op rq final st body seq s) := by
  unfold pushReply
  split
  · exact .refl _ s
  · exact (Keeps.refl _ s).of_cur (by simp) _

theorem tileProgress_keeps (c : FluxCal) (res t px : Nat) (s : State) : Keeps [.cmd] s (tileProgress c res t px s) := by
  unfold tileProgress
  split
  · exact pushReply_keeps _ _ _ _ _ _ s
  · exact .refl _ s

theorem tileTold_ends (c : FluxCal) (res t px : Nat) (s : State) : TileEnds c s (tileProgress c res t px (tileDone c res s)) :=
  (tileDone_ends c res s).andThen ((tileProgress_keeps _ _ _ _ _).mono (by simp))

theorem TileEnds.store (h : TileEnds c s t) (b : Bool) (ks : List NvmKind) :
    TileEnds c s (if b then nvmPush (some c.seq) ks t else t) := by
  split
  · exact h.andThen ((nvmPush_keeps _ _ _).mono (by simp))
  · exact h

/-- The currents of the pixels that are not mapped, by pixel, and how many pixels they are of. -/
def calMs (s : State) : List (Nat × Nat) := s.drv.calMeas.filter (fun e => !s.dia.map.contains e.1)
def calPx (s : State) : Nat := ((calMs s).foldl (fun l e => setInsert e.1 l) []).length

/-- What the tile's currents give. -/
def calGives (c : FluxCal) (s : State) : Option (Nat × Bool) :=
  electrical (s.nFactOf (c.first + c.done)) (calPx s) ((calMs s).map Prod.snd)

theorem calGives_few (h : calPx s < 256) : calGives c s = none := if_pos h

/-- The table of the next tick with an electrical factor. -/
def felGiven (c : FluxCal) (fac : Nat) (s : State) : State :=
  { s with drv.felNext := some (Mem.write 0x8000 s.felSoon (c.first + c.done) (BitVec.ofNat 16 fac)) }

theorem electricalTile_measured {fac : Nat} {cl : Bool} (h : calGives c s = some (fac, cl)) :
    TileEnds c (felGiven c fac s) (electricalTile c s) := by
  simp only [calGives, calPx, calMs] at h
  simp only [electricalTile, h]
  exact (tileTold_ends c _ _ _ _).store _ _

theorem electricalTile_unmeasured (h : calGives c s = none) : TileEnds c s (electricalTile c s) := by
  simp only [calGives, calPx, calMs] at h
  simp only [electricalTile, h]
  exact (tileTold_ends c _ _ _ _).store _ _

/-- The table of the next tick with a supplied factor. -/
def foptGiven (c : FluxCal) (rq : Req) (s : State) : State :=
  { s with drv.foptNext := some (Mem.write 0x8000 s.foptSoon (c.first + c.done) (BitVec.ofNat 16 (fcFactor rq c.done))) }

theorem suppliedTile_supplies (h : calReq s c = some rq) : TileEnds c (foptGiven c rq s) (suppliedTile c s) := by
  simp only [suppliedTile, h]
  exact (tileDone_ends c _ _).store _ _

/-! ### The end of the command (R102, R103) -/

/-- Ending a command writes the words of its reply, and the count of the replayed ones. -/
theorem finishJob_words (j : Job) (st : Nat) (body : List Byte) (s : State) :
    KeepsRegs (replyRegs ++ [F.HLV_JOURNAL_REPLAYED.addr]) s (finishJob j st body s) := by
  have h1 : KeepsRegs (replyRegs ++ [F.HLV_JOURNAL_REPLAYED.addr]) s (countReplayed (endStatus j st)
      { s with cmd.jobs := s.cmd.jobs.filter (fun k => !(k.seq == j.seq)) }) := by
    unfold countReplayed
    split
    · exact bump_keepsRegs { s with cmd.jobs := s.cmd.jobs.filter (fun k => !(k.seq == j.seq)) } (by decide)
    · exact fun _ _ => rfl
  exact (h1.trans ((finalReply_step _ _ _ _ _ _).words.left _)).trans ((lostReport_step _).words.mono (by decide))

theorem endCal_ends (st : Nat) (hc : s.drv.cal = some c) : (endCal st s).drv = { s.drv with cal := none, calMeas := [] } ∧
    CmdFrame [.drv] [F.HLV_JOURNAL_REPLAYED.addr] s (endCal st s) := by
  have h0 : Keeps [.cmd, .regs, .drv] s { s with drv.cal := none, drv.calMeas := [] } := fun q hq => by
    cases q <;> first | rfl | exact absurd (by simp) hq
  simp only [endCal, hc]
  split
  · next j _ =>
    have hk := finishJob_keeps j st (calBody s c) { s with drv.cal := none, drv.calMeas := [] }
    exact ⟨hk .drv (by decide), h0.trans (hk.mono (by simp)), finishJob_words j st (calBody s c) { s with drv.cal := none, drv.calMeas := [] }⟩
  · exact ⟨rfl, h0, fun _ _ => rfl⟩

/-- The tile that ends, by mode. -/
def calTile (c : FluxCal) (s : State) : State := if c.supplied then suppliedTile c s else electricalTile c s

theorem fluxCalTile_eq (hc : s.drv.cal = some c) (hd : c.done < c.count) : fluxCalTile s =
    if c.done + 1 == c.count && !(calTile c s).ownsOps c.seq then endCal St.ok (calTile c s) else calTile c s := by
  rw [fluxCalTile, hc]
  exact if_neg (Nat.not_le.2 hd)

/-- FLUX_CAL_TILE leaves what its tile leaves, but for a command that ends. -/
theorem fluxCalTile_ends (hc : s.drv.cal = some c) (hd : c.done < c.count) (h : TileEnds c u (calTile c s)) (hu : Keeps [.drv] s u) :
    (fluxCalTile s).drv.felNext = u.drv.felNext ∧ (fluxCalTile s).drv.foptNext = u.drv.foptNext ∧
      (∀ d, (fluxCalTile s).drv.cal = some d → d.done = c.done + 1) ∧ (fluxCalTile s).drv.calMeas = [] ∧
      CmdFrame [.drv, .nvm] [F.HLV_JOURNAL_REPLAYED.addr] s (fluxCalTile s) := by
  have hk : Keeps [.cmd, .drv, .nvm] s (calTile c s) := (hu.mono (by simp)).trans h.keeps
  have hregs : (calTile c s).regs = s.regs := hk .regs (by decide)
  have hf : CmdFrame [.drv, .nvm] [F.HLV_JOURNAL_REPLAYED.addr] s (calTile c s) :=
    ⟨hk.mono (by simp), fun a _ => by simp only [State.reg, hregs]⟩
  obtain ⟨d, hcal, hdone⟩ := h.cal
  rw [fluxCalTile_eq hc hd]
  split
  · obtain ⟨he, hek, hew⟩ := endCal_ends St.ok hcal
    rw [he]
    exact ⟨h.fel, h.fopt, nofun, rfl, hf.trans ⟨hek.mono (by simp), hew⟩⟩
  · refine ⟨h.fel, h.fopt, fun d' hd' => ?_, h.meas, hf⟩
    rw [hcal] at hd'
    cases hd'
    exact hdone

end calibration

/-- Settles O21: a start changes DRV behind the change it logs, and a tile's factor stands before the tile counts as done. -/
theorem fluxCalibrationMakesFactors : Obligations.FluxCalibrationMakesFactors := by
  refine fun rq s => ⟨?_, ?_, fun c hc hd => ⟨?_, ?_⟩⟩
  · intro hr hl hm hc ht hrep hlamp hs hlong
    obtain ⟨ha, hdrv, -, hf⟩ := fluxCal_accepts (body := fluxCalBody rq) (parts := []) hr hlong
      (fluxCalBody_starts hl hm hc ht hrep hlamp hs) (Keeps.refl _ _) (by simp)
    exact ⟨_, rfl, ha, hdrv, hf⟩
  · intro hr hm hl hb hu hc ht hrep hfac hroom hsd hlong
    have hb := fluxCalSuppliedBody_starts (s := startCommand 0x2C (!reqClassN 0x2C rq) rq s) hl hm hb hu hc ht hrep hfac hroom hsd
    rw [curSeq_startCommand] at hb
    obtain ⟨ha, hdrv, hk, hf⟩ := fluxCal_accepts (body := fluxCalSuppliedBody rq) hr hlong hb (logChange_keeps _ _ _ _ _) (by simp)
    obtain ⟨hsaf, hops⟩ := logChange_one rq.stream (some (s.cmd.seq % 65536))
      ⟨0xF010, foptCrc s.foptSoon, foptCrc (suppliedTable rq s.foptSoon)⟩ (startCommand 0x2C (!reqClassN 0x2C rq) rq s)
    obtain ⟨hparam, hold, hnew⟩ := logEntry_fields (startCommand 0x2C (!reqClassN 0x2C rq) rq s) rq.stream (s.saf.logNext + 1)
      ⟨0xF010, foptCrc s.foptSoon, foptCrc (suppliedTable rq s.foptSoon)⟩
    rw [hrep] at hdrv
    exact ⟨_, rfl, ha, hdrv, (hk .saf (by decide)).trans hsaf,
      ⟨_, (congrArg NvmSt.ops (hk .nvm (by decide))).trans hops, hparam, hold, hnew⟩, hf⟩
  · rintro hm ms px rfl rfl
    have hend {u : State} (h : TileEnds c u (electricalTile c s)) (hu : Keeps [.drv] s u) :=
      fluxCalTile_ends hc hd (by rwa [calTile, hm, if_neg (by decide)]) hu
    have hfel (fac : Nat) : Keeps [.drv] s (felGiven c fac s) := fun q hq => by
      cases q <;> first | rfl | exact absurd (by simp) hq
    cases hg : calGives c s with
    | none =>
      obtain ⟨hfel, hfopt, hcal, hmeas, hf⟩ := hend (electricalTile_unmeasured hg) (Keeps.refl _ s)
      refine ⟨_, rfl, fun fac cl he => ?_, fun _ => hfel, hcal, hmeas, hfopt, hf⟩
      exact absurd (hg.symm.trans he) nofun
    | some p =>
      obtain ⟨fac, cl⟩ := p
      obtain ⟨hfel, hfopt, hcal, hmeas, hf⟩ := hend (electricalTile_measured hg) (hfel fac)
      refine ⟨_, rfl, fun fac' cl' he => ?_, fun hpx => ?_, hcal, hmeas, hfopt, hf⟩
      · cases hg.symm.trans he
        exact hfel
      · exact absurd (hg.symm.trans (calGives_few hpx)) nofun
  · intro hm r hr
    have ht : TileEnds c (foptGiven c r s) (calTile c s) := by
      rw [calTile, if_pos hm]
      exact suppliedTile_supplies hr
    obtain ⟨hfel, hfopt, hcal, hmeas, hf⟩ := fluxCalTile_ends hc hd ht fun q hq => by
      cases q <;> first | rfl | exact absurd (by simp) hq
    exact ⟨_, rfl, hfopt, hcal, hmeas, hfel, hf⟩

end Sys2Proof.Machine
end
